-- ==== Sys2Proof/Word.lean ====
section
/-! DEFINITION. The word types of the GD8 (R4, R5): bytes, 16-, 32- and 64-bit words. -/

namespace Sys2Proof

/-- One byte. -/
abbrev Byte := BitVec 8

/-- A 16-bit word. -/
abbrev U16 := BitVec 16

/-- A 32-bit word: registers, counters that wrap, frame numbers. -/
abbrev U32 := BitVec 32

/-- A 64-bit word. -/
abbrev U64 := BitVec 64

end Sys2Proof
end

