-- ==== Sys2Proof/Command.lean ====
section
/-! DEFINITION. Command packets (chapter 3): who sends one, the 107 opcodes of R104, the packet of R93 and the
status codes of R108. -/

namespace Sys2Proof

/-- A party that owns submission queues (R83): an instance (number 0 to 511), the manager or the port B delegate. -/
inductive Issuer where
  | inst (n : Nat)
  | manager
  | delegate
  deriving DecidableEq, Repr

/-- A party that owns objects: an issuer or the secure world (R166, R316, R389). -/
inductive Owner where
  | inst (n : Nat)
  | manager
  | delegate
  | secure
  deriving DecidableEq, Repr

/-- The opcodes of R104, named as the table names them (BEGIN is beginTxn). -/
inductive Op where
  | nop | fence | instanceInfo | viewportList | queueStats | beginTxn | prepare | commit | rollback | txnStatus
  | layerCreate | layerDestroy | layerSource | layerPlace | layerBlend | layerEnable | layerRate
  | layerPalette | layerClick | layerQuery | scalerBind | scalerRelease | scalerCoeff | lutLoad | matrixSet
  | chromaSet | outputMode | outputEnable | outputLead | outputStill | outputPolicy | outputGuard
  | outputStatus | outputAux | outputTrain | harvestSetup | harvestRun | harvestStatus | cvConfig | rakeJob
  | cvRead | monitorSet | monitorRead | monitorCapture | touchPort | touchCalib | touchSieve | touchCancel
  | touchStatus | hapticChannel | hapticPlay | hapticStop | hapticTrigger | hapticBudget | hapticStatus
  | audioStream | audioRoute | audioUnroute | audioBus | audioPort | audioMeter | audioTone | audioSidetone
  | audioStatus | tideRead | tideSource | oxPort | domainSet | lockGroup | eventSend | eventSubscribe
  | streamExport | streamImport | wakeMargin | memMapInfo | slotTable | memRemap | memPagePolicy | memRefresh
  | memDisturb | memSelfRefresh | memStatus | powerDomain | powerIsland | powerState | powerStatus | paceRead
  | sentinelSet | instanceCreate | instanceDestroy | instanceQuiesce | instanceReset | instanceShare
  | instanceWindow | instanceViewport | delegateRange | deviceReset | instanceStatus | diagCounters
  | diagCounterClear | diagFaultLog | diagUnitState | securePromptOpen | securePromptClose | watchRequest
  | watchRelease | secureMessage
  deriving DecidableEq, Repr

/-- Issuer classes of R104: A, O, M, M/D, and the granted instance of EVENT_SEND. -/
inductive IssuerClass where
  | any | owner | manager | managerDelegate | granted
  deriving DecidableEq, Repr

/-- Command kinds of R98. -/
inductive Kind where
  | d | n | j | r | x
  deriving DecidableEq, Repr

/-- A command packet (R93) without its opcode, which the row names. `params` holds packet bytes 24 to 63, byte 24
least significant (R5). -/
structure Packet where
  flags : Byte
  len : Byte
  tag : U32
  handle : U32
  rsvd : U32
  instant : U64
  params : BitVec 320
  deriving DecidableEq, Repr

/-- A queue command: the party whose submission queue held it, whether that queue is the urgent one (queue 1), and
the packet. -/
structure Cmd where
  issuer : Issuer
  urgent : Bool
  pkt : Packet
  deriving DecidableEq, Repr

/-- Status codes of R108. -/
inductive Status where
  | ok | lateApplied | badOpcode | badLength | badParam | outOfRange | notOwner | notPermitted | quiesced
  | instanceBusy | noContext | txnLimit | txnUnknown | txnConflict | txnLate | txnState | scalerShort
  | bandwidth | noResource | classViolation | memFault | memFenced | timeout | stalled | collide
  | secureHeld | internal
  deriving DecidableEq, Repr

end Sys2Proof
end

