-- ==== Sys2Proof/Inputs.lean ====
section
/-! DEFINITION. The operands of rows that are not queue commands: what a register access, a pin, a sink, a touch
controller, a memory device, a link or the secure firmware brings to the step. -/

namespace Sys2Proof

/-- Who makes a register access: the owner of a command page on that page (R83), the manager on BAR0 (R12), the
secure controller on BAR0 addresses (R517), the module on the open or the secure window (R579, R585). -/
inductive Agent where
  | page (i : Issuer)
  | bar0
  | secureCtl
  | supOpen
  | supSecure
  deriving DecidableEq, Repr

/-- What a port F access to the same word does to a port H access (R465, R466). -/
inductive PanMeet where
  | clear | fWrite | fRead
  deriving DecidableEq, Repr

/-- What an access through BAR4 finds at its pan bank: the port F access to the same word, and the requesters that wait there
(R470). -/
structure BankMeet where
  portF : PanMeet
  rivals : List Nat
  deriving DecidableEq, Repr

/-- What a line finds as it starts: the guard planes whose bytes are not complete (R265), and requesters that wait at pan
banks, each with its bank (R470). -/
structure LineMeet where
  late : List Nat
  rivals : List (Nat × Nat)
  deriving DecidableEq, Repr

/-- The address and the width in bytes of a register write (R13). -/
structure RegAccess where
  addr : Nat
  width : Nat
  deriving DecidableEq, Repr

/-- A read that latches, of a unit or a history entry: by the secure controller or by the manager. -/
structure LatchRead where
  secure : Bool
  index : Nat
  deriving DecidableEq, Repr

/-- How EVENT_SEND comes: from a queue, or from the secure controller, whose packet passes no queue (R82). -/
inductive EventCmd where
  | queued (c : Cmd)
  | secure (c : Cmd)
  deriving DecidableEq, Repr

/-- A port in bring-up, and the blocks by which its lanes lie apart (R56). -/
structure PortSkew where
  port : Nat
  skew : Nat
  deriving DecidableEq, Repr

/-- Where the sender of an ANNOUNCE stands in the tree: its hops, and whether it names this device its parent (R63). -/
structure TreePlace where
  hops : Nat
  child : Bool
  deriving DecidableEq, Repr

/-- Secure controller requests on the background march test (R478): pages, spacing in ns. -/
inductive PanTest where
  | start (first last spacing : Nat)
  | pace (spacing : Nat)
  | stop
  deriving DecidableEq, Repr

/-- What the capability read found (R298). `displayId` and `edid` are refresh ranges in Hz, highest first: of the DisplayID
Adaptive-Sync block and of the EDID range limits; `msaIgnored` is the DPCD's MSA_TIMING_PAR_IGNORED. -/
structure SinkCaps where
  k128 : Bool
  audio : Bool
  bpc10 : Bool
  rate : Nat
  lanes : Nat
  displayId : Option (Nat × Nat)
  edid : Option (Nat × Nat)
  msaIgnored : Bool
  deriving DecidableEq, Repr

/-- How an attempt of an AUX transaction ended (R306): the bytes that were acknowledged, and of a read what they held;
DEFER; or NACK. -/
inductive AuxReply where
  | ack (bytes : Nat) (data : List Byte)
  | defer
  | nack
  deriving DecidableEq, Repr

/-- How a training phase ended (R301): phase 0 clock recovery or LANE_EQ, 1 equalisation or CDS. -/
structure PhaseEnd where
  phase : Nat
  pass : Bool
  deriving DecidableEq, Repr

/-- One contact of a report (R342 to R344). -/
structure TouchPoint where
  ident : Nat
  tip : Bool
  x : Nat
  y : Nat
  deriving DecidableEq, Repr

/-- A complete report or scan. `lengthOk`: its length is the descriptor's; `hybrid`: it belongs to a scan spread over
several reports; `last`: it completes the scan; `empty`: the read returned no report. -/
structure TouchReport where
  lengthOk : Bool
  hybrid : Bool
  last : Bool
  empty : Bool
  points : List TouchPoint
  deriving DecidableEq, Repr

/-- Outcome of a bring-up step (R340): done, the logical ranges that step 2 read, or a descriptor rejected. -/
inductive BringUp where
  | done
  | ranges (xMin xMax yMin yMax : Int)
  | rejected
  deriving DecidableEq, Repr

/-- What a channel measures at a half-cycle boundary (R364, R365): supply in mV, back-EMF amplitude in mV, the
measured frequency in 1/16 Hz where a zero crossing was found, and the half cycle's own length in ns. -/
structure HapMeasure where
  hvdd : Nat
  bemf : Nat
  freq : Option Nat
  length : Nat
  deriving DecidableEq, Repr

/-- A DRAM request pending at the start of a slot (R427): requester, device address, and of a layer fetch the output and
the layer. -/
structure DramReq where
  requester : Nat
  output : Nat
  layer : Nat
  addr : Nat
  deriving DecidableEq, Repr

/-- A failing cell found by the march (R481): its word in the page, its bit and the march element. -/
structure MarchFail where
  word : Nat
  bit : Nat
  element : Nat
  deriving DecidableEq, Repr

/-- A LOCK message (R71, R74, R75): a group's definition, or one of QUIET, BUSY, STILL_ENTER and WAKE. -/
inductive LockMsg where
  | define (t0 period leaderNode leaderOutput cutOffset : Nat)
  | quiet (node output : Nat) (asyncMin asyncMax : Nat)
  | busy (node output : Nat)
  | stillEnter (divisor index : Nat)
  | wake (index : Nat)
  | wakeAsk (node output landed : Nat)
  deriving DecidableEq, Repr

/-- A two-phase commit message (R141, R143): ballot, sender, status, and whether it is a result. -/
structure CommitMsg where
  ballot : U32
  node : Nat
  status : Nat
  isResult : Bool
  dest : Nat
  deriving DecidableEq, Repr

/-- PCIe configuration requests the model gives a meaning (R489, R551, R559). -/
inductive CfgReq where
  | read
  | barSize (mib : Nat)
  | vfEnable (on : Bool)
  | msixEnable (i : Issuer) (on : Bool)
  deriving DecidableEq, Repr

/-- Secure controller requests on audio (R417). Parameters laid out as the command of the same name. -/
inductive SecAudio where
  | stream (params : BitVec 320)
  | bus (params : BitVec 320)
  | tone (params : BitVec 320)
  | route (params : BitVec 320)
  | unroute (params : BitVec 320)
  | hold (endpoint : Nat) (on : Bool)
  deriving DecidableEq, Repr

/-- Secure firmware's lifecycle requests (R534). -/
inductive LifeStep where
  | ownerKey (hash : List Byte)
  | field
  deriving DecidableEq, Repr

/-- Why a fetch, a stream or a read of memory fails: an address outside or returned, or a fenced channel. -/
inductive MemFail where
  | fault | fenced
  deriving DecidableEq, Repr

end Sys2Proof
end

