-- ==== Sys2Proof/Syntax.lean ====
section
/-! DEFINITION. The commands of the GD8: one constructor for each row of spec/opcode_table.json. Queue commands carry
the packet a command engine takes (R93); the other rows carry what the outside brings to the step. Rows without operands stand last. -/

namespace Sys2Proof

inductive Instr where
  /-- NOP (R106). -/
  | nop (c : Cmd)
  /-- FENCE (R111). -/
  | fence (c : Cmd)
  /-- INSTANCE_INFO (R513). -/
  | instanceInfo (c : Cmd)
  /-- VIEWPORT_LIST (R513). -/
  | viewportList (c : Cmd)
  /-- QUEUE_STATS (R513). -/
  | queueStats (c : Cmd)
  /-- BEGIN (R117). -/
  | beginTxn (c : Cmd)
  /-- PREPARE (R125). -/
  | prepare (c : Cmd)
  /-- COMMIT (R123). -/
  | commit (c : Cmd)
  /-- ROLLBACK (R123). -/
  | rollback (c : Cmd)
  /-- TXN_STATUS (R122). -/
  | txnStatus (c : Cmd)
  /-- LAYER_CREATE (R145). -/
  | layerCreate (c : Cmd)
  /-- LAYER_DESTROY (R147). -/
  | layerDestroy (c : Cmd)
  /-- LAYER_SOURCE (R150). -/
  | layerSource (c : Cmd)
  /-- LAYER_PLACE (R150). -/
  | layerPlace (c : Cmd)
  /-- LAYER_BLEND (R169). -/
  | layerBlend (c : Cmd)
  /-- LAYER_ENABLE (R150). -/
  | layerEnable (c : Cmd)
  /-- LAYER_RATE (R234). -/
  | layerRate (c : Cmd)
  /-- LAYER_PALETTE (R152). -/
  | layerPalette (c : Cmd)
  /-- LAYER_CLICK (R357). -/
  | layerClick (c : Cmd)
  /-- LAYER_QUERY (R149). -/
  | layerQuery (c : Cmd)
  /-- SCALER_BIND (R186). -/
  | scalerBind (c : Cmd)
  /-- SCALER_RELEASE (R186). -/
  | scalerRelease (c : Cmd)
  /-- SCALER_COEFF (R197). -/
  | scalerCoeff (c : Cmd)
  /-- LUT_LOAD (R209). -/
  | lutLoad (c : Cmd)
  /-- MATRIX_SET (R205). -/
  | matrixSet (c : Cmd)
  /-- CHROMA_SET (R202). -/
  | chromaSet (c : Cmd)
  /-- OUTPUT_MODE (R291). -/
  | outputMode (c : Cmd)
  /-- OUTPUT_ENABLE (R294). -/
  | outputEnable (c : Cmd)
  /-- OUTPUT_LEAD (R179). -/
  | outputLead (c : Cmd)
  /-- OUTPUT_STILL (R184). -/
  | outputStill (c : Cmd)
  /-- OUTPUT_POLICY (R246). -/
  | outputPolicy (c : Cmd)
  /-- OUTPUT_GUARD (R266). -/
  | outputGuard (c : Cmd)
  /-- OUTPUT_STATUS (R307). -/
  | outputStatus (c : Cmd)
  /-- OUTPUT_AUX (R305). -/
  | outputAux (c : Cmd)
  /-- OUTPUT_TRAIN (R307). -/
  | outputTrain (c : Cmd)
  /-- HARVEST_SETUP (R273). -/
  | harvestSetup (c : Cmd)
  /-- HARVEST_RUN (R280). -/
  | harvestRun (c : Cmd)
  /-- HARVEST_STATUS (R282). -/
  | harvestStatus (c : Cmd)
  /-- CV_CONFIG (R316). -/
  | cvConfig (c : Cmd)
  /-- RAKE_JOB (R320). -/
  | rakeJob (c : Cmd)
  /-- CV_READ (R336). -/
  | cvRead (c : Cmd)
  /-- MONITOR_SET (R330). -/
  | monitorSet (c : Cmd)
  /-- MONITOR_READ (R336). -/
  | monitorRead (c : Cmd)
  /-- MONITOR_CAPTURE (R334). -/
  | monitorCapture (c : Cmd)
  /-- TOUCH_PORT (R340). -/
  | touchPort (c : Cmd)
  /-- TOUCH_CALIB (R349). -/
  | touchCalib (c : Cmd)
  /-- TOUCH_SIEVE (R358). -/
  | touchSieve (c : Cmd)
  /-- TOUCH_CANCEL (R358). -/
  | touchCancel (c : Cmd)
  /-- TOUCH_STATUS (R358). -/
  | touchStatus (c : Cmd)
  /-- HAPTIC_CHANNEL (R363). -/
  | hapticChannel (c : Cmd)
  /-- HAPTIC_PLAY (R370). -/
  | hapticPlay (c : Cmd)
  /-- HAPTIC_STOP (R373). -/
  | hapticStop (c : Cmd)
  /-- HAPTIC_TRIGGER (R371). -/
  | hapticTrigger (c : Cmd)
  /-- HAPTIC_BUDGET (R380). -/
  | hapticBudget (c : Cmd)
  /-- HAPTIC_STATUS (R383). -/
  | hapticStatus (c : Cmd)
  /-- AUDIO_STREAM (R410). -/
  | audioStream (c : Cmd)
  /-- AUDIO_ROUTE (R390). -/
  | audioRoute (c : Cmd)
  /-- AUDIO_UNROUTE (R399). -/
  | audioUnroute (c : Cmd)
  /-- AUDIO_BUS (R392). -/
  | audioBus (c : Cmd)
  /-- AUDIO_PORT (R420). -/
  | audioPort (c : Cmd)
  /-- AUDIO_METER (R416). -/
  | audioMeter (c : Cmd)
  /-- AUDIO_TONE (R420). -/
  | audioTone (c : Cmd)
  /-- AUDIO_SIDETONE (R403). -/
  | audioSidetone (c : Cmd)
  /-- AUDIO_STATUS (R420). -/
  | audioStatus (c : Cmd)
  /-- TIDE_READ (R82). -/
  | tideRead (c : Cmd)
  /-- TIDE_SOURCE (R49). -/
  | tideSource (c : Cmd)
  /-- OX_PORT (R58). -/
  | oxPort (c : Cmd)
  /-- DOMAIN_SET (R61). -/
  | domainSet (c : Cmd)
  /-- LOCK_GROUP (R71). -/
  | lockGroup (c : Cmd)
  /-- EVENT_SEND (R76). -/
  | eventSend (c : EventCmd)
  /-- EVENT_SUBSCRIBE (R77). -/
  | eventSubscribe (c : Cmd)
  /-- STREAM_EXPORT (R79). -/
  | streamExport (c : Cmd)
  /-- STREAM_IMPORT (R80). -/
  | streamImport (c : Cmd)
  /-- WAKE_MARGIN (R75). -/
  | wakeMargin (c : Cmd)
  /-- MEM_MAP_INFO (R457). -/
  | memMapInfo (c : Cmd)
  /-- SLOT_TABLE (R432). -/
  | slotTable (c : Cmd)
  /-- MEM_REMAP (R453). -/
  | memRemap (c : Cmd)
  /-- MEM_PAGE_POLICY (R438). -/
  | memPagePolicy (c : Cmd)
  /-- MEM_REFRESH (R439). -/
  | memRefresh (c : Cmd)
  /-- MEM_DISTURB (R445). -/
  | memDisturb (c : Cmd)
  /-- MEM_SELF_REFRESH (R442). -/
  | memSelfRefresh (c : Cmd)
  /-- MEM_STATUS (R457). -/
  | memStatus (c : Cmd)
  /-- POWER_DOMAIN (R539). -/
  | powerDomain (c : Cmd)
  /-- POWER_ISLAND (R542). -/
  | powerIsland (c : Cmd)
  /-- POWER_STATE (R545). -/
  | powerState (c : Cmd)
  /-- POWER_STATUS (R570). -/
  | powerStatus (c : Cmd)
  /-- PACE_READ (R570). -/
  | paceRead (c : Cmd)
  /-- SENTINEL_SET (R565). -/
  | sentinelSet (c : Cmd)
  /-- INSTANCE_CREATE (R498). -/
  | instanceCreate (c : Cmd)
  /-- INSTANCE_DESTROY (R500). -/
  | instanceDestroy (c : Cmd)
  /-- INSTANCE_QUIESCE (R504). -/
  | instanceQuiesce (c : Cmd)
  /-- INSTANCE_RESET (R508). -/
  | instanceReset (c : Cmd)
  /-- INSTANCE_SHARE (R114). -/
  | instanceShare (c : Cmd)
  /-- INSTANCE_WINDOW (R491). -/
  | instanceWindow (c : Cmd)
  /-- INSTANCE_VIEWPORT (R496). -/
  | instanceViewport (c : Cmd)
  /-- DELEGATE_RANGE (R485). -/
  | delegateRange (c : Cmd)
  /-- DEVICE_RESET (R550). -/
  | deviceReset (c : Cmd)
  /-- INSTANCE_STATUS (R513). -/
  | instanceStatus (c : Cmd)
  /-- DIAG_COUNTERS (R107). -/
  | diagCounters (c : Cmd)
  /-- DIAG_COUNTER_CLEAR (R107). -/
  | diagCounterClear (c : Cmd)
  /-- DIAG_FAULT_LOG (R106). -/
  | diagFaultLog (c : Cmd)
  /-- DIAG_UNIT_STATE (R106). -/
  | diagUnitState (c : Cmd)
  /-- SECURE_PROMPT_OPEN (R523). -/
  | securePromptOpen (c : Cmd)
  /-- SECURE_PROMPT_CLOSE (R522). -/
  | securePromptClose (c : Cmd)
  /-- WATCH_REQUEST (R523). -/
  | watchRequest (c : Cmd)
  /-- WATCH_RELEASE (R525). -/
  | watchRelease (c : Cmd)
  /-- SECURE_MESSAGE (R522). -/
  | secureMessage (c : Cmd)
  /-- SECURE_CLASS_CHANGE (R525). -/
  | secureClassChange (layer : Nat) (setW : Bool)
  /-- SECURE_HAPTIC_PLAY (R370). -/
  | secureHapticPlay (channel effect scale duration : Nat)
  /-- AUDIO_SEIZE (R417). -/
  | audioSeize (sink : Nat) (seize : Bool)
  /-- PAN_TEST_CONTROL (R478). -/
  | panTestControl (a : PanTest)
  /-- REGISTER_WRITE (R13, R15). -/
  | registerWrite (a : Agent) (place : RegAccess) (value : U32)
  /-- TIDE_LO_READ (R43). -/
  | tideLoRead (i : Issuer)
  /-- RESULT_LO_READ (R319). -/
  | resultLoRead (unit : LatchRead)
  /-- VALUE_LO_READ (R43). -/
  | valueLoRead (o m : Nat) (entry : LatchRead)
  /-- HW_POS_LO_READ (R419). -/
  | hwPosLoRead (capture : Bool) (stream : Nat)
  /-- QUEUE_ENABLE (R85). -/
  | queueEnable (i : Issuer) (q : Nat) (value : U32)
  /-- QUEUE_DISABLE (R86). -/
  | queueDisable (i : Issuer) (q : Nat)
  /-- SQ_TAIL_DOORBELL (R89). -/
  | sqTailDoorbell (i : Issuer) (q : Nat) (value : U32)
  /-- RQ_HEAD_DOORBELL (R89). -/
  | rqHeadDoorbell (i : Issuer) (q : Nat) (value : U32)
  /-- EQ_HEAD_DOORBELL (R89). -/
  | eqHeadDoorbell (i : Issuer) (value : U32)
  /-- GUARD_COMMIT_WRITE (R263). -/
  | guardCommitWrite (o : Nat)
  /-- GUARD_REGION_WRITE (R261). -/
  | guardRegionWrite (size : Bool) (value : U32)
  /-- SEC_PARTITION_WRITE (R518). -/
  | secPartitionWrite (value : U32)
  /-- S2N_DOORBELL_WRITE (R520). -/
  | s2nDoorbellWrite (value : U32) (stores : List (Nat × List Byte))
  /-- SEQ_DEPTH_WRITE (R537). -/
  | seqDepthWrite (value : U32)
  /-- SEQ_HEAD_WRITE (R537). -/
  | seqHeadWrite (value : U32)
  /-- CV_COUNT_WRITE (R527). -/
  | cvCountWrite (value : U32) (stores : List (Nat × List Byte))
  /-- WD_KICK (R532). -/
  | wdKick (key : Byte)
  /-- WD_RUN_WRITE (R532). -/
  | wdRunWrite (value : U32)
  /-- HOLD_WRITE (R529). -/
  | holdWrite (islands : Bool) (value : U32)
  /-- BOOT_GO_WRITE (R555). -/
  | bootGoWrite (value : U32)
  /-- SUP_READ (R576). -/
  | supRead (cmd addr : Byte) (words : Nat)
  /-- SUP_WAKE_WRITE (R579). -/
  | supWakeWrite (value : U32)
  /-- IN_SEQ_WRITE (R586). -/
  | inSeqWrite (value : U32)
  /-- GATE_RESPONSE (R535). -/
  | gateResponse (scope : U32) (r sig : List Byte)
  /-- GATE_PASSWORD (R535). -/
  | gatePassword (password : List Byte)
  /-- HOST_WINDOW_ACCESS (R493). -/
  | hostWindowAccess (i : Issuer) (pan : Bool) (off len : Nat) (write : Option (List Byte)) (meet : BankMeet)
  /-- RESET_N_RELEASE (R555). -/
  | resetNRelease (straps : Nat) (slot0 slot1 : List Byte)
  /-- PERST_ASSERT (R551). -/
  | perstAssert (port : Nat)
  /-- VF_FLR (R510). -/
  | vfFlr (n : Nat)
  /-- PF_FLR (R511). -/
  | pfFlr (portB : Bool)
  /-- PIN_GLITCH_DISCARD (R587). -/
  | pinGlitchDiscard (group : Nat)
  /-- TIDE_PPS_EDGE (R48). -/
  | tidePpsEdge (ago : Nat)
  /-- LAUNCH_INSTANT_REACHED (R53). -/
  | launchInstantReached (ticket : Nat)
  /-- ENGINE_TAKE_ENTRY (R109). -/
  | engineTakeEntry (i : Issuer) (urgent : Bool)
  /-- QUEUE_DRAIN_END (R86). -/
  | queueDrainEnd (i : Issuer) (q : Nat)
  /-- IRQ_MOD_INTERVAL_END (R103). -/
  | irqModIntervalEnd (i : Issuer) (vector : Nat)
  /-- OUTPUT_CUT (R131). -/
  | outputCut (o : Nat)
  /-- OUTPUT_FRAME_START (R70). -/
  | outputFrameStart (o : Nat)
  /-- GUARD_LATCH (R263). -/
  | guardLatch (o : Nat)
  /-- SCANOUT_LINE_START (R256). -/
  | scanoutLineStart (o : Nat) (meet : LineMeet)
  /-- MONITOR_RESULT_COMPLETE (R333). -/
  | monitorResultComplete (o m : Nat)
  /-- BAND_READY (R175). -/
  | bandReady (o band : Nat)
  /-- BAND_FETCH_START (R217). -/
  | bandFetchStart (o : Nat) (frame : U32) (band : Nat)
  /-- PIPE_TAKES_BAND (R174). -/
  | pipeTakesBand (pipe : Nat)
  /-- BAND_DEADLINE (R224). -/
  | bandDeadline (o : Nat) (frame : U32) (band : Nat) (complete : List Nat)
  /-- LAYER_FETCH_FAULT (R226): of the read of run `run` of the layer's bytes in band `band`. -/
  | layerFetchFault (o : Nat) (frame : U32) (layer band run : Nat)
  /-- BAND_COMPLETE (R228). -/
  | bandComplete (pipe : Nat)
  /-- BAND_WRITE_CUTOFF (R228). -/
  | bandWriteCutoff (o : Nat) (frame : U32) (band : Nat)
  /-- CONFIG_RETIRE (R178). -/
  | configRetire (o : Nat)
  /-- PARTITION_ZEROED (R253). -/
  | partitionZeroed (o : Nat)
  /-- DP_PLL_LOCKED (R294). -/
  | dpPllLocked (o : Nat)
  /-- HPD_RISE (R298). -/
  | hpdRise (o : Nat)
  /-- HPD_LOW_END (R297). -/
  | hpdLowEnd (o : Nat) (lowNs : Nat) (dpcd : List Byte) (loss : Bool) (vector : Byte)
  /-- HPD_UNPLUG (R297). -/
  | hpdUnplug (o : Nat)
  /-- CAPABILITY_READ_DONE (R298). -/
  | capabilityReadDone (o : Nat) (caps : Option SinkCaps)
  /-- AUX_TRANSACTION_END (R306). -/
  | auxTransactionEnd (o : Nat) (reply : AuxReply)
  /-- AUX_REPLY_TIMEOUT (R306). -/
  | auxReplyTimeout (o : Nat)
  /-- TRAIN_PHASE_END (R301). -/
  | trainPhaseEnd (o : Nat) (e : PhaseEnd)
  /-- TRAIN_SEQUENCE_TIMEOUT (R302). -/
  | trainSequenceTimeout (o : Nat)
  /-- DP_PLL_RELOCK (R309). -/
  | dpPllRelock (o : Nat)
  /-- TP_IRQ_ASSERT (R346). -/
  | tpIrqAssert (p : Nat)
  /-- TOUCH_REPORT_ARRIVAL (R350). -/
  | touchReportArrival (p : Nat) (report : TouchReport)
  /-- TOUCH_TRANSFER_TIMEOUT (R346). -/
  | touchTransferTimeout (p : Nat)
  /-- TOUCH_BRINGUP_STEP_DONE (R340). -/
  | touchBringupStepDone (p : Nat) (res : BringUp)
  /-- TOUCH_RESET_TIMEOUT (R340). -/
  | touchResetTimeout (p : Nat)
  /-- TOUCH_STUCK_TIMEOUT (R347). -/
  | touchStuckTimeout (p slot : Nat)
  /-- HAP_TRIG_EDGE (R371). -/
  | hapTrigEdge (pin : Nat) (rising : Bool)
  /-- HAPTIC_EFFECT_START (R370). -/
  | hapticEffectStart (ch : Nat) (hvdd : Nat)
  /-- HAPTIC_HALF_CYCLE (R364). -/
  | hapticHalfCycle (ch : Nat) (m : HapMeasure)
  /-- HAPTIC_SEGMENT_END (R368). -/
  | hapticSegmentEnd (ch : Nat)
  /-- HAPTIC_OVERCURRENT (R375). -/
  | hapticOvercurrent (ch : Nat)
  /-- HAPTIC_HARD_CURRENT (R379). -/
  | hapticHardCurrent (ch : Nat)
  /-- HVDD_LOW (R379). -/
  | hvddLow (k : Nat)
  /-- HAPTIC_SUPPLY_RECOVER (R379). -/
  | hapticSupplyRecover (k : Option Nat)
  /-- HAPTIC_LIMIT (R378). -/
  | hapticLimit (ch : Nat) (duty : Bool)
  /-- HAPTIC_REST_END (R378). -/
  | hapticRestEnd (ch : Nat)
  /-- AUDIO_BLOCK_BOUNDARY (R386). -/
  | audioBlockBoundary (inputs : List (Nat × List U32))
  /-- AUDIO_STREAM_FAULT (R409). -/
  | audioStreamFault (capture : Bool) (stream : Nat) (why : MemFail)
  /-- SILENCE_HOLD_EXPIRY (R394). -/
  | silenceHoldExpiry (endpoint : Nat)
  /-- TDM_PORT_OFF (R396). -/
  | tdmPortOff (p : Nat)
  /-- DP_AUDIO_OFF (R397). -/
  | dpAudioOff (o : Nat)
  /-- TDM_CLOCK_LOST (R413). -/
  | tdmClockLost (p : Nat)
  /-- TDM_CLOCK_RESTORED (R413). -/
  | tdmClockRestored (p : Nat)
  /-- DRAM_SLOT_ARBITRATION (R427). -/
  | dramSlotArbitration (reqs : List DramReq)
  /-- REFRESH_DUE (R439). -/
  | refreshDue (ch rank : Nat) (busy : Bool)
  /-- MR4_READ (R439). -/
  | mr4Read (codes : List Nat)
  /-- DRAM_TRACKING_DUE (R448). -/
  | dramTrackingDue (ch : Nat) (temp : Int)
  /-- TRACKING_PASS_END (R448). -/
  | trackingPassEnd (ch : Nat) (moved pass : Bool)
  /-- LINK_ECC_FAIL (R449). -/
  | linkEccFail (ch : Nat)
  /-- RETRAIN_END (R449). -/
  | retrainEnd (ch : Nat) (pass : Bool)
  /-- SELF_REFRESH_IDLE (R442). -/
  | selfRefreshIdle (ch : Nat)
  /-- SELF_REFRESH_EXIT (R443). -/
  | selfRefreshExit (ch : Nat)
  /-- DRAM_TRAINING_DONE (R425). -/
  | dramTrainingDone (trained : Nat)
  /-- MEM_REMAPPED (R453). -/
  | memRemapped (trained : Nat) (scrubUs : Nat)
  /-- WINDOW_UNMAP_DRAINED (R492). -/
  | windowUnmapDrained (n : Nat)
  /-- PAN_BORROW_RELEASE (R479). -/
  | panBorrowRelease (fails : List MarchFail)
  /-- RAKE_JOB_END (R324). -/
  | rakeJobEnd (unit pieces : Nat)
  /-- QUIESCE_COMPLETE (R504). -/
  | quiesceComplete (n : Nat)
  /-- RESET_COMPLETE (R508). -/
  | resetComplete (n : Nat)
  /-- SECURE_ANSWER_TIMEOUT (R524). -/
  | secureAnswerTimeout (mail : U32)
  /-- WATCHDOG_EXPIRY (R533). -/
  | watchdogExpiry (slept : Nat)
  /-- WAKE_EVENT (R546). -/
  | wakeEvent (cause : Nat)
  /-- DOMAIN_SWITCHED_ON (R539). -/
  | domainSwitchedOn (island : Bool) (idx : Nat)
  /-- THERMAL_SAMPLE (R568). -/
  | thermalSample (temps : List Int)
  /-- PACE_SAMPLE (R561). -/
  | paceSample (rate : Nat)
  /-- AVS_STEP (R562). -/
  | avsStep (clean : Bool)
  /-- AVS_RETRY (R564). -/
  | avsRetry (clean : Bool)
  /-- STALL_SENTINEL_EXPIRY (R27). -/
  | stallSentinelExpiry (unit handshake : Nat)
  /-- UNIT_RECOVERED (R566). -/
  | unitRecovered (unit : Nat)
  /-- OX_SIGNAL_DETECT (R58). -/
  | oxSignalDetect (p : Nat)
  /-- OX_BRINGUP_STAGE_DONE (R58). -/
  | oxBringupStageDone (p : PortSkew) (node domain priority : Nat)
  /-- OX_BRINGUP_LIMIT (R58). -/
  | oxBringupLimit (p : Nat)
  /-- OX_LINK_DOWN (R58). -/
  | oxLinkDown (p lost : Nat)
  /-- OX_DELAY_MEASURE (R60). -/
  | oxDelayMeasure (p : Nat) (t1 t2 t3 t4 : Int)
  /-- OX_SYNC_RECEIVED (R47). `ahead`: this device's time at its arrival less the time it carries, in 2^-16 ns. -/
  | oxSyncReceived (p node priority hops : Nat) (ahead : Int)
  /-- OX_ANNOUNCE_RECEIVED (R62). -/
  | oxAnnounceReceived (p node priority : Nat) (place : TreePlace)
  /-- OX_EVENT_RECEIVED (R77). Bit 14 of `dest` is the broadcast flag. -/
  | oxEventReceived (p sender dest : Nat) (stamp : U64) (channel : Nat) (payload : List Byte)
  /-- OX_COMMIT_RECEIVED (R144). -/
  | oxCommitReceived (p : Nat) (m : CommitMsg)
  /-- OX_LOCK_RECEIVED (R74). -/
  | oxLockReceived (p group : Nat) (m : LockMsg)
  /-- OX_STREAM_FRAME_RECEIVED (R80). -/
  | oxStreamFrameReceived (p slot w h : Nat) (frame : U32) (bytes : List Byte)
  /-- STREAM_LOST (R81). -/
  | streamLost (imported : Bool) (slot : Nat)
  /-- PLL_RELOCK_TIMEOUT (R309). -/
  | pllRelockTimeout (o : Nat)
  /-- OX_DOWN_HOLD_END (R58). -/
  | oxDownHoldEnd (p : Nat)
  /-- PERST_RELEASE (R559). -/
  | perstRelease (port : Nat)
  /-- PCIE_CONFIG_REQUEST (R489). -/
  | pcieConfigRequest (port : Nat) (req : CfgReq)
  /-- N2S_HEAD_WRITE (R521). -/
  | n2sHeadWrite (value : U64)
  /-- SECURE_MONITOR_SET (R330). -/
  | secureMonitorSet (params : BitVec 320)
  /-- SECURE_CV_CONFIG (R316). -/
  | secureCvConfig (params : BitVec 320)
  /-- SECURE_AUDIO_CONTROL (R417). -/
  | secureAudioControl (a : SecAudio)
  /-- SECURE_METER_ASSIGN (R416). -/
  | secureMeterAssign (params : BitVec 320)
  /-- LIFECYCLE_ADVANCE (R534). -/
  | lifecycleAdvance (a : LifeStep)
  /-- ANTI_ROLLBACK_ADVANCE (R556). -/
  | antiRollbackAdvance
  /-- TIDE_NOW_LO_READ (R43). -/
  | tideNowLoRead
  /-- SAFE_HOLD_SET (R581). -/
  | safeHoldSet
  /-- SAFE_HOLD_CLEAR (R581). -/
  | safeHoldClear
  /-- SUP_CS_TIMEOUT (R578). -/
  | supCsTimeout
  /-- GATE_CHALLENGE (R535). -/
  | gateChallenge
  /-- PAN_BUSY_RETRY (R467). -/
  | panBusyRetry
  /-- POWER_ON_RESET (R549). -/
  | powerOnReset
  /-- RESET_HOLD_END (R601). -/
  | resetHoldEnd
  /-- RESET_N_ASSERT (R550). -/
  | resetNAssert
  /-- SUPPLY_UNDERVOLTAGE (R601). -/
  | supplyUndervoltage
  /-- VAON_DROP (R600). -/
  | vaonDrop
  /-- TIDE_REF_FAIL (R44). -/
  | tideRefFail
  /-- TIDE_REF_RECOVER (R45). -/
  | tideRefRecover
  /-- TIDE_PPS_OUT_SECOND (R51). -/
  | tidePpsOutSecond
  /-- TIDE_PPS_OUT_END (R51). -/
  | tidePpsOutEnd
  /-- SCHED_ROUND_START (R113). -/
  | schedRoundStart
  /-- FEEDBACK_OVERTEMP (R379). -/
  | feedbackOvertemp
  /-- WHEEL_WRAP (R432). -/
  | wheelWrap
  /-- DISTURB_WINDOW_END (R447). -/
  | disturbWindowEnd
  /-- PAN_BORROW_START (R479). -/
  | panBorrowStart
  /-- PAN_BORROW_ABANDON (R480). -/
  | panBorrowAbandon
  /-- CANVAS_LIST_END (R527). -/
  | canvasListEnd
  /-- POWER_STATE_SWITCH (R545). -/
  | powerStateSwitch
  /-- THERMAL_SHUTDOWN (R568). -/
  | thermalShutdown
  /-- THERMAL_RESTART (R568). -/
  | thermalRestart
  /-- OX_SYNC_SEND (R56). -/
  | oxSyncSend
  /-- OX_ANNOUNCE_SEND (R62). -/
  | oxAnnounceSend
  /-- MASTER_LOST (R67). -/
  | masterLost
  /-- OX_ELECTION_END (R67). -/
  | oxElectionEnd
  deriving DecidableEq, Repr

end Sys2Proof
end

