-- ==== Sys2Proof/Decode.lean ====
section
/-! DEFINITION. The host's decoding interface. The opcode table gives no row any bits: the GD8's commands are register
accesses, packets, pins and events, so no word spells one. -/

namespace Sys2Proof

/-- The command a word spells by the table's bits: none, the table gives no row bits. -/
def decodeTableWord (_nbits _w : Nat) : Option Instr := none

end Sys2Proof
end

