-- ==== Sys2Proof/Machine/Bits.lean ====
section
/-! DEFINITION. Bit fields, sparse tables and integer helpers that every unit of the machine shares. -/

namespace Sys2Proof.Machine

/-- A sparse table: keys strictly rising, no entry equal to the table's default value. -/
abbrev Tab (α : Type) := List (Nat × α)

/-- The entry under a key, or the default value. -/
def tget {α : Type} (d : α) (t : Tab α) (k : Nat) : α :=
  match t with
  | [] => d
  | (k', v) :: r => if k' = k then v else tget d r k

/-- Sets the entry under a key, keeping the canonical form. -/
def tput {α : Type} [DecidableEq α] (d : α) (t : Tab α) (k : Nat) (v : α) : Tab α :=
  match t with
  | [] => if v = d then [] else [(k, v)]
  | (k', v') :: r =>
    if k' < k then (k', v') :: tput d r k v
    else if k' = k then (if v = d then r else (k, v) :: r)
    else (if v = d then (k', v') :: r else (k, v) :: (k', v') :: r)

/-- The keys of a sparse table. -/
def tkeys {α : Type} (t : Tab α) : List Nat := t.map (·.1)

/-- Keys strictly rise. -/
def keysRise : List Nat → Bool
  | [] => true
  | [_] => true
  | a :: b :: r => decide (a < b) && keysRise (b :: r)

/-- The low `n` bytes of a number, least significant first (R5). -/
def leBytes : Nat → Nat → List Byte
  | 0, _ => []
  | n + 1, v => BitVec.ofNat 8 v :: leBytes n (v / 256)

/-- The number that bytes spell, least significant first (R5). -/
def leNat : List Byte → Nat
  | [] => 0
  | b :: r => b.toNat + 256 * leNat r

/-- Packs (width, value) fields into one number, the first field most significant. -/
def packFields (fs : List (Nat × Nat)) : Nat :=
  fs.foldl (fun acc f => acc * 2 ^ f.1 + f.2 % 2 ^ f.1) 0

/-- Packs fields whose widths sum to 32 into a register word. -/
def word32 (fs : List (Nat × Nat)) : U32 := BitVec.ofNat 32 (packFields fs)

/-- Bits [hi:lo] of a number. -/
def bitsOf (v hi lo : Nat) : Nat := (v >>> lo) % 2 ^ (hi - lo + 1)

/-- 1 for true, 0 for false. -/
def b2n (b : Bool) : Nat := if b then 1 else 0

/-- The two's-complement value of the low `w` bits. -/
def signed (w v : Nat) : Int :=
  let m := v % 2 ^ w
  if m < 2 ^ (w - 1) then (m : Int) else (m : Int) - (2 ^ w : Int)

/-- The low `w` bits of an integer in two's complement. -/
def unsigned (w : Nat) (v : Int) : Nat := (v % (2 ^ w : Int)).toNat

/-- An integer limited to lo..hi. -/
def clampInt (lo hi v : Int) : Int := max lo (min hi v)

/-- Quotient rounded up. -/
def ceilDiv (a b : Nat) : Nat := (a + b - 1) / b

/-- Quotient rounded to nearest, halves up. -/
def roundDiv (a b : Nat) : Nat := (2 * a + b) / (2 * b)

/-- Integer quotient rounded to nearest, halves up, for a positive divisor. -/
def roundDivInt (a : Int) (b : Nat) : Int := (2 * a + b) / (2 * (b : Int))

/-- Applies `f` to the entry at index `i` of a list; beyond its end nothing changes. -/
def modifyAt {α : Type} (f : α → α) : Nat → List α → List α
  | _, [] => []
  | 0, a :: r => f a :: r
  | i + 1, a :: r => a :: modifyAt f i r

/-- The entry at index `i`, or a default. -/
def nthD {α : Type} (d : α) : Nat → List α → α
  | _, [] => d
  | 0, a :: _ => a
  | i + 1, _ :: r => nthD d i r

/-- The numbers a, a+1, …, a+n−1. -/
def rangeFrom (a n : Nat) : List Nat := (List.range n).map (a + ·)

/-- Puts an element before the first that it precedes. -/
def insertBy {α : Type} (lt : α → α → Bool) (a : α) : List α → List α
  | [] => [a]
  | b :: r => if lt a b then a :: b :: r else b :: insertBy lt a r

/-- A list in ascending order. -/
def sortBy {α : Type} (lt : α → α → Bool) (l : List α) : List α := l.foldl (fun acc a => insertBy lt a acc) []

/-- The set bits of a mask below `n`, lowest first. -/
def bitsSet (n m : Nat) : List Nat := (List.range n).filter m.testBit

/-- The mask with the listed bits set. -/
def maskOf (l : List Nat) : Nat := l.foldl (fun m i => m ||| 2 ^ i) 0

/-- Sets or clears one bit of a mask. -/
def setBit (m i : Nat) (b : Bool) : Nat := if b then m ||| 2 ^ i else if m.testBit i then m - 2 ^ i else m

end Sys2Proof.Machine
end

