-- ==== Sys2Proof/Machine/Float.lean ====
section
/-! DEFINITION. binary16 and binary32 values as exact rationals, with round-to-nearest-even (R169, R203, R387). The
sign of a zero is not kept: no result of the GD8 depends on it. -/

namespace Sys2Proof.Machine

/-- A floating-point value. -/
inductive Fl where
  | nan
  | inf (neg : Bool)
  | fin (q : Rat)
  deriving DecidableEq, Repr

/-- Nearest integer of a rational, ties to even. -/
def rne (q : Rat) : Int :=
  let f := q.floor
  let r := q - (f : Rat)
  if r < 1 / 2 then f else if 1 / 2 < r then f + 1 else if f % 2 = 0 then f else f + 1

/-- Nearest integer of a rational, halves up. -/
def roundUp (q : Rat) : Int := (q + 1 / 2).floor

/-- 2 to an integer power. -/
def pow2 (e : Int) : Rat := if 0 ≤ e then ((2 ^ e.toNat : Nat) : Rat) else 1 / ((2 ^ (-e).toNat : Nat) : Rat)

/-- Exponent of the leading bit of a positive rational. -/
def leadExp (q : Rat) : Int :=
  let e : Int := (Nat.log2 q.num.natAbs : Int) - (Nat.log2 q.den : Int)
  if q < pow2 e then e - 1 else e

/-- Rounds to a format of `p` significant bits whose least quantum is 2^emin. -/
def roundTo (p : Nat) (emin : Int) (q : Rat) : Rat :=
  if q = 0 then 0 else
  let e := max (leadExp |q| - ((p : Int) - 1)) emin
  (rne (q / pow2 e) : Rat) * pow2 e

/-- binary16 rounding with saturation at ±65,504 (R169). -/
def r16 (q : Rat) : Rat := max (-65504) (min 65504 (roundTo 11 (-24) q))
/-- binary32 rounding. -/
def r32 (q : Rat) : Rat := roundTo 24 (-149) q

/-- Saturated binary16 value (R169). -/
def sat16 : Fl → Fl
  | .nan => .nan
  | .inf n => .fin (if n then -65504 else 65504)
  | .fin q => .fin (r16 q)

/-- A finite value rounded to binary16; an infinity and NaN pass unchanged (R168). -/
def round16 : Fl → Fl
  | .fin q => .fin (r16 q)
  | x => x

def flNeg : Fl → Bool
  | .inf n => n
  | .fin q => decide (q < 0)
  | .nan => false

/-- Product, rounded once to binary16. -/
def mul16 : Fl → Fl → Fl
  | .fin a, .fin b => .fin (r16 (a * b))
  | .nan, _ => .nan
  | _, .nan => .nan
  | .inf n, .fin b => if b = 0 then .nan else sat16 (.inf (n != decide (b < 0)))
  | .fin a, .inf n => if a = 0 then .nan else sat16 (.inf (n != decide (a < 0)))
  | .inf n, .inf m => sat16 (.inf (n != m))

/-- Sum, rounded once to binary16. -/
def add16 : Fl → Fl → Fl
  | .fin a, .fin b => .fin (r16 (a + b))
  | .nan, _ => .nan
  | _, .nan => .nan
  | .inf n, .inf m => if n = m then sat16 (.inf n) else .nan
  | .inf n, .fin _ => sat16 (.inf n)
  | .fin _, .inf n => sat16 (.inf n)

def fneg : Fl → Fl
  | .nan => .nan
  | .inf n => .inf !n
  | .fin q => .fin (-q)

/-- A value limited to 0.0 to 1.0; NaN stays. -/
def clamp01 : Fl → Fl
  | .nan => .nan
  | .inf n => .fin (if n then 0 else 1)
  | .fin q => .fin (max 0 (min 1 q))

/-- NaN replaced by 0.0 (step 7 of R168). -/
def denan : Fl → Fl
  | .nan => .fin 0
  | x => x

def flRat : Fl → Rat
  | .fin q => q
  | .inf n => if n then -65504 else 65504
  | .nan => 0

/-- The value of binary16 bits. -/
def ofBits16 (v : Nat) : Fl :=
  let e := v / 1024 % 32
  let m := v % 1024
  let s : Rat := if v / 32768 % 2 = 1 then -1 else 1
  if e = 31 then (if m = 0 then .inf (v / 32768 % 2 == 1) else .nan)
  else if e = 0 then .fin (s * m * pow2 (-24))
  else .fin (s * (1024 + m) * pow2 ((e : Int) - 25))

/-- The value of binary32 bits; NaN as 0 is left to the caller. -/
def ofBits32 (v : Nat) : Fl :=
  let e := v / 8388608 % 256
  let m := v % 8388608
  let s : Rat := if v / 2147483648 % 2 = 1 then -1 else 1
  if e = 255 then (if m = 0 then .inf (v / 2147483648 % 2 == 1) else .nan)
  else if e = 0 then .fin (s * m * pow2 (-149))
  else .fin (s * (8388608 + m) * pow2 ((e : Int) - 150))

/-- The binary32 bits of a rational, rounded; overflow gives an infinity. -/
def toBits32 (q : Rat) : Nat :=
  let s := if q < 0 then 2147483648 else 0
  let a := roundTo 24 (-149) |q|
  if a = 0 then s
  else if pow2 128 ≤ a then s + 0x7F800000
  else
    let e := max (leadExp a) (-126)
    let m := (a / pow2 (e - 23)).floor.toNat
    if m < 8388608 then s + m else s + (e + 127).toNat * 8388608 + (m - 8388608)

/-- A positive real on the binary32 grid: itself where it lies there, else its neighbour below or above. -/
def grid32 (up : Bool) (q : Rat) : Rat :=
  let u := pow2 (leadExp q - 23)
  let n := (q / u).floor
  if (n : Rat) * u = q then q else ((n + b2n up : Int) : Rat) * u

/-! ## Sines (R195, R399): within 10^-40, far closer than any code or binary32 boundary comes to a value in use -/

/-- π to 50 digits. -/
def piRat : Rat := 314159265358979323846264338327950288419716939937510 / 100000000000000000000000000000000000000000000000000

/-- Sine of π q, by the series at a point folded into −1/2..1/2. -/
def sinPi (q : Rat) : Rat :=
  let r := q - 2 * (roundUp (q / 2) : Rat)
  let t := (if 1 / 2 < r then 1 - r else if r < -1 / 2 then -1 - r else r) * piRat
  t * (List.range 20).foldr (fun k acc => 1 - t * t / (((2 * k + 2) * (2 * k + 3) : Nat) : Rat) * acc) 1

/-- sin(π x)/(π x). -/
def sinc (x : Rat) : Rat := if x = 0 then 1 else sinPi x / (piRat * x)

/-! ## sRGB (R208), decided exactly: x^(12/5) and x^(5/12) compared through integer powers -/

/-- Least n with `p n`, for a predicate that rises, searched over `k` halvings of lo..hi. -/
def leastNat (p : Nat → Bool) : Nat → Nat → Nat → Nat
  | 0, lo, _ => lo
  | k + 1, lo, hi => if hi ≤ lo then lo else
    let mid := (lo + hi) / 2
    if p mid then leastNat p k lo mid else leastNat p k (mid + 1) hi

/-- Whether m · 2^k ≤ 10^(g/5120), the factor of g/256 dB, decided exactly. -/
def gainReaches (g : Int) (m : Nat) (k : Int) : Bool :=
  decide (m ^ 5120 * 2 ^ (5120 * k).toNat * 10 ^ (-g).toNat ≤ 10 ^ g.toNat * 2 ^ (-(5120 * k)).toNat)

/-- The factor of g/256 dB on the binary32 grid, for gains of −96 to +24 dB (R390): exact at 0 and +20 dB, else one of
its two neighbours. -/
def gain32 (up : Bool) (g : Int) : Rat :=
  if g = 0 then 1 else if g = 5120 then 10 else
  -- least n with the factor below 2^(n − 19)
  let e : Int := (leastNat (fun n => !gainReaches g 1 ((n : Int) - 19)) 5 0 31 : Nat) - 20
  let m := leastNat (fun m => !gainReaches g m (e - 23)) 24 8388608 16777216
  ((m - 1 + b2n up : Nat) : Rat) * pow2 (e - 23)

/-- A squared magnitude in 1/128 dB (R416), from −160 dB up to the largest code: exact where it is whole, else a
neighbour. -/
def level128 (up : Bool) (sq : Rat) : Int :=
  let atLeast := fun (n : Int) =>
    decide (sq.den ^ 1280 * 10 ^ n.toNat ≤ sq.num.natAbs ^ 1280 * 10 ^ (-n).toNat)
  if 10 ^ 26 ≤ sq then 32767 else if sq * 10 ^ 16 < 1 then -20480 else
  let n : Int := (leastNat (fun k => !atLeast ((k : Int) - 20479)) 16 0 53247 : Nat) - 20480
  let whole := decide (sq.den ^ 1280 * 10 ^ n.toNat = sq.num.natAbs ^ 1280 * 10 ^ (-n).toNat)
  max (-20480) (min 32767 (if whole then n else n + b2n up))

/-- binary16 magnitudes by bit pattern. -/
def mag16 (n : Nat) : Rat := flRat (ofBits16 n)

/-- sRGB EOTF of v, rounded to binary16 (ties to even fall on no LUT entry). -/
def srgbEotf16 (v : Rat) : Rat :=
  if v ≤ 4045 / 100000 then r16 (v * 100 / 1292)
  else
    let b := (v + 55 / 1000) * 1000 / 1055
    -- b^(12/5) < midpoint above n  ⟺  b^12 < mid^5
    mag16 (leastNat (fun n => decide (b ^ 12 < ((mag16 n + mag16 (n + 1)) / 2) ^ 5)) 16 0 15360)

/-- round(1,023 × inverse sRGB EOTF of l), halves up. -/
def srgbCode (l : Rat) : Nat :=
  if l ≤ 31308 / 10000000 then (roundUp (1023 * (l * 1292 / 100))).toNat
  else
    -- code > n  ⟺  1.055 l^(5/12) − 0.055 ≥ (n + 1/2)/1023
    leastNat (fun n => decide (l ^ 5 < (((n : Rat) + 1 / 2) / 1023 * 1000 / 1055 + 55 / 1055) ^ 12)) 11 0 1023

end Sys2Proof.Machine
end

