-- ==== Sys2Proof/Config.lean ====
section
/-! DEFINITION. What the spec leaves open: free values (no body, so that nothing can evaluate them), and the functions
the spec names without defining (SHA-384, ECDSA P-384). -/

namespace Sys2Proof.Config

/-- Handles and other opaque numbers the GD8 hands out (R117, R56 of the mailbox): free value. -/
opaque freeHandle : Nat → U32

/-- A byte the spec calls undefined, random or not preserved: free value. -/
opaque freeByte : Nat → Byte

/-- A number the spec leaves open: free value. -/
opaque freeNat : Nat → Nat

/-- Whether the factor of a gain of g/256 dB takes its upper binary32 neighbour (R390): free value, the spec gives the
decibel and no rounding. -/
opaque gainUp : Int → Bool

/-- Whether a level in 1/128 dB takes the code above (R416): free value, as for gains. -/
opaque levelUp : Rat → Bool

/-- Whether step k of the sine, or step k − 64 of the cosine, takes its upper binary32 neighbour (R399): free value. -/
opaque fadeUp : Nat → Bool

/-- Shape of the fades the spec gives only a length: 48 samples of a stream (R407), 480 of the sinks (R418). -/
opaque fadeStream : Nat → U32
opaque fadeSinks : Nat → U32

/-- The fetch unit, 0 to 15 once reduced, that holds a layer's part of a band: output, band and layer (R227): free value,
the spec gives fetch units no order. -/
opaque fetchUnit : Nat → Nat → Nat → Nat

/-- Whether a scaled harvest stores the code above its filter's result, where that is no whole code (R192, R277): free
value, the spec gives the read-back of stored codes no rounding. -/
opaque codeUp : Rat → Bool

/-- The activate count at which a die asks for refresh management (R441): free value, the die reports it. -/
opaque rfmThreshold : Nat

/-- A tone generator's sample: frequency, samples since its start, level (R420): free value. -/
opaque toneSample : Nat → Nat → Int → U32

/-- SHA-384 of a byte string (R554). -/
opaque sha384 : List Byte → List Byte

/-- ECDSA P-384 over a message: public key, message, signature (R535, R554). -/
opaque ecdsaVerify : List Byte → List Byte → List Byte → Bool

end Sys2Proof.Config
end

