-- ==== Sys2Proof/Machine/Opcode.lean ====
section
/-! DEFINITION. The opcode table of R104 (code, issuers, kind), the codes of R108 and the packet's fields (R93). -/

namespace Sys2Proof

/-- Opcode of each queue command (R104). -/
def opCode : Op → Nat
  | .nop => 0x0101
  | .fence => 0x0102
  | .instanceInfo => 0x0103
  | .viewportList => 0x0104
  | .queueStats => 0x0105
  | .beginTxn => 0x0201
  | .prepare => 0x0202
  | .commit => 0x0203
  | .rollback => 0x0204
  | .txnStatus => 0x0205
  | .layerCreate => 0x0301
  | .layerDestroy => 0x0302
  | .layerSource => 0x0303
  | .layerPlace => 0x0304
  | .layerBlend => 0x0305
  | .layerEnable => 0x0306
  | .layerRate => 0x0307
  | .layerPalette => 0x0308
  | .layerClick => 0x0309
  | .layerQuery => 0x030A
  | .scalerBind => 0x0401
  | .scalerRelease => 0x0402
  | .scalerCoeff => 0x0403
  | .lutLoad => 0x0404
  | .matrixSet => 0x0405
  | .chromaSet => 0x0406
  | .outputMode => 0x0501
  | .outputEnable => 0x0502
  | .outputLead => 0x0503
  | .outputStill => 0x0504
  | .outputPolicy => 0x0505
  | .outputGuard => 0x0506
  | .outputStatus => 0x0507
  | .outputAux => 0x0508
  | .outputTrain => 0x0509
  | .harvestSetup => 0x0601
  | .harvestRun => 0x0602
  | .harvestStatus => 0x0603
  | .cvConfig => 0x0701
  | .rakeJob => 0x0702
  | .cvRead => 0x0703
  | .monitorSet => 0x0704
  | .monitorRead => 0x0705
  | .monitorCapture => 0x0706
  | .touchPort => 0x0801
  | .touchCalib => 0x0802
  | .touchSieve => 0x0803
  | .touchCancel => 0x0804
  | .touchStatus => 0x0805
  | .hapticChannel => 0x0901
  | .hapticPlay => 0x0902
  | .hapticStop => 0x0903
  | .hapticTrigger => 0x0904
  | .hapticBudget => 0x0905
  | .hapticStatus => 0x0906
  | .audioStream => 0x0A01
  | .audioRoute => 0x0A02
  | .audioUnroute => 0x0A03
  | .audioBus => 0x0A04
  | .audioPort => 0x0A05
  | .audioMeter => 0x0A06
  | .audioTone => 0x0A07
  | .audioSidetone => 0x0A08
  | .audioStatus => 0x0A09
  | .tideRead => 0x0B01
  | .tideSource => 0x0B02
  | .oxPort => 0x0B03
  | .domainSet => 0x0B04
  | .lockGroup => 0x0B05
  | .eventSend => 0x0B06
  | .eventSubscribe => 0x0B07
  | .streamExport => 0x0B08
  | .streamImport => 0x0B09
  | .wakeMargin => 0x0B0A
  | .memMapInfo => 0x0C01
  | .slotTable => 0x0C02
  | .memRemap => 0x0C03
  | .memPagePolicy => 0x0C04
  | .memRefresh => 0x0C05
  | .memDisturb => 0x0C06
  | .memSelfRefresh => 0x0C07
  | .memStatus => 0x0C08
  | .powerDomain => 0x0D01
  | .powerIsland => 0x0D02
  | .powerState => 0x0D03
  | .powerStatus => 0x0D04
  | .paceRead => 0x0D05
  | .sentinelSet => 0x0D06
  | .instanceCreate => 0x0E01
  | .instanceDestroy => 0x0E02
  | .instanceQuiesce => 0x0E03
  | .instanceReset => 0x0E04
  | .instanceShare => 0x0E05
  | .instanceWindow => 0x0E06
  | .instanceViewport => 0x0E07
  | .delegateRange => 0x0E08
  | .deviceReset => 0x0E09
  | .instanceStatus => 0x0E0A
  | .diagCounters => 0x0F01
  | .diagCounterClear => 0x0F02
  | .diagFaultLog => 0x0F03
  | .diagUnitState => 0x0F04
  | .securePromptOpen => 0x1001
  | .securePromptClose => 0x1002
  | .watchRequest => 0x1003
  | .watchRelease => 0x1004
  | .secureMessage => 0x1005

/-- Who may issue each opcode (R104). A LUT_LOAD of a store-encode or panel LUT is checked further in its own family. -/
def opIssuer : Op → IssuerClass
  | .nop => .any
  | .fence => .any
  | .instanceInfo => .any
  | .viewportList => .any
  | .queueStats => .any
  | .beginTxn => .any
  | .prepare => .any
  | .commit => .any
  | .rollback => .any
  | .txnStatus => .any
  | .layerCreate => .any
  | .layerDestroy => .owner
  | .layerSource => .owner
  | .layerPlace => .owner
  | .layerBlend => .owner
  | .layerEnable => .owner
  | .layerRate => .owner
  | .layerPalette => .owner
  | .layerClick => .owner
  | .layerQuery => .owner
  | .scalerBind => .owner
  | .scalerRelease => .owner
  | .scalerCoeff => .owner
  | .lutLoad => .owner
  | .matrixSet => .owner
  | .chromaSet => .owner
  | .outputMode => .manager
  | .outputEnable => .manager
  | .outputLead => .manager
  | .outputStill => .manager
  | .outputPolicy => .manager
  | .outputGuard => .manager
  | .outputStatus => .any
  | .outputAux => .manager
  | .outputTrain => .manager
  | .harvestSetup => .owner
  | .harvestRun => .owner
  | .harvestStatus => .owner
  | .cvConfig => .owner
  | .rakeJob => .owner
  | .cvRead => .owner
  | .monitorSet => .owner
  | .monitorRead => .owner
  | .monitorCapture => .owner
  | .touchPort => .manager
  | .touchCalib => .manager
  | .touchSieve => .manager
  | .touchCancel => .any
  | .touchStatus => .any
  | .hapticChannel => .manager
  | .hapticPlay => .owner
  | .hapticStop => .owner
  | .hapticTrigger => .manager
  | .hapticBudget => .manager
  | .hapticStatus => .any
  | .audioStream => .owner
  | .audioRoute => .owner
  | .audioUnroute => .owner
  | .audioBus => .owner
  | .audioPort => .manager
  | .audioMeter => .manager
  | .audioTone => .owner
  | .audioSidetone => .manager
  | .audioStatus => .any
  | .tideRead => .any
  | .tideSource => .manager
  | .oxPort => .manager
  | .domainSet => .manager
  | .lockGroup => .manager
  | .eventSend => .granted
  | .eventSubscribe => .manager
  | .streamExport => .manager
  | .streamImport => .manager
  | .wakeMargin => .manager
  | .memMapInfo => .manager
  | .slotTable => .manager
  | .memRemap => .manager
  | .memPagePolicy => .manager
  | .memRefresh => .manager
  | .memDisturb => .manager
  | .memSelfRefresh => .manager
  | .memStatus => .manager
  | .powerDomain => .manager
  | .powerIsland => .manager
  | .powerState => .manager
  | .powerStatus => .manager
  | .paceRead => .any
  | .sentinelSet => .manager
  | .instanceCreate => .managerDelegate
  | .instanceDestroy => .manager
  | .instanceQuiesce => .managerDelegate
  | .instanceReset => .managerDelegate
  | .instanceShare => .manager
  | .instanceWindow => .manager
  | .instanceViewport => .manager
  | .delegateRange => .manager
  | .deviceReset => .manager
  | .instanceStatus => .managerDelegate
  | .diagCounters => .any
  | .diagCounterClear => .any
  | .diagFaultLog => .manager
  | .diagUnitState => .manager
  | .securePromptOpen => .any
  | .securePromptClose => .any
  | .watchRequest => .any
  | .watchRelease => .any
  | .secureMessage => .any

/-- Kind of each opcode (R98, R104). -/
def opKind : Op → Kind
  | .nop => .n
  | .fence => .x
  | .instanceInfo => .r
  | .viewportList => .r
  | .queueStats => .r
  | .beginTxn => .x
  | .prepare => .x
  | .commit => .x
  | .rollback => .x
  | .txnStatus => .x
  | .layerCreate => .d
  | .layerDestroy => .d
  | .layerSource => .d
  | .layerPlace => .d
  | .layerBlend => .d
  | .layerEnable => .d
  | .layerRate => .d
  | .layerPalette => .d
  | .layerClick => .n
  | .layerQuery => .r
  | .scalerBind => .d
  | .scalerRelease => .d
  | .scalerCoeff => .d
  | .lutLoad => .d
  | .matrixSet => .d
  | .chromaSet => .d
  | .outputMode => .d
  | .outputEnable => .d
  | .outputLead => .d
  | .outputStill => .d
  | .outputPolicy => .n
  | .outputGuard => .n
  | .outputStatus => .r
  | .outputAux => .j
  | .outputTrain => .j
  | .harvestSetup => .d
  | .harvestRun => .n
  | .harvestStatus => .r
  | .cvConfig => .n
  | .rakeJob => .j
  | .cvRead => .r
  | .monitorSet => .d
  | .monitorRead => .r
  | .monitorCapture => .n
  | .touchPort => .n
  | .touchCalib => .n
  | .touchSieve => .n
  | .touchCancel => .n
  | .touchStatus => .r
  | .hapticChannel => .n
  | .hapticPlay => .n
  | .hapticStop => .n
  | .hapticTrigger => .n
  | .hapticBudget => .n
  | .hapticStatus => .r
  | .audioStream => .n
  | .audioRoute => .n
  | .audioUnroute => .n
  | .audioBus => .n
  | .audioPort => .n
  | .audioMeter => .n
  | .audioTone => .n
  | .audioSidetone => .n
  | .audioStatus => .r
  | .tideRead => .r
  | .tideSource => .n
  | .oxPort => .n
  | .domainSet => .n
  | .lockGroup => .d
  | .eventSend => .n
  | .eventSubscribe => .n
  | .streamExport => .n
  | .streamImport => .n
  | .wakeMargin => .n
  | .memMapInfo => .r
  | .slotTable => .n
  | .memRemap => .j
  | .memPagePolicy => .n
  | .memRefresh => .n
  | .memDisturb => .n
  | .memSelfRefresh => .n
  | .memStatus => .r
  | .powerDomain => .n
  | .powerIsland => .n
  | .powerState => .j
  | .powerStatus => .r
  | .paceRead => .r
  | .sentinelSet => .n
  | .instanceCreate => .n
  | .instanceDestroy => .j
  | .instanceQuiesce => .j
  | .instanceReset => .j
  | .instanceShare => .n
  | .instanceWindow => .n
  | .instanceViewport => .d
  | .delegateRange => .n
  | .deviceReset => .j
  | .instanceStatus => .r
  | .diagCounters => .r
  | .diagCounterClear => .n
  | .diagFaultLog => .r
  | .diagUnitState => .r
  | .securePromptOpen => .j
  | .securePromptClose => .j
  | .watchRequest => .j
  | .watchRelease => .j
  | .secureMessage => .j

/-- Every opcode, in table order. -/
def allOps : List Op :=
  [.nop, .fence, .instanceInfo, .viewportList, .queueStats, .beginTxn, .prepare, .commit,
   .rollback, .txnStatus, .layerCreate, .layerDestroy, .layerSource, .layerPlace, .layerBlend, .layerEnable,
   .layerRate, .layerPalette, .layerClick, .layerQuery, .scalerBind, .scalerRelease, .scalerCoeff, .lutLoad,
   .matrixSet, .chromaSet, .outputMode, .outputEnable, .outputLead, .outputStill, .outputPolicy, .outputGuard,
   .outputStatus, .outputAux, .outputTrain, .harvestSetup, .harvestRun, .harvestStatus, .cvConfig, .rakeJob,
   .cvRead, .monitorSet, .monitorRead, .monitorCapture, .touchPort, .touchCalib, .touchSieve, .touchCancel,
   .touchStatus, .hapticChannel, .hapticPlay, .hapticStop, .hapticTrigger, .hapticBudget, .hapticStatus, .audioStream,
   .audioRoute, .audioUnroute, .audioBus, .audioPort, .audioMeter, .audioTone, .audioSidetone, .audioStatus,
   .tideRead, .tideSource, .oxPort, .domainSet, .lockGroup, .eventSend, .eventSubscribe, .streamExport,
   .streamImport, .wakeMargin, .memMapInfo, .slotTable, .memRemap, .memPagePolicy, .memRefresh, .memDisturb,
   .memSelfRefresh, .memStatus, .powerDomain, .powerIsland, .powerState, .powerStatus, .paceRead, .sentinelSet,
   .instanceCreate, .instanceDestroy, .instanceQuiesce, .instanceReset, .instanceShare, .instanceWindow, .instanceViewport, .delegateRange,
   .deviceReset, .instanceStatus, .diagCounters, .diagCounterClear, .diagFaultLog, .diagUnitState, .securePromptOpen, .securePromptClose,
   .watchRequest, .watchRelease, .secureMessage]

/-- The opcode a packet's bytes 0 and 1 name; none is BAD_OPCODE (R104). -/
def opOfCode (code : Nat) : Option Op := allOps.find? fun o => opCode o == code

/-- The status codes of R108. -/
def statusCode : Status → Nat
  | .ok => 0x0000 | .lateApplied => 0x0002 | .badOpcode => 0x0010 | .badLength => 0x0011 | .badParam => 0x0012
  | .outOfRange => 0x0013 | .notOwner => 0x0014 | .notPermitted => 0x0015 | .quiesced => 0x0020
  | .instanceBusy => 0x0021 | .noContext => 0x0022 | .txnLimit => 0x0030 | .txnUnknown => 0x0031
  | .txnConflict => 0x0032 | .txnLate => 0x0033 | .txnState => 0x0034 | .scalerShort => 0x0040
  | .bandwidth => 0x0041 | .noResource => 0x0042 | .classViolation => 0x0043 | .memFault => 0x0050
  | .memFenced => 0x0051 | .timeout => 0x0060 | .stalled => 0x0061 | .collide => 0x0070
  | .secureHeld => 0x0080 | .internal => 0x00F0

/-- Flag bit 0, launch-at-instant (R93). -/
def Cmd.launch (c : Cmd) : Bool := c.pkt.flags.getLsbD 0
/-- Flag bit 1, urgent reply (R93). -/
def Cmd.urgentReply (c : Cmd) : Bool := c.pkt.flags.getLsbD 1
/-- Flag bit 2, in-transaction (R93). -/
def Cmd.inTxn (c : Cmd) : Bool := c.pkt.flags.getLsbD 2
/-- Flag bit 3, late-ok (R93). -/
def Cmd.lateOk (c : Cmd) : Bool := c.pkt.flags.getLsbD 3

/-- The unsigned little-endian field of `n` bytes at packet offset `off`, 24 or above (R5, R93). -/
def Cmd.field (c : Cmd) (off n : Nat) : Nat := (c.pkt.params.toNat >>> (8 * (off - 24))) % 2 ^ (8 * n)
def Cmd.u8 (c : Cmd) (off : Nat) : Nat := c.field off 1
def Cmd.u16 (c : Cmd) (off : Nat) : Nat := c.field off 2
def Cmd.u32 (c : Cmd) (off : Nat) : Nat := c.field off 4
def Cmd.u64 (c : Cmd) (off : Nat) : Nat := c.field off 8
/-- Bit `b` of the byte at packet offset `off`. -/
def Cmd.bit (c : Cmd) (off b : Nat) : Bool := (c.u8 off).testBit b

/-- A packet field replaced by a new value, as PREPARE does with provisional object numbers (R121). -/
def Cmd.withU16 (c : Cmd) (off v : Nat) : Cmd :=
  let sh := 8 * (off - 24)
  let p := c.pkt.params
  { c with pkt := { c.pkt with
      params := (p &&& ~~~(BitVec.ofNat 320 0xFFFF <<< sh)) ||| (BitVec.ofNat 320 (v % 0x10000) <<< sh) } }

end Sys2Proof
end

