-- ==== Sys2Proof/Machine/TypesQueue.lean ====
section
/-! DEFINITION. State of the command pages: queues, interrupts, replies, transactions and instances (chapters 3, 4
and 16). -/

namespace Sys2Proof.Machine

/-- A command taken and not yet replied (R92): its order number, its issuer and queue, and what its reply needs. -/
structure Ticket where
  no : Nat
  issuer : Issuer
  urgent : Bool
  tag : U32
  soon : Bool        -- flag bit 1, urgent reply
  lateOk : Bool      -- flag bit 3
  late : Bool        -- the instant had passed and late-ok was set (R53)
  op : Op
  orphan : Bool      -- its queue stopped under R87: the reply is lost
  deriving DecidableEq, Repr

/-- A reply as written to a reply ring (R97). -/
structure Reply where
  issuer : Issuer
  urgent : Bool
  tag : U32
  status : Status
  detail : Nat
  stamp : Nat
  results : List Byte
  deriving DecidableEq, Repr

/-- An event as raised (R100), before its delivery to one event queue. -/
structure Event where
  code : Nat
  shared : Bool
  subject : Nat
  stamp : Nat
  payload : List Byte
  deriving DecidableEq, Repr

/-- An event raised in a step and not yet written: who receives it (page numbers, 512 the manager, 513 the delegate)
and whether the secure world does; `tag` is the ticket of the command whose effect it reports (R102). -/
structure Raised where
  event : Event
  pages : List Nat
  secure : Bool
  tag : Option Nat
  deriving DecidableEq, Repr

/-- One submission queue with its reply ring (R85 to R92). -/
structure SubQueue where
  enable : Bool
  running : Bool
  draining : Bool
  loc : Bool
  rloc : Bool
  depth : Nat
  lastStatus : Nat
  sqBase : U64
  rqBase : U64
  sqTail : Nat
  sqHead : Nat
  rqHead : Nat
  rqTail : Nat
  promised : Nat       -- taken from the running queue and not yet replied (R92)
  taken : U32
  replied : U32
  quiesced : U32
  deriving DecidableEq, Repr

/-- The event queue (R100, R101). -/
structure EventQueue where
  enable : Bool
  running : Bool
  loc : Bool
  depth : Nat
  lastStatus : Nat
  base : U64
  head : Nat
  tail : Nat
  lost : U32
  lostPending : Bool
  deriving DecidableEq, Repr

/-- One MSI-X vector: its table entry, its pending bit, the messages sent, and the end of its moderation interval
(R103). `sent` is the model's own count of messages. -/
structure Vector4 where
  addr : U64
  data : U32
  masked : Bool
  pending : Bool
  sent : U32
  moderated : Bool     -- an interval runs
  owed : Bool          -- entries were written during the interval
  deriving DecidableEq, Repr

/-- A command page (R83): of an instance, of the manager or of the delegate. -/
structure Page where
  err : BitVec 4
  eventMask : U32
  irqMod : Nat
  q0 : SubQueue
  q1 : SubQueue
  eq : EventQueue
  v0 : Vector4
  v1 : Vector4
  v2 : Vector4
  v3 : Vector4
  msixOn : Bool
  tideHi : U32
  tideFrac : U16
  deriving DecidableEq, Repr

def SubQueue.zero : SubQueue :=
  { enable := false, running := false, draining := false, loc := false, rloc := false, depth := 0, lastStatus := 0,
    sqBase := 0, rqBase := 0, sqTail := 0, sqHead := 0, rqHead := 0, rqTail := 0, promised := 0, taken := 0,
    replied := 0, quiesced := 0 }

def EventQueue.zero : EventQueue :=
  { enable := false, running := false, loc := false, depth := 0, lastStatus := 0, base := 0, head := 0, tail := 0,
    lost := 0, lostPending := false }

def Vector4.zero : Vector4 :=
  { addr := 0, data := 0, masked := true, pending := false, sent := 0, moderated := false, owed := false }

/-- A page at its reset values (R83): EVENT_MASK 0x0001FFFE, IRQ_MOD 50. -/
def Page.zero : Page :=
  { err := 0, eventMask := 0x0001FFFE, irqMod := 50, q0 := .zero, q1 := .zero, eq := .zero, v0 := .zero, v1 := .zero,
    v2 := .zero, v3 := .zero, msixOn := false, tideHi := 0, tideFrac := 0 }

/-- A rectangle: left, top, width, height. -/
structure Rect where
  x : Nat
  y : Nat
  w : Nat
  h : Nat
  deriving DecidableEq, Repr

def Rect.zero : Rect := { x := 0, y := 0, w := 0, h := 0 }

/-- INST_STATE (R83, R508). -/
inductive InstState where
  | active | quiescing | quiesced | resetting
  deriving DecidableEq, Repr

/-- What an instance's quiesce still waits for (R504), beside the conditions read from the units themselves, and
what follows it. -/
inductive AfterQuiesce where
  | stop | flr
  deriving DecidableEq, Repr

/-- An instance's context and record (R498 to R512). -/
structure Instance where
  exists_ : Bool
  state : InstState
  hide : Bool                       -- POLICY
  flr : Bool
  weight : Nat
  inForce : Nat                     -- the weight of the present round (R114)
  rounds : U32
  taken : U32
  windowFaults : U32
  stateT : U32
  dram : Tab (Option (Nat × Bool))  -- window page to (device page, read-only), 2 MiB pages
  pan : Tab (Option (Nat × Bool))   -- the same, 4 KiB pages
  draining : List (Bool × Nat)      -- unmapped pages with accesses still in progress: (pan?, window page) (R492)
  viewports : Tab Rect              -- key output × 8 + slot
  after : AfterQuiesce
  flrStart : Nat
  faultEventAt : Option Nat         -- last WINDOW_FAULT event (R493)
  share : Int                       -- engine rounds owed, in units of 1/65536 round (R502)
  waits : List Ticket               -- INSTANCE_QUIESCE commands waiting for QUIESCED (R509)
  resetBy : Option (Ticket × Bool)  -- the INSTANCE_RESET, or (true) the INSTANCE_DESTROY, that runs
  unmapWaits : List Nat             -- transactions whose unmap waits for accesses to end (R492)
  deriving DecidableEq, Repr

def Instance.zero : Instance :=
  { exists_ := false, state := .quiesced, hide := false, flr := false, weight := 0, inForce := 0, rounds := 0, taken := 0,
    windowFaults := 0, stateT := 0, dram := [], pan := [], draining := [], viewports := [], after := .stop,
    flrStart := 0, faultEventAt := none, share := 0, waits := [], resetBy := none, unmapWaits := [] }

/-- What a change does: a command's setting, or a change the GD8 makes by itself at an output's next cut (R135): the
hiding of an owner's layers, the destruction of its objects, the removal of its viewports, a class W change, a monitor of the
secure world, and the scaler pair that AUTO_GANG takes (R199). -/
inductive Act where
  | cmd (op : Op)
  | hide (n : Nat)
  | destroy (n : Nat)
  | unview (n : Nat)
  | watch (layer : Nat) (on : Bool)
  | secMonitor
  | gang (kind obj : Nat)
  | nothing  -- a release whose object a claim staged before it has been given (R121): the claim prevails
  deriving DecidableEq, Repr

/-- A staged change: the command, the table it copied, the object PREPARE assigned to it, and the outputs whose cut
it lands at (none: it lands at the sequencing point). -/
structure Change where
  act : Act
  cmd : Cmd
  table : List Byte
  obj : Nat            -- assigned object number; 0xFFFF while none is assigned
  outs : List Nat
  deriving DecidableEq, Repr

/-- Transaction states (R123). -/
inductive TxnState where
  | openT | prepared | armed | sequenced | landed | rolledBack
  deriving DecidableEq, Repr

/-- How an output's changes landed (R136). -/
inductive How where
  | untouched | cut | wakeCut | disabledOutput
  deriving DecidableEq, Repr

/-- Landing of a transaction on one output. `pending` is true until its cut. -/
structure Landing where
  output : Nat
  how : How
  frame : U32
  pending : Bool
  deriving DecidableEq, Repr

/-- A transaction, of a slot (R118) or of a single command (R99). -/
structure Txn where
  id : Nat
  issuer : Issuer
  own : Bool                   -- created by R99 for a single command
  handle : U32
  state : TxnState
  changes : List Change
  resolved : List Change       -- the changes with objects assigned, once prepared
  landings : List Landing
  lastStatus : Status
  failIndex : Nat              -- 0xFFFF if none
  ballot : U32
  coord : Nat
  commit : Option Ticket       -- the waiting COMMIT, or the single command
  wait : Option Nat            -- launch instant while ARMED
  passed : Bool                -- a step of tide time has passed that instant (R50)
  seqNo : Nat                  -- order of sequencing (R131)
  waits : Nat                  -- landings of kind N that wait for a block boundary or a wheel wrap
  verdict : Option (Status × Nat)  -- status and detail other than OK that a landing gives (R530)
  out : List Byte              -- results of a single command
  cause : Option Nat           -- the ticket of the command in whose course the GD8 made it (R135)
  deriving DecidableEq, Repr

/-- A ballot tally (R144). -/
structure Tally where
  ballot : U32
  prepOk : Nat
  prepFail : Nat
  landedOk : Nat
  landedLate : Nat
  commitFail : Nat
  firstNode : Nat
  firstStatus : Nat
  deriving DecidableEq, Repr

/-- A check-value configuration (R312). -/
structure CvCfg where
  width : Nat
  poly : U64
  init : U64
  xorout : U64
  refin : Bool
  refout : Bool
  deriving DecidableEq, Repr

def CvCfg.zero : CvCfg := { width := 0, poly := 0, init := 0, xorout := 0, refin := false, refout := false }

/-- A job held for its launch instant (R52). `cfg` is the configuration a RAKE_JOB copied when it was taken (R318). -/
structure Launch where
  instant : Nat
  passed : Bool                -- a step of tide time has passed it (R50)
  ticket : Ticket
  cmd : Cmd
  cfg : CvCfg
  deriving DecidableEq, Repr

/-- A FENCE waiting for commands, by order number (R111). -/
structure Fence where
  ticket : Ticket
  waits : List Nat
  count : Nat
  deriving DecidableEq, Repr

/-- A diagnostic baseline: issuer, block, index and the counter words (R107). -/
structure Baseline where
  issuer : Issuer
  block : Nat
  index : Nat
  words : List U32
  deriving DecidableEq, Repr

/-- A fault log entry (R106, R566). -/
structure FaultEntry where
  unit_ : Nat
  kind : Nat
  handshake : Nat
  stamp : Nat
  seq : Nat
  deriving DecidableEq, Repr

end Sys2Proof.Machine
end

