-- ==== Sys2Proof/Machine/TypesDisplay.lean ====
section
/-! DEFINITION. State of the display path: layers, LUTs, scalers, frames in flight, guard planes, outputs, links and
harvest channels (chapters 5 to 9). -/

namespace Sys2Proof.Machine

/-- What a LUT component holds where no entry was loaded (LUT modes of R208). -/
inductive LutBase where
  | identity | srgb
  deriving DecidableEq, Repr

/-- One component of a LUT: a built-in table, the entries loaded over it, and BYPASS (R209). -/
structure LutComp where
  base : LutBase
  bypass : Bool
  patch : Tab (Option Nat)
  deriving DecidableEq, Repr

/-- The three components of a LUT (R206). -/
structure Lut where
  r : LutComp
  g : LutComp
  b : LutComp
  deriving DecidableEq, Repr

def LutComp.of (b : LutBase) : LutComp := { base := b, bypass := false, patch := [] }
def Lut.of (b : LutBase) : Lut := { r := .of b, g := .of b, b := .of b }

/-- A scaler coefficient set: built-in 1 to 4 (R195) or loaded (R196). -/
inductive Coef where
  | builtin (n : Nat)
  | loaded (t : List Int)
  deriving DecidableEq, Repr

/-- A scaler binding (R186, R188): the scaler, or the even member of a gang pair. -/
structure Binding where
  scaler : Nat
  gang : Bool
  autoGang : Bool
  hset : Coef
  vset : Coef
  deriving DecidableEq, Repr

/-- A layer's source (R150, R153). `mem`: 0 DRAM window, 1 pan window, 2 import slot. -/
structure Source where
  format : Nat
  mem : Nat
  slot : Nat
  pitch : Nat
  plane0 : Nat
  plane1 : Nat
  w : Nat
  h : Nat
  deriving DecidableEq, Repr

/-- A hardware click (R150). -/
structure Click where
  channel : Nat
  effect : Nat
  amplitude : Nat
  duration : Nat
  deriving DecidableEq, Repr

/-- YCbCr settings (R202): matrix 0 BT.601, 1 BT.709, 2 BT.2020; interstitial sitings; replicate. -/
structure Chroma where
  matrix : Nat
  full : Bool
  hInter : Bool
  vInter : Bool
  replicate : Bool
  deriving DecidableEq, Repr

/-- A layer (R148, R149). `issue` counts its sources, so that two uses of one buffer are told apart (R240). -/
structure Layer where
  output : Nat
  z : Nat
  owner : Owner
  src : Option Source
  crop : Rect
  dst : Rect
  visible : Bool
  input : Bool
  mode : Nat
  alpha : Nat
  classW : Bool
  rate : Nat
  palette : Tab Nat
  click : Option Click
  binding : Option Binding
  chroma : Chroma
  matrixOn : Bool
  matrix : List Int
  lut : Lut
  deriving DecidableEq, Repr

/-- A mode (OUTPUT_MODE of chapter 9, R287). -/
structure Mode where
  rate : Nat
  lanes : Nat
  bpc10 : Bool
  compact : Bool
  dither : Nat
  async : Bool
  edp : Bool
  hpol : Bool
  vpol : Bool
  clock : Nat          -- kHz
  hActive : Nat
  hFront : Nat
  hSync : Nat
  hBack : Nat
  vActive : Nat
  vFront : Nat
  vSync : Nat
  vBack : Nat
  ssc : Bool
  deriving DecidableEq, Repr

/-- A layer of a frame's configuration: its number, its settings, the rectangles its pixels may show in, and the
buffer an import-slot layer takes (R80, R162). -/
structure FrameLayer where
  number : Nat
  layer : Layer
  clips : List Rect
  importBuf : Nat              -- buffer of an import slot, 3 none (R80)
  importFrame : Nat            -- and the frame in it, counted since the slot was set up
  deriving DecidableEq, Repr

/-- What staging holds of one layer for a band (R216): runs of bytes, each by its address in the layer's memory. -/
structure Staged where
  layer : Nat
  runs : List (Nat × List Byte)
  deriving DecidableEq, Repr

/-- A crystal tile row that stays in staging for the band after the one it was read for (R219). -/
structure KeptRow where
  layer : Nat
  band : Nat
  row : Nat
  runs : List (Nat × List Byte)
  deriving DecidableEq, Repr

/-- A band's claim of the staging buffer (R217): output, frame and band, bytes claimed in the DRAM and pan parts, the
layers that did not fit, and what was read of the others. -/
structure Claim where
  output : Nat
  frame : U32
  band : Nat
  dram : Nat
  pan : Nat
  left : List Nat
  data : List Staged
  deriving DecidableEq, Repr

/-- The malformed tiles of one layer met in one band of a frame, by their index (R159). -/
structure BadTiles where
  layer : Nat
  tiles : List Nat
  deriving DecidableEq, Repr

/-- A frame's configuration in flight (R178). Band sets are masks, bit b for band b. -/
structure Flight where
  frame : U32
  mode : Mode
  layers : List FrameLayer
  storeLut : Lut
  start : Nat                  -- predicted start of scan-out, in 2^-16 ns (R176)
  guard : Nat                  -- band guard lines (R221)
  composing : Bool             -- composition has started (R294) and the output is neither held nor frozen
  damaged : Nat
  ready : Nat
  taken : Nat
  written : Nat
  stale : Nat
  quietAway : Nat              -- bands left unwritten by a hold (R244)
  dropped : List (Nat × Nat)   -- layer, first band without it (R224)
  late : Nat                   -- bands whose deadline has passed
  arrived : List (Nat × Nat)   -- layer, newest band whose data is known to be complete in staging (R218)
  kept : List KeptRow
  harvest : List (Nat × Nat)   -- channel, buffer (R276)
  minSlack : Option Nat
  badTiles : List BadTiles
  retired : Bool               -- its last band is settled
  deriving DecidableEq, Repr

/-- A scaler gang pair's arbiter (R476): the pipe that holds the pair's scalers, and those that wait for them. -/
structure Gang where
  holder : Option Nat
  waiting : List Nat
  deriving DecidableEq, Repr

def Gang.zero : Gang := { holder := none, waiting := [] }

/-- The buffer a layer used, waiting for its last configuration to retire (R238, R239). -/
structure Use where
  layer : Nat
  owner : Owner
  output : Nat
  mem : Nat
  plane0 : Nat
  plane1 : Nat
  lastFrame : U32
  cause : Nat
  deriving DecidableEq, Repr

/-- The link record and the link's own progress (R285 to R309). -/
structure Link where
  hpd : Bool
  up : Bool                          -- LINK_UP: video is being transmitted
  trained : Bool                     -- a configuration is in force
  training : Bool
  failed : Bool
  coding128 : Bool
  rate : Nat
  lanes : Nat
  asyncActive : Bool
  audioActive : Bool
  ssc : Bool
  pllLock : Bool
  attempts : Nat
  trains : U32
  losses : U32
  trim : Int
  phase : Int
  capsRead : Bool
  sink128 : Bool
  sinkAudio : Bool
  sinkAsync : Bool
  sink10 : Bool
  sinkRate : Nat
  sinkLanes : Nat
  asyncMax : Nat
  asyncMin : Nat
  capsBusy : Bool                    -- the capability read runs (R298)
  capsOwed : Bool                    -- a plug recorded while the island was off (R299)
  irqOwed : Option (List Byte × Bool × Byte)  -- an IRQ_HPD to be serviced after the read (R297): DPCD, loss, vector
  heldDown : Bool                    -- OUTPUT_TRAIN action 2 (R307)
  candidates : List (Nat × Nat)      -- configurations still to try, (rate, lanes)
  lastPhase : Nat                    -- failing phase of the last attempt
  trainStart : Nat
  trainWaits : List Ticket           -- OUTPUT_TRAIN commands waiting for the sequence's end
  relocks : Nat                      -- failed relock attempts in a row; at 3 the island stays reset (R309)
  relocking : Bool
  deriving DecidableEq, Repr

/-- An OUTPUT_AUX transaction (R305, R306): its ticket, the command, the attempts made, the bytes transferred, and those
read. -/
structure AuxJob where
  output : Nat
  ticket : Ticket
  cmd : Cmd
  tries : Nat
  bytes : Nat
  read : List Byte
  deriving DecidableEq, Repr

/-- A guard-plane record (R261). -/
structure GuardRec where
  enable : Bool
  input : Bool
  silent : Bool
  indexed : Bool
  alpha : Nat
  x : Nat
  y : Nat
  w : Nat
  h : Nat
  base : Nat
  pitch : Nat
  palette : Nat
  fail : U32
  click : Bool
  channel : Nat
  effect : Nat
  amplitude : Nat
  deriving DecidableEq, Repr

/-- A guard plane: its shadow record, its live copy, and the region it latched with (R261, R263). -/
structure GuardPlane where
  shadow : GuardRec
  live : GuardRec
  base : Nat
  size : Nat
  faultFrame : Option U32      -- frame of its last GUARD_FAULT event (R265)
  deriving DecidableEq, Repr

/-- What one plane brings to one line, read ahead of it (R264): its words by column, or none where it shows its fail
colour (R265). -/
structure GuardLine where
  plane : Nat
  line : Nat
  rec_ : GuardRec
  words : Option (List Nat)
  deriving DecidableEq, Repr

/-- Why still refresh ends, or how an output's next start is fixed (R269, R270). -/
structure Still where
  active : Bool
  threshold : Nat
  idle : Nat                   -- µs, 0 the sink's longest period
  quiet : Nat
  frames : U32
  said : Bool                  -- a group member has told its leader QUIET (R74)
  deriving DecidableEq, Repr

/-- One output: its landed configuration, its scan-out and its counters. -/
structure Output where
  mode : Option Mode
  enabled : Bool
  lead : Nat
  guard : Nat
  holdPolicy : Bool
  held : Bool
  heldStatus : Nat
  resume : Bool                -- a RESUME has landed, effective at the next cut (R246)
  report : Bool                -- GUARD_COVER reporting (R266)
  storeLut : Lut
  panelLut : Lut
  panelLive : Lut              -- the panel LUT of the frame being scanned (R210)
  pages : List Nat
  scanPages : List Nat         -- pages of the frame being scanned
  scanMode : Option Mode       -- mode of the frame being scanned
  zeroed : Bool
  opening : Bool               -- enabled or switched, first frame not started
  switching : Bool             -- a mode switch runs (R292)
  switchPll : Bool             -- it relocks the PLL
  switchLink : Bool            -- it retrains the link
  scanStale : Nat              -- stale bands of the frame being scanned
  scanning : Bool              -- a frame is being scanned
  frame : U32
  line : Nat
  nextLine : Nat               -- active lines of this frame whose scan-out has started
  frameStart : Nat             -- 2^-16 ns
  period : U32
  cutDone : Bool               -- the cut of the frame being scanned has passed
  composed : U32               -- newest frame whose cut passed
  flights : List Flight        -- at most two, oldest first
  shown : Option Flight        -- configuration whose frame is on the glass, for hit testing (R351)
  carry : Nat                  -- bands damaged in the next frame under R183
  allNext : Bool               -- every band of the next frame is damaged
  still : Still
  guardFaults : U32
  guards : List GuardPlane
  guardPending : Bool
  guardRefused : Nat
  guardLatches : U16
  guardBuf : List GuardLine    -- lines of guard planes read ahead (R264)
  drops : U32
  stale : U32
  faults : U32
  lastDrop : U32
  minSlack : Nat
  link : Link
  group : Option Nat           -- lock group (R71)
  locked : Bool                -- its frames start on the group's grid (R72)
  pixel : List U64             -- last transmitted line, one R·G·B code triple a pixel (R256); the model's own view
  deriving DecidableEq, Repr

/-- A harvest channel (R273 to R282). `state` of buffer k: 0 FREE, 1 FILLING, 2 READY. -/
structure Harvest where
  owner : Option Owner
  running : Bool
  target : Nat
  compact : Bool
  output : Nat
  dstW : Nat
  dstH : Nat
  buffers : Nat
  slot : Nat
  pitch : Nat
  offset : Nat
  stride : Nat
  remaining : Nat
  bufState : List Nat
  lastFrame : U32
  skipped : U32
  incomplete : U32
  binding : Option Binding
  stopCause : Option Nat       -- stop at the end of the frame in progress, with this cause
  image : Tab (List Byte)      -- bands of an exported or scaled image in progress, key frame parity × 1024 + band
  deriving DecidableEq, Repr

def Link.zero : Link :=
  { hpd := false, up := false, trained := false, training := false, failed := false, coding128 := false, rate := 0, lanes := 0,
    asyncActive := false, audioActive := false, ssc := false, pllLock := false, attempts := 0, trains := 0,
    losses := 0, trim := 0, phase := 0, capsRead := false, sink128 := false, sinkAudio := false, sinkAsync := false,
    sink10 := false, sinkRate := 0, sinkLanes := 0, asyncMax := 0, asyncMin := 0, capsBusy := false,
    capsOwed := false, irqOwed := none, heldDown := false, candidates := [], lastPhase := 0, trainStart := 0,
    trainWaits := [], relocks := 0, relocking := false }

/-- A guard record at reset (R261): PLANE_ALPHA 0xFF, FAIL 0xFF000000. -/
def GuardRec.zero : GuardRec :=
  { enable := false, input := false, silent := false, indexed := false, alpha := 0xFF, x := 0, y := 0, w := 0,
    h := 0, base := 0, pitch := 0, palette := 0, fail := 0xFF000000, click := false, channel := 0, effect := 0,
    amplitude := 0 }

def GuardPlane.zero : GuardPlane := { shadow := .zero, live := .zero, base := 0, size := 0, faultFrame := none }

/-- Still refresh at reset (R184): the threshold is 8 frames. -/
def Still.zero : Still := { active := false, threshold := 8, idle := 0, quiet := 0, frames := 0, said := false }

/-- An output at reset (R247, R259, R289): no mode, guard 32 lines, store LUT sRGB, panel LUT identity. -/
def Output.zero : Output :=
  { mode := none, enabled := false, lead := 0, guard := 32, holdPolicy := false, held := false, heldStatus := 0,
    resume := false, report := false, storeLut := .of .srgb, panelLut := .of .identity, panelLive := .of .identity,
    pages := [], scanPages := [], scanMode := none, zeroed := false, opening := false, switching := false,
    switchPll := false, switchLink := false, scanStale := 0, scanning := false, frame := 0, line := 0, nextLine := 0,
    frameStart := 0, period := 0, cutDone := false, composed := 0, flights := [], shown := none, carry := 0,
    allNext := false, still := .zero, guardFaults := 0, guards := List.replicate 4 .zero, guardPending := false,
    guardRefused := 0, guardLatches := 0, guardBuf := [], drops := 0, stale := 0, faults := 0, lastDrop := 0,
    minSlack := 0, link := .zero, group := none, locked := false, pixel := [] }

def Harvest.zero : Harvest :=
  { owner := none, running := false, target := 0, compact := false, output := 0, dstW := 0, dstH := 0, buffers := 0,
    slot := 0, pitch := 0, offset := 0, stride := 0, remaining := 0, bufState := [], lastFrame := 0, skipped := 0,
    incomplete := 0, binding := none, stopCause := none, image := [] }

end Sys2Proof.Machine
end

