-- ==== Sys2Proof/Machine/TypesSense.lean ====
section
/-! DEFINITION. State of the check-value units, region monitors, touch ports and haptic channels (chapters 10, 11
and 12). -/

namespace Sys2Proof.Machine

/-- A rake job held by a unit (R317, R318): its ticket, the configuration copied, the command, the pieces read so far, and
the check register after them (R323). -/
structure RakeJob where
  ticket : Ticket
  cfg : CvCfg
  memory : Nat
  output : Nat
  sequence : U32
  start : U64
  length : Nat
  tag : U32
  pieces : Nat
  reg : Nat
  deriving DecidableEq, Repr

/-- A check-value unit (R316 to R319). -/
structure CvUnit where
  owner : Option Owner
  cfg : CvCfg
  jobs : List RakeJob            -- the first one runs
  releasing : Option Nat         -- a RELEASE waiting for the last job (R318): its transaction
  reclaimed : Bool               -- claimed again while that RELEASE waits
  zeroLength : Bool
  part : Bool
  result : U64
  done : Nat
  sequence : U32
  tag : U32
  count : U32
  latchHi : U32                  -- RESULT_HI, DONE_LO, DONE_HI as latched (R319)
  latchDoneLo : U32
  latchDoneHi : U32
  deriving DecidableEq, Repr

def CvUnit.zero : CvUnit :=
  { owner := none, cfg := .zero, jobs := [], releasing := none, reclaimed := false, zeroLength := false, part := false, result := 0,
    done := 0, sequence := 0, tag := 0, count := 0, latchHi := 0, latchDoneLo := 0, latchDoneHi := 0 }

/-- A monitor result (history entry of chapter 10). -/
structure MonResult where
  value : U64
  frame : U32
  valid : Bool
  covered : Bool
  linkDown : Bool
  stale : Bool
  guardFault : Bool
  held : Bool
  gen : Nat
  depth : Nat
  deriving DecidableEq, Repr

def MonResult.zero : MonResult :=
  { value := 0, frame := 0, valid := false, covered := false, linkDown := false, stale := false, guardFault := false,
    held := false, gen := 0, depth := 0 }

/-- What a monitor computes for the frame being scanned: its configuration, rectangle, generation and owner. -/
structure LiveMon where
  cfg : CvCfg
  rect : Rect
  gen : Nat
  owner : Option Owner
  deriving DecidableEq, Repr

/-- A region monitor (R327 to R335). `live` is the configuration of the frame being scanned; `regs` and the flags
gather its current frame. -/
structure Monitor where
  owner : Option Owner
  enable : Bool
  publish : Bool
  cfg : CvCfg
  rect : Rect
  gen : Nat
  history : List MonResult         -- newest first, at most 4
  latch : List (U32 × U32 × U32)   -- VALUE_HI, FRAME and flags as latched, entry 0 to 3
  capture : Option MonResult
  armed : Bool                     -- a capture waits (R334)
  taking : Bool                    -- the rectangle started scanning after the capture was armed
  live : Option LiveMon
  reg : U64                        -- the check register over the lines scanned so far
  linkDown : Bool
  guardFault : Bool
  covered : Bool
  deriving DecidableEq, Repr

def Monitor.zero : Monitor :=
  { owner := none, enable := false, publish := false, cfg := .zero, rect := .zero, gen := 0, history := [],
    latch := [], capture := none, armed := false, taking := false, live := none, reg := 0, linkDown := false, guardFault := false,
    covered := false }

/-- Touch port states (R341). -/
inductive PortState where
  | off | descriptor | reset | running | recovering | failed
  deriving DecidableEq, Repr

/-- A contact down on a port (R344 to R356); `x`, `y` in 1/16 pixel. -/
structure Contact where
  slot : Nat
  ident : Nat
  owner : Option Owner         -- none: delivered to no one
  serial : U32
  ownerSlot : Nat
  layer : Nat
  frame : U32
  x : Nat
  y : Nat
  anchorX : Nat                -- where it has stayed (R347)
  anchorY : Nat
  since : Nat                  -- tide ns at the anchor
  deriving DecidableEq, Repr

/-- A touch port (R339 to R349). -/
structure TouchPort where
  enabled : Bool
  state : PortState
  spi : Bool
  output : Nat
  orphans : Bool
  rateLimit : Nat
  scans : U32
  length : U32
  range : U32
  extra : U32
  rate : U32
  timeouts : U32
  stuck : U32
  xMin : Nat
  xMax : Nat
  yMin : Nat
  yMax : Nat
  unclaimed : U32
  stuckS : Nat
  stuckPx : Nat
  i2cAddr : Nat
  descReg : Nat
  busRate : Nat
  spiMode : Nat
  calib : List Int             -- c0 to c8
  calibLive : List Int         -- as the scan in progress, or the last one, has it (R349)
  tokens : Nat                 -- in units of 1/1,000,000,000 token
  tokensAt : Nat               -- tide ns of the last refill
  failures : Nat               -- consecutive failed recoveries
  emptyReads : Nat             -- consecutive reads with no report while the interrupt is asserted
  ignored : List Nat           -- identifiers ignored until lifted
  contacts : List Contact
  scan : Nat                   -- 0 between scans; within a hybrid scan 1 accepted, 2 discarded (R342, R345)
  entries : Nat                -- entries of that scan so far (R344)
  step : Nat                   -- bring-up step running, 1 to 4 (R340); 0 none
  reading : Bool               -- a report read runs
  deriving DecidableEq, Repr

/-- A touch port at reset (R341): its output is its own number. -/
def TouchPort.zero (p : Nat) : TouchPort :=
  { enabled := false, state := .off, spi := false, output := p, orphans := false, rateLimit := 480, scans := 0,
    length := 0, range := 0, extra := 0, rate := 0, timeouts := 0, stuck := 0, xMin := 0, xMax := 0, yMin := 0,
    yMax := 0, unclaimed := 0, stuckS := 30, stuckPx := 2, i2cAddr := 0, descReg := 0, busRate := 0, spiMode := 0,
    calib := [], calibLive := [], tokens := 8000000000, tokensAt := 0, failures := 0, emptyReads := 0, ignored := [], contacts := [],
    scan := 0, entries := 0, step := 0, reading := false }

/-- Haptic channel states (R367). -/
inductive HapState where
  | off | idle | drive | brake | pause | rest | fault
  deriving DecidableEq, Repr

/-- One segment of an effect (R368): a drive segment of half cycles or of a time, or a pause that ends a time after
the start of the drive segment before it. Times in ns; amplitudes × 1,000 before scaling. -/
structure Segment where
  drive : Bool
  halfCycles : Nat             -- nonzero for a segment given in half cycles
  time : Nat
  ampFrom : Nat
  ampTo : Nat
  overdrive : Nat
  deriving DecidableEq, Repr

/-- What started an effect (R370): its rank and, for HAPTIC_PLAY and layer clicks, on whose behalf. -/
structure HapSource where
  rank : Nat
  issuer : Option Issuer
  notify : Bool
  serial : U32
  deriving DecidableEq, Repr

/-- A running effect. -/
structure Effect where
  number : Nat
  scale : Nat                  -- amplitude scale s
  source : HapSource
  segments : List Segment      -- the first one runs
  segStart : Nat               -- tide ns at which the drive segment in progress, or the last one, started
  hcDone : Nat                 -- half cycles driven in the segment
  odLeft : Nat                 -- overdrive half cycles still due
  amp : Nat                    -- amplitude of the half cycle last driven, × 1,000
  driveNs : Nat
  brakes : Nat                 -- braking half cycles made
  endCause : Option Nat        -- the effect ends with this cause once braking ends
  deriving DecidableEq, Repr

/-- An accepted trigger that waits for its first drive (R370, R372). -/
structure HapWait where
  effect : Nat
  scale : Nat
  duration : Nat
  source : HapSource
  txn : Option Nat             -- the transaction whose landing waits for it
  deriving DecidableEq, Repr

/-- A haptic channel (R361 to R381). Peaks are kept as squared millivolts, so that √2 never rounds. -/
structure Haptic where
  enabled : Bool
  state : HapState
  owner : Option Nat           -- an instance, or none for the manager (R362)
  clickAny : Bool
  noBemf : Bool
  priority : Nat
  odMax : Nat
  fTrack : Nat                 -- 1/16 Hz
  f0 : Nat
  clamp : Nat
  rmsLimit : Nat
  oc : Nat
  res : Nat                    -- 0.1 Ω
  brakeMv : Nat
  factor : Nat                 -- power factor in force, in units of 2^-30
  plannedSq : Nat              -- planned peak squared, mV², after the peak and RMS limits
  hvdd : Nat
  effects : U32
  refused : U32
  limited : U32
  ocTrips : U32
  brakeLong : U32
  limitStops : U32
  run : Option Effect
  waiting : Option HapWait
  setup : Option (Nat × Cmd)   -- a HAPTIC_CHANNEL that waits for braking (R363): its transaction and command
  noGaps : Nat                 -- consecutive gaps without back-EMF
  trips : Nat                  -- consecutive half cycles with an overcurrent trip
  tripped : Bool               -- the present half cycle tripped
  bins : List (Nat × Nat)      -- runs of 1 ms bins of drive time: (first bin, bins), newest first
  contMs : Nat                 -- continuous drive at the newest bin (R378)
  squares : List (Nat × Nat × Nat)  -- (start ns, length ns, peak² mV²) of the last 100 ms
  restDuty : Bool              -- the REST in force follows the duty limit
  restAt : Nat                 -- tide ns at which REST was entered
  limitAt : List (Nat × Nat)   -- last HAPTIC_LIMIT event of each limit, tide ns
  deriving DecidableEq, Repr

def Haptic.zero : Haptic :=
  { enabled := false, state := .off, owner := none, clickAny := false, noBemf := false, priority := 4, odMax := 3,
    fTrack := 0x0AA0, f0 := 170, clamp := 5000, rmsLimit := 2000, oc := 400, res := 80, brakeMv := 60,
    factor := 1073741824, plannedSq := 0, hvdd := 0, effects := 0, refused := 0, limited := 0, ocTrips := 0,
    brakeLong := 0, limitStops := 0, run := none, waiting := none, setup := none, noGaps := 0, trips := 0,
    tripped := false, bins := [], contMs := 0, squares := [], restDuty := false, restAt := 0, limitAt := [] }

/-- A HAP_TRIG pin's binding (R371, R382). -/
structure HapPin where
  enable : Bool
  edge : Nat
  channel : Nat
  effect : Nat
  amplitude : Nat
  guard : Nat
  duration : Nat
  lastEdge : Option Nat        -- tide ns of the last accepted edge
  deriving DecidableEq, Repr

def HapPin.zero : HapPin :=
  { enable := false, edge := 1, channel := 0, effect := 0, amplitude := 0, guard := 20, duration := 0,
    lastEdge := none }

/-- The Feedback hall's haptic part. -/
structure HapticUnit where
  channels : List Haptic
  pins : List HapPin
  budget : Nat
  lowSupply : Nat              -- mask over HVDD0–HVDD3 (R379)
  hot : Bool
  deriving DecidableEq, Repr

def HapticUnit.zero : HapticUnit :=
  { channels := List.replicate 8 .zero, pins := List.replicate 8 .zero, budget := 6000,
    lowSupply := 0, hot := false }

end Sys2Proof.Machine
end

