-- ==== Sys2Proof/Machine/TypesAudio.lean ====
section
/-! DEFINITION. State of the audio island (chapter 13). Samples are binary32 values (R387). -/

namespace Sys2Proof.Machine

/-- One block of 48 samples. -/
abbrev Block := List Fl

/-- A ramp or fade in progress: samples of the present block before it starts, and its samples done. -/
structure Ramp where
  skip : Nat
  done : Nat
  deriving DecidableEq, Repr

/-- A host stream (R405 to R411, R419). -/
structure Stream where
  owner : Option Owner
  running : Bool
  pan : Bool
  format : Nat
  channels : Nat
  notify : Nat
  ring : Nat
  ringOff : Nat
  ctlOff : Nat
  hwPos : U64
  latchHi : U32
  xruns : U32
  quiesce : Option Ramp        -- a quiesce ramp (R411)
  current : List Block         -- the block acting as the stream's signal, one per channel
  next : List Block            -- the block fetched for the next one
  fadeIn : Bool                -- the next block fetched fades in (R407)
  sinceNote : Nat
  xrunAt : Option Nat
  deriving DecidableEq, Repr

def Stream.zero : Stream :=
  { owner := none, running := false, pan := false, format := 0, channels := 0, notify := 0, ring := 0, ringOff := 0,
    ctlOff := 0, hwPos := 0, latchHi := 0, xruns := 0, quiesce := none, current := [], next := [], fadeIn := false,
    sinceNote := 0, xrunAt := none }

/-- A route (R390) with its fades (R399). A removed route stays until its fade-out ends; a seized one longer. -/
structure Route where
  number : Nat
  src : Nat
  dst : Nat
  gain : Int
  gainFrom : Int               -- gain before a running gain ramp
  ramp : Option Ramp
  fadeIn : Option Ramp
  fadeOut : Option Ramp
  owner : Owner
  seized : Bool                -- faded out by a seizure and kept (R417)
  deriving DecidableEq, Repr

/-- A mix bus (R390 to R395). -/
structure Bus where
  owner : Option Owner
  fixed : Bool
  nmax : Nat
  gain : Int
  gainFrom : Int
  gainRamp : Option Ramp
  n : Nat
  scaleFrom : Rat
  scaleTo : Rat
  scaleRamp : Option Ramp
  idle : Bool
  idleBlocks : U32
  out : Block                  -- output of the block just mixed
  deriving DecidableEq, Repr

def Bus.zero : Bus :=
  { owner := none, fixed := false, nmax := 1, gain := 0, gainFrom := 0, gainRamp := none, n := 0,
    scaleFrom := 1, scaleTo := 1, scaleRamp := none, idle := true, idleBlocks := 0, out := [] }

/-- A silence detector (R394): active, and samples since the last one that reached the threshold. -/
structure Detector where
  active : Bool
  quiet : Nat
  deriving DecidableEq, Repr

def Detector.zero : Detector := { active := false, quiet := 0 }

/-- A tone generator (R420). -/
structure Tone where
  owner : Option Owner
  on : Bool
  freq : Nat
  level : Int
  run : Ramp                   -- samples since it started
  quiesce : Option Ramp        -- a quiesce ramp (R411)
  deriving DecidableEq, Repr

def Tone.zero : Tone :=
  { owner := none, on := false, freq := 0, level := 0, run := { skip := 0, done := 0 }, quiesce := none }

/-- A side-tone path (R403). -/
structure SideTone where
  enable : Bool
  src : Nat
  dst : Nat
  gain : Int
  gainFrom : Int
  ramp : Option Ramp
  fadeIn : Option Ramp
  fadeOut : Option Ramp
  tail : List Fl               -- the last two input samples
  deriving DecidableEq, Repr

def SideTone.zero : SideTone :=
  { enable := false, src := 0, dst := 0, gain := 0, gainFrom := 0, ramp := none, fadeIn := none, fadeOut := none,
    tail := [] }

/-- A fade of a port's input or output slots: out (false) or in (true), samples done. -/
structure PortFade where
  fadesIn : Bool
  done : Nat
  deriving DecidableEq, Repr

/-- A TDM port (R396, R412, R413, R419). -/
structure Tdm where
  enabled : Bool
  master : Bool
  i2s : Bool
  delay : Bool
  autoOff : Bool
  off : Bool
  clockOk : Bool
  slots : Nat                  -- code 0–3
  slotW : Bool
  sampleW : Bool
  offMs : Nat
  rateErr : Int
  clips : U32
  clock : Option PortFade      -- of the input slots, as the clock goes and comes (R413)
  redo : Option PortFade       -- of every slot, around a reconfiguration (R420)
  silent : Nat                 -- blocks of silence left of a reconfiguration
  deriving DecidableEq, Repr

def Tdm.zero : Tdm :=
  { enabled := false, master := false, i2s := false, delay := false, autoOff := false, off := false, clockOk := false,
    slots := 0, slotW := false, sampleW := false, offMs := 2000, rateErr := 0, clips := 0, clock := none,
    redo := none, silent := 0 }

/-- DP audio of one output (R397, R415). -/
structure DpAudio where
  enable : Bool
  channels : Nat
  offMs : Nat
  off : Bool
  clips : U32
  deriving DecidableEq, Repr

def DpAudio.zero : DpAudio := { enable := false, channels := 2, offMs := 5000, off := false, clips := 0 }

/-- A meter (R416): magnitudes, and sums of squares by block. -/
structure Meter where
  holder : Option Owner        -- the manager or the secure world
  point : Nat
  peak : Rat
  peakHold : Rat
  holdAge : Nat                -- blocks since PEAK_HOLD was set
  holdMs : Nat
  clips : U32
  window : List Rat            -- the last 300 blocks, newest first
  deriving DecidableEq, Repr

def Meter.zero : Meter :=
  { holder := none, point := 0, peak := 0, peakHold := 0, holdAge := 0, holdMs := 1000, clips := 0, window := [] }

/-- A change that waits for its block boundary (R398, R400). -/
structure AudioWait where
  op : Op
  cmd : Cmd
  owner : Owner
  obj : Nat
  txn : Option Nat             -- the transaction whose landing waits for it
  deriving DecidableEq, Repr

/-- The audio island. -/
structure Audio where
  playback : List Stream
  capture : List Stream
  buses : List Bus
  routes : List Route
  tones : List Tone
  sides : List SideTone
  tdm : List Tdm
  micMask : Nat
  hpf : Bool
  micRedo : Option PortFade
  micSilent : Nat
  dp : List DpAudio
  threshold : Int              -- 1/256 dBFS
  holdMs : Nat
  meters : List Meter
  grants : Tab (Option Nat)    -- hardware endpoint to instance
  secureHeld : List Nat        -- hardware endpoints the secure world holds (R417)
  seized : List Nat            -- sink channels the secure world has seized
  detectors : Tab Detector     -- by endpoint code
  slaveIn : Tab Block          -- samples of a slave port's slots still in its rate converter, by endpoint code (R402)
  slaveOut : Tab Block
  inputs : Tab Block           -- every source's signal in the block before the one being mixed
  sinks : Tab Block            -- signal of each sink channel in the block just sent
  sent : Tab (List Int)        -- the codes it was sent as (R387); the model's own view
  waiting : List AudioWait
  lastBlock : Option Nat       -- tide ns of the last block boundary
  blocks : Nat                 -- blocks run
  closing : Option Nat         -- PD_FEED or the island goes off: samples of the sinks' fade done (R418)
  deriving DecidableEq, Repr

def Audio.zero : Audio :=
  { playback := List.replicate 64 .zero, capture := List.replicate 16 .zero, buses := List.replicate 32 .zero,
    routes := [], tones := List.replicate 8 .zero, sides := List.replicate 8 .zero, tdm := List.replicate 4 .zero,
    micMask := 0, hpf := false, micRedo := none, micSilent := 0, dp := List.replicate 8 .zero, threshold := -23040,
    holdMs := 200, meters := List.replicate 8 .zero, grants := [], secureHeld := [], seized := [], detectors := [],
    slaveIn := [], slaveOut := [], inputs := [], sinks := [], sent := [], waiting := [], lastBlock := none, blocks := 0, closing := none }

end Sys2Proof.Machine
end

