-- ==== Sys2Proof/Machine/TypesMem.lean ====
section
/-! DEFINITION. State of the DRAM controller, pan memory and the secure world (chapters 14, 15 and 17). -/

namespace Sys2Proof.Machine

/-- Channel states (channel record of chapter 14). -/
inductive ChanState where
  | serving | selfRefresh | tracking | retraining | fenced
  deriving DecidableEq, Repr

/-- One tracking entry of a bank (R445): its requester (40 for the shared bucket), its row counters, its trip. -/
structure TrackEntry where
  requester : Nat
  rows : List (Nat × Nat)      -- (row, count), at most 4
  tripped : Bool
  lastAct : Nat                -- tide time of its last activate, 2^-16 ns
  deriving DecidableEq, Repr

/-- A DRAM bank: its open row, its page-policy counter and last row (R437), its forced policy (R438) and its tracking
table (R445). -/
structure Bank where
  openRow : Option Nat
  lastRow : Option Nat
  counter : Nat
  policy : Nat
  activates : Nat              -- rolling accumulated activates (R441)
  table : List TrackEntry
  deriving DecidableEq, Repr

def Bank.zero : Bank := { openRow := none, lastRow := none, counter := 2, policy := 0, activates := 0, table := [] }

/-- A DRAM channel (R426 to R450). `owed` is by bank pair × rank in per-bank mode, by rank in all-bank mode. -/
structure Channel where
  state : ChanState
  attempts : Nat
  mr4 : Nat
  owed : Tab Nat
  pairs : Tab Nat              -- bank pair of the next per-bank refresh of each rank (R439)
  allBank : Bool               -- the mode of the refreshes being issued
  retrains : U32
  tracks : U32
  srEntries : U32
  trips : U32
  eccFixed : U32
  eccRetries : U32
  lastTrack : U32
  trackTemp : Int              -- PHY sensor at the last tracking, °C
  bestPtr : Nat                -- best-effort pointer (R428)
  classPtr : Tab Nat           -- pointer per class
  deriving DecidableEq, Repr

def Channel.zero : Channel :=
  { state := .fenced, attempts := 0, mr4 := 0, owed := [], pairs := [], allBank := false, retrains := 0, tracks := 0,
    srEntries := 0, trips := 0, eccFixed := 0, eccRetries := 0, lastTrack := 0, trackTemp := 0, bestPtr := 0,
    classPtr := [] }

/-- The Memory hall. -/
structure Dram where
  map : Nat                    -- 0 A, 1 B, 2 C, 3 D
  mapNext : Nat
  bootMap : Nat
  fallback : Bool
  ranks2 : Bool
  density : Nat
  working : Nat
  rate : Nat
  remapping : Option Ticket
  remapMask : Nat
  allBank : Bool
  srIdle : Nat
  disturbTh : Nat
  disturbNext : Nat            -- threshold from the next window (R447)
  window : Nat                 -- windows of 32 ms since t = 0, up to the one whose counts the tables hold
  channels : List Channel
  banks : Tab Bank             -- key channel × 32 + rank × 16 + bank
  live : Option (List Byte)    -- none: the default table (R433)
  shadow : Option (List Byte)
  shadowTxns : List Nat        -- transactions whose landing waits for the wrap
  position : Nat
  swaps : U32
  trained : Bool
  deriving DecidableEq, Repr

/-- The controller before any training (R425): every channel fenced, nothing mapped. -/
def Dram.zero : Dram :=
  { map := 0, mapNext := 0, bootMap := 0, fallback := false, ranks2 := false, density := 0, working := 0, rate := 0,
    remapping := none, remapMask := 0, allBank := false, srIdle := 5, disturbTh := 2000, disturbNext := 2000, window := 0,
    channels := List.replicate 8 .zero, banks := [], live := none, shadow := none,
    shadowTxns := [], position := 0, swaps := 0, trained := false }

/-- A pan bank's counters (R482). -/
structure PanBank where
  borrowed : Bool
  corrected : U32
  uncorrectable : U32
  collide : U32
  busyRead : U32
  busyWrite : U32
  held : U32
  skipped : U32
  deriving DecidableEq, Repr

def PanBank.zero : PanBank :=
  { borrowed := false, corrected := 0, uncorrectable := 0, collide := 0, busyRead := 0, busyWrite := 0, held := 0,
    skipped := 0 }

/-- A port H access the bridge retries (R467): requester, pan address, and the bytes of a write. -/
structure PanRetry where
  requester : Nat
  issuer : Issuer
  addr : Nat
  write : Option (List Byte)
  len : Nat
  deriving DecidableEq, Repr

/-- The arbiter of one port of a bank (R470): the requester number its pointer stands at, and the requesters that wait. -/
structure PanPort where
  next : Nat
  waiting : List Nat
  deriving DecidableEq, Repr

def PanPort.zero : PanPort := { next := 0, waiting := [] }

/-- Pan memory beside its bytes (R460 to R483). `single` and `double` list the words whose check bits hold a
correctable and an uncorrectable error (R462). -/
structure Pan where
  single : List Nat
  double : List Nat
  banks : Tab PanBank
  ports : Tab PanPort          -- key bank × 2, + 1 for port H
  collideAll : U32
  busyAll : U32
  uncorrAll : U32
  testRunning : Bool
  testFirst : Nat
  testLast : Nat
  testSpacing : Nat            -- ns
  testPage : Nat               -- next page to borrow
  pass : U32
  borrowed : Option Nat        -- page borrowed; its contents stand in the save buffer meanwhile
  abandons : Tab Nat           -- abandons of each page in this pass
  retry : List (Nat × Nat)     -- abandoned pages to try again, with the tide ns of the abandon
  collideEvent : List (Nat × Issuer × Nat) -- last PAN_COLLIDE by bank and owner, tide ns (R468)
  retries : List PanRetry
  deriving DecidableEq, Repr

def Pan.zero : Pan :=
  { single := [], double := [], banks := [], ports := [], collideAll := 0, busyAll := 0, uncorrAll := 0, testRunning := false,
    testFirst := 0, testLast := 0, testSpacing := 0, testPage := 0, pass := 0, borrowed := none,
    abandons := [], retry := [], collideEvent := [], retries := [] }

/-- A family 0x10 command waiting for its ANSWER (R523): its ticket and the mailbox ticket. -/
structure SecWait where
  mail : U32
  ticket : Ticket
  op : Op
  deriving DecidableEq, Repr

/-- A POWER_ command queued behind a hold (R530): the domains or islands it switches off, or a whole POWER_STATE. -/
structure Queued where
  op : Op
  cmd : Cmd
  domains : Nat
  islands : Nat
  deriving DecidableEq, Repr

/-- The secure world (R516 to R537), except fuses. -/
structure Secure where
  first : Nat
  count : Nat
  partRefused : Bool
  running : Bool               -- SEC_RUNNING
  nextMail : U32
  waits : List SecWait
  heldMsgs : List (List Byte)  -- CANCEL, RELEASE_REQUEST and INSTANCE_GONE messages held (R521)
  late : Nat
  bad : Nat
  intStatus : BitVec 4
  intEnable : BitVec 4
  seqBase : U32
  seqBaseLive : U32
  seqDepth : Nat
  seqTail : Nat
  seqHead : Nat
  seqLost : U32
  seqLostPending : Bool
  forceFault : Bool
  holdDomains : BitVec 12
  holdIslands : BitVec 13
  queued : List Queued
  lutLock : BitVec 8
  cvList : U32
  cvBusy : Bool
  cvError : Bool
  cvErrorKind : Nat
  cvIndex : Nat
  cvLists : U32
  cvCount : Nat
  wdRun : Bool
  wdPeriod : Nat
  wdForce : Nat                -- period in force, ms
  wdLeft : Nat                 -- tide ns at which it expires
  wdKey : Byte
  debugNormal : Bool
  debugSecure : Bool
  scanOpen : Bool
  challenge : Option (List Byte × Nat)  -- bytes and tide ns of issue (R535)
  gateBlock : Nat              -- tide ns until which the gate is blocked
  deriving DecidableEq, Repr

def Secure.zero : Secure :=
  { first := 8176, count := 16, partRefused := false, running := false, nextMail := 1, waits := [], heldMsgs := [],
    late := 0, bad := 0, intStatus := 0, intEnable := 0, seqBase := 0, seqBaseLive := 0, seqDepth := 0, seqTail := 0,
    seqHead := 0, seqLost := 0, seqLostPending := false, forceFault := false, holdDomains := 0, holdIslands := 0,
    queued := [], lutLock := 0, cvList := 0, cvBusy := false, cvError := false, cvErrorKind := 0, cvIndex := 0,
    cvLists := 0, cvCount := 0, wdRun := false, wdPeriod := 1000, wdForce := 1000, wdLeft := 0, wdKey := 0,
    debugNormal := false, debugSecure := false, scanOpen := false, challenge := none,
    gateBlock := 0 }

end Sys2Proof.Machine
end

