-- ==== Sys2Proof/Machine/TypesPower.lean ====
section
/-! DEFINITION. State of the Power hall, boot, the stall sentinels and the supervisory port (chapters 18 and 19). -/

namespace Sys2Proof.Machine

/-- Device states (R543). -/
inductive DevState where
  | run | still | standby | dormant | off
  deriving DecidableEq, Repr

/-- Kinds of device-level reset, with their CAUSE codes (R549, R569): 0 power-on, 1 RESET_N, 2 watchdog,
3 DEVICE_RESET, 4 thermal restart. -/
inductive ResetKind where
  | powerOn | resetN | watchdog | deviceReset | thermal
  deriving DecidableEq, Repr

/-- How far the device has come (R555, R560, R597, R600). -/
inductive BootPhase where
  | dark             -- VAON below its threshold
  | supplyHold       -- VAON up, the supply hold runs (R601)
  | inReset          -- RESET_N low
  | awaitPush        -- the boot ROM waits for a pushed image
  | failed           -- no image passed (R560)
  | running          -- the firmware runs
  | shutdown         -- thermal shutdown (R568)
  deriving DecidableEq, Repr

/-- The boot configuration in force (R557). -/
structure BootCfg where
  density : Nat
  ranks : Nat
  rate : Nat
  map : Nat
  split : Bool
  portB : Nat
  vcore : Nat
  paceTarget : Nat
  rail : Nat
  splash : Nat
  deriving DecidableEq, Repr

/-- Before any image is accepted: the ranges' lowest values and R562's default pace target. -/
def BootCfg.zero : BootCfg :=
  { density := 0, ranks := 1, rate := 3200, map := 0, split := false, portB := 0, vcore := 750, paceTarget := 1250,
    rail := 0, splash := 0 }

/-- A unit that has stalled (R566): its stalls within the last second, its total, whether it recovers or is
isolated. -/
structure UnitRec where
  recovering : Bool
  isolated : Bool
  recent : List Nat            -- tide ns of its stalls
  total : Nat
  lastStall : U32
  deriving DecidableEq, Repr

def UnitRec.zero : UnitRec := { recovering := false, isolated := false, recent := [], total := 0, lastStall := 0 }

/-- A POWER_STATE entry in progress (R545). -/
structure Entering where
  target : DevState
  ticket : Option Ticket       -- none for a request carried out after a hold
  deriving DecidableEq, Repr

/-- A glitch filter (R587). -/
structure Filter where
  glitches : Nat
  time : Nat                   -- 0.1 µs units
  deriving DecidableEq, Repr

/-- The Power hall and AON. -/
structure Power where
  boot : BootPhase
  straps : Nat                 -- STRAP_BOOT[1:0] as sampled
  cfg : BootCfg
  linkFixed : Bool             -- a boot has set the link mode and port B's functions since power-on (R484)
  state : DevState
  stillOk : Bool
  domains : BitVec 12          -- on or in retention
  islands : BitVec 13
  domainsOffBy : BitVec 12     -- switched off by the manager
  islandsOffBy : BitVec 13
  pendOn : List (Bool × Nat)   -- switching on: (island?, index)
  wakeMask : BitVec 8
  wakeCause : BitVec 8
  wakeInstant : Nat
  stateT : U32
  entering : Option Entering
  woken : Bool                 -- the first frames after a wake have not started
  wokenFrom : DevState
  paceNow : Nat
  paceMin : Nat
  paceHist : List Nat          -- PACE_NOW of the last 1 ms, newest first
  paceAvs : Option Nat         -- lowest PACE_NOW since the last AVS step
  paceHigh : Nat               -- AVS steps in a row with the pace more than 4 % above the target
  paceLowFor : Nat             -- samples in a row with PACE_MIN below 1,000 at the ceiling
  paceLowAt : Option Nat       -- tide ns of the last PACE_LOW
  avsFault : Bool
  avsBad : Nat                 -- failed transactions in a row
  vcore : Nat
  vceil : Nat
  vmax : Nat
  vmin : Nat
  target : Nat
  paceLows : U32
  avsErrors : U32
  temps : List Int             -- 1/8 °C
  hottest : Nat
  level : Nat
  maxSeen : Int
  coolSince : Option Nat       -- tide ns since every sensor reads 100 °C or less
  cause : ResetKind
  thermalTrip : Bool
  source : Nat
  bootFail : Nat
  version : Nat
  deviceResets : Nat
  perstA : Nat
  perstB : Nat
  bootLen : U32
  bootStatus : Nat
  sentinels : List Nat
  units : Tab UnitRec
  faultLog : List FaultEntry   -- newest first
  faultSeq : Nat
  wdExpired : Bool             -- WD_RECORD
  wdSrDone : Bool
  wdSrMask : Nat
  wdCount : Nat
  wdLast : U32
  gateFails : Nat              -- gate failures since power-on (R535)
  filters : List Filter
  resetLow : Bool              -- RESET_N low after its filter
  perst : List Bool            -- port A, B held in PERST or hot reset
  deriving DecidableEq, Repr

/-- Default filter times (R587), 0.1 µs units. -/
def filterDefaults : List Nat :=
  List.replicate 3 10 ++ [1] ++ List.replicate 8 10 ++ List.replicate 8 100 ++ List.replicate 8 20

/-- The Power hall after power-on (R569): every domain on, no image verified yet. -/
def Power.zero : Power :=
  { boot := .running, straps := 0, cfg := .zero, linkFixed := false, state := .run, stillOk := true, domains := 0xFFF, islands := 0x1FFF,
    domainsOffBy := 0, islandsOffBy := 0, pendOn := [], wakeMask := 0xFF, wakeCause := 0, wakeInstant := 0,
    stateT := 0, entering := none, woken := false, wokenFrom := .run, paceNow := 0, paceMin := 0, paceHist := [],
    paceAvs := none, paceHigh := 0, paceLowFor := 0, paceLowAt := none, avsFault := false, avsBad := 0, vcore := 750,
    vceil := 900, vmax := 900, vmin := 650, target := 1250, paceLows := 0, avsErrors := 0,
    temps := List.replicate 12 0, hottest := 0, level := 0, maxSeen := 0, coolSince := none, cause := .powerOn,
    thermalTrip := false, source := 0, bootFail := 0, version := 0, deviceResets := 0, perstA := 0, perstB := 0,
    bootLen := 0, bootStatus := 0, sentinels := List.replicate 10 100, units := [], faultLog := [], faultSeq := 0,
    wdExpired := false, wdSrDone := false, wdSrMask := 0, wdCount := 0, wdLast := 0, gateFails := 0,
    filters := filterDefaults.map fun t => { glitches := 0, time := t }, resetLow := false, perst := [false, false] }

/-- The supervisory port (R573 to R586). `inT` is set while a transaction holds SUP_CS_N low. -/
structure Sup where
  safeHold : Bool
  sets : Nat
  faults : U32                 -- FAULT_SUMMARY as latched
  stalls : Nat
  lastUnit : Nat
  hbSecure : U32
  hbSched : U32
  hbCompose : U32
  alertMask : U32
  msgAlert : Bool
  errors : Nat
  rejects : Nat
  inSeq : U32
  inAck : U32
  outSeq : U32
  outAck : U32
  inMsg : List U32
  inTorn : Bool                -- IN was written again before its message was acknowledged (R586)
  outMsg : List U32
  deriving DecidableEq, Repr

def Sup.zero : Sup :=
  { safeHold := false, sets := 0, faults := 0, stalls := 0,
    lastUnit := 0, hbSecure := 0, hbSched := 0, hbCompose := 0, alertMask := 0xFFFFFFFF, msgAlert := true,
    errors := 0, rejects := 0, inSeq := 0, inAck := 0, outSeq := 0, outAck := 0, inMsg := List.replicate 16 0,
    inTorn := false, outMsg := List.replicate 16 0 }

end Sys2Proof.Machine
end

