-- ==== Sys2Proof/Machine/TypesTide.lean ====
section
/-! DEFINITION. State of tide time and the Oxtas domain (chapter 2). -/

namespace Sys2Proof.Machine

/-- Bring-up states of an Oxtas port (R57, R58). -/
inductive OxState where
  | down | signal | aligned | hello | measured | up
  deriving DecidableEq, Repr

/-- ROLE (TIDE_STATUS field map). -/
inductive Role where
  | standalone | master | member | isolated
  deriving DecidableEq, Repr

/-- A message waiting to leave through a port, or leaving: its kind (R56), its content and the blocks still to send. -/
structure OxMsg where
  kind : Nat
  content : List Byte
  left : Nat
  deriving DecidableEq, Repr

/-- One Oxtas port. -/
structure OxPort where
  enable : Bool
  state : OxState
  stopped : Bool               -- stopped in HELLO under R59 or R61
  hold : Bool                  -- the minimum 1 ms in DOWN runs (R58)
  signalSeen : Bool            -- both lanes show signal while held in DOWN
  clashed : Bool               -- OX_NODE_CLASH was raised since the port entered HELLO (R59)
  known : Bool                 -- the neighbour has reported its identity since the port entered HELLO
  child : Bool                 -- the neighbour takes this device as its parent (R63)
  delays : List Int            -- last measured delays, 1/8 ns, newest first, at most 16 (R60)
  lostMsgs : U32
  peerNode : Nat
  peerDomain : Nat
  peerPriority : Nat
  hops : Nat                   -- hops to the master through this port, 0x3F unknown
  masterNode : Nat             -- the master the neighbour announces
  masterPriority : Nat
  tx : List OxMsg              -- messages handed to the port and not yet sent whole, in order (R57)
  slots : Nat                  -- block slots the port has passed since it left DOWN (R56)
  eighths : Nat                -- part of a slot passed, in eighths
  lastSent : Option (Nat × List Byte)  -- last message sent whole: kind, content; the model's own view
  deriving DecidableEq, Repr

def OxPort.zero : OxPort :=
  { enable := false, state := .down, stopped := false, hold := false, signalSeen := false, clashed := false,
    known := false, child := false, delays := [], lostMsgs := 0, peerNode := 0, peerDomain := 0, peerPriority := 0,
    hops := 0x3F, masterNode := 0, masterPriority := 0, tx := [], slots := 0, eighths := 0, lastSent := none }

/-- A lock group's definition and still refresh (R69 to R75). Times t0 in ns, period in 2^-16 ns. -/
structure Group where
  t0 : Nat
  period : Nat
  leaderNode : Nat
  leaderOutput : Nat
  margin : Nat                 -- µs
  cutOffset : Nat              -- C of R138, in 2^-16 ns
  quiet : List (Nat × Nat × Nat) -- (this leader) members quiet: node × 8 + output, Adaptive-Sync range max and min, Hz
  members : List Nat           -- (this leader) members known, coded alike
  still : Bool
  divisor : Nat
  fromIndex : Nat              -- grid index from which the divisor applies
  wakeIndex : Option Nat       -- grid index named by WAKE (R75)
  heard : Bool                 -- another device has distributed the definition (R71)
  deriving DecidableEq, Repr

/-- A group not defined: wake margin at its default of 100 µs (R75). -/
def Group.zero : Group :=
  { t0 := 0, period := 0, leaderNode := 0, leaderOutput := 0, margin := 100, cutOffset := 0, quiet := [],
    members := [], still := false, divisor := 1, fromIndex := 0, wakeIndex := none, heard := false }

/-- An event channel (R76, R77). -/
structure EvChan where
  subs : List Issuer
  secure : Bool
  grants : List Nat
  discarded : U32
  deriving DecidableEq, Repr

def EvChan.zero : EvChan := { subs := [], secure := false, grants := [], discarded := 0 }

/-- An export slot (R78, R79). -/
structure Export where
  port : Nat
  channel : Nat
  compact : Bool
  node : Nat
  lastFrame : U32
  lastSent : List Byte         -- the newest image sent; the model's own view of the link
  lost : Bool                  -- STREAM_LOST was raised since the last image (R81)
  deriving DecidableEq, Repr

/-- An import slot (R80, R81). -/
structure Import where
  port : Nat
  compact : Bool
  owner : Owner
  node : Nat
  buf0 : Nat
  buf1 : Nat
  buf2 : Nat
  size : Nat
  latest : Option Nat          -- newest complete buffer
  frames : Nat                 -- frames received since the slot was set up
  sizes : List (Nat × Nat)     -- width and height of the frame in each buffer
  lastFrame : U32
  lost : Bool
  deriving DecidableEq, Repr

/-- The Tide hall. Time in 2^-16 ns (R40). -/
structure Tide where
  now : Nat
  latchHi : U32
  latchFrac : U16
  node : Nat
  domain : Nat
  priority : Nat
  joined : Bool                -- a DOMAIN_SET has been taken since reset
  hops : Nat
  stepSeen : Bool
  ppsReject : Bool
  ppsRejects : U32
  ppsSeen : Bool               -- a valid PPS edge has been used since the source was selected
  role : Role
  isoCause : Nat               -- why it is isolated: 1 too many hops (R62), 2 a step refused (R65)
  source : Nat
  holdover : Bool
  refOk : Bool
  returning : Bool             -- tide is slewed back to a recovered reference (R45)
  locked : Bool
  lockIn : Nat
  lockOut : Nat
  slew : Int                   -- 2^-16 ns still to slew
  rate : Int                   -- 0.01 ppb
  resid : Int                  -- part of a 2^-16 ns not yet added, in units of 2^-16 ns × 10^-11 (R40)
  stepPermit : Bool
  ppsOut : Bool
  ppsAt : Nat                  -- tide time at which TIDE_PPS_OUT went high, 2^-16 ns (R51)
  parent : Option Nat
  masterNode : Nat
  masterPriority : Nat
  electing : Bool
  joining : Bool               -- a parent is chosen and its time not yet taken (R65)
  domainLost : Bool            -- holdover under R66 or R67, until LOCKED
  ports : List OxPort
  groups : Tab (Option Group)
  channels : Tab EvChan
  exports : Tab (Option Export)
  imports : Tab (Option Import)
  deriving DecidableEq, Repr

/-- Tide at power-on: t = 0 in holdover until the reference is checked (R41, TIDE_STATUS). -/
def Tide.zero : Tide :=
  { now := 0, latchHi := 0, latchFrac := 0, node := 0, domain := 0, priority := 0, joined := false, hops := 0x3F,
    stepSeen := false, ppsReject := false, ppsRejects := 0, ppsSeen := false, role := .standalone, isoCause := 0, source := 0,
    holdover := true, refOk := false, returning := false, locked := false, lockIn := 0, lockOut := 0, slew := 0, rate := 0, resid := 0,
    stepPermit := false, ppsOut := false, ppsAt := 0, parent := none, masterNode := 0, masterPriority := 0, electing := false,
    joining := false, domainLost := false, ports := List.replicate 4 .zero, groups := [], channels := [], exports := [],
    imports := [] }

end Sys2Proof.Machine
end

