-- ==== Sys2Proof/Machine/State.lean ====
section
/-! DEFINITION. The state of the GD8 as plain data, its reset value, and the reasons a step can stop. -/

namespace Sys2Proof.Machine

/-- The reasons a step can stop with a fault: none. The spec gives every command, register access and event an
effect, so no meaning of this model faults. -/
inductive Fault where
  deriving DecidableEq, Repr

/-- The reasons a command has no meaning. -/
inductive Refusal where
  /-- Raised by the dispatch alone, for a row of the table that has no meaning yet. Safe: the machine stops. -/
  | notModelled (mnemonic : String)
  deriving DecidableEq, Repr

/-- Fuses (R534, R535, R556): they survive every reset, and each only ever gains. -/
structure Fuses where
  ownerKey : Option (List Byte)
  fieldSet : Bool
  returned : Bool
  rollback : Nat
  spares : Tab Nat           -- redundant columns in use of each pan bank (R482)
  deviceId : List Byte
  salt : List Byte
  passHash : List Byte
  deriving DecidableEq, Repr

/-- What left the device last on each way out: the value a PCIe read returned, the words a supervisory read
returned, what the debug gate showed, and what a link or controller was told. The model's own view. -/
structure Outbox where
  reply : Option Reply
  event : Option Event
  host : Option U64
  bytes : List Byte            -- bytes of a read through BAR2 or BAR4
  poisoned : Bool              -- and whether they carry the poisoned attribute
  secure : Option Status       -- how the secure controller's last request ended
  sup : List U32
  inMsg : List U32             -- the message the secure world took last from IN
  gate : List Byte
  cfg : Option Bool            -- how the last configuration request was answered: true, with Retry Status (R559)
  deriving DecidableEq, Repr

def Outbox.zero : Outbox :=
  { reply := none, event := none, host := none, bytes := [], poisoned := false, secure := none, sup := [], inMsg := [], gate := [], cfg := none }

/-- Everything a step may change, but for fuses and the queue of waiting commands. -/
structure Dev where
  tide : Tide
  pages : Tab Page                  -- 0 to 511 instances, 512 the manager, 513 the delegate
  insts : Tab Instance
  delegFirst : Nat
  delegCount : Nat
  reserved : List (Bool × Nat)      -- pages set aside for the manager: (pan?, device page) (R490)
  bar2 : List Nat                   -- VF BAR2 size of each port, MiB (R489)
  vfs : List Bool                   -- VF Enable of each port
  lifecycle : Nat                   -- in force since power-on (R534): 0 BLANK, 1 PROVISIONED, 2 FIELD, 3 RETURN
  nextTicket : Nat
  nextTxn : Nat                     -- 0 names no transaction
  nextSeq : Nat
  free : Nat                        -- the model's own: how many free values were drawn
  tickets : List Ticket             -- commands taken and not completed
  fences : List Fence
  launches : List Launch
  txns : List Txn
  tallies : List Tally
  baselines : List Baseline
  running : List Nat                -- the pages the command engines serve this round
  ready : Nat                       -- instances ready at the last round
  rounds : U32                      -- ROUNDS_ALL
  layers : Tab (Option Layer)
  uses : List Use
  outputs : List Output
  staging : List Claim
  pipes : List (Option (Nat × U32 × Nat))
  pipeNeeds : List (List Nat)       -- gang pairs that each pipe's band has still to pass (R193)
  gangs : List Gang                 -- their arbiters (R476)
  harvest : List Harvest
  aux : List AuxJob
  cv : List CvUnit
  monitors : Tab Monitor            -- key output × 16 + monitor
  touch : List TouchPort
  serials : Tab Nat                 -- next contact serial of each owner
  haptic : HapticUnit
  audio : Audio
  dram : Dram
  pan : Pan
  sec : Secure
  power : Power
  sup : Sup
  dramMem : List Host.Cell
  panMem : List Host.Cell
  fsA : List Host.Cell
  fsB : List Host.Cell
  guardBase : Nat                   -- 4 KiB pages of pan memory
  guardSize : Nat                   -- 4 KiB pages
  regionRefused : Bool
  raised : List Raised              -- events not yet written: of the step in progress, of a sleep, or waiting for a reply
  cause : Option Nat                -- ticket of the command at work in the step; the model's own
  result : List Byte                -- results left by the landing in progress; the model's own
  out : Outbox
  deriving DecidableEq, Repr

/-- The machine: the device, its fuses and the commands waiting. -/
structure State where
  dev : Dev
  fuses : Fuses
  pending : List Instr
  deriving DecidableEq, Repr

/-- A memory in its one form: addresses strictly rise and no listed byte is 0, what an unlisted byte reads as. -/
abbrev Memory.wf (m : List Host.Cell) : Prop :=
  (keysRise (m.map (·.1)) && m.all (fun c => decide (c.2 ≠ 0))) = true

/-- Fuses of a device as it leaves the foundry: no key, no field fuse, no rollback bit, no redundant column in use.
DESIGN CHOICE (log 3): the spec gives a device's fuses no value. -/
def Fuses.zero : Fuses :=
  { ownerKey := none, fieldSet := false, returned := false, rollback := 0, spares := [], deviceId := [], salt := [],
    passHash := [] }

/-- The device while the supply hold of a power-on reset runs (R549, R601): every field at its reset value. -/
def Dev.zero : Dev :=
  { tide := .zero, pages := [], insts := [], delegFirst := 0, delegCount := 0, reserved := [], bar2 := [1024, 1024], vfs := [false, false],
    lifecycle := 0, nextTicket := 0, nextTxn := 1, nextSeq := 0, free := 0, tickets := [], fences := [],
    launches := [], txns := [], tallies := [], baselines := [], running := [], ready := 0, rounds := 0, layers := [], uses := [],
    outputs := List.replicate 8 .zero, staging := [], pipes := List.replicate 8 none,
    pipeNeeds := List.replicate 8 [], gangs := List.replicate 16 .zero,
    harvest := List.replicate 8 .zero, aux := [], cv := List.replicate 16 .zero, monitors := [],
    touch := (List.range 8).map TouchPort.zero, serials := [], haptic := .zero, audio := .zero, dram := .zero,
    pan := .zero, sec := .zero, power := { Power.zero with boot := .supplyHold }, sup := .zero, dramMem := [],
    panMem := [], fsA := [], fsB := [], guardBase := 0, guardSize := 0, regionRefused := false, raised := [], cause := none,
    result := [], out := .zero }

/-- The machine right after power is applied (R549). -/
def State.reset : State := { dev := .zero, fuses := .zero, pending := [] }

end Sys2Proof.Machine
end

