-- ==== Sys2Proof/Machine/Memory.lean ====
section
/-! DEFINITION. Memories: bytes, the DRAM address maps, pan banks, windows, and reads and writes on behalf of an
issuer (chapters 14, 15 and 16). -/

namespace Sys2Proof.Machine

/-! ## Bytes -/

/-- The byte at an address; an unlisted address reads 0 (log 4). -/
def memGet (m : List Host.Cell) (a : Nat) : Byte := tget 0 m a

/-- Writes one byte, keeping the memory's one form. -/
def memPut (m : List Host.Cell) (a : Nat) (b : Byte) : List Host.Cell := tput 0 m a b

/-- Reads `n` bytes. -/
def memRead (m : List Host.Cell) (a n : Nat) : List Byte := (rangeFrom a n).map (memGet m)

/-- Writes bytes from an address upward. -/
def memWrite (m : List Host.Cell) : Nat → List Byte → List Host.Cell
  | _, [] => m
  | a, b :: r => memWrite (memPut m a b) (a + 1) r

/-- Zeroes `n` bytes. -/
def memZero (m : List Host.Cell) (a n : Nat) : List Host.Cell :=
  m.filter fun c => !(decide (a ≤ c.1) && decide (c.1 < a + n))

/-! ## DRAM -/

/-- Capacity of a full map in bytes: eight channels of 2, 3 or 4 GiB a rank (R423). -/
def fullCapacity (m : Dram) : Nat := 8 * (m.density + 2) * (if m.ranks2 then 2 else 1) * 2 ^ 30

/-- Channels of the map in force, in ascending order (R451). -/
def mapChannels (m : Dram) : List Nat := bitsSet 8 m.working

/-- Capacity of the map in force, in bytes (R451); 0 before a map exists. -/
def dramCapacity (m : Dram) : Nat := fullCapacity m / 8 * (mapChannels m).length

/-- Whether a channel is fenced. -/
def isFenced (m : Dram) (c : Nat) : Bool := (nthD Channel.zero c m.channels).state == .fenced

/-- The mask of fenced channels. -/
def fencedMask (m : Dram) : Nat := maskOf ((List.range 8).filter (isFenced m))

/-- WORKING: channels in the map and not fenced (R450, R456). -/
def workingMask (m : Dram) : Nat := maskOf ((mapChannels m).filter fun c => !isFenced m c)

/-- A DRAM address decoded (R435, R451). -/
structure DramAddr where
  channel : Nat
  group : Nat
  bank : Nat
  rank : Nat
  row : Nat
  column : Nat
  deriving DecidableEq, Repr

/-- Lowest bit of the channel field (R435). -/
def channelBit (map : Nat) : Nat := match map with | 0 => 8 | 1 => 6 | 2 => 6 | _ => 11

/-- Row bits: 16 for 16 Gb dies, 17 otherwise (R435). -/
def rowBits (m : Dram) : Nat := if m.density = 0 then 16 else 17

/-- Fields of a device address under the map in force. The channel is taken out as R451 states, which with eight
channels is R435; the fields above it keep the full map's order. -/
def decodeAddr (m : Dram) (a : Nat) : DramAddr :=
  let b := channelBit m.map
  let chs := mapChannels m
  let w := max 1 chs.length
  let u := a / 2 ^ b
  let ch := nthD 0 (u % w) chs
  let full := (u / w) * 2 ^ (b + 3) + a % 2 ^ b
  let r := b2n m.ranks2
  let q := rowBits m
  let rankAt := fun bit => if m.ranks2 then bitsOf full bit bit else 0
  match m.map with
  | 0 => { channel := ch, group := bitsOf full 15 14, bank := bitsOf full 17 16, rank := rankAt 18,
           row := (full >>> (18 + r)) % 2 ^ q, column := bitsOf full 13 11 * 4 + bitsOf full 7 6 }
  | 1 => { channel := ch, group := bitsOf full 10 9, bank := bitsOf full 17 16, rank := rankAt 18,
           row := (full >>> (18 + r)) % 2 ^ q, column := bitsOf full 15 11 }
  | 2 => { channel := ch, group := (full >>> (16 + r + q)) % 4, bank := bitsOf full 15 14, rank := rankAt 16,
           row := (full >>> (16 + r)) % 2 ^ q, column := bitsOf full 13 9 }
  | _ => { channel := ch, group := bitsOf full 17 16, bank := bitsOf full 15 14, rank := rankAt 18,
           row := (full >>> (18 + r)) % 2 ^ q, column := bitsOf full 10 6 }

/-- Why an access to the 64-byte unit at a device address fails, if it does (R450, R453). -/
def dramFail (m : Dram) (a : Nat) : Option MemFail :=
  if dramCapacity m ≤ a then some (if m.working = 0 then .fenced else .fault)
  else if m.remapping.isSome || isFenced m (decodeAddr m a).channel then some .fenced
  else none

/-! ## Pan memory -/

/-- Pan memory's size in bytes (R460). -/
def panBytes : Nat := 33554432

/-- Bank of a pan address (R461). -/
def panBank (a : Nat) : Nat := bitsOf a 17 12

/-- Word within the bank (R461). -/
def panWord (a : Nat) : Nat := bitsOf a 24 18 * 512 + bitsOf a 11 3

/-- Whether a 4 KiB pan page lies in the secure partition (R518). -/
def securePage (d : Dev) (p : Nat) : Bool := decide (d.sec.first ≤ p) && decide (p < d.sec.first + d.sec.count)

/-- First byte of the secure partition (R519). -/
def secureBase (d : Dev) : Nat := d.sec.first * 4096

/-- Updates a pan bank's record. -/
def updPanBank (b : Nat) (f : PanBank → PanBank) (d : Dev) : Dev :=
  { d with pan := { d.pan with banks := tput .zero d.pan.banks b (f (tget .zero d.pan.banks b)) } }

/-! ## Windows -/

/-- Page number of an issuer's command page (R83). -/
def pageKey : Issuer → Nat
  | .inst n => n
  | .manager => 512
  | .delegate => 513

/-- The issuer of a command page. -/
def issuerOfKey (k : Nat) : Issuer := if k = 512 then .manager else if k = 513 then .delegate else .inst k

/-- The device address and read-only flag that one byte of an issuer's memory names. Instances go through their window
(R490, R494); the manager and the delegate name device addresses (R160, R486). -/
def mapByte (d : Dev) (i : Issuer) (pan : Bool) (off : Nat) : Except MemFail (Nat × Bool) :=
  match i with
  | .inst n =>
    let t := tget Instance.zero d.insts n
    let sz := if pan then 4096 else 2097152
    match tget none (if pan then t.pan else t.dram) (off / sz) with
    | none => .error .fault
    | some (p, ro) => .ok (p * sz + off % sz, ro)
  | _ =>
    if pan then
      if off < panBytes then (if securePage d (off / 4096) then .error .fault else .ok (off, false))
      else .error .fault
    else .ok (off, false)

/-- The 64-byte units, each by its first byte named, that a range of bytes touches. -/
def unitsOf (off len : Nat) : List Nat :=
  if len = 0 then [] else
    (rangeFrom (off / 64) ((off + len - 1) / 64 - off / 64 + 1)).map fun u => max off (u * 64)

/-- Whether the DRAM domain and its island are on. -/
def dramOn (d : Dev) : Bool := d.power.domains.getLsbD 8 && d.power.islands.getLsbD 8

/-- Why an access to one unit of an issuer's memory fails (R87, R226, R494). DRAM that is switched off answers as fenced
memory does (R29, R242; DESIGN CHOICE, log 22). -/
def unitFail (d : Dev) (i : Issuer) (pan write : Bool) (off : Nat) : Option MemFail :=
  match mapByte d i pan off with
  | .error e => some e
  | .ok (a, ro) =>
    if write && ro then some .fault
    else if pan then none
    else if !dramOn d then some .fenced
    else dramFail d.dram a

/-- Why an access to a range of an issuer's memory fails: the first failing unit's reason. -/
def locFail (d : Dev) (i : Issuer) (pan write : Bool) (off len : Nat) : Option MemFail :=
  (unitsOf off len).findSome? (unitFail d i pan write)

/-- Whether a range of an issuer's memory is mapped (and writable), fenced or not (R85). -/
def locMapped (d : Dev) (i : Issuer) (pan write : Bool) (off len : Nat) : Bool :=
  (unitsOf off len).all fun u => match mapByte d i pan u with
    | .error _ => false
    | .ok (a, ro) => !(write && ro) && (pan || decide (a < dramCapacity d.dram))

/-- One byte of an issuer's memory; 0xFF where it cannot be read. -/
def locByte (d : Dev) (i : Issuer) (pan : Bool) (off : Nat) : Byte :=
  match mapByte d i pan off with
  | .error _ => 0xFF
  | .ok (a, _) => memGet (if pan then d.panMem else d.dramMem) a

/-- Bytes of an issuer's memory, without any check. -/
def locBytes (d : Dev) (i : Issuer) (pan : Bool) (off len : Nat) : List Byte :=
  (rangeFrom off len).map (locByte d i pan)

/-- Writes bytes into an issuer's memory, byte by byte through its window; bytes it cannot reach are dropped. -/
def locWrite (d : Dev) (i : Issuer) (pan : Bool) : Nat → List Byte → Dev
  | _, [] => d
  | off, b :: r =>
    match mapByte d i pan off with
    | .error _ => locWrite d i pan (off + 1) r
    | .ok (a, _) =>
      let d' := if pan then { d with panMem := memPut d.panMem a b } else { d with dramMem := memPut d.dramMem a b }
      locWrite d' i pan (off + 1) r

/-- The bytes of one row of a surface after another; the model's reads of rectangles. -/
def rowsOf (off pitch len : Nat) (n : Nat) : List (Nat × Nat) := (List.range n).map fun k => (off + k * pitch, len)

end Sys2Proof.Machine
end

