-- ==== Sys2Proof/Machine/Ports.lean ====
section
/-! DEFINITION. When bands are due, and the arbiters of the pan memory's bank ports, whose ranks follow that (chapter 15). -/

namespace Sys2Proof.Machine

/-- Tide time in ns (R40). -/
def nowNs (d : Dev) : Nat := d.tide.now / 65536

def outOf (d : Dev) (o : Nat) : Output := nthD .zero o d.outputs

def hTotal (m : Mode) : Nat := m.hActive + m.hFront + m.hSync + m.hBack
def vTotal (m : Mode) : Nat := m.vActive + m.vFront + m.vSync + m.vBack
/-- Line time in 2^-16 ns. -/
def lineTime (m : Mode) : Nat := roundDiv (hTotal m * 1000000 * 65536) (max 1 m.clock)

/-! ## Timing -/

/-- Start of a flight's frame as it is predicted now, in 2^-16 ns (R176, R222): one that has not started yet starts no
earlier than now. -/
def startOf (d : Dev) (o : Nat) (f : Flight) : Nat :=
  let x := outOf d o
  if x.scanning && (x.frame == f.frame || x.frame == f.frame + 1) then f.start else max f.start d.tide.now

/-- Instant at which scan-out of a flight's frame reaches the first line of a band, in 2^-16 ns. -/
def bandAt (d : Dev) (o : Nat) (f : Flight) (b : Nat) : Nat := startOf d o f + 8 * b * lineTime f.mode

/-- Deadline of a band (R220). -/
def bandDeadline (d : Dev) (o : Nat) (f : Flight) (b : Nat) : Nat := bandAt d o f b - f.guard * lineTime f.mode

/-- Write cut-off of a band (R228). -/
def bandCutoff (d : Dev) (o : Nat) (f : Flight) (b : Nat) : Nat := bandAt d o f b - lineTime f.mode

/-! ## Bank ports (R463, R470 to R474) -/

/-- Whether the band of a pan layer fetch is within 64 lines of its deadline (R463). -/
def fetchUrgent (d : Dev) : Bool :=
  d.staging.any fun c => c.pan != 0 &&
    (outOf d c.output).flights.any fun f => f.frame == c.frame && !f.retired &&
      decide (bandDeadline d c.output f c.band ≤ d.tide.now + 64 * lineTime f.mode)

/-- Whether tide time is within 8 samples of a block boundary (R463). -/
def nearBlock (d : Dev) : Bool :=
  let r := nowNs d % 1000000
  decide (48 * r ≤ 8000000) || decide (40000000 ≤ 48 * r)

/-- The rank that a requester presents now (R463, R474). -/
def portRank (d : Dev) (h : Bool) (r : Nat) : Nat :=
  if h then (if r = 4 then 2 else if r ≤ 3 then 1 else 0) else
  match r with
  | 0 => 3 | 1 => 3
  | 2 => if fetchUrgent d then 2 else 1
  | 3 => 2 | 4 => 1
  | 5 => if nearBlock d then 2 else 1
  | _ => 0

/-- The waiting request that an arbiter grants (R470): the highest rank, then the first from the pointer on. -/
def portPick (rank : Nat → Nat) (p : PanPort) : Option Nat :=
  ((List.range 7).map fun k => (p.next + k) % 7).find? fun r =>
    p.waiting.contains r && p.waiting.all fun q => decide (rank q ≤ rank r)

/-- One requester is granted, and the pointer moves past it. -/
def PanPort.granted (r : Nat) (p : PanPort) : PanPort := { next := (r + 1) % 7, waiting := p.waiting.filter (· != r) }

/-- Grants in turn until a requester has been granted. -/
def portServe (rank : Nat → Nat) (r : Nat) : Nat → PanPort → PanPort
  | 0, p => p
  | n + 1, p =>
    match portPick rank p with
    | none => p
    | some q => if q = r then p.granted q else portServe rank r n (p.granted q)

def PanPort.ask (r : Nat) (p : PanPort) : PanPort :=
  if p.waiting.contains r then p else { p with waiting := p.waiting ++ [r] }

def updPanPort (k : Nat) (f : PanPort → PanPort) (d : Dev) : Dev :=
  { d with pan := { d.pan with ports := tput .zero d.pan.ports k (f (tget .zero d.pan.ports k)) } }

/-- The port of a bank that a requester code of R483 uses. -/
def portKey (bank req : Nat) : Nat := bank * 2 + b2n (decide (128 ≤ req))

/-- A request begins to wait at a port. -/
def portAsk (bank req : Nat) : Dev → Dev := updPanPort (portKey bank req) (PanPort.ask (req % 128))

/-- An access passes the arbiter of its port: those that go before it are granted first. -/
def portPass (bank req : Nat) (d : Dev) : Dev :=
  updPanPort (portKey bank req) (fun p => portServe (portRank d (decide (128 ≤ req))) (req % 128) 7 (p.ask (req % 128))) d

/-- Pan addresses of the words that a range touches. -/
def panWords (a len : Nat) : List Nat :=
  if len = 0 then [] else (rangeFrom (a / 8) ((a + len - 1) / 8 - a / 8 + 1)).map (· * 8)

/-- An access to a range of pan memory passes the arbiter of each bank it reaches. -/
def portAccess (req a len : Nat) (d : Dev) : Dev :=
  if len = 0 then d else
  (rangeFrom (a / 4096) ((a + len - 1) / 4096 - a / 4096 + 1)).foldl (fun d page => portPass (page % 64) req d) d

/-- While nothing else comes, each port grants one request that waits (log 154). -/
def servePorts (d : Dev) : Dev :=
  (tkeys d.pan.ports).foldl (fun d k => updPanPort k (fun p =>
    match portPick (portRank d (k % 2 == 1)) p with
    | some r => p.granted r
    | none => p) d) d

end Sys2Proof.Machine
end

