-- ==== Sys2Proof/Machine/Ops.lean ====
section
/-! DEFINITION. Named operations over the device: tables, messages, events, replies, free values (chapter 3). -/

namespace Sys2Proof.Machine

/-! ## Reading and updating -/

/-- Tide time [31:0]. -/
def now32 (d : Dev) : U32 := BitVec.ofNat 32 (nowNs d)

def pageOf (d : Dev) (k : Nat) : Page := tget .zero d.pages k
def updPage (k : Nat) (f : Page → Page) (d : Dev) : Dev := { d with pages := tput .zero d.pages k (f (pageOf d k)) }
def instOf (d : Dev) (n : Nat) : Instance := tget .zero d.insts n
def updInst (n : Nat) (f : Instance → Instance) (d : Dev) : Dev :=
  { d with insts := tput .zero d.insts n (f (instOf d n)) }
def updOut (o : Nat) (f : Output → Output) (d : Dev) : Dev := { d with outputs := modifyAt f o d.outputs }
def queueOf (p : Page) (q : Nat) : SubQueue := if q = 0 then p.q0 else p.q1
def updQueue (k q : Nat) (f : SubQueue → SubQueue) (d : Dev) : Dev :=
  updPage k (fun p => if q = 0 then { p with q0 := f p.q0 } else { p with q1 := f p.q1 }) d

/-- The owner an issuer is. -/
def ownerOf : Issuer → Owner
  | .inst n => .inst n
  | .manager => .manager
  | .delegate => .delegate

/-- The page of an owner; none for the secure world. -/
def ownerPage : Owner → Option Nat
  | .inst n => some n
  | .manager => some 512
  | .delegate => some 513
  | .secure => none

def ownerPages (o : Owner) : List Nat := (ownerPage o).toList

/-- Whether a power domain (R539 index) is on. -/
def domainOn (d : Dev) (i : Nat) : Bool := d.power.domains.getLsbD i
/-- Whether an island (R542 index) is on. -/
def islandOn (d : Dev) (i : Nat) : Bool := d.power.islands.getLsbD i

/-- Whether the firmware runs and the command engines are powered (R113, R555). -/
def alive (d : Dev) : Bool :=
  d.power.boot == .running && domainOn d 1 && (d.power.state == .run || d.power.state == .still)

/-- The record of a unit (R566). -/
def unitOf (d : Dev) (u : Nat) : UnitRec := tget .zero d.power.units u
/-- Whether a unit's boundaries are closed: it has stalled and not been reopened (R566). -/
def unitClosed (d : Dev) (u : Nat) : Bool := (unitOf d u).recovering || (unitOf d u).isolated

/-- Whether the secure firmware runs: its requests reach the GD8 (R516, R517). A controller that has stalled is halted
(R34). -/
def secUp (d : Dev) : Bool := d.sec.running && domainOn d 2 && !unitClosed d 0x707

/-- Draws a fresh free value. -/
def drawNat (d : Dev) : Nat × Dev := (Config.freeNat d.free, { d with free := d.free + 1 })

/-! ## MSI-X (R103) -/

def vecOf (p : Page) (v : Nat) : Vector4 := match v with | 0 => p.v0 | 1 => p.v1 | 2 => p.v2 | _ => p.v3
def updVec (v : Nat) (f : Vector4 → Vector4) (p : Page) : Page :=
  match v with
  | 0 => { p with v0 := f p.v0 } | 1 => { p with v1 := f p.v1 } | 2 => { p with v2 := f p.v2 }
  | _ => { p with v3 := f p.v3 }

/-- Sends a message, or sets the pending bit of a masked vector. -/
def fireVec (x : Vector4) : Vector4 := if x.masked then { x with pending := true } else { x with sent := x.sent + 1 }

/-- Signals a vector of a page: at once, or under moderation for vectors 0 and 2. -/
def signalVec (v : Nat) (p : Page) : Page :=
  if !p.msixOn then p
  else updVec v (fun x =>
    if (v == 0 || v == 2) && p.irqMod != 0 then
      (if x.moderated then { x with owed := true } else { fireVec x with moderated := true })
    else fireVec x) p

/-! ## Events (R100 to R102) -/

/-- Bytes of an event (R100). -/
def eventBytes (e : Event) (lost : Bool) : List Byte :=
  leBytes 2 e.code ++ [BitVec.ofNat 8 (b2n lost + 2 * b2n e.shared), 0] ++ leBytes 4 e.subject ++ leBytes 8 e.stamp ++
    (e.payload ++ List.replicate 16 0).take 16

/-- The FAULT_SUMMARY bit that an event sets (R580, FAULT_SUMMARY field map). -/
def summaryBit (code subject : Nat) (payload : List Byte) (secure : Bool) : Option Nat :=
  let b := ((payload.head?).getD 0).toNat
  if code = 0x0C01 then some (24 + subject)
  else if code = 0x0504 || code = 0x0505 || code = 0x0507 then some (16 + subject)
  else if code = 0x0514 then some (8 + subject)
  else if code = 0x0D07 then some 7
  else if code = 0x0D06 then some 6
  else if code = 0x0F20 then some 5
  else if code = 0x0D03 && b = 1 then some 4
  else if code = 0x0D04 && decide (2 ≤ b) then some 3
  else if code = 0x0D02 then some 2
  else if (code = 0x0301 || code = 0x0302) && secure then some 1
  else none

/-- Raises an event: it is written after the reply of the command at work (R102); its FAULT_SUMMARY bit is set (R580). -/
def raiseAt (stamp : Nat) (code subject : Nat) (payload : List Byte) (pages : List Nat) (secure : Bool) (d : Dev) : Dev :=
  { d with
    sup := match summaryBit code subject payload secure with
      | some b => { d.sup with faults := d.sup.faults ||| BitVec.ofNat 32 (2 ^ b) }
      | none => d.sup
    raised := d.raised ++ [{ event := { code := code, shared := secure && !pages.isEmpty, subject := subject, stamp := stamp,
                                        payload := payload }, pages := pages, secure := secure, tag := d.cause }] }

def raise (code subject : Nat) (payload : List Byte) (pages : List Nat) (secure : Bool) (d : Dev) : Dev :=
  raiseAt (nowNs d) code subject payload pages secure d

/-- Raises an event for an object's owner. -/
def raiseOwner (code subject : Nat) (payload : List Byte) (o : Owner) (d : Dev) : Dev :=
  raise code subject payload (ownerPages o) (o == .secure) d

/-! ## Pan memory's check bits (R462) -/

/-- Ends a borrow of the march test without its result (R480): the page is restored; its first held access counts in
HELD, the abandon in the pass, and a page abandoned 16 times is skipped. -/
def abandonBorrow (d : Dev) : Dev :=
  match d.pan.borrowed with
  | none => d
  | some p =>
    let n := tget 0 d.pan.abandons p + 1
    let d := updPanBank (p % 64) (fun b => { b with
      borrowed := false, held := b.held + 1, skipped := b.skipped + BitVec.ofNat 32 (b2n (n == 16)) }) d
    { d with pan := { d.pan with
        borrowed := none, abandons := tput 0 d.pan.abandons p n,
        retry := if n = 16 then d.pan.retry.filter (·.1 != p)
          else d.pan.retry.filter (·.1 != p) ++ [(p, nowNs d)] } }

/-- An access to a range of pan memory passes its ports' arbiters (R470); a borrowed page it meets is restored first
(R480). -/
def touchPan (req a len : Nat) (d : Dev) : Dev :=
  let d := portAccess req a len d
  match d.pan.borrowed with
  | some p => if len ≠ 0 ∧ a / 4096 ≤ p ∧ p ≤ (a + len - 1) / 4096 then abandonBorrow d else d
  | none => d

/-- What a read of pan memory does to the error counters; `req` is the requester code of PAN_ECC (R483). The Bool
says that some word is uncorrectable. -/
def panScan (req a len : Nat) (d0 : Dev) : Dev × Bool :=
  let d := touchPan req a len d0
  (panWords a len).foldl (fun (acc : Dev × Bool) w =>
    let (d, bad) := acc
    if d.pan.double.contains w then
      let d := updPanBank (panBank w) (fun b => { b with uncorrectable := b.uncorrectable + 1 }) d
      let d := { d with pan := { d.pan with uncorrAll := d.pan.uncorrAll + 1 } }
      let n := (tget PanBank.zero d.pan.banks (panBank w)).uncorrectable
      (raise 0x0F20 (w / 8) (leBytes 2 (panBank w) ++ [BitVec.ofNat 8 req, 0] ++ leBytes 4 n.toNat)
        (if securePage d (w / 4096) then [] else [512]) true d, true)
    else if d.pan.single.contains w then
      (updPanBank (panBank w) (fun b => { b with corrected := b.corrected + 1 }) d, bad)
    else (d, bad)) (d, false)

/-- Whole-word writes clear a word's errors; a partial write of an uncorrectable word is dropped (R462). Answers the
device and whether the write of this word lands. -/
def panWordWrite (req w : Nat) (whole : Bool) (d : Dev) : Dev × Bool :=
  if d.pan.double.contains w && !whole then
    let d := updPanBank (panBank w) (fun b => { b with uncorrectable := b.uncorrectable + 1 }) d
    let d := { d with pan := { d.pan with uncorrAll := d.pan.uncorrAll + 1 } }
    let n := (tget PanBank.zero d.pan.banks (panBank w)).uncorrectable
    (raise 0x0F20 (w / 8) (leBytes 2 (panBank w) ++ [BitVec.ofNat 8 req, 1] ++ leBytes 4 n.toNat)
      (if securePage d (w / 4096) then [] else [512]) true d, false)
  else ({ d with pan := { d.pan with single := d.pan.single.erase w, double := d.pan.double.erase w } }, true)

/-- Writes bytes to pan memory at a pan address, word by word. -/
def panWrite (req a : Nat) (bytes : List Byte) (d0 : Dev) : Dev :=
  let d := touchPan req a bytes.length d0
  (panWords a bytes.length).foldl (fun d w =>
    let lo := max a w
    let hi := min (a + bytes.length) (w + 8)
    let (d, lands) := panWordWrite req w (lo == w && hi == w + 8) d
    if lands then { d with panMem := memWrite d.panMem lo ((bytes.drop (lo - a)).take (hi - lo)) } else d) d

/-- Reads bytes on behalf of an issuer: the bytes, or why they cannot be read. Pan reads count errors (R462). -/
def readLoc (req : Nat) (i : Issuer) (pan : Bool) (off len : Nat) (d : Dev) : Dev × Except MemFail (List Byte) :=
  match locFail d i pan false off len with
  | some e => (d, .error e)
  | none =>
    let (d', bad) := if pan then
        (unitsOf off len).foldl (fun (acc : Dev × Bool) u => match mapByte d i pan u with
          | .error _ => acc
          | .ok (a, _) =>
            let (d2, b) := panScan req a (min (off + len) ((u / 64 + 1) * 64) - u) acc.1
            (d2, acc.2 || b)) (d, false)
      else (d, false)
    if bad then (d', .error .fault) else (d', .ok (locBytes d i pan off len))

/-- Writes bytes on behalf of an issuer, through the window; pan words lose their errors when written whole (R462). -/
def putLoc (req : Nat) (i : Issuer) (pan : Bool) (off : Nat) (bytes : List Byte) (d : Dev) : Dev :=
  if !pan then locWrite d i false off bytes
  else (unitsOf off bytes.length).foldl (fun d u => match mapByte d i true u with
    | .error _ => d
    | .ok (a, _) =>
      panWrite req a ((bytes.drop (u - off)).take (min (off + bytes.length) ((u / 64 + 1) * 64) - u)) d) d

/-! ## Writing events -/

/-- Marks the tickets of a queue whose replies are lost (R87). -/
def orphanTickets (k q : Nat) (d : Dev) : Dev :=
  { d with tickets := d.tickets.map fun t =>
      if pageKey t.issuer == k && t.urgent == (q == 1) then { t with orphan := true } else t }

/-- Stops a queue (R87): 0 and 1 submission queues, 2 the event queue. -/
def stopQueue (k q : Nat) (why : MemFail) (d : Dev) : Dev :=
  let st := statusCode (match why with | .fault => .memFault | .fenced => .memFenced)
  let d := updPage k (fun p =>
    let p := if q = 2 then { p with eq := { p.eq with enable := false, running := false, lastStatus := st } }
      else if q = 0 then { p with q0 := { p.q0 with enable := false, running := false, draining := false,
                                                    lastStatus := st, promised := 0 } }
      else { p with q1 := { p.q1 with enable := false, running := false, draining := false, lastStatus := st,
                                      promised := 0 } }
    signalVec 3 { p with err := p.err ||| BitVec.ofNat 4 (2 ^ (q + 1)) }) d
  let d := if q = 2 then d else orphanTickets k q d
  if (pageOf d k).eq.running then raise 0x0101 q (leBytes 2 st) [k] false d else d

/-- Writes an event to a page's event queue (R100, R101). -/
def writeEvent (k : Nat) (e : Event) (d : Dev) : Dev :=
  let p := pageOf d k
  let q := p.eq
  if !(p.eventMask.getLsbD (e.code / 256)) then d
  else if !q.running || (q.tail + 1) % q.depth == q.head then
    updPage k (fun p => { p with eq := { p.eq with lost := p.eq.lost + 1, lostPending := true } }) d
  else
    let off := q.base.toNat + q.tail * 32
    match locFail d (issuerOfKey k) q.loc true off 32 with
    | some why =>
      stopQueue k 2 why (updPage k (fun p => { p with eq := { p.eq with lost := p.eq.lost + 1,
                                                                        lostPending := true } }) d)
    | none =>
      let d := putLoc 4 (issuerOfKey k) q.loc off (eventBytes e q.lostPending) d
      updPage k (fun p => signalVec 2 { p with eq := { p.eq with tail := (q.tail + 1) % q.depth,
                                                                 lostPending := false } }) d

/-- Writes an event to the secure event queue (R526, R537). -/
def writeSecureEvent (e : Event) (d : Dev) : Dev :=
  let s := d.sec
  let off := s.seqBaseLive.toNat + s.seqTail * 32
  if s.seqDepth = 0 || (s.seqTail + 1) % s.seqDepth == s.seqHead || s.count * 4096 < off + 32 then
    { d with sec := { s with seqLost := s.seqLost + 1, seqLostPending := true } }
  else
    { d with panMem := memWrite d.panMem (secureBase d + off) (eventBytes e s.seqLostPending),
             sec := { s with seqTail := (s.seqTail + 1) % s.seqDepth, seqLostPending := false,
                             intStatus := s.intStatus ||| 4 } }

/-- Delivers one raised event. -/
def deliver (r : Raised) (d : Dev) : Dev :=
  let d := { d with out := { d.out with event := some r.event } }
  let d := if r.secure then writeSecureEvent r.event d else d
  r.pages.foldl (fun d k => writeEvent k r.event d) d

/-- Raised events by occurrence stamp, those with equal stamps as they were raised (R101). -/
def byStamp (l : List Raised) : List Raised :=
  l.foldl (fun acc r => (acc.takeWhile fun u => decide (u.event.stamp ≤ r.event.stamp)) ++
    r :: acc.dropWhile fun u => decide (u.event.stamp ≤ r.event.stamp)) []

/-- Whether two events have a receiver in common. -/
def Raised.shares (a b : Raised) : Bool := (a.secure && b.secure) || a.pages.any b.pages.contains

/-- Whether an event must wait for a reply (R102); INSTANCE_STATE never does. -/
def mustWait (d : Dev) (r : Raised) : Bool :=
  r.event.code != 0x0102 && (r.tag.any (fun n => d.tickets.any (·.no == n)) || d.raised.any r.shares)

/-- Writes the raised events in the order of their stamps (R101). One whose command has not yet replied waits, and so do
the later ones of its receivers (log 143). With the command domain off all wait for it (DESIGN CHOICE, log 23). -/
def writeReady (d : Dev) : Dev :=
  if !domainOn d 1 then d else
  (byStamp d.raised).foldl (fun d r => if mustWait d r then { d with raised := d.raised ++ [r] } else deliver r d)
    { d with raised := [] }

/-- The end of a step: its events are written. -/
def flushEvents (d : Dev) : Dev := { writeReady d with cause := none }

/-- Raises an event that does not wait for a reply (INSTANCE_STATE, R102). -/
def raiseNow (code subject : Nat) (payload : List Byte) (pages : List Nat) (secure : Bool) (d : Dev) : Dev :=
  writeReady { d with raised := d.raised ++ [{
    event := { code := code, shared := false, subject := subject, stamp := nowNs d, payload := payload },
    pages := pages, secure := secure, tag := none }] }

/-- Does something in the course of a command, named by its ticket: the events report the command's effect. -/
def withCause (no : Option Nat) (f : Dev → Dev) (d : Dev) : Dev :=
  { f { d with cause := no.or d.cause } with cause := d.cause }

/-! ## Replies (R97, R112) -/

/-- Bytes of a reply (R97). -/
def replyBytes (r : Reply) : List Byte :=
  leBytes 4 r.tag.toNat ++ leBytes 2 (statusCode r.status) ++ leBytes 2 r.detail ++ leBytes 8 r.stamp ++
    (r.results ++ List.replicate 16 0).take 16

/-- Whether a status reports that the command took effect (R108). -/
def statusTook : Status → Bool
  | .ok => true
  | .lateApplied => true
  | _ => false

/-- Writes a reply into the ring of a ticket's queue, if that queue still runs, and signals it. -/
def writeReply (t : Ticket) (r : Reply) (d : Dev) : Dev :=
  let k := pageKey t.issuer
  let qn := b2n t.urgent
  let q := queueOf (pageOf d k) qn
  if t.orphan || !q.running then d
  else
    let off := q.rqBase.toNat + q.rqTail * 32
    match locFail d t.issuer q.rloc true off 32 with
    | some why => stopQueue k qn why d
    | none =>
      let d := putLoc 4 t.issuer q.rloc off (replyBytes r) d
      let d := updQueue k qn (fun q => { q with rqTail := (q.rqTail + 1) % q.depth, promised := q.promised - 1,
                                                replied := q.replied + 1 }) d
      updPage k (signalVec (if t.soon || t.urgent then 1 else 0)) d

/-- Completes one ticket: its reply is written, and every FENCE stops waiting for it. -/
def finishOne (t : Ticket) (st : Status) (detail : Nat) (res : List Byte) (d : Dev) : Dev :=
  let t := (d.tickets.find? (·.no == t.no)).getD { t with orphan := true }
  let st := if st == .ok && t.late then .lateApplied else st
  let r : Reply := { issuer := t.issuer, urgent := t.urgent, tag := t.tag, status := st, detail := detail,
                     stamp := nowNs d, results := res }
  let d := writeReply t r d
  { d with tickets := d.tickets.filter (·.no != t.no), out := { d.out with reply := some r },
           fences := d.fences.map fun f => { f with waits := f.waits.filter (· != t.no) } }

/-- Completes the FENCEs that wait for nothing more (R111). -/
def settleFences : Nat → Dev → Dev
  | 0, d => d
  | n + 1, d =>
    match d.fences.find? (·.waits.isEmpty) with
    | none => d
    | some f =>
      settleFences n (finishOne f.ticket .ok 0 (leBytes 4 f.count)
        { d with fences := d.fences.filter (·.ticket.no != f.ticket.no) })

/-- Completes a command: its one reply (R97). -/
def finish (t : Ticket) (st : Status) (detail : Nat) (res : List Byte) (d : Dev) : Dev :=
  let d := finishOne t st detail res d
  settleFences d.fences.length d

/-- Completes a command with no results. -/
def finishOk (t : Ticket) (d : Dev) : Dev := finish t .ok 0 [] d

/-- Completes a list of commands alike. -/
def finishAll (ts : List Ticket) (st : Status) (detail : Nat) (res : List Byte) (d : Dev) : Dev :=
  ts.foldl (fun d t => finish t st detail res d) d

/-- A ticket's byte string for results: 16-bit and 32-bit fields little-endian (R5). -/
def le16 (v : Nat) : List Byte := leBytes 2 v
def le32 (v : Nat) : List Byte := leBytes 4 v
def le64 (v : Nat) : List Byte := leBytes 8 v
def le8 (v : Nat) : List Byte := leBytes 1 v

/-- Bytes of four record words from word index `w` (0 past the end). -/
def fourWords (ws : List U32) (w : Nat) : List Byte :=
  (List.range 4).flatMap fun i => leBytes 4 (nthD (0 : U32) (w + i) ws).toNat

/-! ## The fault log (R106, R566) -/

/-- Adds a fault log entry: kind 0 stall, 1 isolation, 2 INTERNAL. -/
def logFault (unit kind handshake : Nat) (d : Dev) : Dev :=
  let e : FaultEntry := { unit_ := unit, kind := kind, handshake := handshake, stamp := nowNs d,
                          seq := d.power.faultSeq + 1 }
  { d with power := { d.power with faultLog := (e :: d.power.faultLog).take 256,
                                   faultSeq := d.power.faultSeq + 1 } }

/-! ## The shape of every meaning -/

/-- A row's meaning as an effect on the device: the step's events are written last (R102). -/
def onDev (f : Fuses → Dev → Dev) (s : State) : Host.Outcome State Fault Refusal :=
  .next { s with dev := flushEvents (f s.fuses s.dev) }

/-- A row's meaning that may also change fuses. -/
def onDevFuses (f : Fuses → Dev → Dev × Fuses) (s : State) : Host.Outcome State Fault Refusal :=
  let r := f s.fuses s.dev
  .next { s with dev := flushEvents r.1, fuses := r.2 }

end Sys2Proof.Machine
end

