-- ==== Sys2Proof/Machine/CmdSpec.lean ====
section
/-! DEFINITION. The shape in which every family says what its opcodes check and do: fields, rules over several fields,
ownership, resources and landing (R94, R125). -/

namespace Sys2Proof.Machine

/-- What a check sees: the device as it is, as it will stand once every SEQUENCED transaction has landed, the command,
and the transaction it is staged in. -/
structure Ctx where
  d : Dev
  view : Dev
  c : Cmd
  txn : Option Txn

/-- A failing status with its detail. -/
abbrev Chk := Option (Status × Nat)

/-- One parameter field: its packet offset, its bytes, and its own check (step 7 of R94). -/
structure Field where
  off : Nat
  n : Nat
  ok : Ctx → Nat → Option Status

/-- A field within lo..hi, else OUT_OF_RANGE. -/
def fRange (off n lo hi : Nat) : Field := ⟨off, n, fun _ v => if lo ≤ v && v ≤ hi then none else some .outOfRange⟩
/-- A code at most `hi`, else BAD_PARAM. -/
def fCode (off hi : Nat) : Field := ⟨off, 1, fun _ v => if v ≤ hi then none else some .badParam⟩
/-- A byte whose bits outside `mask` are reserved. -/
def fBits (off mask : Nat) : Field := ⟨off, 1, fun _ v => if v &&& mask = v then none else some .badParam⟩
/-- A field with no check of its own. -/
def fAny (off n : Nat) : Field := ⟨off, n, fun _ _ => none⟩
/-- A field with a check of its own. -/
def fIf (off n : Nat) (bad : Nat → Bool) (st : Status) : Field := ⟨off, n, fun _ v => if bad v then some st else none⟩

/-- Fields in order of byte offset; a byte that no field covers is reserved (R106). `n` bounds the bytes walked. -/
def fieldsCheck (x : Ctx) (fs : List Field) (stop : Nat) : Nat → Nat → Chk
  | 0, _ => none
  | n + 1, off =>
    if stop ≤ off then none
    else match fs.find? (·.off == off) with
      | some f =>
        match f.ok x (x.c.field f.off f.n) with
        | some st => some (st, off)
        | none => fieldsCheck x fs stop n (off + max 1 f.n)
      | none => if x.c.u8 off = 0 then fieldsCheck x fs stop n (off + 1) else some (.badParam, off)

/-- First of two checks that fails. -/
def Chk.or (a b : Chk) : Chk := match a with | some e => some e | none => b

/-- A check that fails with a status and detail when the condition holds. -/
def failIf (bad : Bool) (st : Status) (detail : Nat) : Chk := if bad then some (st, detail) else none

/-- First failing check of a list. -/
def firstFail (l : List Chk) : Chk := l.findSome? id

/-- What a family says of one opcode. -/
structure OpSpec where
  /-- Parameter length (step 4). -/
  len : Nat := 0
  /-- Parameter fields (step 7). -/
  fields : Ctx → List Field := fun _ => []
  /-- Rules over several fields, in the chapter's order (step 7). -/
  multi : Ctx → Chk := fun _ => none
  /-- The table the command copies (R152): what reading it does, and the table or the failure. -/
  copy : Option (Ctx → Dev × Except (Status × Nat) (List Byte)) := none
  /-- What step 3 checks beyond the issuer class. -/
  permit : Ctx → Bool := fun _ => true
  /-- Ownership (step 8). -/
  own : Ctx → Chk := fun _ => none
  /-- Packet offsets of 16-bit fields that may hold a provisional number (R121). -/
  prov : List Nat := []
  /-- Whether the command creates or claims an object without naming it (R121). -/
  creates : Cmd → Bool := fun _ => false
  /-- The lowest free object, in the state reached so far. -/
  alloc : Dev → Cmd → Option Nat := fun _ _ => none
  /-- Outputs at whose cut the change lands. -/
  outs : Dev → Change → List Nat := fun _ _ => []
  /-- Objects the change names: (kind, number). -/
  objs : Dev → Change → List (Nat × Nat) := fun _ _ => []
  /-- PREPARE step 1, in the state before the change. -/
  stillOwned : Dev → Change → Bool := fun _ _ => true
  /-- PREPARE steps 2 to 6: what fails, with the step and the status, given the state before the change, the state
  after it and the transaction's result. -/
  prep : Dev → Dev → Dev → Change → List (Nat × Status) := fun _ _ _ _ => []
  /-- Checks of step 10 that the chapter states, for commands of kinds N and J. -/
  step10 : Dev → Cmd → Chk := fun _ _ => none
  /-- Landing; the transaction's number says who waits for it. -/
  land : Nat → Change → Dev → Dev := fun _ _ d => d
  /-- Results of the single command's reply, from the device after landing. -/
  results : Dev → Change → List Byte := fun _ _ => []
  /-- A read's results, or a failure found while gathering them. -/
  read : Fuses → Dev → Cmd → Dev × Except (Status × Nat) (List Byte) := fun _ d _ => (d, .ok [])
  /-- A job's start, once every check has passed. -/
  start : Ticket → Cmd → Dev → Dev := fun t _ d => finishOk t d

/-- The transaction under a number. -/
def txnOf (d : Dev) (id : Nat) : Option Txn := d.txns.find? (·.id == id)

/-- Updates the transaction under a number. -/
def updTxn (id : Nat) (f : Txn → Txn) (d : Dev) : Dev :=
  { d with txns := d.txns.map fun t => if t.id == id then f t else t }

/-- Whether a field value is the provisional number of a create of the given opcode staged in the command's
transaction (R121). -/
def isProv (x : Ctx) (op : Op) (v : Nat) : Bool :=
  match x.txn with
  | none => false
  | some t => decide (0x8000 ≤ v) && (match t.changes[v - 0x8000]? with
      | some ch => ch.act == .cmd op
      | none => false)

/-! ## Layers and viewports, as several families need them -/

def layerOf (d : Dev) (n : Nat) : Option Layer := tget none d.layers n
def putLayer (n : Nat) (l : Option Layer) (d : Dev) : Dev := { d with layers := tput none d.layers n l }
def updLayer (n : Nat) (f : Layer → Layer) (d : Dev) : Dev :=
  match layerOf d n with
  | some l => putLayer n (some (f l)) d
  | none => d

/-- A layer field: 0 to 127 or a provisional number (R150). -/
def fLayer (off : Nat) : Field :=
  ⟨off, 2, fun x v => if v < 128 || isProv x .layerCreate v then none else some .outOfRange⟩

/-- Whether an owned object is open to an issuer: its owner, or the manager unless the secure world owns it (issuer O of
R104; log 18). -/
def mayName (ow : Owner) (i : Issuer) : Bool := ow == ownerOf i || (i == .manager && ow != .secure)

/-- Step 8 for a layer: it exists and is open to the issuer. -/
def ownLayer (x : Ctx) (off : Nat) : Chk :=
  let v := x.c.u16 off
  if 0x8000 ≤ v then none
  else match layerOf x.view v with
    | some l => if mayName l.owner x.c.issuer then none else some (.notOwner, 0)
    | none => some (.notOwner, 0)

/-- A viewport's key in an instance's table. -/
def vpKey (o slot : Nat) : Nat := o * 8 + slot

/-- The viewports an instance holds on an output (R496). -/
def viewportsOf (d : Dev) (n o : Nat) : List Rect :=
  (List.range 8).filterMap fun s =>
    let r := tget Rect.zero (instOf d n).viewports (vpKey o s)
    if r.w = 0 || r.h = 0 then none else some r

/-- The active area of an output; empty without a mode. -/
def activeOf (d : Dev) (o : Nat) : Rect :=
  match (outOf d o).mode with
  | none => .zero
  | some m => { x := 0, y := 0, w := m.hActive, h := m.vActive }

/-- The rectangles in which an owner's pixels may show on an output (R161). -/
def allowedOf (d : Dev) (ow : Owner) (o : Nat) : List Rect :=
  match ow with
  | .inst n => viewportsOf d n o
  | _ => let a := activeOf d o; if a.w = 0 then [] else [a]

/-- Whether an issuer holds a viewport on an output; the manager needs none. -/
def holdsViewport (d : Dev) (i : Issuer) (o : Nat) : Bool :=
  match i with
  | .inst n => !(viewportsOf d n o).isEmpty
  | .manager => true
  | .delegate => false

def Rect.empty (r : Rect) : Bool := r.w == 0 || r.h == 0

/-- The common part of two rectangles; of zero size where they do not meet. -/
def Rect.meet (a b : Rect) : Rect :=
  let x := max a.x b.x
  let y := max a.y b.y
  let r := min (a.x + a.w) (b.x + b.w)
  let t := min (a.y + a.h) (b.y + b.h)
  if x < r && y < t then { x := x, y := y, w := r - x, h := t - y } else .zero

/-- What remains of a rectangle once another is taken away: at most four rectangles. -/
def Rect.minus (a b : Rect) : List Rect :=
  let m := a.meet b
  if m.empty then [a] else
    ([{ x := a.x, y := a.y, w := a.w, h := m.y - a.y },
      { x := a.x, y := m.y + m.h, w := a.w, h := a.y + a.h - (m.y + m.h) },
      { x := a.x, y := m.y, w := m.x - a.x, h := m.h },
      { x := m.x + m.w, y := m.y, w := a.x + a.w - (m.x + m.w), h := m.h }] : List Rect).filter (!·.empty)

/-- Whether a rectangle lies wholly inside a union of rectangles. -/
def coveredBy (a : Rect) (rs : List Rect) : Bool :=
  (rs.foldl (fun left r => left.flatMap (·.minus r)) (if a.empty then [] else [a])).isEmpty

/-- The bounding box of rectangles. -/
def boundBox (rs : List Rect) : Rect :=
  match rs.filter (!·.empty) with
  | [] => .zero
  | r :: t => t.foldl (fun a b =>
      let x := min a.x b.x
      let y := min a.y b.y
      { x := x, y := y, w := max (a.x + a.w) (b.x + b.w) - x, h := max (a.y + a.h) (b.y + b.h) - y }) r

/-- Whether a point lies in a rectangle. -/
def Rect.has (r : Rect) (x y : Nat) : Bool :=
  decide (r.x ≤ x) && decide (x < r.x + r.w) && decide (r.y ≤ y) && decide (y < r.y + r.h)

/-- The visible part of a layer: its destination clipped to where its owner may show (R162). -/
def visibleRects (d : Dev) (l : Layer) : List Rect :=
  if l.src.isNone || l.crop.empty || l.dst.empty then []
  else ((allowedOf d l.owner l.output).map (l.dst.meet ·)).filter (!·.empty)

/-- Marks the bands of an output that a rectangle touches as damaged in its next frame (R180). -/
def damageRect (o : Nat) (r : Rect) (d : Dev) : Dev :=
  if r.empty then d
  else updOut o (fun x => { x with carry := x.carry ||| maskOf (rangeFrom (r.y / 8) ((r.y + r.h - 1) / 8 - r.y / 8 + 1)) }) d

def damageRects (o : Nat) (rs : List Rect) (d : Dev) : Dev := rs.foldl (fun d r => damageRect o r d) d

/-- Marks every band of an output's next frame as damaged. -/
def damageAll (o : Nat) (d : Dev) : Dev := updOut o (fun x => { x with allNext := true }) d

/-- Changes a layer, damaging its visible part before and after where it is visible (R180). -/
def changeLayer (n : Nat) (f : Layer → Layer) (d : Dev) : Dev :=
  match layerOf d n with
  | none => d
  | some l =>
    let d := if l.visible then damageRects l.output (visibleRects d l) d else d
    let l' := f l
    let d := if l'.visible then damageRects l'.output (visibleRects d l') d else d
    putLayer n (some l') d

end Sys2Proof.Machine
end

