-- ==== Sys2Proof/Machine/Contacts.lean ====
section
/-! DEFINITION. Contacts on touch ports, and what cancels them (R344, R355, R356). -/

namespace Sys2Proof.Machine

def portOf (d : Dev) (p : Nat) : TouchPort := nthD (.zero p) p d.touch
def updPort (p : Nat) (f : TouchPort → TouchPort) (d : Dev) : Dev := { d with touch := modifyAt f p d.touch }

/-- TOUCH_CONTACT (R356, R360): phase 0 down, 1 move, 2 up, 3 cancel; the owner alone hears of it. -/
def contactEvent (p phase cause : Nat) (c : Contact) (d : Dev) : Dev :=
  match c.owner with
  | none => d
  | some ow =>
    raiseOwner 0x0801 c.serial.toNat
      (le8 p ++ le8 c.ownerSlot ++ le8 phase ++ le8 cause ++ le16 (c.x / 16) ++ le16 (c.y / 16) ++
        le8 (c.x % 16 * 16 + c.y % 16) ++ le8 (portOf d p).output ++ le16 c.layer ++ le32 c.frame.toNat) ow d

/-- Cancels a contact (R355): its owner is told, and its identifier is ignored until it is reported lifted. -/
def cancelContact (p cause : Nat) (c : Contact) (d : Dev) : Dev :=
  contactEvent p 3 cause c (updPort p (fun x => { x with
    contacts := x.contacts.filter (·.slot != c.slot), ignored := c.ident :: x.ignored.filter (· != c.ident) }) d)

/-- Cancels the contacts of a port that a test selects, in slot order. -/
def cancelOn (p cause : Nat) (sel : Contact → Bool) (d : Dev) : Dev :=
  ((portOf d p).contacts.filter sel).foldl (fun d c => cancelContact p cause c d) d

/-- Cancels contacts on every port. -/
def cancelAll (cause : Nat) (sel : Contact → Bool) (d : Dev) : Dev :=
  (List.range 8).foldl (fun d p => cancelOn p cause sel d) d

/-- The output has been disabled (R355): the contacts of its ports are cancelled. -/
def cancelOutput (o : Nat) (d : Dev) : Dev :=
  (List.range 8).foldl (fun d p => if (portOf d p).output = o then cancelOn p 5 (fun _ => true) d else d) d

/-- An owner is quiesced, reset or destroyed (R355). -/
def cancelOwner (n : Nat) (d : Dev) : Dev := cancelAll 4 (fun c => c.owner == some (.inst n)) d

end Sys2Proof.Machine
end

