-- ==== Sys2Proof/Machine/Grid.lean ====
section
/-! DEFINITION. Lock groups: the grid of frame starts and the numbers of frames (chapter 2). -/

namespace Sys2Proof.Machine

def groupOf (d : Dev) (g : Nat) : Option Group := tget none d.tide.groups g
def updGroup (g : Nat) (f : Group → Group) (d : Dev) : Dev :=
  match groupOf d g with
  | some x => { d with tide := { d.tide with groups := tput none d.tide.groups g (some (f x)) } }
  | none => d

/-- The lock group of an output, if it is defined. -/
def lockOf (d : Dev) (o : Nat) : Option (Nat × Group) := do
  let g ← (outOf d o).group
  let x ← groupOf d g
  return (g, x)

/-- Outputs of this device in a group. -/
def groupOutputs (d : Dev) (g : Nat) : List Nat := (List.range 8).filter fun o => (outOf d o).group == some g

/-- Grid instant k of a group, in 2^-16 ns (R70). -/
def gridAt (x : Group) (k : Nat) : Nat := x.t0 * 65536 + k * x.period

/-- Grid index nearest to an instant. -/
def gridNear (x : Group) (t : Nat) : Nat := roundDiv (t - x.t0 * 65536) (max 1 x.period)

/-- First grid index at or after an instant. -/
def gridAfter (x : Group) (t : Nat) : Nat := ceilDiv (t - x.t0 * 65536) (max 1 x.period)

/-- Whether a group's frames are thinned at a grid index (R74): from the index that STILL_ENTER names up to the one that
WAKE names. -/
def groupStill (x : Group) (k : Nat) : Bool := x.still && decide (x.fromIndex ≤ k) && x.wakeIndex.all (decide <| k < ·)

/-- Whether a frame of a group starts at a grid index: every index, or the multiples of M (R74). -/
def startIndex (x : Group) (k : Nat) : Bool := !groupStill x k || k % max 1 x.divisor == 0

/-- Grid index of the frame after the one at index `k`. -/
def nextIndex (x : Group) (k : Nat) : Nat := ((rangeFrom (k + 1) (x.divisor + 1)).find? (startIndex x)).getD (k + 1)

/-- Whether a group is in still refresh, or about to be, with no WAKE since. -/
def inStill (x : Group) : Bool := x.still && x.wakeIndex.isNone

/-- Number of the frame after the one being scanned (R70, R74, R75). -/
def nextNumber (d : Dev) (o : Nat) : U32 :=
  let x := outOf d o
  if x.opening then x.frame else
  match lockOf d o with
  | some (_, g) => if x.scanning then BitVec.ofNat 32 (nextIndex g (gridNear g x.frameStart)) else x.frame + 1
  | none => x.frame + 1

end Sys2Proof.Machine
end

