-- ==== Sys2Proof/Machine/Layers.lean ====
section
/-! DEFINITION. Families 0x03 and 0x04: layers, scalers, colour (chapters 5 and 6). -/

namespace Sys2Proof.Machine

/-! ## Source formats (R153 to R157) -/

/-- Formats of R153. -/
def knownFormat (f : Nat) : Bool :=
  [0x01, 0x02, 0x03, 0x04, 0x05, 0x10, 0x11, 0x12, 0x13, 0x20, 0x30, 0x31].contains f

/-- Bytes of a pixel of plane 0, except crystal tiles. -/
def formatBytes (f : Nat) : Nat :=
  match f with
  | 0x01 | 0x02 | 0x04 | 0x13 => 4
  | 0x03 => 8
  | 0x05 => 3
  | 0x10 | 0x20 => 1
  | 0x11 | 0x12 => 2
  | _ => 4

def isCrystal (f : Nat) : Bool := f == 0x30 || f == 0x31
def is420 (f : Nat) : Bool := f == 0x10 || f == 0x11
def is422 (f : Nat) : Bool := f == 0x12 || f == 0x13

/-- Bytes between crystal header rows (R157). -/
def headerPitch (w : Nat) : Nat := ceilDiv (ceilDiv w 64 * 8) 64 * 64

/-- Alignment and pitch rules of R154 and R157: the packet offset of the first field that breaks one. -/
def sourceAlign (fmt w pitch p0 p1 : Nat) : Chk :=
  if isCrystal fmt then
    firstFail [failIf (pitch % 4096 != 0 || decide (pitch < ceilDiv w 64 * 4096)) .outOfRange 28,
      failIf (p0 % 4096 != 0) .outOfRange 32, failIf (p1 % 64 != 0) .outOfRange 40]
  else
    firstFail [failIf (pitch % 64 != 0 || decide (pitch < 64) || decide (1048576 < pitch) ||
        decide (pitch < w * formatBytes fmt)) .outOfRange 28,
      failIf (p0 % 64 != 0) .outOfRange 32, failIf (is420 fmt && p1 % 64 != 0) .outOfRange 40]

/-- The extents of a source's planes: (offset, bytes) (R154, R157). -/
def sourceExtents (s : Source) : List (Nat × Nat) :=
  if isCrystal s.format then
    [(s.plane0, s.pitch * (ceilDiv s.h 16 - 1) + ceilDiv s.w 64 * 4096),
     (s.plane1, headerPitch s.w * (ceilDiv s.h 16 - 1) + ceilDiv s.w 64 * 8)]
  else
    (s.plane0, s.pitch * (s.h - 1) + s.w * formatBytes s.format) ::
      (if is420 s.format then
        [(s.plane1, s.pitch * (ceilDiv s.h 2 - 1) + ceilDiv s.w 2 * 2 * formatBytes s.format)] else [])

/-- The issuer whose memory an owner names. -/
def issuerOf : Owner → Issuer
  | .inst n => .inst n
  | .delegate => .delegate
  | _ => .manager

/-- Import slot of a number. -/
def importOf (d : Dev) (s : Nat) : Option Import := tget none d.tide.imports s

/-- Width and height of the newest frame of an import slot. -/
def importSize (i : Import) : Option (Nat × Nat) := i.latest.bind (i.sizes[·]?)

/-- A source as it stands now: an import slot brings the size of its latest frame, 0 × 0 before the first (R80, R156). -/
def liveSource (d : Dev) (s : Source) : Source :=
  if s.mem ≠ 2 then s else
  match importOf d s.slot with
  | none => { s with pitch := 0, w := 0, h := 0 }
  | some i =>
    let z := (importSize i).getD (0, 0)
    { s with pitch := z.1 * (if i.compact then 3 else 4), w := z.1, h := z.2 }

/-! ## Scalers (R186 to R199) -/

/-- Scalers that a binding holds. -/
def Binding.members (b : Binding) : List Nat := if b.gang then [b.scaler, b.scaler + 1] else [b.scaler]

/-- Every binding with the kind and number of its object: kind 0 layer, 1 harvest channel. -/
def bindings (d : Dev) : List (Nat × Nat × Binding) :=
  (d.layers.filterMap fun e => (e.2.bind (·.binding)).map fun b => (0, e.1, b)) ++
    ((List.range 8).filterMap fun k => (nthD Harvest.zero k d.harvest).binding.map fun b => (1, k, b))

/-- Scalers held by objects other than one. -/
def scalersHeld (d : Dev) (kind obj : Nat) : List Nat :=
  (bindings d).flatMap fun (k, o, b) => if k = kind && o = obj then [] else b.members

/-- Lowest free scaler, or lowest free pair's even member (R187). -/
def freeScaler (d : Dev) (kind obj : Nat) (gang : Bool) : Option Nat :=
  let held := scalersHeld d kind obj
  if gang then ((List.range 16).map (· * 2)).find? fun s => !held.contains s && !held.contains (s + 1)
  else (List.range 32).find? fun s => !held.contains s

/-- The binding of an object. -/
def bindingOf (d : Dev) (kind obj : Nat) : Option Binding :=
  if kind = 0 then (layerOf d obj).bind (·.binding) else (nthD Harvest.zero obj d.harvest).binding

/-- The output of a scaled object. -/
def scaledOutput (d : Dev) (kind obj : Nat) : List Nat :=
  if kind = 0 then (layerOf d obj).toList.map (·.output) else [(nthD Harvest.zero obj d.harvest).output]

/-- Crop and destination sizes of a scaled object: for a harvest channel, the output's active area and the harvest
size (chapter 6). -/
def scaledSizes (d : Dev) (kind obj : Nat) : (Nat × Nat) × (Nat × Nat) :=
  if kind = 0 then match layerOf d obj with
    | some l => ((l.crop.w, l.crop.h), (l.dst.w, l.dst.h))
    | none => ((0, 0), (0, 0))
  else
    let h := nthD Harvest.zero obj d.harvest
    let a := activeOf d h.output
    ((a.w, a.h), (h.dstW, h.dstH))

/-- Line buffer length of a binding (R198). -/
def lineBuf (b : Binding) : Nat := if b.gang then 8192 else 4096

/-- Step in units of 2^-20 (R190). -/
def scalerStep (crop dst : Nat) : Nat := if dst = 0 then 0 else roundDiv (crop * 1048576) dst

/-- A ratio within 0.125 to 4.0 (R189); with both sizes zero there is none. -/
def ratioOk (crop dst : Nat) : Bool := (dst = 0 && crop = 0) || (decide (dst ≤ 8 * crop) && decide (crop ≤ 4 * dst))

/-- Sets an object's binding, with the damage of a scaler change (R180, R194). -/
def setBinding (kind obj : Nat) (b : Option Binding) (d : Dev) : Dev :=
  if kind = 0 then changeLayer obj (fun l => { l with binding := b }) d
  else { d with harvest := modifyAt (fun h => { h with binding := b }) obj d.harvest }

/-- Pair to which AUTO_GANG moves a single binding whose crop is too wide: its own pair, else the lowest free one
(R199). -/
def autoGang (d : Dev) (kind obj : Nat) (b : Binding) : Option Nat :=
  let held := scalersHeld d kind obj
  let mate := if b.scaler % 2 = 0 then b.scaler + 1 else b.scaler - 1
  if !held.contains mate then some (b.scaler / 2 * 2) else freeScaler d kind obj true

/-! ## Class W (R166, R213) -/

/-- What a normal-world change may not alter on a class W layer. -/
def watchedSame (a b : Layer) : Bool :=
  a.z == b.z && a.crop == b.crop && a.dst == b.dst && a.mode == b.mode && a.alpha == b.alpha && a.visible == b.visible &&
    (a.src.map fun s => (s.format, s.w, s.h)) == (b.src.map fun s => (s.format, s.w, s.h)) &&
    a.binding == b.binding && a.matrixOn == b.matrixOn && a.matrix == b.matrix && a.lut == b.lut && a.chroma == b.chroma

/-- Stacking: whether layer `a` numbered `na` lies above layer `b` numbered `nb` (R164). -/
def above (na : Nat) (a : Layer) (nb : Nat) (b : Layer) : Bool := decide (b.z < a.z) || (a.z == b.z && decide (nb < na))

/-- The visible rectangles of a layer that is composed. -/
def shownRects (d : Dev) (l : Layer) : List Rect := if l.visible then visibleRects d l else []

/-- Whether some layer that is not class W lies above a visible pixel of class W layer `n` (R166, R525). -/
def coveredW (d : Dev) (n : Nat) (l : Layer) : Bool :=
  d.layers.any fun e => match e.2 with
    | some m => !m.classW && m.output == l.output && above e.1 m n l &&
        (shownRects d m).any fun r => (shownRects d l).any fun q => !(r.meet q).empty
    | none => false

/-- Whether layer `n` lies above a class W layer's visible pixel. -/
def coversW (d : Dev) (n : Nat) (m : Layer) : Bool :=
  !m.classW && d.layers.any fun e => match e.2 with
    | some l => l.classW && m.output == l.output && above n m e.1 l &&
        (shownRects d m).any fun r => (shownRects d l).any fun q => !(r.meet q).empty
    | none => false

/-- Step 2 for a change to layer `n` (R166): a class W layer altered or destroyed, or a class W layer covered. -/
def classFail (before after result : Dev) (n : Nat) : List (Nat × Status) :=
  let altered := match layerOf before n with
    | some a => a.classW && (match layerOf after n with
        | some b => !watchedSame a b
        | none => true)
    | none => false
  let covers := match layerOf result n with
    | some m => coversW result n m
    | none => false
  if altered || covers then [(2, .classViolation)] else []

/-- Step 2 for a change to a layer's processing (R213): any, on a class W layer. -/
def watchFail (before : Dev) (n : Nat) : List (Nat × Status) :=
  if ((layerOf before n).map (·.classW)).getD false then [(2, .classViolation)] else []

/-! ## PREPARE step 3 for a layer (R151, R161, R189) -/

/-- Whether a source's planes lie wholly inside its owner's window, each page mapped (log 12). -/
def bufferInside (d : Dev) (ow : Owner) (s : Source) : Bool :=
  s.mem == 2 || (sourceExtents s).all fun (o, n) => locMapped d (issuerOf ow) (s.mem == 1) false o n

/-- Rules of PREPARE step 3 that layer `n` breaks in the result. A change answers for the fields it sets: `source` says that
it sets the source, `place` the destination; a layer clipped by an earlier change keeps its place (R162, R293; log 27). A
stream that has sent no frame has no size to check a crop against (log 142). -/
def layerFits (source place : Bool) (r : Dev) (n : Nat) : List (Nat × Status) :=
  match layerOf r n with
  | none => []
  | some l =>
    let bad : List (Bool × Status) :=
      (match l.src with
        | none => []
        | some s0 =>
          let s := liveSource r s0
          let sized := s.mem != 2 || s.w != 0
          [((s.mem == 2 && match importOf r s.slot with
              | some i => s.format != (if i.compact then 0x05 else 0x04)
              | none => false), Status.badParam),
           (sized && (decide (s.w < l.crop.x + l.crop.w) || decide (s.h < l.crop.y + l.crop.h)), .outOfRange),
           (is420 s.format && (l.crop.x % 2 + l.crop.y % 2 + l.crop.w % 2 + l.crop.h % 2 != 0), .outOfRange),
           (is422 s.format && (l.crop.x % 2 + l.crop.w % 2 != 0), .outOfRange),
           (source && !bufferInside r l.owner s, .outOfRange)]) ++
      [(place && !l.dst.empty && !coveredBy l.dst (allowedOf r l.owner l.output), .outOfRange),
       (place && !l.dst.empty && !coveredBy l.dst [activeOf r l.output], .outOfRange),
       (l.visible && (l.src.isNone || l.crop.empty || l.dst.empty), .outOfRange),
       (l.binding.isNone && (l.crop.w != l.dst.w || l.crop.h != l.dst.h), .outOfRange),
       (l.binding.isSome && !(ratioOk l.crop.w l.dst.w && ratioOk l.crop.h l.dst.h), .outOfRange)]
    (bad.filter (·.1)).map fun b => (3, b.2)

/-- Layers that exist on an output. -/
def layersOn (d : Dev) (o : Nat) : List (Nat × Layer) :=
  d.layers.filterMap fun e => e.2.bind fun l => if l.output = o then some (e.1, l) else none

/-- Layers that exist. -/
def layersAll (d : Dev) : List (Nat × Layer) := d.layers.filterMap fun e => e.2.map fun l => (e.1, l)

/-! ## Commands of family 0x03 (R150) -/

def layerObjs (_ : Dev) (ch : Change) : List (Nat × Nat) := [(0, ch.cmd.u16 24)]
def layerOuts (d : Dev) (ch : Change) : List Nat := (layerOf d (ch.cmd.u16 24)).toList.map (·.output)
def layerOwned (d : Dev) (ch : Change) : Bool :=
  match layerOf d (ch.cmd.u16 24) with
  | some l => mayName l.owner ch.cmd.issuer
  | none => false
/-- Step 2 of PREPARE for a change of a layer. -/
def layerPrep (before after result : Dev) (ch : Change) : List (Nat × Status) :=
  classFail before after result (ch.cmd.u16 24)

/-- Steps 2 and 3 of PREPARE for a change of a layer's source, place or visibility. -/
def shapePrep (source place : Bool) (before after result : Dev) (ch : Change) : List (Nat × Status) :=
  layerPrep before after result ch ++ layerFits source place result (ch.cmd.u16 24)

/-- A layer as LAYER_CREATE makes it (R148). -/
def newLayer (o z : Nat) (ow : Owner) : Layer :=
  { output := o, z := z, owner := ow, src := none, crop := .zero, dst := .zero, visible := false, input := false,
    mode := 1, alpha := 0xFF, classW := false, rate := 0, palette := [], click := none, binding := none,
    chroma := { matrix := 1, full := false, hInter := false, vInter := true, replicate := false },
    matrixOn := false, matrix := List.replicate 12 0, lut := .of .srgb }

def specLayerCreate : OpSpec where
  len := 1
  fields := fun _ => [fRange 24 1 0 7, fRange 26 2 0 1023]
  creates := fun _ => true
  alloc := fun d _ => (List.range 128).find? fun n => (layerOf d n).isNone
  outs := fun _ ch => [ch.cmd.u8 24]
  objs := fun _ ch => [(0, ch.obj)]
  prep := fun _ _ result ch =>
    match ch.cmd.issuer with
      | .inst n => if (viewportsOf result n (ch.cmd.u8 24)).isEmpty then [(3, .outOfRange)] else []
      | _ => []
  land := fun _ ch d => putLayer ch.obj (some (newLayer (ch.cmd.u8 24) (ch.cmd.u16 26) (ownerOf ch.cmd.issuer))) d
  results := fun _ ch => le16 ch.obj

/-- Destroys a layer, damaging what it showed (R180). Scalers bound to it are freed with it (R186). -/
def destroyLayer (n : Nat) (d : Dev) : Dev :=
  match layerOf d n with
  | none => d
  | some l => putLayer n none (if l.visible then damageRects l.output (visibleRects d l) d else d)

def specLayerDestroy : OpSpec where
  len := 1
  fields := fun _ => [fLayer 24]
  own := fun x => ownLayer x 24
  prov := [24]
  outs := layerOuts
  objs := layerObjs
  stillOwned := layerOwned
  prep := fun b a r ch => classFail b a r (ch.cmd.u16 24)
  land := fun _ ch d => destroyLayer (ch.cmd.u16 24) d

/-- A damage rectangle mapped to the output (R181). -/
def mapDamage (l : Layer) (r : Rect) : Rect :=
  let a := r.meet l.crop
  if a.empty then .zero else
  let a := if l.binding.isSome then
      ({ x := a.x - 4, y := a.y - 3, w := a.w + 4 + min 4 a.x, h := a.h + 3 + min 3 a.y } : Rect).meet l.crop
    else a
  let x0 := (a.x - l.crop.x) * l.dst.w / max 1 l.crop.w
  let x1 := ceilDiv ((a.x + a.w - l.crop.x) * l.dst.w) (max 1 l.crop.w)
  let y0 := (a.y - l.crop.y) * l.dst.h / max 1 l.crop.h
  let y1 := ceilDiv ((a.y + a.h - l.crop.y) * l.dst.h) (max 1 l.crop.h)
  { x := l.dst.x + x0, y := l.dst.y + y0, w := x1 - x0, h := y1 - y0 }

/-- The source a LAYER_SOURCE names; an import-slot source takes the slot's size, anew at each cut (R80, R156;
DESIGN CHOICE, log 142). -/
def sourceOf (d : Dev) (c : Cmd) : Source :=
  let mem := c.u8 27 % 4
  let slot := c.u8 27 / 4 % 4
  if mem = 2 then
    liveSource d { format := c.u8 26, mem := 2, slot := slot, pitch := 0, plane0 := 0, plane1 := 0, w := 0, h := 0 }
  else { format := c.u8 26, mem := mem, slot := 0, pitch := c.u32 28, plane0 := c.u64 32, plane1 := c.u64 40,
         w := c.u16 48, h := c.u16 50 }

def landLayerSource (ch : Change) (d : Dev) : Dev :=
  let c := ch.cmd
  let n := c.u16 24
  let s := sourceOf d c
  if c.bit 27 4 then
    let d := updLayer n (fun l => { l with src := some s }) d
    match layerOf d n with
    | none => d
    | some l =>
      if !l.visible then d else
      let r := mapDamage l { x := c.u16 52, y := c.u16 54, w := c.u16 56, h := c.u16 58 }
      damageRects l.output ((visibleRects d l).map (r.meet ·)) d
  else changeLayer n (fun l => { l with src := some s }) d

def specLayerSource : OpSpec where
  len := 5
  fields := fun x =>
    let imp := x.c.u8 27 % 4 == 2
    [fLayer 24, fIf 26 1 (fun v => !knownFormat v) .badParam,
     fIf 27 1 (fun v => v % 4 == 3 || decide (31 < v)) .badParam, fAny 28 4, fAny 32 8, fAny 40 8,
     if imp then fAny 48 2 else fRange 48 2 1 8192, if imp then fAny 50 2 else fRange 50 2 1 8192,
     fAny 52 2, fAny 54 2, fAny 56 2, fAny 58 2]
  multi := fun x => if x.c.u8 27 % 4 = 2 then none
    else sourceAlign (x.c.u8 26) (x.c.u16 48) (x.c.u32 28) (x.c.u64 32) (x.c.u64 40)
  own := fun x => (ownLayer x 24).or
    (if x.c.u8 27 % 4 = 2 then match importOf x.view (x.c.u8 27 / 4 % 4) with
      | some i => failIf (i.owner != ((layerOf x.view (x.c.u16 24)).map (·.owner)).getD (ownerOf x.c.issuer)) .notOwner 0
      | none => some (.notOwner, 0)
    else none)
  prov := [24]
  outs := layerOuts
  objs := layerObjs
  stillOwned := fun d ch => layerOwned d ch && (ch.cmd.u8 27 % 4 != 2 || (match importOf d (ch.cmd.u8 27 / 4 % 4) with
      | some i => some i.owner == (layerOf d (ch.cmd.u16 24)).map (·.owner)
      | none => false))
  prep := shapePrep true false
  land := fun _ ch d => landLayerSource ch d

/-- Landing of LAYER_PLACE. -/
def landLayerPlace (ch : Change) (d : Dev) : Dev :=
  let c := ch.cmd
  changeLayer (c.u16 24) (fun l => { l with
    z := c.u16 26,
    crop := { x := c.u16 28, y := c.u16 30, w := c.u16 32, h := c.u16 34 },
    dst := { x := c.u16 36, y := c.u16 38, w := c.u16 40, h := c.u16 42 } }) d

def specLayerPlace : OpSpec where
  len := 3
  fields := fun _ => [fLayer 24, fRange 26 2 0 1023, fRange 28 2 0 8191, fRange 30 2 0 8191, fRange 32 2 0 8192,
    fRange 34 2 0 8192, fRange 36 2 0 7679, fRange 38 2 0 4319, fRange 40 2 0 7680, fRange 42 2 0 4320, fAny 44 0]
  own := fun x => ownLayer x 24
  prov := [24]
  outs := layerOuts
  objs := layerObjs
  stillOwned := layerOwned
  prep := shapePrep false true
  land := fun _ ch d => landLayerPlace ch d

def specLayerBlend : OpSpec where
  len := 1
  fields := fun _ => [fLayer 24, fCode 26 2, fAny 27 1]
  own := fun x => ownLayer x 24
  prov := [24]
  outs := layerOuts
  objs := layerObjs
  stillOwned := layerOwned
  prep := layerPrep
  land := fun _ ch d => changeLayer (ch.cmd.u16 24) (fun l => { l with mode := ch.cmd.u8 26, alpha := ch.cmd.u8 27 }) d

/-- Landing of LAYER_ENABLE: only a VISIBLE that changes damages (R180). -/
def landLayerEnable (ch : Change) (d : Dev) : Dev :=
  let n := ch.cmd.u16 24
  let v := ch.cmd.bit 26 0
  let i := ch.cmd.bit 26 1
  match layerOf d n with
  | none => d
  | some l => if l.visible == v then updLayer n (fun l => { l with input := i }) d
    else changeLayer n (fun l => { l with visible := v, input := i }) d

def specLayerEnable : OpSpec where
  len := 1
  fields := fun _ => [fLayer 24, fBits 26 3]
  own := fun x => ownLayer x 24
  prov := [24]
  outs := layerOuts
  objs := layerObjs
  stillOwned := layerOwned
  prep := shapePrep false false
  land := fun _ ch d => landLayerEnable ch d

def specLayerRate : OpSpec where
  len := 1
  fields := fun _ => [fLayer 24, fRange 28 4 0 153600]
  own := fun x => ownLayer x 24
  prov := [24]
  outs := layerOuts
  objs := layerObjs
  stillOwned := layerOwned
  prep := layerPrep
  land := fun _ ch d => updLayer (ch.cmd.u16 24) (fun l => { l with rate := ch.cmd.u32 28 }) d

/-- Reads a table that a command copies (R152): wholly inside mapped, unfenced memory and aligned. -/
def readTable (i : Issuer) (pan : Bool) (off len align field : Nat) (d : Dev) :
    Dev × Except (Status × Nat) (List Byte) :=
  if off % align ≠ 0 then (d, .error (.outOfRange, field))
  else if (locFail d i pan false off len).isSome then (d, .error (.outOfRange, field))
  else match readLoc (if pan then 6 else 0) i pan off len d with
    | (d', .ok b) => (d', .ok b)
    | (d', .error _) => (d', .error (.memFault, field))

def specLayerPalette : OpSpec where
  len := 2
  fields := fun _ => [fLayer 24, fCode 26 1, fRange 28 2 0 255, fRange 30 2 1 256, fAny 32 8]
  multi := fun x => failIf (decide (256 < x.c.u16 28 + x.c.u16 30)) .outOfRange 28
  copy := some fun x => readTable x.c.issuer (x.c.u8 26 == 1) (x.c.u64 32) (4 * x.c.u16 30) 1 32 x.d
  own := fun x => ownLayer x 24
  prov := [24]
  outs := layerOuts
  objs := layerObjs
  stillOwned := layerOwned
  prep := layerPrep
  land := fun _ ch d =>
    let n := ch.cmd.u16 24
    let put := fun (l : Layer) => { l with palette := (List.range (ch.cmd.u16 30)).foldl (fun p k =>
      tput 0 p (ch.cmd.u16 28 + k) (leNat ((ch.table.drop (4 * k)).take 4))) l.palette }
    match layerOf d n with
    | some l => if (l.src.map (·.format)) == some 0x20 then changeLayer n put d else updLayer n put d
    | none => d

/-- Whether an issuer may arm a click on a haptic channel (R362). -/
def clickOpen (d : Dev) (i : Issuer) (ch : Nat) : Bool :=
  let h := nthD Haptic.zero ch d.haptic.channels
  match i with
  | .manager => true
  | .inst n => h.owner == some n || h.clickAny
  | .delegate => false

def specLayerClick : OpSpec where
  len := 1
  fields := fun _ => [fLayer 24, fRange 26 1 0 7, fRange 27 1 0 127, fAny 28 1, fRange 30 2 0 2000]
  own := fun x => (ownLayer x 24).or
    (failIf (x.c.u8 27 != 0 && !clickOpen x.view x.c.issuer (x.c.u8 26)) .notOwner 0)
  prov := [24]
  objs := layerObjs
  stillOwned := fun d ch => layerOwned d ch && (ch.cmd.u8 27 == 0 || clickOpen d ch.cmd.issuer (ch.cmd.u8 26))
  land := fun _ ch d => updLayer (ch.cmd.u16 24) (fun l => { l with
    click := if ch.cmd.u8 27 = 0 then none
      else some { channel := ch.cmd.u8 26, effect := ch.cmd.u8 27, amplitude := ch.cmd.u8 28, duration := ch.cmd.u16 30 } }) d

/-- Owner kind and number as the records code them. -/
def ownerKind : Owner → Nat
  | .inst _ => 0 | .manager => 1 | .delegate => 2 | .secure => 3
def ownerInst : Owner → Nat
  | .inst n => n
  | _ => 0

/-- The layer record (R149). -/
def layerRecord (d : Dev) (n : Nat) : List U32 :=
  match layerOf d n with
  | none => List.replicate 16 0
  | some l =>
    let v := boundBox (visibleRects d l)
    let s := l.src.getD { format := 0, mem := 0, slot := 0, pitch := 0, plane0 := 0, plane1 := 0, w := 0, h := 0 }
    let half := fun (hi lo : Nat) => word32 [(16, hi), (16, lo)]
    [word32 [(1, 1), (1, b2n l.visible), (1, b2n l.input), (1, b2n l.click.isSome), (2, b2n l.classW), (2, s.mem),
       (8, s.format), (3, l.output), (3, 0), (10, l.z)],
     word32 [(2, ownerKind l.owner), (6, 0), (1, b2n l.binding.isSome), (2, 0),
       (5, (l.binding.map (·.scaler)).getD 0), (7, 0), (9, ownerInst l.owner)],
     word32 [(8, l.alpha), (6, 0), (2, l.mode), (14, 0), (2, s.slot)],
     BitVec.ofNat 32 l.rate, half s.h s.w, BitVec.ofNat 32 s.pitch,
     BitVec.ofNat 32 s.plane0, BitVec.ofNat 32 (s.plane0 / 2 ^ 32),
     BitVec.ofNat 32 s.plane1, BitVec.ofNat 32 (s.plane1 / 2 ^ 32),
     half l.crop.y l.crop.x, half l.crop.h l.crop.w, half l.dst.y l.dst.x, half l.dst.h l.dst.w,
     half v.y v.x, half v.h v.w]

def specLayerQuery : OpSpec where
  len := 1
  fields := fun _ => [fLayer 24, fRange 26 1 0 3]
  own := fun x => ownLayer x 24
  read := fun _ d c => (d, .ok (fourWords (layerRecord d (c.u16 24)) (4 * c.u8 26)))

/-! ## Commands of family 0x04 (R214) -/

/-- The object field of a scaler command: a layer (or provisional) or a harvest channel 0–7. -/
def fScaled (off : Nat) : Field :=
  ⟨off, 2, fun x v => if x.c.u8 26 = 1 then (if v < 8 then none else some .outOfRange)
    else if v < 128 || isProv x .layerCreate v then none else some .outOfRange⟩

/-- Whether an issuer owns the object of a scaler command. -/
def ownsScaled (d : Dev) (i : Issuer) (kind obj : Nat) : Bool :=
  if kind = 0 then (match layerOf d obj with
    | some l => mayName l.owner i
    | none => false)
  else (nthD Harvest.zero obj d.harvest).owner.any (mayName · i)

def ownScaled (x : Ctx) : Chk :=
  if x.c.u8 26 = 0 && 0x8000 ≤ x.c.u16 24 then none
  else failIf (!ownsScaled x.view x.c.issuer (x.c.u8 26) (x.c.u16 24)) .notOwner 0

def scaledObjs (_ : Dev) (ch : Change) : List (Nat × Nat) := [(if ch.cmd.u8 26 = 0 then 0 else 2, ch.cmd.u16 24)]
def scaledOuts (d : Dev) (ch : Change) : List Nat := scaledOutput d (ch.cmd.u8 26) (ch.cmd.u16 24)
def scaledOwned (d : Dev) (ch : Change) : Bool := ownsScaled d ch.cmd.issuer (ch.cmd.u8 26) (ch.cmd.u16 24)

/-- Steps 2 and 3 for a scaled object. -/
def scaledPrep (before after result : Dev) (ch : Change) : List (Nat × Status) :=
  let k := ch.cmd.u8 26
  let n := ch.cmd.u16 24
  if k = 0 then classFail before after result n ++ layerFits false false result n
  else
    let (c, t) := scaledSizes result 1 n
    let h := nthD Harvest.zero n result.harvest
    if h.binding.isSome && !(ratioOk c.1 t.1 && ratioOk c.2 t.2) then [(3, .outOfRange)]
    else if h.binding.isNone && c != t then [(3, .outOfRange)] else []

/-- The binding a SCALER_BIND makes on the scaler that PREPARE assigned (R187, R194); 0x100 above it marks a pair. -/
def bindTo (ch : Change) : Binding :=
  { scaler := ch.obj % 256, gang := decide (256 ≤ ch.obj), autoGang := ch.cmd.bit 28 0, hset := .builtin 1,
    vset := .builtin 1 }

/-- The scaler a SCALER_BIND takes while others hold some (R187): the one it names, or the lowest free one or pair. -/
def pickScaler (held : List Nat) (c : Cmd) : Option Nat :=
  let gang := c.bit 28 1
  let free := fun s => !held.contains s && !(gang && held.contains (s + 1))
  let s := c.u8 27
  if s = 0xFF then ((if gang then (List.range 16).map (· * 2) else List.range 32).find? free).map (· + 256 * b2n gang)
  else if free s then some (s + 256 * b2n gang) else none

def specScalerBind : OpSpec where
  len := 1
  fields := fun _ => [fScaled 24, fCode 26 1, fIf 27 1 (fun v => decide (32 ≤ v) && v != 0xFF) .outOfRange, fBits 28 3]
  multi := fun x => failIf (x.c.bit 28 1 && x.c.u8 27 != 0xFF && x.c.u8 27 % 2 == 1) .badParam 27
  own := ownScaled
  prov := [24]
  alloc := fun d c => pickScaler (scalersHeld d (c.u8 26) (c.u16 24)) c
  outs := scaledOuts
  objs := fun d ch => scaledObjs d ch ++ (bindTo ch).members.map fun s => (1, s)
  stillOwned := scaledOwned
  prep := scaledPrep
  land := fun _ ch d => setBinding (ch.cmd.u8 26) (ch.cmd.u16 24) (some (bindTo ch)) d
  results := fun _ ch => le8 (ch.obj % 256)

def specScalerRelease : OpSpec where
  len := 1
  fields := fun _ => [fScaled 24, fCode 26 1]
  own := ownScaled
  prov := [24]
  outs := scaledOuts
  objs := scaledObjs
  stillOwned := fun d ch => scaledOwned d ch && (bindingOf d (ch.cmd.u8 26) (ch.cmd.u16 24)).isSome
  prep := scaledPrep
  land := fun _ ch d => setBinding (ch.cmd.u8 26) (ch.cmd.u16 24) none d

/-- Signed 16-bit entries of a table. -/
def tableInts (b : List Byte) : List Int := (List.range (b.length / 2)).map fun k => signed 16 (leNat ((b.drop (2 * k)).take 2))

/-- Whether the phases of a set of `taps` taps each sum to 1,024 (R197). -/
def phasesOk (taps : Nat) (t : List Int) : Bool :=
  (List.range 64).all fun f => ((t.drop (f * taps)).take taps).foldl (· + ·) 0 == 1024

def specScalerCoeff : OpSpec where
  len := 2
  fields := fun _ => [fScaled 24, fCode 26 1, fIf 27 1 (fun v => v == 0 || decide (3 < v)) .badParam, fRange 28 1 0 4,
    fCode 29 1, fAny 32 8]
  copy := some fun x =>
    if x.c.u8 28 ≠ 0 then (x.d, .ok []) else
    let hn := if x.c.bit 27 0 then 1024 else 0
    let vn := if x.c.bit 27 1 then 768 else 0
    match readTable x.c.issuer (x.c.u8 29 == 1) (x.c.u64 32) (hn + vn) 64 32 x.d with
    | (d, .error e) => (d, .error e)
    | (d, .ok b) =>
      let t := tableInts b
      if t.any fun v => decide (v < -2048) || decide (2047 < v) then (d, .error (.badParam, 32))
      else if (hn != 0 && !phasesOk 8 t) || (vn != 0 && !phasesOk 6 (t.drop (hn / 2))) then
        (d, .error (.outOfRange, 32))
      else (d, .ok b)
  own := ownScaled
  prov := [24]
  outs := scaledOuts
  objs := scaledObjs
  stillOwned := fun d ch => scaledOwned d ch && (bindingOf d (ch.cmd.u8 26) (ch.cmd.u16 24)).isSome
  prep := fun b a r ch => (if ch.cmd.u8 26 = 0 then watchFail b (ch.cmd.u16 24) else []) ++ scaledPrep b a r ch
  land := fun _ ch d =>
    let c := ch.cmd
    let t := tableInts ch.table
    let hn := if c.bit 27 0 then 512 else 0
    match bindingOf d (c.u8 26) (c.u16 24) with
    | none => d
    | some b =>
      let b := if c.bit 27 0 then { b with hset := if c.u8 28 = 0 then .loaded (t.take 512) else .builtin (c.u8 28) } else b
      let b := if c.bit 27 1 then { b with vset := if c.u8 28 = 0 then .loaded (t.drop hn) else .builtin (c.u8 28) } else b
      setBinding (c.u8 26) (c.u16 24) (some b) d

/-- Set code of the scaler record (R188). -/
def coefCode : Coef → Nat
  | .builtin n => n
  | .loaded _ => 0

/-- The scaler record (R188). -/
def scalerRecord (d : Dev) (s : Nat) : List U32 :=
  match (bindings d).find? fun (_, _, b) => b.members.contains s with
  | none => List.replicate 4 0
  | some (k, o, b) =>
    let (c, t) := scaledSizes d k o
    [word32 [(1, 1), (1, k), (1, b2n b.gang), (1, b2n b.autoGang), (3, coefCode b.hset), (3, coefCode b.vset),
       (15, 0), (7, o)],
     word32 [(9, 0), (23, scalerStep c.1 t.1)], word32 [(9, 0), (23, scalerStep c.2 t.2)],
     word32 [(16, lineBuf b), (16, c.1)]]

/-! ### LUTs (R206 to R212) -/

/-- Size of a LUT by target: 0 input, 1 store-encode, 2 panel. -/
def lutSize (target : Nat) : Nat := if target = 0 then 1024 else 4096

/-- Whether an entry of a loaded table is well formed: reserved bits clear (store, panel), finite (input). -/
def lutEntryFail (target v : Nat) : Option Status :=
  match target with
  | 0 => if v / 1024 % 32 = 31 then some .outOfRange else none
  | 1 => if 1024 ≤ v then some .badParam else none
  | _ => if 4096 ≤ v then some .badParam else none

/-- One component after a LUT_LOAD (R209): entries, a whole table, or BYPASS. -/
def loadComp (mode first : Nat) (entries : List Nat) (k : LutComp) : LutComp :=
  match mode with
  | 0 => { k with bypass := false, patch := (List.range entries.length).foldl (fun p j =>
            tput none p (first + j) (some (nthD 0 j entries))) k.patch }
  | 1 => LutComp.of .identity
  | 2 => LutComp.of .srgb
  | _ => { k with bypass := true }

/-- Components of a mask in the order R, G, B. -/
def maskComps (m : Nat) : List Nat := bitsSet 3 m

def loadLut (c : Cmd) (table : List Byte) (l : Lut) : Lut :=
  let comps := maskComps (c.u8 27)
  let n := c.u16 32
  let part := fun k => (List.range n).map fun j => leNat ((table.drop (2 * (comps.idxOf k * n + j))).take 2)
  let one := fun k (x : LutComp) => if comps.contains k then loadComp (c.u8 28) (c.u16 30) (part k) x else x
  { r := one 0 l.r, g := one 1 l.g, b := one 2 l.b }

def specLutLoad : OpSpec where
  len := 3
  fields := fun x =>
    [⟨24, 2, fun x v => if x.c.u8 26 = 0 then (if v < 128 || isProv x .layerCreate v then none else some .outOfRange)
        else if v < 8 then none else some .outOfRange⟩,
     fCode 26 2, fIf 27 1 (fun v => v == 0 || decide (7 < v)) .badParam, fCode 28 3,
     if x.c.u8 28 = 0 then fCode 29 1 else fAny 29 1, fAny 30 2, fAny 32 2, fAny 40 8]
  multi := fun x =>
    (failIf (x.c.u8 26 == 1 && x.c.u8 28 == 3 || x.c.u8 26 == 2 && decide (2 ≤ x.c.u8 28)) .badParam 26).or
    (failIf (x.c.u8 28 == 0 && (x.c.u16 32 == 0 || decide (lutSize (x.c.u8 26) < x.c.u16 30 + x.c.u16 32)))
      .outOfRange (if x.c.u16 32 = 0 then 32 else 30))
  copy := some fun x =>
    if x.c.u8 28 ≠ 0 then (x.d, .ok []) else
    let n := (maskComps (x.c.u8 27)).length * x.c.u16 32
    match readTable x.c.issuer (x.c.u8 29 == 1) (x.c.u64 40) (2 * n) 64 40 x.d with
    | (d, .error e) => (d, .error e)
    | (d, .ok b) =>
      match (List.range n).findSome? fun k => lutEntryFail (x.c.u8 26) (leNat ((b.drop (2 * k)).take 2)) with
      | some st => (d, .error (st, 40))
      | none => (d, .ok b)
  own := fun x =>
    if x.c.u8 26 = 0 then ownLayer x 24
    else (failIf (x.c.issuer != .manager) .notOwner 0).or
      (failIf (x.c.u8 26 == 2 && x.d.sec.lutLock.getLsbD (x.c.u16 24)) .notPermitted 0)
  prov := [24]
  outs := fun d ch => if ch.cmd.u8 26 = 0 then layerOuts d ch else [ch.cmd.u16 24]
  objs := fun _ ch => [(if ch.cmd.u8 26 = 0 then 0 else 3, ch.cmd.u16 24)]
  stillOwned := fun d ch => if ch.cmd.u8 26 = 0 then layerOwned d ch else true
  prep := fun b a r ch => if ch.cmd.u8 26 = 0 then layerPrep b a r ch else []
  land := fun _ ch d =>
    let c := ch.cmd
    match c.u8 26 with
    | 0 => changeLayer (c.u16 24) (fun l => { l with lut := loadLut c ch.table l.lut }) d
    | 1 => damageAll (c.u16 24) (updOut (c.u16 24) (fun o => { o with storeLut := loadLut c ch.table o.storeLut }) d)
    | _ => updOut (c.u16 24) (fun o => { o with panelLut := loadLut c ch.table o.panelLut }) d

def specMatrixSet : OpSpec where
  len := 4
  fields := fun _ => [fLayer 24, fBits 26 1] ++ (List.range 12).map (fun k => fAny (28 + 2 * k) 2)
  own := fun x => ownLayer x 24
  prov := [24]
  outs := layerOuts
  objs := layerObjs
  stillOwned := layerOwned
  prep := layerPrep
  land := fun _ ch d => changeLayer (ch.cmd.u16 24) (fun l => { l with
    matrixOn := ch.cmd.bit 26 0,
    matrix := (List.range 12).map fun k => signed 16 (ch.cmd.u16 (28 + 2 * k)) }) d

def specChromaSet : OpSpec where
  len := 1
  fields := fun _ => [fLayer 24, fCode 26 2, fCode 27 1,
    fIf 28 1 (fun v => decide (1 < v % 4) || decide (1 < v / 4 % 4) || decide (31 < v)) .badParam]
  own := fun x => ownLayer x 24
  prov := [24]
  outs := layerOuts
  objs := layerObjs
  stillOwned := layerOwned
  prep := fun b a r ch => watchFail b (ch.cmd.u16 24) ++ layerPrep b a r ch
  land := fun _ ch d => changeLayer (ch.cmd.u16 24) (fun l => { l with chroma :=
    { matrix := ch.cmd.u8 26, full := ch.cmd.u8 27 == 1, hInter := ch.cmd.bit 28 0, vInter := ch.cmd.bit 28 2,
      replicate := ch.cmd.bit 28 4 } }) d

end Sys2Proof.Machine
end

