-- ==== Sys2Proof/Machine/Outputs.lean ====
section
/-! DEFINITION. Families 0x05 and 0x06: outputs, links and harvest channels (chapters 7, 8 and 9). -/

namespace Sys2Proof.Machine

/-! ## Modes (R287, R288) -/

/-- Minimum vertical blanking in lines. -/
def vBlank (m : Mode) : Nat := m.vFront + m.vSync + m.vBack
/-- Nominal frame period in 2^-16 ns. -/
def framePeriod (m : Mode) : Nat := roundDiv (hTotal m * vTotal m * 1000000 * 65536) (max 1 m.clock)
/-- Active pixels a second, exactly (R33). -/
def pixelRate (m : Mode) : Rat :=
  ((m.hActive * m.vActive * m.clock * 1000 : Nat) : Rat) / ((max 1 (hTotal m * vTotal m) : Nat) : Rat)
/-- Bytes of a frame-store pixel. -/
def storeBytes (m : Mode) : Nat := if m.compact then 3 else 4
/-- Pages of a partition (R250). -/
def pagesNeeded (m : Mode) : Nat := ceilDiv (m.hActive * m.vActive * storeBytes m) 1048576
/-- Number of bands (R171). -/
def bandCount (m : Mode) : Nat := ceilDiv m.vActive 8
/-- The mask of every band. -/
def allBands (m : Mode) : Nat := 2 ^ bandCount m - 1

/-- Usable kb/s of a lane by rate code (R285). -/
def usablePerLane (r : Nat) : Nat :=
  nthD 0 r [0, 1296000, 2160000, 4320000, 6480000, 9671000, 13056000, 19342000]
def usable (r l : Nat) : Nat := usablePerLane r * l
/-- Link need × 100, in kb/s (R288). -/
def linkNeed100 (m : Mode) : Nat := 101 * m.clock * (if m.bpc10 then 30 else 24)
/-- Whether a configuration's usable rate covers a mode's need. -/
def carries (m : Mode) (cfg : Nat × Nat) : Bool := decide (linkNeed100 m ≤ 100 * usable cfg.1 cfg.2)

/-- Rate codes a sink allows, highest first. -/
def sinkRates (k : Link) : List Nat :=
  ([7, 6, 5, 4, 3, 2, 1] : List Nat).filter fun r => decide (r ≤ k.sinkRate) && (r < 5 || k.sink128)

/-- Configurations in the order of R301, steps 1 and 2. -/
def configsOf (k : Link) (rate lanes : Nat) : List (Nat × Nat) :=
  if rate ≠ 0 && lanes ≠ 0 then [(rate, lanes)] else
  let top := if k.capsRead then k.sinkLanes else 4
  let rates := (if k.capsRead then sinkRates k else [7, 6, 5, 4, 3, 2, 1]).filter fun r => rate == 0 || decide (r ≤ rate)
  let ls := ([4, 2, 1] : List Nat).filter fun l => decide (l ≤ top) && (lanes == 0 || decide (l ≤ lanes))
  ls.flatMap fun l => rates.map fun r => (r, l)

/-- The candidate list of R301. -/
def candidatesOf (k : Link) (m : Mode) : List (Nat × Nat) := (configsOf k m.rate m.lanes).filter (carries m)

/-- Link capacity in kb/s (R288). -/
def linkCapacity (k : Link) (m : Mode) : Nat :=
  ((configsOf k m.rate m.lanes).map fun c => usable c.1 c.2).foldl max 0

/-- The mode of an OUTPUT_MODE packet. -/
def modeOf (c : Cmd) : Mode :=
  { rate := c.u8 25, lanes := c.u8 26, bpc10 := c.bit 27 0, compact := c.bit 27 1, dither := c.u8 27 / 4 % 4,
    async := c.bit 27 4, edp := c.bit 27 5, hpol := c.bit 27 6, vpol := c.bit 27 7, clock := c.u32 28,
    hActive := c.u16 32, hFront := c.u16 34, hSync := c.u16 36, hBack := c.u16 38, vActive := c.u16 40,
    vFront := c.u16 42, vSync := c.u16 44, vBack := c.u16 46, ssc := c.bit 48 0 }

/-! ## Frame store pages (R249 to R251) -/

/-- Pages of an output's home die that no other enabled output holds. -/
def freePages (d : Dev) (o : Nat) : List Nat :=
  let taken := ((List.range 8).filter fun p => p ≠ o && p / 4 = o / 4 && (outOf d p).enabled).flatMap
    fun p => (outOf d p).pages
  (List.range 128).filter (!taken.contains ·)

/-- LEAD, blanking and guard of an output in a result (R130, R179); no mode, no check. -/
def leadOk (r : Dev) (o : Nat) : Bool :=
  let x := outOf r o
  match x.mode with
  | none => true
  | some m => decide (x.lead ≤ m.vActive) && decide (x.guard + 8 ≤ x.lead + vBlank m)

/-- The summed pixel rate of enabled outputs is at most 9.6 G (R33). -/
def sumRateOk (r : Dev) : Bool :=
  decide ((r.outputs.filterMap fun o => if o.enabled then o.mode.map pixelRate else none).foldl (· + ·) 0 ≤ 9600000000)

/-! ## Links -/

def updLink (o : Nat) (f : Link → Link) : Dev → Dev := updOut o fun x => { x with link := f x.link }

/-- Owners of the layers on an output, as pages; the secure world owns none. -/
def layerOwnerPages (d : Dev) (o : Nat) : List Nat := ((layersOn d o).flatMap fun e => ownerPages e.2.owner).eraseDups

/-- The rate code, lanes and coding in force; none while no configuration has trained (R300, R307; log 30). -/
def Link.inForce (k : Link) : Nat × Nat × Bool := if k.trained then (k.rate, k.lanes, k.coding128) else (0, 0, false)

/-- Results of OUTPUT_TRAIN (R307). -/
def trainResults (k : Link) : List Byte := le8 k.inForce.1 ++ le8 k.inForce.2.1 ++ le8 k.attempts

/-- Ends a training sequence: the waiting OUTPUT_TRAIN commands complete (R307). -/
def endTraining (o : Nat) (ok : Bool) (d : Dev) : Dev :=
  let k := (outOf d o).link
  let d := updLink o (fun k => { k with training := false, trainWaits := [], candidates := [] }) d
  finishAll k.trainWaits (if ok then .ok else .timeout) 0 (trainResults k) d

/-- A sequence that found no configuration (R302). -/
def failTraining (o phase : Nat) (d : Dev) : Dev :=
  let x := outOf d o
  let d := updLink o (fun k => { k with failed := true, up := false, trained := false, rate := 0, lanes := 0 }) d
  let d := endTraining o false d
  raise 0x0504 o (le8 x.link.attempts ++ le8 phase ++ [0, 0] ++ le32 x.frame.toNat) [512] true d

/-- Marks the monitors whose rectangle is being scanned while the link goes down (LINK_DOWN of R333). -/
def markLinkDown (o : Nat) (d : Dev) : Dev :=
  let x := outOf d o
  { d with monitors := d.monitors.map fun e =>
      if e.1 / 16 = o && x.scanning && e.2.live.any (fun l => decide (l.rect.y ≤ x.line) && decide (x.line < l.rect.y + l.rect.h))
      then (e.1, { e.2 with linkDown := true }) else e }

/-- Whether an output's DP island and its domain are on (R299). -/
def dpOn (d : Dev) (o : Nat) : Bool := islandOn d o && domainOn d (if o < 4 then 6 else 7)

/-- Whether an output's island stays reset because its PLL failed to relock three times in a row (R309). -/
def Link.dead (k : Link) : Bool := decide (3 ≤ k.relocks) && !k.relocking

/-- Starts a training sequence over a list of configurations (R301, R302). With nothing plugged, with the island or its
domain off (R299; log 144) or left reset (R309) it ends at once. -/
def startTraining (o : Nat) (cands : List (Nat × Nat)) (d : Dev) : Dev :=
  let d := if (outOf d o).link.up then markLinkDown o d else d
  let d := updLink o (fun k => { k with training := true, failed := false, up := false, trained := false, asyncActive := false,
                                        audioActive := false, heldDown := false,
                                        attempts := 0, trains := k.trains + 1,
                                        candidates := cands, trainStart := nowNs d, lastPhase := 3 }) d
  let k := (outOf d o).link
  if cands.isEmpty || !k.hpd || !dpOn d o || k.dead then failTraining o 3 d else d

/-- Trains an output's link under its mode's candidate list. -/
def trainOutput (o : Nat) (d : Dev) : Dev :=
  match (outOf d o).mode with
  | some m => startTraining o (candidatesOf (outOf d o).link m) d
  | none => d

/-- Longest supported frame period of the sink in 2^-16 ns (R267); 0 without a range. -/
def sinkLongest (k : Link) : Nat := if k.sinkAsync && k.asyncMin ≠ 0 then 1000000000 * 65536 / k.asyncMin else 0

/-- Whether an output is eligible for still refresh (R267). -/
def stillEligible (x : Output) : Bool :=
  match x.mode with
  | none => false
  | some m => m.async && decide (framePeriod m + lineTime m ≤ sinkLongest x.link)

/-- The idle period as clamped (R267), in 2^-16 ns. -/
def idlePeriod (x : Output) : Nat :=
  match x.mode with
  | none => 0
  | some m => if x.still.idle = 0 then sinkLongest x.link
    else max (framePeriod m) (min (sinkLongest x.link) (x.still.idle * 1000 * 65536))

/-- Still refresh is left (R269): event STILL_STATE. A frozen output's still refresh does not change (R271). -/
def leaveStill (o cause : Nat) (d : Dev) : Dev :=
  let x := outOf d o
  if !x.still.active || d.sup.safeHold then d else
  let next := match (x.group.bind (tget none d.tide.groups ·)).bind (·.wakeIndex) with
    | some k => BitVec.ofNat 32 k
    | none => x.frame + 1
  raise 0x0510 o ([0, BitVec.ofNat 8 cause, 0, 0] ++ le32 next.toNat ++ le32 (idlePeriod x / 65536)) [512] false
    (updOut o (fun x => { x with still := { x.still with active := false, quiet := 0 } }) d)

/-! ## Harvest (R273 to R282) -/

def harvestOf (d : Dev) (k : Nat) : Harvest := nthD .zero k d.harvest
def updHarvest (k : Nat) (f : Harvest → Harvest) (d : Dev) : Dev := { d with harvest := modifyAt f k d.harvest }

/-- Bytes of a harvested pixel. -/
def harvestBytes (h : Harvest) : Nat := if h.compact then 3 else 4

/-- Rate of a DRAM channel, MB/s (R279). -/
def harvestRate (d : Dev) (h : Harvest) : Nat :=
  match (outOf d h.output).mode with
  | none => 0
  | some m => if h.target ≠ 0 || h.owner.isNone then 0
    else ceilDiv (h.dstW * h.dstH * harvestBytes h * m.clock) (max 1 (hTotal m * vTotal m) * 1000)

/-- Entry k of the default slot table (R433). -/
def defaultSlot (k : Nat) : Nat :=
  let e := k % 32
  if e < 8 then e else if e = 8 then 10 else if e = 9 then 8 else if e < 18 then e - 10 else if e = 18 then 10
  else if e = 19 then 11 else if e < 28 then e - 20 else if e = 28 then 10 else if e = 29 then 13 else if e = 30 then 15
  else if (k / 32) % 2 = 0 then 9 else 12

/-- The live slot table's entries. -/
def liveSlots (d : Dev) : List Nat :=
  match d.dram.live with
  | none => (List.range 1024).map defaultSlot
  | some t => t.map fun b => b.toNat % 16

/-- Slots of a class in the live table. -/
def slotCount (d : Dev) (cls : Nat) : Nat := (liveSlots d).countP (· == cls)

/-- Slot rate × 9,600 × 8, MB/s (R235). -/
def slotRateX (d : Dev) : Nat := 120 * d.dram.rate * (bitsSet 8 (workingMask d.dram)).length

/-- Reserved rate A of an output, MB/s, rounded down (R235). -/
def reservedRate (d : Dev) (o : Nat) : Nat := slotCount d o * slotRateX d / 76800

/-- Declared sum D of an output, MB/s (R235). -/
def declaredRate (d : Dev) (o : Nat) : Nat :=
  ((layersOn d o).filterMap fun e => if e.2.visible && (e.2.src.map (·.mem != 1)).getD false then some e.2.rate
    else none).foldl (· + ·) 0

/-- Whether an output breaks R236. -/
def bandwidthShort (d : Dev) (o : Nat) : Bool :=
  (slotCount d o == 0 && (layersOn d o).any fun e => e.2.visible && (e.2.src.map (·.mem != 1)).getD false) ||
    decide (slotCount d o * slotRateX d < declaredRate d o * 76800)

/-- Whether the DRAM channels' rates fit the slots of class harvest (R279). -/
def harvestFits (r : Dev) : Bool :=
  decide (((List.range 8).map fun k => harvestRate r (harvestOf r k)).foldl (· + ·) 0 * 76800 ≤ slotCount r 8 * slotRateX r)

/-! ### Exported streams (R78, R79) -/

def exportOf (d : Dev) (s : Nat) : Option Export := tget none d.tide.exports s

/-- Rate of an exported stream from its harvest channel's output, in bit/s (R79); a channel with no owner has none yet. -/
def exportRate (d : Dev) (channel : Nat) (compact : Bool) : Rat :=
  let h := harvestOf d channel
  match (outOf d h.output).mode with
  | none => 0
  | some m => if h.owner.isNone then 0 else pixelRate m * (if compact then 24 else 32)

/-- Summed rate of a port's exported streams (R79). -/
def portRate (d : Dev) (p : Nat) : Rat :=
  ((List.range 4).filterMap fun s => (exportOf d s).bind fun e => if e.port = p then some (exportRate d e.channel e.compact) else none).sum

/-- Whether a channel is filling a frame. -/
def harvestFilling (d : Dev) (k : Nat) : Bool :=
  (harvestOf d k).bufState.any (· == 1) ||
    (outOf d (harvestOf d k).output).flights.any fun f => !f.retired && f.harvest.any (·.1 == k)

/-- Stops a channel at once, with the frame in progress incomplete where one is being filled (R281). -/
def stopHarvest (k cause status : Nat) (d : Dev) : Dev :=
  let h := harvestOf d k
  if !h.running then d else
  let filling := harvestFilling d k
  let d := updHarvest k (fun h => { h with
    running := false, remaining := 0, stopCause := none, bufState := h.bufState.map fun s => if s = 1 then 0 else s,
    incomplete := h.incomplete + BitVec.ofNat 32 (b2n filling) }) d
  let d := updOut h.output (fun x => { x with
    flights := x.flights.map fun f => { f with harvest := f.harvest.filter (·.1 != k) } }) d
  match h.owner with
  | some ow => raiseOwner 0x0602 k (le8 cause ++ [0] ++ le16 status ++ le32 h.lastFrame.toNat) ow d
  | none => d

/-- Stops every running channel of an output. -/
def stopHarvestOn (o cause : Nat) (d : Dev) : Dev :=
  (List.range 8).foldl (fun d k => if (harvestOf d k).output = o then stopHarvest k cause 0 d else d) d

/-! ## Mode and enable landings (R291 to R295) -/

/-- Whether the link configuration in force does not meet a mode's requests or its need (R291): Rate and Lanes both
non-zero name one configuration, one of them alone is a limit (R301). -/
def misfit (k : Link) (b : Mode) : Bool :=
  k.trained && ((if b.rate != 0 && b.lanes != 0 then (k.rate, k.lanes) != (b.rate, b.lanes)
    else (b.rate != 0 && decide (b.rate < k.rate)) || (b.lanes != 0 && decide (b.lanes < k.lanes))) ||
    !carries b (k.rate, k.lanes))

/-- Whether a mode change on an enabled output is a mode switch (R291). -/
def isSwitch (k : Link) (a b : Mode) : Bool :=
  a.hActive != b.hActive || a.vActive != b.vActive || hTotal a != hTotal b || vTotal a != vTotal b ||
    a.clock != b.clock || a.compact != b.compact || a.edp != b.edp || a.ssc != b.ssc ||
    misfit k b

/-- Clips the viewports on an output to its active area (R497). -/
def clipViewports (o : Nat) (d : Dev) : Dev :=
  let a := activeOf d o
  { d with insts := d.insts.map fun e => (e.1, { e.2 with
      viewports := (e.2.viewports.map fun v => if v.1 / 8 = o then (v.1, v.2.meet a) else v).filter (·.2 != Rect.zero) }) }

/-- Ends class W on a layer without the secure world's release (R167). -/
def loseW (n reason : Nat) (frame : U32) (d : Dev) : Dev :=
  match layerOf d n with
  | some l => if !l.classW then d else
      raise 0x0311 n ([0, BitVec.ofNat 8 reason, 0, 0] ++ le32 frame.toNat) (ownerPages l.owner) true
        (putLayer n (some { l with classW := false }) d)
  | none => d

/-- Frame to which changes landing now on an output apply: the one that follows the frame being scanned. On a disabled
output, where none follows, its last frame plus one (log 145). -/
def nextFrame (d : Dev) (o : Nat) : U32 := nextNumber d o

/-- Whether two lists of rectangles cover the same pixels. -/
def samePixels (a b : List Rect) : Bool := a.all (coveredBy · b) && b.all (coveredBy · a)

/-- Events for the layers whose visible pixels changed on an output between two devices (R162, R293), and class losses for
those that lost pixels (R167): `old` is the device before the viewport or mode change. -/
def clipLayers (o : Nat) (old d : Dev) : Dev :=
  (layersOn d o).foldl (fun d e =>
    match layerOf old e.1 with
    | none => d
    | some l0 =>
      let v0 := visibleRects old l0
      let v1 := visibleRects d e.2
      if samePixels v0 v1 then d else
      let f := nextFrame d o
      let b := boundBox v1
      let d := if e.2.visible then damageRects o (v0 ++ v1) d else d
      let d := raiseOwner 0x0310 e.1 (le32 f.toNat ++ le16 b.x ++ le16 b.y ++ le16 b.w ++ le16 b.h) e.2.owner d
      if v0.all (coveredBy · v1) then d else loseW e.1 4 f d) d

/-- Monitors whose rectangle has left its owner's viewports or the active area are disabled (R331). -/
def clipMonitors (o cause : Nat) (d : Dev) : Dev :=
  (List.range 16).foldl (fun d m =>
    let k := o * 16 + m
    let x := tget Monitor.zero d.monitors k
    match x.owner with
    | none => d
    | some ow =>
      let inside := coveredBy x.rect [activeOf d o] && (match ow with
        | .inst n => coveredBy x.rect (viewportsOf d n o)
        | _ => true)
      if !x.enable || inside then d else
      raiseOwner 0x0702 (o * 256 + m) (le8 cause ++ [0, 0, 0] ++ le32 (nextFrame d o).toNat) ow
        { d with monitors := tput .zero d.monitors k { x with enable := false } }) d

/-- Whether some route feeds an output's DP audio (R415). -/
def dpFed (d : Dev) (o : Nat) : Bool :=
  d.audio.routes.any fun r => r.dst / 4096 == 6 && r.dst % 4096 / 8 == o && !r.seized

/-- AUDIO_ACTIVE: audio SDPs are sent on an up link whose sink takes audio, in DisplayPort mode, while a route feeds the
output and the detector has not stopped them (R286, R300, R397). -/
def dpAudioOn (d : Dev) (o : Nat) : Bool :=
  let x := outOf d o
  x.link.up && x.link.sinkAudio && !((x.mode.map (·.edp)).getD false) && dpFed d o && !(nthD DpAudio.zero o d.audio.dp).off

/-- Brings AUDIO_ACTIVE up to date. -/
def refreshDpAudio (o : Nat) (d : Dev) : Dev := updLink o (fun k => { k with audioActive := dpAudioOn d o }) d

/-- The end of frame n's active lines in a mode switch (R292): the video stream stops, the PLL relocks, and a link whose
configuration must change, or that is still being trained for the old mode, is trained. -/
def beginSwitch (o : Nat) (d : Dev) : Dev :=
  let x := outOf d o
  let d := updOut o (fun x => { x with
    switchPll := false, switchLink := false,
    link := { x.link with up := false, asyncActive := false, audioActive := false,
                          pllLock := x.link.pllLock && !x.switchPll } }) d
  if x.switchLink && x.link.hpd && !x.link.heldDown then trainOutput o d else d

/-- Whether the active lines of the frame in scan-out have all begun, or none is scanned. -/
def activeDone (x : Output) : Bool :=
  match x.scanMode with
  | some m => !x.scanning || decide (m.vActive ≤ x.nextLine)
  | none => true

/-- Landing of OUTPUT_MODE. `ch.table` holds the pages PREPARE gave a reallocated partition; `ch.obj` 1 says that the
transaction stages OUTPUT_LEAD too (R130). -/
def landOutputMode (ch : Change) (d0 : Dev) : Dev :=
  let o := ch.cmd.u8 24
  let m := modeOf ch.cmd
  let x := outOf d0 o
  let newHeight := (x.mode.map (·.vActive)) != some m.vActive
  let resized := (x.mode.map fun a => (a.hActive, a.vActive)) != some (m.hActive, m.vActive)
  let sw := match x.mode with
    | some a => x.enabled && isSwitch x.link a m
    | none => false
  let relock := match x.mode with
    | some a => a.clock != m.clock || a.ssc != m.ssc
    | none => false
  let d := updOut o (fun x => { x with
    mode := some m,
    lead := if newHeight && ch.obj != 1 then m.vActive / 4 else x.lead,
    pages := if ch.table.isEmpty then x.pages else ch.table.map (·.toNat),
    zeroed := x.zeroed && ch.table.isEmpty,
    switching := x.switching || sw, switchPll := x.switchPll || (sw && relock),
    switchLink := x.switchLink || (sw && (x.link.training || misfit x.link m || (x.mode.map (·.ssc)) != some m.ssc)) }) d0
  let d := if x.enabled && x.mode != some m then damageAll o d else d
  let d := if sw && activeDone x then beginSwitch o d else d
  if x.enabled && resized then
    let d := stopHarvestOn o 7 d
    clipMonitors o 1 (clipLayers o d0 (clipViewports o d))
  else if resized then clipMonitors o 1 (clipLayers o d0 (clipViewports o d))
  else d

/-- Turns an output off once its last frame's active lines are scanned (R295). -/
def closeOutput (o : Nat) (d : Dev) : Dev :=
  updOut o (fun x => { x with
    scanning := false, line := 0, nextLine := 0, pages := [], scanPages := [], scanMode := none, zeroed := false, shown := none,
                              flights := [], locked := false,
                              link := { x.link with up := false, trained := false, rate := 0, lanes := 0, training := false,
                                                    pllLock := false, ssc := false, asyncActive := false,
                                                    audioActive := false, relocks := 0, relocking := false } }) d

/-- Landing of OUTPUT_ENABLE (R294, R295). -/
def landOutputEnable (ch : Change) (d : Dev) : Dev :=
  let o := ch.cmd.u8 24
  let x := outOf d o
  if ch.cmd.bit 25 0 then
    if x.enabled then d else
    let d := updOut o (fun x => { x with
      enabled := true, opening := true, scanning := false, frame := 0, line := 0, nextLine := 0, cutDone := false, zeroed := false,
      pages := ch.table.map (·.toNat), scanPages := [], allNext := true, carry := 0, flights := [], shown := none,
      held := false, still := { x.still with active := false, quiet := 0 }, locked := false,
      guards := x.guards.map fun p => { p with faultFrame := none },
      switchPll := false, switchLink := false,
      link := { x.link with pllLock := false, up := false, trained := false, rate := 0, lanes := 0, relocks := 0,
                            relocking := false } }) d
    if x.link.hpd && !x.link.heldDown then trainOutput o d else d
  else if !x.enabled then d else
    let d := stopHarvestOn o 5 d
    let d := leaveStill o 1 d
    let d := if (outOf d o).link.training then failTraining o (outOf d o).link.lastPhase d else d
    let d := updOut o (fun x => { x with enabled := false, opening := false, switching := false, held := false }) d
    let d := cancelOutput o d
    if activeDone x then closeOutput o d else d

/-! ## Commands of family 0x05 -/

def outObj (_ : Dev) (ch : Change) : List (Nat × Nat) := [(3, ch.cmd.u8 24)]
def outOnly (_ : Dev) (ch : Change) : List Nat := [ch.cmd.u8 24]

def specOutputMode : OpSpec where
  len := 4
  fields := fun _ => [fRange 24 1 0 7, fCode 25 7, fIf 26 1 (fun v => !([0, 1, 2, 4] : List Nat).contains v) .badParam,
    fIf 27 1 (fun v => v / 4 % 4 == 3) .badParam, fRange 28 4 25000 3000000, fRange 32 2 640 7680, fRange 34 2 1 4095,
    fRange 36 2 1 4095, fRange 38 2 1 4095, fRange 40 2 480 4320, fRange 42 2 1 4095, fRange 44 2 1 4095,
    fRange 46 2 1 4095, fBits 48 1]
  multi := fun x =>
    let m := modeOf x.c
    (failIf (decide (hTotal m < 672) || decide (16383 < hTotal m) || decide (m.hFront + m.hSync + m.hBack < 32))
      .outOfRange 32).or
      (failIf (decide (vTotal m < 483) || decide (16383 < vTotal m)) .outOfRange 40)
  outs := outOnly
  objs := outObj
  prep := fun _ _ r ch =>
    let o := ch.cmd.u8 24
    let x := outOf r o
    let k := x.link
    match x.mode with
    | none => []
    | some m =>
      (if 4096 < m.hActive && o != 0 && o != 4 then [(3, .outOfRange)] else []) ++
      (if k.capsRead && (decide (k.sinkRate < m.rate) || decide (k.sinkLanes < m.lanes)) then [(3, .outOfRange)] else []) ++
      (if leadOk r o then [] else [(3, .outOfRange)]) ++
      (if decide (2400000000 < pixelRate m) || (x.enabled && !sumRateOk r) ||
          decide (100 * linkCapacity k m < linkNeed100 m) ||
          (!harvestFits r && r.harvest.any fun h => h.owner.isSome && h.output == o && h.target == 0) then [(6, .bandwidth)] else [])
  land := fun _ ch d => landOutputMode ch d

def specOutputEnable : OpSpec where
  len := 1
  fields := fun _ => [fRange 24 1 0 7, fBits 25 1]
  outs := outOnly
  objs := outObj
  prep := fun _ _ r ch =>
    if !ch.cmd.bit 25 0 then [] else
    (if (outOf r (ch.cmd.u8 24)).mode.isNone then [(3, .outOfRange)] else []) ++
      (if sumRateOk r then [] else [(6, .bandwidth)])
  land := fun _ ch d => landOutputEnable ch d

def specOutputLead : OpSpec where
  len := 1
  fields := fun _ => [fRange 24 1 0 7, fAny 26 2]
  outs := outOnly
  objs := outObj
  prep := fun _ _ r ch => if leadOk r (ch.cmd.u8 24) then [] else [(3, .outOfRange)]
  land := fun _ ch d => updOut (ch.cmd.u8 24) (fun x => { x with lead := ch.cmd.u16 26 }) d

def specOutputStill : OpSpec where
  len := 1
  fields := fun _ => [fRange 24 1 0 7, fAny 25 1,
    fIf 28 4 (fun v => v != 0 && (decide (v < 1000) || decide (1000000 < v))) .outOfRange]
  outs := outOnly
  objs := outObj
  land := fun _ ch d =>
    let o := ch.cmd.u8 24
    let d := updOut o (fun x => { x with still := { x.still with threshold := ch.cmd.u8 25, idle := ch.cmd.u32 28 } }) d
    if ch.cmd.u8 25 = 0 && (outOf d o).group.isNone then leaveStill o 4 d else d

/-- OUTPUT_POLICY lands at its sequencing point (R221 to R223, R246). -/
def specOutputPolicy : OpSpec where
  len := 1
  fields := fun x => [fRange 24 1 0 7, fCode 25 1, fBits 26 3,
    if x.c.bit 26 1 then fAny 28 2 else fRange 28 2 8 1024]
  objs := outObj
  prep := fun _ _ r ch => if ch.cmd.bit 26 1 || leadOk r (ch.cmd.u8 24) then [] else [(3, .outOfRange)]
  land := fun _ ch d => updOut (ch.cmd.u8 24) (fun x => { x with
    holdPolicy := ch.cmd.u8 25 == 1,
    guard := if ch.cmd.bit 26 1 then x.guard else ch.cmd.u16 28,
    resume := x.resume || (ch.cmd.bit 26 0 && x.held) }) d

def specOutputGuard : OpSpec where
  len := 1
  fields := fun _ => [fRange 24 1 0 7, fBits 25 1]
  objs := outObj
  land := fun _ ch d => updOut (ch.cmd.u8 24) (fun x => { x with report := ch.cmd.bit 25 0 }) d

/-- Frame period in force during still refresh, in 2^-16 ns: whole lines (R268); 0 when not eligible. -/
def stillPeriod (x : Output) : Nat :=
  match x.mode with
  | none => 0
  | some m => if !stillEligible x then 0
    else framePeriod m + (idlePeriod x - framePeriod m) / max 1 (lineTime m) * lineTime m

/-- Line being scanned: the active line last started; past the last of them the line that tide time has reached. -/
def lineNow (d : Dev) (o : Nat) : Nat :=
  let x := outOf d o
  match x.scanMode with
  | none => x.line
  | some m => if x.scanning && m.vActive ≤ x.nextLine then max x.line ((d.tide.now - x.frameStart) / max 1 (lineTime m)) else x.line

/-- The scan-out record (R259). -/
def scanRecord (d : Dev) (o : Nat) : List U32 :=
  let x := outOf d o
  let m := if x.scanning then x.scanMode else x.mode
  [word32 [(1, b2n x.enabled), (1, b2n x.still.active), (1, b2n (x.enabled && d.sup.safeHold)),
     (1, b2n (x.guards.any (·.live.enable))), (1, b2n ((m.map (·.compact)).getD false)), (1, o / 4),
     (2, (m.map (·.dither)).getD 0), (16, 0), (8, if x.enabled then x.pages.length else 0)],
   if x.enabled then x.frame else 0, word32 [(16, 0), (16, lineNow d o)], x.period,
   word32 [(16, 0), (8, x.still.threshold), (8, x.still.quiet)], BitVec.ofNat 32 (stillPeriod x / 65536),
   x.still.frames, x.guardFaults]

/-- The link record (R300's table). -/
def linkRecord (d : Dev) (o : Nat) : List U32 :=
  let x := outOf d o
  let k := x.link
  [word32 [(1, b2n k.hpd), (1, b2n k.up), (1, b2n k.training), (1, b2n k.failed), (1, b2n k.inForce.2.2), (3, k.inForce.1),
     (4, k.inForce.2.1), (1, b2n k.asyncActive), (1, b2n k.audioActive), (1, b2n k.ssc), (1, b2n k.pllLock), (8, 0),
     (8, k.attempts)],
   k.trains, k.losses, BitVec.ofNat 32 (unsigned 32 k.trim),
   word32 [(1, b2n k.capsRead), (1, b2n k.sink128), (1, b2n k.sinkAudio), (1, b2n k.sinkAsync), (1, b2n k.sink10),
     (3, k.sinkRate), (4, k.sinkLanes), (20, 0)],
   word32 [(16, k.asyncMax), (16, k.asyncMin)], BitVec.ofNat 32 (unsigned 32 k.phase),
   BitVec.ofNat 32 ((x.mode.map (·.clock)).getD 0)]

/-- The composer counter record (R247). -/
def composerRecord (d : Dev) (o : Nat) : List U32 :=
  let x := outOf d o
  [x.drops, x.stale, x.faults, word32 [(16, x.guard), (14, 0), (1, b2n x.held), (1, b2n x.holdPolicy)], x.lastDrop,
   word32 [(16, 0), (16, min 65535 x.minSlack)], BitVec.ofNat 32 (reservedRate d o), BitVec.ofNat 32 (declaredRate d o)]

/-- Register r of a die's partition map (R255). -/
def partitionMap (d : Dev) (die r : Nat) : U32 :=
  word32 ((List.range 8).reverse.map fun j => (4, ((List.range 4).find? fun k =>
    let x := outOf d (die * 4 + k)
    x.enabled && x.pages.contains (8 * r + j)).elim 0xF (die * 4 + ·)))

def specOutputStatus : OpSpec where
  len := 1
  fields := fun _ => [fRange 24 1 0 7, fRange 25 1 0 3]
  own := fun x => failIf (!holdsViewport x.view x.c.issuer (x.c.u8 24)) .notOwner 0
  read := fun _ d c =>
    let o := c.u8 24
    let p := c.u8 25
    (d, .ok (if p < 2 then fourWords (scanRecord d o) (4 * p) else fourWords (linkRecord d o) (4 * (p - 2))))

/-- Whether an output's DP island and domain are on (R299). -/
def specOutputAux : OpSpec where
  len := 3
  fields := fun x => [fRange 24 1 0 7, fCode 25 3, fRange 26 1 1 16,
    if 2 ≤ x.c.u8 25 then fRange 27 1 0 0x7F else fAny 27 1,
    fIf 28 4 (fun v => if x.c.u8 25 < 2 then decide (0x100000 ≤ v) else decide (0x10000 ≤ v)) .badParam,
    fAny 32 16]
  step10 := fun d c =>
    let a := c.u32 28
    failIf (!dpOn d (c.u8 24) || (c.u8 25 == 1 && (outOf d (c.u8 24)).enabled && decide (a < 0x200) &&
      decide (0x100 < a + c.u8 26))) .notPermitted 0
  start := fun t c d =>
    if c.u8 25 % 2 = 0 && !(outOf d (c.u8 24)).link.hpd then finish t .timeout 0 [] d
    else { d with aux := d.aux ++ [{ output := c.u8 24, ticket := t, cmd := c, tries := 0, bytes := 0, read := [] }] }

def specOutputTrain : OpSpec where
  len := 1
  fields := fun x => [fRange 24 1 0 7, fCode 25 2,
    fIf 26 1 (fun v => if x.c.u8 25 = 1 then v == 0 || decide (7 < v) else v != 0) .badParam,
    fIf 27 1 (fun v => if x.c.u8 25 = 1 then !([1, 2, 4] : List Nat).contains v else v != 0) .badParam]
  step10 := fun d c =>
    let x := outOf d (c.u8 24)
    (failIf (!x.enabled) .notPermitted 0).or
      (failIf (c.u8 25 == 1 && !((x.mode.map fun m => carries m (c.u8 26, c.u8 27)).getD true)) .bandwidth 0)
  start := fun t c d =>
    let o := c.u8 24
    let wait := updLink o (fun k => { k with trainWaits := k.trainWaits ++ [t] })
    match c.u8 25 with
    | 0 => trainOutput o (wait d)
    | 1 => startTraining o [(c.u8 26, c.u8 27)] (wait d)
    | _ =>
      let d := if (outOf d o).link.training then failTraining o (outOf d o).link.lastPhase d else d
      let d := updLink o (fun k => { k with
        up := false, trained := false, rate := 0, lanes := 0, heldDown := true, asyncActive := false, audioActive := false }) d
      finish t .ok 0 [0, 0, 0] d

/-! ## Commands of family 0x06 -/

def harvestOwned (d : Dev) (i : Issuer) (k : Nat) : Bool := (harvestOf d k).owner.any (mayName · i)
/-- A claim or a change names a free channel or the issuer's own; a release may come from the manager too. -/
def harvestOpen (d : Dev) (i : Issuer) (k : Nat) (release : Bool) : Bool :=
  match (harvestOf d k).owner with
  | none => true
  | some ow => if release then mayName ow i else ow == ownerOf i

/-- Landing of HARVEST_SETUP (R273, R276). -/
def landHarvestSetup (ch : Change) (d : Dev) : Dev :=
  let c := ch.cmd
  let k := c.u8 24
  if c.u8 26 = 2 then
    let d := stopHarvest k 6 0 d
    updHarvest k (fun h => { Harvest.zero with lastFrame := h.lastFrame, skipped := h.skipped, incomplete := h.incomplete }) d
  else
    let a := activeOf d (c.u8 25)
    let d := stopHarvest k 6 0 d
    updHarvest k (fun h => { h with
      owner := some (ownerOf c.issuer), target := c.u8 26, compact := c.bit 27 0, output := c.u8 25,
      dstW := if c.u16 28 = 0 then a.w else c.u16 28, dstH := if c.u16 30 = 0 then a.h else c.u16 30,
      buffers := c.u8 32, slot := c.u8 33, pitch := c.u32 36, offset := c.u64 40, stride := c.u64 48,
      bufState := List.replicate (c.u8 32) 0, running := false, remaining := 0 }) d

def specHarvestSetup : OpSpec where
  len := 4
  fields := fun _ =>
    [fRange 24 1 0 7, fRange 25 1 0 7, fCode 26 2, fBits 27 1, fAny 28 2, fAny 30 2,
     fRange 32 1 2 4, fRange 33 1 0 3,
     fIf 36 4 (fun v => v % 64 != 0) .outOfRange, fIf 40 8 (fun v => v % 64 != 0) .outOfRange,
     fIf 48 8 (fun v => v % 64 != 0) .outOfRange]
  own := fun x => failIf (!harvestOpen x.view x.c.issuer (x.c.u8 24) (x.c.u8 26 == 2)) .notOwner 0
  outs := fun d ch => ((if ch.cmd.u8 26 = 2 then (harvestOf d (ch.cmd.u8 24)).output else ch.cmd.u8 25) ::
    (if (harvestOf d (ch.cmd.u8 24)).owner.isSome then [(harvestOf d (ch.cmd.u8 24)).output] else [])).eraseDups.take 1
  objs := fun _ ch => [(2, ch.cmd.u8 24)]
  stillOwned := fun d ch => harvestOpen d ch.cmd.issuer (ch.cmd.u8 24) (ch.cmd.u8 26 == 2)
  prep := fun _ _ r ch =>
    let c := ch.cmd
    let h := harvestOf r (c.u8 24)
    if c.u8 26 = 2 then [] else
    let a := activeOf r h.output
    let need := h.dstW * harvestBytes h
    (if h.target = 0 && (decide (h.pitch < need) || decide (h.stride < h.pitch * h.dstH) ||
        !((List.range h.buffers).all fun k => locMapped r c.issuer false true (h.offset + k * h.stride) (h.pitch * h.dstH)))
      then [(3, .outOfRange)] else []) ++
    (if h.binding.isNone && (h.dstW != a.w || h.dstH != a.h) then [(3, .outOfRange)] else []) ++
    (if h.binding.isSome && !(ratioOk a.w h.dstW && ratioOk a.h h.dstH) then [(3, .outOfRange)] else []) ++
    (match c.issuer with
      | .inst n => if (viewportsOf r n h.output).any fun v => coveredBy a [v] then [] else [(3, .outOfRange)]
      | .delegate => [(3, .outOfRange)]
      | .manager => []) ++
    (if h.target = 1 && !(match tget none r.tide.exports h.slot with
        | some e => e.channel == c.u8 24 && e.compact == h.compact
        | none => false) then [(3, .badParam)] else []) ++
    -- an exported stream whose channel had no owner at STREAM_EXPORT is admitted here (log 150)
    (if !harvestFits r || (h.target = 1 && (exportOf r h.slot).any fun e => decide (48000000000 < portRate r e.port))
      then [(6, .bandwidth)] else [])
  land := fun _ ch d => landHarvestSetup ch d

/-- The harvest channel record (R282). -/
def harvestRecord (d : Dev) (k : Nat) : List U32 :=
  let h := harvestOf d k
  let mask := fun st => maskOf ((List.range 4).filter fun i => h.bufState[i]? == some st)
  let ow := h.owner.getD (.inst 0)
  [word32 [(1, b2n h.owner.isSome), (1, b2n h.running), (1, b2n h.binding.isSome), (1, h.target), (2, ownerKind ow),
     (1, b2n h.compact), (3, h.output), (3, h.buffers), (10, 0), (9, ownerInst ow)],
   word32 [(16, h.dstH), (16, h.dstW)], BitVec.ofNat 32 h.remaining,
   word32 [(4, mask 0), (4, mask 2), (22, 0), (2, h.slot)], h.lastFrame, h.skipped, h.incomplete,
   BitVec.ofNat 32 (harvestRate d h)]

def specHarvestStatus : OpSpec where
  len := 1
  fields := fun _ => [fRange 24 1 0 7, fRange 25 1 0 1]
  own := fun x => failIf (!harvestOwned x.view x.c.issuer (x.c.u8 24)) .notOwner 0
  read := fun _ d c => (d, .ok (fourWords (harvestRecord d (c.u8 24)) (4 * c.u8 25)))

end Sys2Proof.Machine
end

