-- ==== Sys2Proof/Machine/Compose.lean ====
section
/-! DEFINITION. From source to frame store: unpacking, crystal tiles, chroma, LUTs, scaling, matrix, blend and store
encoding (chapters 5 and 6). -/

namespace Sys2Proof.Machine

/-- A pixel: R, G, B, A. -/
structure Px where
  r : Fl
  g : Fl
  b : Fl
  a : Fl
  deriving DecidableEq, Repr

def Px.zero : Px := { r := .fin 0, g := .fin 0, b := .fin 0, a := .fin 0 }
def Px.map (f : Fl → Fl) (p : Px) : Px := { r := f p.r, g := f p.g, b := f p.b, a := f p.a }
def Px.zip (f : Fl → Fl → Fl) (p q : Px) : Px := { r := f p.r q.r, g := f p.g q.g, b := f p.b q.b, a := f p.a q.a }

/-! ## LUTs -/

/-- Entry i of one component of an input LUT (R206, R208). -/
def inputEntry (k : LutComp) (i : Nat) : Rat :=
  match tget none k.patch i with
  | some v => flRat (ofBits16 v)
  | none => match k.base with
    | .identity => r16 ((i : Rat) / 1023)
    | .srgb => srgbEotf16 ((i : Rat) / 1023)

/-- Entry i of a store-encode LUT component. -/
def storeEntry (k : LutComp) (i : Nat) : Nat :=
  match tget none k.patch i with
  | some v => v
  | none => match k.base with
    | .identity => (roundUp (1023 * (i : Rat) / 4095)).toNat
    | .srgb => srgbCode ((i : Rat) / 4095)

/-- Entry i of a panel LUT component. -/
def panelEntry (k : LutComp) (i : Nat) : Nat := (tget none k.patch i).getD i

/-- Linear interpolation in binary32 (R207). -/
def lerp32 (e : Nat → Rat) (top : Nat) (pos : Rat) : Rat :=
  let i := pos.floor.toNat
  if top ≤ i then e top
  else r32 (e i + r32 (r32 (pos - (i : Rat)) * r32 (e (i + 1) - e i)))

/-- One component through the input LUT (R207); under BYPASS its value, as the binary16 that the pipes work in (R169). -/
def inputLut (k : LutComp) (x : Fl) : Fl :=
  if k.bypass then round16 x else
  let v := flRat (clamp01 (denan x))
  .fin (r16 (lerp32 (inputEntry k) 1023 (r32 (v * 1023))))

/-- One component through the store-encode LUT (R170, R207). A NaN that the blend makes, of an infinite colour or alpha
and a zero, is stored as 0.0 (DESIGN CHOICE, log 147). -/
def storeLut (k : LutComp) (x : Fl) : Nat :=
  (roundUp (lerp32 (fun i => (storeEntry k i : Rat)) 4095 (r32 (flRat (clamp01 (denan x)) * 4095)))).toNat

/-! ## Fetching source pixels (step 1 of R168) -/

/-- A reader of one byte of a layer's memory. -/
abbrev Reader := Nat → Byte

/-- `n` bytes as a number. -/
def rd (f : Reader) (a n : Nat) : Nat := leNat ((rangeFrom a n).map f)

def frac (v m : Nat) : Fl := .fin ((v : Rat) / (m : Rat))

/-- Unpacks a 32-bit ARGB word: 8 bits a component, or 2:10:10:10. Component codes and their maxima. -/
def argb8 (w : Nat) : Px :=
  { r := frac (w / 65536 % 256) 255, g := frac (w / 256 % 256) 255, b := frac (w % 256) 255, a := frac (w / 16777216) 255 }
def argb10 (w : Nat) : Px :=
  { r := frac (w / 1048576 % 1024) 1023, g := frac (w / 1024 % 1024) 1023, b := frac (w % 1024) 1023,
    a := frac (w / 1073741824) 3 }
def opaquePx (p : Px) : Px := { p with a := .fin 1 }

/-- Bits of a packed stream, least significant first (R158). -/
def streamBits (f : Reader) (base pos n : Nat) : Nat :=
  (rd f (base + pos / 8) ((pos % 8 + n + 7) / 8) >>> (pos % 8)) % 2 ^ n

/-- One run of 16 residuals of a component (R158): next stream position and the residuals; none if a width is too
large or the stream too long. -/
def crystalRun (f : Reader) (base limit pos bits : Nat) : Option (Nat × List Nat) :=
  let w := streamBits f base pos 4
  if bits < w || limit < pos + 4 + 16 * w then none
  else some (pos + 4 + 16 * w, (List.range 16).map fun i => streamBits f base (pos + 4 + i * w) w)

/-- Undoes the zigzag mapping and the prediction over a run (R158). -/
def crystalRebuild (bits : Nat) : Nat → List Nat → List Nat
  | _, [] => []
  | pred, m :: r =>
    let s : Int := if m % 2 = 0 then (m / 2 : Int) else -((m + 1) / 2 : Int)
    let v := (((pred : Int) + s) % (2 ^ bits : Int)).toNat
    v :: crystalRebuild bits v r

/-- The runs of one row: for each run, the components B, G, R, A in order (R158). `left` holds the pixel before the
run for each component. Answers the position and the row's values by component. -/
def crystalRow (f : Reader) (base limit : Nat) (bits : List Nat) :
    Nat → Nat → List Nat → List (List Nat) → Option (Nat × List (List Nat))
  | 0, pos, _, acc => some (pos, acc)
  | k + 1, pos, left, acc =>
    match bits.zipIdx.foldl (fun (st : Option (Nat × List (List Nat))) (b, i) => st.bind fun (p, outs) =>
        (crystalRun f base limit p b).map fun (p', ms) => (p', outs ++ [crystalRebuild b (nthD 0 i left) ms])) (some (pos, [])) with
    | none => none
    | some (pos', runs) =>
      crystalRow f base limit bits k pos' (runs.map fun r => nthD 0 15 r)
        (if acc.isEmpty then runs else (acc.zip runs).map fun (a, b) => a ++ b)

/-- Rows of a coded tile; each row's first prediction is the pixel above its first (R158). -/
def crystalRows (f : Reader) (base limit : Nat) (bits : List Nat) :
    Nat → Nat → List Nat → List (List (List Nat)) → Option (List (List (List Nat)))
  | 0, _, _, acc => some acc
  | k + 1, pos, up, acc =>
    match crystalRow f base limit bits 4 pos up [] with
    | none => none
    | some (pos', row) => crystalRows f base limit bits k pos' (row.map fun r => nthD 0 0 r) (acc ++ [row])

/-- One crystal tile: its decoded words by row, or none when it is malformed (R157 to R159). A LEN of 65 to 127, which no
tile has, counts as malformed (DESIGN CHOICE, log 148). -/
def crystalTile (f : Reader) (fmt hdr slot : Nat) : Option (List (List Nat)) :=
  let h := rd f hdr 8
  let len := h % 128
  if h / 128 % 2 = 1 then some (List.replicate 16 (List.replicate 64 (h / 2 ^ 32)))
  else if len = 0 || 64 < len then none
  else if len = 64 then some ((List.range 16).map fun y => (List.range 64).map fun x => rd f (slot + (y * 64 + x) * 4) 4)
  else
    let bits := if fmt = 0x30 then [8, 8, 8, 8] else [10, 10, 10, 2]
    (crystalRows f slot (len * 512) bits 16 0 [0, 0, 0, 0] []).map fun rows => rows.map fun row =>
      (List.range 64).map fun x =>
        packFields ((row.zip bits).reverse.map fun (c, w) => (w, nthD 0 x c))

/-- Tile index of a pixel. -/
def tileIndex (s : Source) (x y : Nat) : Nat := y / 16 * ceilDiv s.w 64 + x / 64

/-- The tile that holds a pixel. -/
def tileOf (f : Reader) (s : Source) (x y : Nat) : Option (List (List Nat)) :=
  crystalTile f s.format (s.plane1 + y / 16 * headerPitch s.w + x / 64 * 8) (s.plane0 + y / 16 * s.pitch + x / 64 * 4096)

/-! ### YCbCr (R202 to R204) -/

def krOf (m : Nat) : Rat := match m with | 0 => 299 / 1000 | 1 => 2126 / 10000 | _ => 2627 / 10000
def kbOf (m : Nat) : Rat := match m with | 0 => 114 / 1000 | 1 => 722 / 10000 | _ => 593 / 10000

/-- Chroma sample (Cb, Cr) k of chroma row j. -/
def chromaAt (f : Reader) (s : Source) (k j : Nat) : Nat × Nat :=
  match s.format with
  | 0x10 => let a := s.plane1 + j * s.pitch + 2 * k; (rd f a 1, rd f (a + 1) 1)
  | 0x11 => let a := s.plane1 + j * s.pitch + 4 * k; (rd f a 2 / 64, rd f (a + 2) 2 / 64)
  | 0x12 => let a := s.plane0 + j * s.pitch + 4 * k; (rd f (a + 1) 1, rd f (a + 3) 1)
  | _ => let a := s.plane0 + j * s.pitch + 8 * k; (rd f (a + 2) 2 / 64, rd f (a + 6) 2 / 64)

/-- Luma of a pixel. -/
def lumaAt (f : Reader) (s : Source) (x y : Nat) : Nat :=
  match s.format with
  | 0x10 => rd f (s.plane0 + y * s.pitch + x) 1
  | 0x11 => rd f (s.plane0 + y * s.pitch + 2 * x) 2 / 64
  | 0x12 => rd f (s.plane0 + y * s.pitch + 2 * x) 1
  | _ => rd f (s.plane0 + y * s.pitch + 4 * x) 2 / 64

/-- The two chroma samples around a luma coordinate and the weight of the second (R204). Chroma sample k lies at 2k or
2k + 1/2; samples beyond lo..hi take the nearest. -/
def chromaTaps (inter : Bool) (lo hi x : Nat) : Nat × Nat × Rat :=
  let p : Rat := ((x : Rat) - (if inter then 1 / 2 else 0)) / 2
  let k := p.floor
  let lim := fun (v : Int) => (max (lo : Int) (min (hi : Int) v)).toNat
  (lim k, lim (k + 1), p - (k : Rat))

/-- R', G', B' of a YCbCr pixel (R203, R204), in binary32, then rounded to binary16. -/
def ycbcr (f : Reader) (l : Layer) (s : Source) (x y : Nat) : Px :=
  let c := l.chroma
  let bits := if s.format = 0x10 || s.format = 0x12 then 8 else 10
  let lo := l.crop.x / 2
  let hi := (l.crop.x + l.crop.w - 1) / 2
  let vlo := if is420 s.format then l.crop.y / 2 else 0
  let vhi := if is420 s.format then (l.crop.y + l.crop.h - 1) / 2 else 0
  let (k0, k1, wx) := if c.replicate then (x / 2, x / 2, (0 : Rat)) else chromaTaps c.hInter lo hi x
  let (j0, j1, wy) := if is422 s.format then (y, y, (0 : Rat)) else
    if c.replicate then (y / 2, y / 2, (0 : Rat)) else chromaTaps c.vInter vlo vhi y
  let mix := fun (g : Nat × Nat → Nat) =>
    let h := fun j => (g (chromaAt f s k0 j) : Rat) * (1 - wx) + (g (chromaAt f s k1 j) : Rat) * wx
    r32 (h j0 * (1 - wy) + h j1 * wy)
  let sc : Rat := ((2 ^ (bits - 8) : Nat) : Rat)
  let yc : Rat := (lumaAt f s x y : Rat)
  let yn := if c.full then r32 (yc / ((2 ^ bits - 1 : Nat) : Rat)) else r32 ((yc - 16 * sc) / (219 * sc))
  let cn := fun (v : Rat) => if c.full then r32 ((v - ((2 ^ (bits - 1) : Nat) : Rat)) / ((2 ^ bits - 1 : Nat) : Rat))
    else r32 ((v - 128 * sc) / (224 * sc))
  let kr := krOf c.matrix
  let kb := kbOf c.matrix
  let r := r32 (yn + r32 (2 * (1 - kr) * cn (mix (·.2))))
  let b := r32 (yn + r32 (2 * (1 - kb) * cn (mix (·.1))))
  let g := r32 ((yn - kr * r - kb * b) / (1 - kr - kb))
  let fix := fun q => Fl.fin (r16 (max 0 (min 1 q)))
  { r := fix r, g := fix g, b := fix b, a := .fin 1 }

/-- Steps 1 and 2: the pixel at source position (x, y). -/
def sourcePx (f : Reader) (l : Layer) (s : Source) (x y : Nat) : Px :=
  let at_ := fun n => s.plane0 + y * s.pitch + x * n
  match s.format with
  | 0x01 => argb8 (rd f (at_ 4) 4)
  | 0x02 => argb10 (rd f (at_ 4) 4)
  | 0x03 => let a := at_ 8
            { r := ofBits16 (rd f (a + 4) 2), g := ofBits16 (rd f (a + 2) 2), b := ofBits16 (rd f a 2), a := ofBits16 (rd f (a + 6) 2) }
  | 0x04 => opaquePx (argb10 (rd f (at_ 4) 4))
  | 0x05 => opaquePx (argb8 (rd f (at_ 3) 3))
  | 0x20 => argb8 (tget 0 l.palette (rd f (at_ 1) 1))
  | 0x30 => match tileOf f s x y with
      | some t => argb8 (nthD 0 (x % 64) (nthD [] (y % 16) t))
      | none => .zero
  | 0x31 => match tileOf f s x y with
      | some t => argb10 (nthD 0 (x % 64) (nthD [] (y % 16) t))
      | none => .zero
  | _ => ycbcr f l s x y

/-- Steps 1 to 4: fetched, input LUT, alpha by blend mode (R168). -/
def linearPx (f : Reader) (l : Layer) (s : Source) (x y : Nat) : Px :=
  let p := sourcePx f l s x y
  let q : Px := { r := inputLut l.lut.r p.r, g := inputLut l.lut.g p.g, b := inputLut l.lut.b p.b, a := round16 p.a }
  match l.mode with
  | 0 => { q with a := .fin 1 }
  | 2 => { q with r := mul16 q.r q.a, g := mul16 q.g q.a, b := mul16 q.b q.a }
  | _ => q

/-! ## Scaling (R190 to R195) -/

/-- The windowed sinc kernel of width a (R195). -/
def sincKernel (a : Rat) (x : Rat) : Rat := if |x| < a then sinc x * sinc (x / a) else 0

/-- Cubic convolution with a = −1/2, and the linear kernel (R195). -/
def cubicKernel (x : Rat) : Rat :=
  let t := |x|
  let a : Rat := -1 / 2
  if t ≤ 1 then (a + 2) * t ^ 3 - (a + 3) * t ^ 2 + 1
  else if t < 2 then a * t ^ 3 - 5 * a * t ^ 2 + 8 * a * t - 4 * a else 0
def linearKernel (x : Rat) : Rat := max 0 (1 - |x|)

/-- Nearest integer, halves away from zero. -/
def roundAway (q : Rat) : Int := if q < 0 then -((-q + 1 / 2).floor) else (q + 1 / 2).floor

/-- A kernel's weight before the centre tap takes the rest. -/
def kernelWeight (k : Rat → Rat) (first : Int) (phase tap : Nat) : Int :=
  roundAway (1024 * k ((first + (tap : Int) : Int) - (phase : Rat) / 64))

/-- A coefficient of a set (R195, R196). -/
def coefOf (vert : Bool) (c : Coef) (phase tap : Nat) : Int :=
  let taps := if vert then 6 else 8
  let centre := if vert then 2 else 3
  let first : Int := if vert then -2 else -3
  let byKernel := fun k => if tap = centre then
      1024 - (((List.range taps).filter (· ≠ centre)).map (kernelWeight k first phase)).foldl (· + ·) 0
    else kernelWeight k first phase tap
  match c with
  | .loaded t => nthD 0 (phase * taps + tap) t
  | .builtin 1 => byKernel (sincKernel (if vert then 3 else 4))
  | .builtin 2 => byKernel cubicKernel
  | .builtin 3 => byKernel linearKernel
  | .builtin _ => if tap = (if phase < 32 then centre else centre + 1) then 1024 else 0

/-- Position and phase of destination pixel i (R190). -/
def scalerPos (crop dst i : Nat) : Int × Nat :=
  let p : Int := ((2 * i + 1) * scalerStep crop dst : Nat) / 2 - 524288
  let n := p / 1048576
  let f := (roundUp (((p % 1048576 : Int) : Rat) * 64 / 1048576)).toNat
  if f = 64 then (n + 1, 0) else (n, f)

/-- A crop coordinate with the edge replicated (R191). -/
def edge (size : Nat) (v : Int) : Nat := (max 0 (min ((size : Int) - 1) v)).toNat

/-- One axis: products rounded, summed from tap 0 upward (R192). -/
def tapSum (w : Nat → Int) (px : Nat → Px) (n : Nat) : Px :=
  (List.range n).foldl (fun (acc : Option Px) k =>
    let t := (px k).map fun v => mul16 (.fin ((w k : Rat) / 1024)) v
    some (match acc with
      | none => t
      | some a => a.zip add16 t)) none |>.getD .zero

/-- The scaled pixel at destination (i, j), relative to the destination rectangle. -/
def scaledPx (b : Binding) (crop dst : Nat × Nat) (get : Nat → Nat → Px) (i j : Nat) : Px :=
  let (n, fh) := scalerPos crop.1 dst.1 i
  let (m, fv) := scalerPos crop.2 dst.2 j
  let col := fun x => tapSum (fun k => coefOf true b.vset fv k) (fun k => get x (edge crop.2 (m - 2 + (k : Int)))) 6
  let p := tapSum (fun k => coefOf false b.hset fh k) (fun k => col (edge crop.1 (n - 3 + (k : Int)))) 8
  { p with a := clamp01 p.a }

/-- Step 6: the colour matrix (R205). -/
def matrixPx (l : Layer) (p : Px) : Px :=
  if !l.matrixOn then p else
  let row := fun k =>
    let c := fun i => Fl.fin ((nthD 0 (4 * k + i) l.matrix : Rat) / 4096)
    add16 (add16 (add16 (mul16 (c 0) p.r) (mul16 (c 1) p.g)) (mul16 (c 2) p.b)) (mul16 (c 3) p.a)
  { p with r := row 0, g := row 1, b := row 2 }

/-- Steps 1 to 7: what a layer brings to output pixel (x, y). -/
def layerPx (f : Reader) (l : Layer) (s : Source) (x y : Nat) : Px :=
  let i := x - l.dst.x
  let j := y - l.dst.y
  let p := match l.binding with
    | none => linearPx f l s (l.crop.x + i) (l.crop.y + j)
    | some b => scaledPx b (l.crop.w, l.crop.h) (l.dst.w, l.dst.h) (fun u v => linearPx f l s (l.crop.x + u) (l.crop.y + v)) i j
  (matrixPx l p).map denan

/-- Step 8 (R169): one layer blended into the accumulator. -/
def blendPx (l : Layer) (acc p : Px) : Px :=
  let pl := Fl.fin (r16 ((l.alpha : Rat) / 255))
  let a := if l.mode = 0 then Fl.fin 1 else p.a
  let keep := add16 (.fin 1) (fneg (mul16 a pl))
  let one := fun c d => add16 (mul16 c pl) (mul16 d keep)
  { acc with r := one p.r acc.r, g := one p.g acc.g, b := one p.b acc.b }

/-- Whether a stream's frame has become smaller than the crop of a layer that shows it. -/
def importShort (fl : FrameLayer) (s : Source) : Bool :=
  s.mem == 2 && (decide (s.w < fl.layer.crop.x + fl.layer.crop.w) || decide (s.h < fl.layer.crop.y + fl.layer.crop.h))

/-- The byte at an address among runs. -/
def runByte (runs : List (Nat × List Byte)) (a : Nat) : Byte :=
  match runs.find? fun r => decide (r.1 ≤ a) && decide (a < r.1 + r.2.length) with
  | some r => nthD 0 (a - r.1) r.2
  | none => 0

/-- What staging holds of a layer. -/
def stagedRuns (data : List Staged) (n : Nat) : List (Nat × List Byte) :=
  ((data.find? (·.layer == n)).map (·.runs)).getD []

/-- A reader of a frame layer's data in staging. Where a stream's frame has become smaller than the layer's crop, the bytes
are free values (log 142). -/
def layerReader (data : List Staged) (fl : FrameLayer) (s : Source) : Reader := fun a =>
  if importShort fl s then Config.freeByte (fl.importFrame * 2 ^ 32 + a) else runByte (stagedRuns data fl.number) a

/-- Stored codes (R, G, B) of one output pixel (R169, R170). -/
def composePx (data : List Staged) (lut : Lut) (ls : List FrameLayer) (x y : Nat) : Nat × Nat × Nat :=
  let acc := ls.foldl (fun acc fl =>
    match fl.layer.src with
    | none => acc
    | some s => if fl.clips.any (·.has x y) then blendPx fl.layer acc (layerPx (layerReader data fl s) fl.layer s x y) else acc)
    Px.zero
  (storeLut lut.r acc.r, storeLut lut.g acc.g, storeLut lut.b acc.b)

/-- Bytes of a stored pixel (R170). -/
def storedBytes (compact : Bool) (c : Nat × Nat × Nat) : List Byte :=
  if compact then [c.2.2, c.2.1, c.1].map fun v => BitVec.ofNat 8 (min 255 ((v + 2) / 4))
  else leBytes 4 (c.1 * 1048576 + c.2.1 * 1024 + c.2.2)

/-- Layers of a flight in stacking order, lowest first, visible and not dropped. -/
def stacked (f : Flight) : List FrameLayer :=
  sortBy (fun a b => decide (a.layer.z < b.layer.z) || (a.layer.z == b.layer.z && decide (a.number < b.number)))
    (f.layers.filter fun l => l.layer.visible && !(f.dropped.any (·.1 == l.number)))

/-- The lines of a band: first line and count (R171). -/
def bandLines (m : Mode) (b : Nat) : Nat × Nat := (8 * b, min 8 (m.vActive - 8 * b))

/-- The bytes of a band as composed from what staging holds. -/
def bandBytes (data : List Staged) (f : Flight) (b : Nat) : List Byte :=
  let (y0, n) := bandLines f.mode b
  let ls := stacked f
  (List.range n).flatMap fun j => (List.range f.mode.hActive).flatMap fun x =>
    storedBytes f.mode.compact (composePx data f.storeLut ls x (y0 + j))

/-- Address in a die of byte k of a partition (R250). -/
def storeAddr (pages : List Nat) (k : Nat) : Nat := nthD 0 (k / 1048576) pages * 1048576 + k % 1048576

/-- Writes bytes into a partition from byte k. -/
def storeWrite (o : Nat) (pages : List Nat) : Nat → List Byte → Dev → Dev
  | _, [], d => d
  | k, b :: r, d =>
    let a := storeAddr pages k
    storeWrite o pages (k + 1) r
      (if o < 4 then { d with fsA := memPut d.fsA a b } else { d with fsB := memPut d.fsB a b })

/-- Reads bytes of a partition. -/
def storeRead (d : Dev) (o : Nat) (pages : List Nat) (k n : Nat) : List Byte :=
  (rangeFrom k n).map fun i => memGet (if o < 4 then d.fsA else d.fsB) (storeAddr pages i)

/-! ## What a band needs of a layer (R219) -/

/-- First and one past the last source position along one axis that the destination positions `lo` to `hi - 1` need: of an
unscaled layer those that map to them, of a scaled one those that its taps reach, limited to the crop. -/
def axisNeed (scaled : Bool) (back ahead c cn d dn lo hi : Nat) : Nat × Nat :=
  let j0 := max lo d - d
  let j1 := min hi (d + dn) - d
  if j1 ≤ j0 then (0, 0)
  else if !scaled then (c + j0, c + j1)
  else (c + edge cn ((scalerPos cn dn j0).1 - back), c + edge cn ((scalerPos cn dn (j1 - 1)).1 + ahead) + 1)

/-- Source rows of a layer that a band needs; of crystal sources whole tile rows. -/
def bandRows (m : Mode) (fl : FrameLayer) (b : Nat) : Nat × Nat :=
  let l := fl.layer
  let (y0, n) := bandLines m b
  let (r0, r1) := axisNeed l.binding.isSome 2 3 l.crop.y l.crop.h l.dst.y l.dst.h y0 (y0 + n)
  if (l.src.map (isCrystal ·.format)).getD false then (r0 / 16 * 16, ceilDiv r1 16 * 16) else (r0, r1)

/-- Source columns of a layer that its part inside the active area needs (R293). -/
def bandCols (m : Mode) (fl : FrameLayer) : Nat × Nat :=
  let l := fl.layer
  axisNeed l.binding.isSome 3 4 l.crop.x l.crop.w l.dst.x l.dst.w 0 m.hActive

/-- Tile rows, and tile columns, of a crystal layer that a band needs. -/
def bandTileRows (m : Mode) (fl : FrameLayer) (b : Nat) : List Nat :=
  let (r0, r1) := bandRows m fl b
  rangeFrom (r0 / 16) (r1 / 16 - r0 / 16)
def bandTileCols (m : Mode) (fl : FrameLayer) : List Nat :=
  let (c0, c1) := bandCols m fl
  rangeFrom (c0 / 64) (ceilDiv c1 64 - c0 / 64)

/-- Runs (address, bytes) of a layer's planes that a band needs; of a crystal source none. -/
def planeRuns (m : Mode) (fl : FrameLayer) (s : Source) (b : Nat) : List (Nat × Nat) :=
  let (r0, r1) := bandRows m fl b
  let (c0, c1) := bandCols m fl
  let n := formatBytes s.format
  let rows := fun first count base off len => (rangeFrom first count).map fun y => (base + y * s.pitch + off, len)
  if isCrystal s.format || r1 ≤ r0 || c1 ≤ c0 then []
  else if is420 s.format then
    let lo := max (fl.layer.crop.x / 2) ((c0 - 1) / 2)
    let hi := min ((fl.layer.crop.x + fl.layer.crop.w - 1) / 2) ((c1 - 1) / 2 + 1)
    let jl := max (fl.layer.crop.y / 2) ((r0 - 1) / 2)
    let jh := min ((fl.layer.crop.y + fl.layer.crop.h - 1) / 2) ((r1 - 1) / 2 + 1)
    rows r0 (r1 - r0) s.plane0 (c0 * n) ((c1 - c0) * n) ++
      rows jl (jh + 1 - jl) s.plane1 (lo * 2 * n) ((hi + 1 - lo) * 2 * n)
  else if is422 s.format then
    let lo := max (fl.layer.crop.x / 2) ((c0 - 1) / 2)
    let hi := min ((fl.layer.crop.x + fl.layer.crop.w - 1) / 2) ((c1 - 1) / 2 + 1)
    rows r0 (r1 - r0) s.plane0 (lo * 2 * n) ((hi + 1 - lo) * 2 * n)
  else rows r0 (r1 - r0) s.plane0 (c0 * n) ((c1 - c0) * n)

/-- Malformed tiles of a crystal layer among those a band needs (R159), by index. -/
def badTilesOf (data : List Staged) (m : Mode) (fl : FrameLayer) (b : Nat) : List Nat :=
  match fl.layer.src with
  | none => []
  | some s =>
    if !isCrystal s.format then [] else
    (bandTileRows m fl b).flatMap fun ty => (bandTileCols m fl).filterMap fun tx =>
      match tileOf (layerReader data fl s) s (tx * 64) (ty * 16) with
      | some _ => none
      | none => some (ty * ceilDiv s.w 64 + tx)

end Sys2Proof.Machine
end

