-- ==== Sys2Proof/Machine/Oxtas.lean ====
section
/-! DEFINITION. The Oxtas ports as the rest of the block needs them: their state, the dyke ports that prune the cabling
into a tree, and the messages handed to them (R56, R57, R63). -/

namespace Sys2Proof.Machine

def updTide (f : Tide → Tide) (d : Dev) : Dev := { d with tide := f d.tide }

def oxPortOf (d : Dev) (p : Nat) : OxPort := nthD .zero p d.tide.ports
def updOx (p : Nat) (f : OxPort → OxPort) : Dev → Dev := updTide fun t => { t with ports := modifyAt f p t.ports }
def oxUp (d : Dev) (p : Nat) : Bool := (oxPortOf d p).state == .up
def upPorts (d : Dev) : List Nat := (List.range 4).filter (oxUp d)

/-- Whether the Oxtas ports are powered. -/
def linkOn (d : Dev) : Bool := domainOn d 11 && islandOn d 10

def oxCode : OxState → Nat
  | .down => 0 | .signal => 1 | .aligned => 2 | .hello => 3 | .measured => 4 | .up => 5

/-- Whether a port links this member with another member of its domain, neither the other's parent (R63). -/
def dykePort (d : Dev) (p : Nat) : Bool :=
  let t := d.tide
  let x := oxPortOf d p
  (t.role == .master || t.role == .member) && x.hops != 0x3F && x.masterNode == t.masterNode &&
    x.masterPriority == t.masterPriority && t.parent != some p && !x.child

/-- The ports that carry domain traffic: UP and no dyke port. -/
def treePorts (d : Dev) : List Nat := (upPorts d).filter (!dykePort d ·)

/-- Whether domain traffic of a port counts. -/
def onTree (d : Dev) (p : Nat) : Bool := oxUp d p && !dykePort d p

/-- The tree's ports but one. -/
def otherPorts (d : Dev) (p : Nat) : List Nat := (treePorts d).filter (· != p)

/-- Blocks of a message: seven bytes a block, the CRC's four included. -/
def oxBlocks (content : List Byte) : Nat := ceilDiv (content.length + 4) 7

/-- Hands a message to ports; one that is not UP takes none. -/
def sendOx (kind : Nat) (content : List Byte) (ports : List Nat) (d : Dev) : Dev :=
  ports.foldl (fun d p => if !oxUp d p then d else
    updOx p (fun x => { x with tx := x.tx ++ [{ kind := kind, content := content, left := oxBlocks content }] }) d) d

end Sys2Proof.Machine
end

