-- ==== Sys2Proof/Machine/Groups.lean ====
section
/-! DEFINITION. Lock groups and device states as the display path needs them: frame starts, the messages of R74 and R75,
and the passage between RUN and STILL (chapters 2 and 18). -/

namespace Sys2Proof.Machine

/-- End of the minimum blanking of the frame being scanned, in 2^-16 ns. -/
def blankEnd (x : Output) (m : Mode) : Nat :=
  x.frameStart + (x.scanMode.getD m).vActive * lineTime (x.scanMode.getD m) + vBlank m * lineTime m

/-- The grid index that an output with Adaptive-Sync reaches by lengthening the current frame's blanking (R304). -/
def captures (x : Output) (m : Mode) (g : Group) : Option Nat :=
  let k := gridAfter g (blankEnd x m)
  if x.link.asyncActive && decide (gridAt g k + framePeriod m ≤ blankEnd x m + sinkLongest x.link) then some k else none

/-- Earliest start of the next frame of an output, in 2^-16 ns (R176, R269): for a group member its grid instant;
otherwise the end of the active lines plus the minimum blanking, and at a wake no earlier than the first line boundary
after now plus that blanking. -/
def nextStart (d : Dev) (o : Nat) (wake : Bool) : Nat :=
  let x := outOf d o
  match x.mode with
  | none => d.tide.now
  | some m =>
    if x.opening || !x.scanning then d.tide.now else
    let lt := lineTime m
    let nominal := blankEnd x m
    match lockOf d o with
    | some (_, g) =>
      if x.locked then gridAt g (nextIndex g (gridNear g x.frameStart))
      else match captures x m g with
        | some k => gridAt g k
        | none => gridAt g (gridNear g nominal)
    | none =>
      if wake then max nominal (x.frameStart + ceilDiv (d.tide.now - x.frameStart) (max 1 lt) * lt + vBlank m * lt)
      else nominal

/-- A frame that has been opened under one number is known by another. -/
def renumber (o : Nat) (n n' : U32) (d : Dev) : Dev :=
  if n == n' then d else
  let d := updOut o (fun x => { x with
    composed := if x.composed == n then n' else x.composed,
    flights := x.flights.map fun f => if f.frame == n then { f with frame := n' } else f }) d
  { d with staging := d.staging.map fun c => if c.output == o && c.frame == n then { c with frame := n' } else c,
           pipes := d.pipes.map fun p => p.map fun e => if e.1 == o && e.2.1 == n then (o, n', e.2.2) else e,
           uses := d.uses.map fun u => if u.output == o && u.lastFrame == n then { u with lastFrame := n' } else u }

/-- The start of a frame that has been opened and not begun is fixed anew, and with it its deadlines (R222). -/
def restart (o : Nat) (wake : Bool) (d : Dev) : Dev :=
  let x := outOf d o
  if !x.scanning || !x.cutDone then d else
  let n := nextNumber d o
  let at_ := nextStart d o wake
  updOut o (fun x => { x with flights := x.flights.map fun f => if f.frame == n then { f with start := at_ } else f })
    (renumber o x.composed n d)

/-- Bytes of a LOCK message. -/
def lockBytes (g : Nat) : LockMsg → List Byte
  | .define t0 period node output c => [0] ++ le8 g ++ le64 t0 ++ le64 period ++ le16 node ++ le8 output ++ le64 c
  | .quiet node output lo hi => [1] ++ le8 g ++ le16 node ++ le8 output ++ le16 lo ++ le16 hi
  | .busy node output => [2] ++ le8 g ++ le16 node ++ le8 output
  | .stillEnter m k => [3] ++ le8 g ++ le8 m ++ le64 k
  | .wake k => [4] ++ le8 g ++ le64 k
  | .wakeAsk node output landed => [5] ++ le8 g ++ le16 node ++ le8 output ++ leBytes 10 landed

/-- Hands a LOCK message to ports (R74, R75). -/
def sendLock (g : Nat) (m : LockMsg) (ports : List Nat) : Dev → Dev := sendOx 0x78 (lockBytes g m) ports

/-- The leader's part in a QUIET message: once every member it knows is quiet it distributes STILL_ENTER with the
largest divisor every range allows (R74), from a multiple of it on (log 162). -/
def leaderQuiet (g member amax amin : Nat) (d : Dev) : Dev :=
  let d := updGroup g (fun x => { x with
    members := if x.members.contains member then x.members else x.members ++ [member],
    quiet := x.quiet.filter (·.1 != member) ++ [(member, amax, amin)] }) d
  match groupOf d g with
  | none => d
  | some x =>
    let all := (x.members ++ (groupOutputs d g).map (d.tide.node * 8 + ·)).all fun m => x.quiet.any (·.1 == m)
    let async := x.quiet.all fun q => q.2.2 != 0
    let fits := fun (m : Nat) => x.quiet.all fun q =>
      decide (m * x.period * q.2.2 ≤ 1000000000 * 65536) && decide (1000000000 * 65536 ≤ m * x.period * max 1 q.2.1)
    if inStill x || !all || !async || x.period = 0 then d else
    let m := ((rangeFrom 2 15).filter fits).foldl max 1
    let k := ceilDiv (gridAfter x d.tide.now + 2) m * m
    sendLock g (.stillEnter m k) (treePorts d)
      (updGroup g (fun x => { x with still := true, divisor := m, fromIndex := k, wakeIndex := none }) d)

/-- The Adaptive-Sync range a member announces, Hz: (max, min), zeros where it lacks Adaptive-Sync. -/
def asyncRange (x : Output) : Nat × Nat :=
  if x.link.sinkAsync && (x.mode.map (·.async)).getD false then (x.link.asyncMax, x.link.asyncMin) else (0, 0)

/-- A member's QUIET or BUSY message (R74), to another device's leader or to this one's. -/
def sendQuiet (o : Nat) (quiet : Bool) (d : Dev) : Dev :=
  match lockOf d o with
  | none => d
  | some (g, x) =>
    let r := asyncRange (outOf d o)
    let me := d.tide.node * 8 + o
    let d := updOut o (fun y => { y with still := { y.still with said := quiet } }) d
    if x.leaderNode = d.tide.node then
      if quiet then leaderQuiet g me r.1 r.2 d
      else updGroup g (fun x => { x with quiet := x.quiet.filter (·.1 != me) }) d
    else sendLock g (if quiet then .quiet d.tide.node o r.2 r.1 else .busy d.tide.node o) (treePorts d) d

/-- WAKE names the grid index at which a group leaves still refresh (R75): the frames its outputs have opened start
anew. -/
def wakeGroupAt (g k : Nat) (d : Dev) : Dev :=
  let d := updGroup g (fun x => { x with wakeIndex := some k, quiet := [] }) d
  (groupOutputs d g).foldl (fun d o => restart o true (updOut o (fun x => { x with still := { x.still with said := false } }) d)) d

/-- The leader's answer to a member's WAKE (R75): the first grid index at least the wake margin after the commit landed,
at `landed` in 2^-16 ns. -/
def leaderWake (g landed : Nat) (d : Dev) : Dev :=
  match groupOf d g with
  | none => d
  | some x =>
    if !inStill x then d else
    let k := gridAfter x (landed + x.margin * 1000 * 65536)
    wakeGroupAt g k (sendLock g (.wake k) (treePorts d) d)

/-- A commit lands on output `o`, member of a group in still refresh (R75). Answers whether the wake index is known
now. -/
def memberWake (g o : Nat) (d : Dev) : Bool × Dev :=
  match groupOf d g with
  | none => (false, d)
  | some x =>
    if x.leaderNode = d.tide.node then (true, leaderWake g d.tide.now d)
    else (false, sendLock g (.wakeAsk d.tide.node o d.tide.now) (treePorts d) d)

/-- C of R138 from the leader output's own mode and LEAD, in 2^-16 ns. -/
def ownCutOffset (d : Dev) (o : Nat) : Nat :=
  match (outOf d o).mode with
  | none => 0
  | some m => (m.vActive - (outOf d o).lead) * lineTime m

/-- Distributes the definition of a group whose leader is an output of this device (R138). -/
def distributeGroup (g : Nat) (d : Dev) : Dev :=
  match groupOf d g with
  | none => d
  | some x =>
    if x.leaderNode ≠ d.tide.node then d else
    let c := ownCutOffset d x.leaderOutput
    sendLock g (.define x.t0 x.period x.leaderNode x.leaderOutput c) (treePorts d) (updGroup g (fun x => { x with cutOffset := c }) d)

/-- The leader's cut has moved: the definition is distributed anew (R138). -/
def refreshCutOffset (o : Nat) (d : Dev) : Dev :=
  match lockOf d o with
  | none => d
  | some (g, x) =>
    if x.leaderNode == d.tide.node && x.leaderOutput == o && x.cutOffset != ownCutOffset d o then distributeGroup g d else d

/-! ## HARVEST_RUN (R280) -/

/-- Landing of HARVEST_RUN (R275, R276, R280): a start ends still refresh, of a whole group by its WAKE. -/
def landHarvestRun (ch : Change) (d : Dev) : Dev :=
  let c := ch.cmd
  let k := c.u8 24
  let d := updHarvest k (fun h => { h with
    bufState := h.bufState.zipIdx.map fun (s, i) => if s = 2 && (c.u8 25).testBit i then 0 else s }) d
  if c.bit 26 0 then d
  else if c.u32 28 = 0 then
    let h := harvestOf d k
    if !h.running then d
    else if harvestFilling d k then updHarvest k (fun h => { h with remaining := 0, stopCause := some 1 }) d
    else stopHarvest k 1 0 d
  else
    let d := updHarvest k (fun h => { h with running := true, remaining := c.u32 28, stopCause := none }) d
    let o := (harvestOf d k).output
    match lockOf d o with
    | some (g, x) => if inStill x then (memberWake g o d).2 else d
    | none => restart o true (leaveStill o 3 d)

def specHarvestRun : OpSpec where
  len := 1
  fields := fun _ => [fRange 24 1 0 7, fBits 25 15, fBits 26 1, fAny 28 4]
  own := fun x => failIf (!harvestOwned x.view x.c.issuer (x.c.u8 24)) .notOwner 0
  objs := fun _ ch => [(2, ch.cmd.u8 24)]
  stillOwned := fun d ch => harvestOwned d ch.cmd.issuer (ch.cmd.u8 24)
  land := fun _ ch d => landHarvestRun ch d

/-! ## Device states (R543, R544) -/

def devCode : DevState → Nat
  | .run => 0 | .still => 1 | .standby => 2 | .dormant => 3 | .off => 4

/-- Enters a device state and raises POWER_CHANGED; `cause` is WAKE_CAUSE, 0 if not a wake. -/
def setDevState (s : DevState) (cause : Nat) (d : Dev) : Dev :=
  if d.power.state == s then d else
  raise 0x0D01 (devCode s) (le8 (devCode d.power.state) ++ le8 cause) [512] true
    { d with power := { d.power with state := s, stateT := now32 d } }

/-- STILL ends (R544). -/
def leaveDeviceStill (d : Dev) : Dev := if d.power.state == .still then setDevState .run 0 d else d

/-- Whether every condition of R544 holds. -/
def deviceStillOk (d : Dev) : Bool :=
  d.power.stillOk && d.power.state == .run && !d.sec.holdDomains.getLsbD 3 &&
    d.outputs.all (fun x => !x.enabled || x.still.active || x.held || d.sup.safeHold) &&
    d.harvest.all (!·.running) && d.cv.all (·.jobs.isEmpty)

/-- STILL is entered at a cut (R544). -/
def enterDeviceStill (d : Dev) : Dev := if deviceStillOk d then setDevState .still 0 d else d

end Sys2Proof.Machine
end

