-- ==== Sys2Proof/Machine/GuardRead.lean ====
section
/-! DEFINITION. What scan-out reads of the guard planes ahead of a line (chapter 8, R264, R265). -/

namespace Sys2Proof.Machine

/-- Bytes of a guard pixel. -/
def guardBpp (r : GuardRec) : Nat := if r.indexed then 1 else 4

/-- The ARGB words of a plane's row (R257), read from pan memory. -/
def guardWords (d : Dev) (p : GuardPlane) (row : Nat) : List Nat :=
  let base := p.base * 4096
  let a := base + p.live.base + p.live.pitch * row
  (List.range p.live.w).map fun k =>
    if p.live.indexed then
      leNat (memRead d.panMem (base + p.live.palette + 4 * (memGet d.panMem (a + k)).toNat) 4)
    else leNat (memRead d.panMem (a + 4 * k) 4)

/-- Reads one line of every live plane that covers it, lowest plane first (R264); a pan word with an uncorrectable error
leaves a line without words (R265). -/
def readGuardLine (o line : Nat) (d : Dev) : List GuardLine × Dev :=
  (outOf d o).guards.zipIdx.foldl (fun (acc : List GuardLine × Dev) e =>
    let (p, g) := e
    let r := p.live
    if !r.enable || line < r.y || r.y + r.h ≤ line then acc else
    let (ls, d) := acc
    let row := line - r.y
    let req := if o < 4 then 0 else 1
    let (d, bad) := panScan req (p.base * 4096 + r.base + r.pitch * row) (r.w * guardBpp r) d
    let (d, bad) := if !r.indexed then (d, bad) else
      let (d, bad2) := panScan req (p.base * 4096 + r.palette) 1024 d
      (d, bad || bad2)
    (ls ++ [{ plane := g, line := line, rec_ := r, words := if bad then none else some (guardWords d p row) }], d)) ([], d)

/-- Fills the line buffers of an output with one line. -/
def bufferGuardLine (o line : Nat) (d : Dev) : Dev :=
  let (ls, d) := readGuardLine o line d
  updOut o (fun x => { x with guardBuf := x.guardBuf ++ ls }) d

/-- A frame starts: its first four lines are read (log 31). -/
def startGuardLines (o : Nat) (d : Dev) : Dev :=
  (List.range 4).foldl (fun d l => bufferGuardLine o l d) (updOut o (fun x => { x with guardBuf := [] }) d)

end Sys2Proof.Machine
end

