-- ==== Sys2Proof/Machine/Frames.lean ====
section
/-! DEFINITION. Frames in flight: opening a frame at its cut, readiness, fetch, deadlines, drops, writing, stale bands,
holds, retirement, buffer release and harvest (chapters 5, 7 and 8). -/

namespace Sys2Proof.Machine

/-! ## Flights -/

/-- Bands settled (R229), beside the undamaged ones; a hold leaves bands unwritten without making them stale. -/
def settledMask (f : Flight) : Nat := f.written ||| f.stale ||| f.quietAway

/-- Whether a band is still to be composed. -/
def bandOpen (f : Flight) (b : Nat) : Bool := f.composing && f.damaged.testBit b && !(settledMask f).testBit b

/-- Whether every band of a flight is settled. -/
def allSettled (f : Flight) : Bool := f.damaged &&& settledMask f == f.damaged

def flightOf (d : Dev) (o : Nat) (n : U32) : Option Flight := (outOf d o).flights.find? fun f => f.frame == n && !f.retired
def updFlight (o : Nat) (n : U32) (g : Flight → Flight) : Dev → Dev :=
  updOut o fun x => { x with flights := x.flights.map fun f => if f.frame == n && !f.retired then g f else f }

/-- The rectangle of a band. -/
def bandRect (m : Mode) (b : Nat) : Rect := { x := 0, y := 8 * b, w := m.hActive, h := (bandLines m b).2 }

/-- Whether a layer's visible part meets a band. -/
def meetsBand (m : Mode) (fl : FrameLayer) (b : Nat) : Bool :=
  fl.layer.visible && fl.clips.any fun r => !(r.meet (bandRect m b)).empty

def isDropped (f : Flight) (n : Nat) : Bool := f.dropped.any (·.1 == n)

/-- Damage owed to the frame after a flight (R183): to the newer flight if its cut has passed, which is then no quiet frame
(R184), else to the next cut. -/
def oweDamage (o : Nat) (f : Flight) (mask : Nat) (d : Dev) : Dev :=
  if mask = 0 then d else
  let x := outOf d o
  match x.flights.getLast? with
  | some g =>
    if g.frame == f.frame then updOut o (fun x => { x with carry := x.carry ||| mask }) d
    else if !g.composing then d
    else
      let d := updOut o (fun x => { x with flights := x.flights.map fun h =>
        if h.frame == g.frame then { h with damaged := h.damaged ||| (mask &&& allBands h.mode), retired := false } else h }) d
      let d := if g.damaged = 0 then updOut o (fun x => { x with still := { x.still with quiet := 0 } }) d else d
      if x.group.isSome then (if x.still.said then sendQuiet o false d else d)
      else restart o true (leaveStill o 2 d)
  | none => updOut o (fun x => { x with carry := x.carry ||| mask }) d

/-- Deadline of the band a pipe holds. -/
def pipeDeadline (d : Dev) (p : Nat) : Nat :=
  match (d.pipes[p]?).join with
  | some (o, n, b) => match flightOf d o n with
    | some f => bandDeadline d o f b
    | none => 0
  | none => 0

def updGang (g : Nat) (f : Gang → Gang) (d : Dev) : Dev := { d with gangs := modifyAt f g d.gangs }

/-- The waiting pipe that a gang pair's arbiter grants (R476): the earliest deadline as it stands now, then the lowest
number. -/
def nextPipe (rank : Nat → Nat) (waiting : List Nat) : Option Nat :=
  waiting.foldl (fun best p => match best with
    | none => some p
    | some q => if rank p < rank q || (rank p == rank q && decide (p < q)) then some p else some q) none

/-- Arbitration of a gang pair (R476): a free pair goes to a waiting pipe. -/
def grantGang (g : Nat) (d : Dev) : Dev :=
  let a := nthD Gang.zero g d.gangs
  match a.holder, nextPipe (pipeDeadline d) a.waiting with
  | none, some p => updGang g (fun a => { holder := some p, waiting := a.waiting.filter (· != p) }) d
  | _, _ => d

/-- A pipe leaves the scalers' arbiters: it drops what it holds and what it asked for (R476). -/
def leaveScalers (p : Nat) (d : Dev) : Dev :=
  let d := { d with
    pipeNeeds := modifyAt (fun _ => []) p d.pipeNeeds,
    gangs := d.gangs.map fun a => { holder := if a.holder == some p then none else a.holder,
                                    waiting := a.waiting.filter (· != p) } }
  (List.range 16).foldl (fun d g => grantGang g d) d

/-- Pipes lose the bands that a test selects. -/
def emptyPipes (which : Nat × U32 × Nat → Bool) (d : Dev) : Dev :=
  let mine := (List.range 8).filter fun p => ((d.pipes[p]?).join).any which
  mine.foldl (fun d p => leaveScalers p d) { d with pipes := d.pipes.map fun p => if p.any which then none else p }

/-- The staging claim of a band. -/
def claimOf (d : Dev) (o : Nat) (n : U32) (b : Nat) : Option Claim :=
  d.staging.find? fun c => c.output == o && c.frame == n && c.band == b

/-- Frees what a band holds: its staging claim, its pipe and that pipe's place at the scalers' arbiters (R217, R476). -/
def freeBand (o : Nat) (n : U32) (b : Nat) (d : Dev) : Dev :=
  emptyPipes (· == (o, n, b)) { d with staging := d.staging.filter fun c => !(c.output == o && c.frame == n && c.band == b) }

/-! ## Buffer release (R238 to R240) -/

/-- The buffer a layer names: memory kind and plane offsets; import slots are the GD8's own. -/
def bufferOf (l : Layer) : Option (Nat × Nat × Nat) :=
  l.src.bind fun s => if s.mem = 2 then none else some (s.mem, s.plane0, s.plane1)

def releaseEvent (u : Use) (d : Dev) : Dev :=
  raiseOwner 0x0303 u.layer (le32 u.lastFrame.toNat ++ le64 u.plane0 ++ le8 u.mem ++ le8 u.cause) u.owner d

/-- Whether a frame still has to read a layer's buffer. -/
def flightReads (f : Flight) (n : Nat) : Bool :=
  !f.retired && f.composing && !isDropped f n &&
    f.layers.any fun fl => fl.number == n && (List.range (bandCount f.mode)).any fun b => f.damaged.testBit b && meetsBand f.mode fl b

/-- The buffers whose use ends between two devices on an output: a use that a flight has still to read waits for the
retirement of the newest such flight, any other is released at once (R239). -/
def endUses (o : Nat) (old : Dev) (landed : List Change) (d : Dev) : Dev :=
  let flights := (outOf old o).flights
  (layersOn old o).foldl (fun d (n, l) =>
    match bufferOf l with
    | none => d
    | some (mem, p0, p1) =>
      let gone := landed.any fun c => c.act == .cmd .layerDestroy && c.cmd.u16 24 == n
      let now := layerOf d n
      let silent := !gone && (match now with
        | none => true
        | some m => m.owner != l.owner)
      let same := !gone && (match now with
        | some m => bufferOf m == some (mem, p0, p1)
        | none => false)
      if same || silent then d else
      let reader := (flights.filter (flightReads · n)).getLast?
      let frame := ((reader.or flights.getLast?).map (·.frame)).getD (outOf old o).frame
      let u : Use := { layer := n, owner := l.owner, output := o, mem := mem, plane0 := p0, plane1 := p1,
                       lastFrame := frame, cause := b2n gone }
      if reader.isSome then { d with uses := d.uses ++ [u] } else releaseEvent u d) d

/-! ## Holds (R242 to R246) -/

/-- Everyone who hears of an output's hold. -/
def holdPages (d : Dev) (o : Nat) : List Nat := (512 :: layerOwnerPages d o).eraseDups

/-- Stops composing an output: the bands not yet written keep their earlier content and do not count as stale (R244,
R271); hit testing takes the last frame whose composition has begun. -/
def stopComposing (o : Nat) (d : Dev) : Dev :=
  let d := updOut o (fun x => { x with
    shown := ((x.flights.filter (·.composing)).getLast?).or x.shown, flights := x.flights.map fun f =>
    if f.retired then f else { f with composing := false,
                                      quietAway := f.quietAway ||| (allBands f.mode - (allBands f.mode &&& (f.written ||| f.stale))) } }) d
  emptyPipes (·.1 == o) { d with staging := d.staging.filter (·.output != o) }

/-- OUTPUT_HELD. -/
def heldEvent (o : Nat) (on : Bool) (st first : Nat) (frame : U32) (d : Dev) : Dev :=
  raise 0x0304 o (le8 (b2n on) ++ [0] ++ le16 st ++ le32 frame.toNat ++ le16 first) (holdPages d o) true d

/-- Lowest band of a mask. -/
def lowestBand (mask : Nat) : Nat := ((List.range 544).find? mask.testBit).getD 0

/-- The hold of R244. -/
def holdOutput (o : Nat) (f : Flight) (st : Nat) (d : Dev) : Dev :=
  let first := lowestBand (f.damaged - (f.damaged &&& settledMask f))
  let d := stopComposing o d
  let d := updOut o (fun x => { x with held := true, heldStatus := st }) d
  let d := heldEvent o true st first f.frame d
  stopHarvestOn o 4 d

/-! ## Opening a frame at a cut -/

/-- The import buffer a layer of a frame takes, and the frame in it (R80). -/
def importBufOf (d : Dev) (l : Layer) : Nat × Nat :=
  match l.src with
  | some s => if s.mem = 2 then (((importOf d s.slot).bind (·.latest)).getD 3, ((importOf d s.slot).map (·.frames)).getD 0)
    else (0, 0)
  | none => (0, 0)

/-- At a cut the layers of an output that show an import slot take the size of its latest frame (R80, R156). -/
def takeImports (o : Nat) (d : Dev) : Dev :=
  { d with layers := d.layers.map fun e => (e.1, e.2.map fun l =>
      if l.output = o then { l with src := l.src.map (liveSource d) } else l) }

/-- The layers of a frame's configuration. A layer of an import slot that has received no frame shows nothing. -/
def frameLayers (d : Dev) (o : Nat) : List FrameLayer :=
  (layersOn d o).map fun (n, l) =>
    let buf := importBufOf d l
    { number := n, layer := l, clips := if buf.1 = 3 then [] else visibleRects d l, importBuf := buf.1, importFrame := buf.2 }

/-- Bands a layer of a frame covers. -/
def layerBands (m : Mode) (fl : FrameLayer) : Nat := maskOf ((List.range (bandCount m)).filter (meetsBand m fl))

/-- Bands of import-slot layers whose frame changes at this cut (R180). -/
def importDamage (m : Mode) (prev : List FrameLayer) (now : List FrameLayer) : Nat :=
  now.foldl (fun acc fl =>
    if (fl.layer.src.map (·.mem)) == some 2 && fl.layer.visible &&
        !(prev.any fun p => p.number == fl.number && p.importBuf == fl.importBuf && p.importFrame == fl.importFrame) then
        acc ||| layerBands m fl else acc) 0

/-- Buffers taken for the harvested frame: (channel, buffer), with skips counted (R276). -/
def takeHarvest (o : Nat) (d : Dev) : List (Nat × Nat) × Dev :=
  (List.range 8).foldl (fun (acc : List (Nat × Nat) × Dev) k =>
    let (l, d) := acc
    let h := harvestOf d k
    let begun := ((outOf d o).flights.filter fun f => !f.retired && f.harvest.any (·.1 == k)).length
    if !h.running || h.output != o || h.stopCause.isSome || (h.remaining != 0xFFFFFFFF && h.remaining ≤ begun) then acc
    else if h.target = 1 then (l ++ [(k, 0)], d)
    else match (List.range 4).find? fun i => h.bufState[i]? == some 0 with
      | some i => (l ++ [(k, i)], updHarvest k (fun h => { h with bufState := modifyAt (fun _ => 1) i h.bufState }) d)
      | none => (l, updHarvest k (fun h => { h with skipped := h.skipped + 1 }) d)) ([], d)

/-- Counts a quiet frame, or ends the count, and enters still refresh at the threshold (R184, R268, R74). -/
def countQuiet (o : Nat) (n : U32) (marked harvesting : Bool) (d : Dev) : Dev :=
  let x := outOf d o
  let q := if marked then 0 else min 255 (x.still.quiet + 1)
  let d' := updOut o (fun x => { x with still := { x.still with quiet := q } }) d
  if d.sup.safeHold then d
  else if x.group.isSome then
    if marked || harvesting || x.still.threshold = 0 then (if x.still.said then sendQuiet o false d' else d')
    else if !x.still.said && x.still.threshold ≤ q then sendQuiet o true d' else d'
  else if !x.still.active && x.still.threshold != 0 && x.still.threshold ≤ q && !marked && stillEligible x &&
      !harvesting then
    raise 0x0510 o ([1, 0, 0, 0] ++ le32 n.toNat ++ le32 (idlePeriod x / 65536)) [512] false
      (updOut o (fun x => { x with still := { x.still with active := true } }) d')
  else d'

/-- Opens the next frame of an output (R130, R178, R180, R246, R268, R276): the changes of this cut have landed. `old`
is the device before they did, `wake` tells a wake cut. -/
def openFrame (o : Nat) (old : Dev) (landed : List Change) (wake : Bool) (d : Dev) : Dev :=
  match (outOf d o).mode with
  | none => d
  | some m =>
    let d := endUses o old landed d
    let d := if wake && (outOf d o).group.isNone then leaveStill o 1 d else d
    let d := takeImports o d
    let resumed := (outOf d o).resume && (outOf d o).held
    let n := nextNumber d o
    let d := if resumed then heldEvent o false (outOf d o).heldStatus 0 n
        (updOut o (fun x => { x with held := false }) d) else d
    let d := updOut o (fun x => { x with resume := false }) d
    let x := outOf d o
    let frozen := x.held || d.sup.safeHold
    let layers := frameLayers d o
    let prev := ((outOf old o).flights.getLast?.map (·.layers)).getD []
    let (harvest, d) := if frozen then ([], d) else takeHarvest o d
    let all := resumed || x.allNext || x.opening || x.switching || !harvest.isEmpty
    let marked := if all then allBands m else (x.carry ||| importDamage m prev layers) &&& allBands m
    let running := d.harvest.any fun h => h.running && h.output == o
    let d := countQuiet o n (marked != 0) running d
    let f : Flight := {
      frame := n, mode := m, layers := layers, storeLut := x.storeLut, start := nextStart d o wake, guard := x.guard,
      composing := !frozen, damaged := if frozen then 0 else marked, ready := 0, taken := 0, written := 0, stale := 0,
      quietAway := 0, dropped := [], late := 0, arrived := [], kept := [], harvest := harvest, minSlack := none, badTiles := [],
      retired := frozen || marked == 0 }
    let d := updOut o (fun x => { x with
      flights := (x.flights.filter fun g => !g.retired && g.frame != n) ++ [f],
      carry := 0, allNext := false, cutDone := true, composed := n }) d
    enterDeviceStill d

/-! ## Ready bands, fetch and pipes -/

/-- Whether scan-out has finished reading the band's last line in the frame before the flight's (R175). -/
def bandRead (x : Output) (line : Nat) (f : Flight) (b : Nat) : Bool :=
  !x.scanning || x.frame == f.frame || decide (min (8 * b + 7) (f.mode.vActive - 1) < line) ||
    (x.scanMode.any fun m => m.vActive ≤ line)

/-- BAND_READY (R175): the band becomes ready, and the device leaves STILL (R544). -/
def execBandReady (o band : Nat) (s : State) : Host.Outcome State Fault Refusal :=
  onDev (fun _ d =>
    let x := outOf d o
    match x.flights.find? fun f => !f.retired && bandOpen f band && !f.ready.testBit band && bandRead x (lineNow d o) f band with
    | none => d
    | some f => leaveDeviceStill (updFlight o f.frame (fun f => { f with ready := f.ready ||| 2 ^ band }) d)) s

/-- The order in which the pool takes bands (R174): deadline, output, frame, band. -/
def bandBefore (d : Dev) (a b : Nat × Nat × Flight × Nat) : Bool :=
  let ka := bandDeadline d a.1 a.2.2.1 a.2.2.2
  let kb := bandDeadline d b.1 b.2.2.1 b.2.2.2
  if ka != kb then decide (ka < kb)
  else if a.1 != b.1 then decide (a.1 < b.1)
  else if a.2.1 != b.2.1 then decide (a.2.1 < b.2.1)
  else decide (a.2.2.2 < b.2.2.2)

/-- Ready bands not yet settled, each with its output, its place among the output's flights, its flight and its number. -/
def readyBands (d : Dev) : List (Nat × Nat × Flight × Nat) :=
  (List.range 8).flatMap fun o =>
    ((outOf d o).flights.filter (!·.retired)).zipIdx.flatMap fun (f, i) =>
      ((List.range (bandCount f.mode)).filter fun b => bandOpen f b && f.ready.testBit b).map fun b => (o, i, f, b)

/-- The first band in the pool's order among those a test selects. -/
def firstBand (d : Dev) (ok : Nat → Flight → Nat → Bool) : Option (Nat × Flight × Nat) :=
  ((readyBands d).filter fun e => ok e.1 e.2.2.1 e.2.2.2).foldl (fun (best : Option (Nat × Nat × Flight × Nat)) e =>
    match best with
    | none => some e
    | some b => if bandBefore d e b then some e else best) none |>.map fun e => (e.1, e.2.2.1, e.2.2.2)

/-- The tile row of a crystal layer that staging kept from the band above (R219). -/
def keptRow (f : Flight) (fl : FrameLayer) (b : Nat) : Option KeptRow :=
  f.kept.find? fun k => k.layer == fl.number && k.band + 1 == b && (bandTileRows f.mode fl b).contains k.row

/-- Staging bytes of a layer in a band: its rows of the width it needs, or whole tile rows beside the one kept from the
band above (R219). -/
def bandNeed (f : Flight) (fl : FrameLayer) (b : Nat) : Nat :=
  match fl.layer.src with
  | none => 0
  | some s =>
    if isCrystal s.format then
      ((bandTileRows f.mode fl b).length - b2n (keptRow f fl b).isSome) * (bandTileCols f.mode fl).length * 4096
    else ((planeRuns f.mode fl s b).map (·.2)).foldl (· + ·) 0

/-- Layers of a band in the order in which their reads are issued: class W first, each class from the highest (R218). -/
def fetchOrder (f : Flight) (b : Nat) : List FrameLayer :=
  let ls := (stacked f).reverse.filter (meetsBand f.mode · b)
  ls.filter (·.layer.classW) ++ ls.filter (!·.layer.classW)

def inPan (fl : FrameLayer) : Bool := (fl.layer.src.map (·.mem)) == some 1

/-- Claims one part of the staging buffer (R217): bytes claimed and the layers left out, or none while it must wait. -/
def claimPart (cap used : Nat) (needs : List (Nat × Nat)) : Option (Nat × List Nat) :=
  let total := (needs.map (·.2)).foldl (· + ·) 0
  if total ≤ cap then (if used + total ≤ cap then some (total, []) else none)
  else if used ≠ 0 then none
  else some (cap, (needs.foldl (fun (acc : Nat × List Nat) e =>
    if acc.1 + e.2 ≤ cap then (acc.1 + e.2, acc.2) else (acc.1, acc.2 ++ [e.1])) (0, [])).2)

/-! ### Reading a layer (R216, R226, R241) -/

/-- Where a frame layer's bytes lie: whose memory, pan memory or not, and the offset of the layer's address 0. -/
def layerHome (d : Dev) (fl : FrameLayer) (s : Source) : Option (Issuer × Bool × Nat) :=
  if s.mem = 2 then
    (importOf d s.slot).map fun i => (issuerOf i.owner, false, match fl.importBuf with | 0 => i.buf0 | 1 => i.buf1 | _ => i.buf2)
  else some (issuerOf fl.layer.owner, s.mem == 1, 0)

/-- Reads runs of bytes, until one fails. Pan reads are those of requester F2. -/
def readRuns (h : Issuer × Bool × Nat) (runs : List (Nat × Nat)) (d : Dev) :
    Dev × Except MemFail (List (Nat × List Byte)) :=
  runs.foldl (fun acc r => match acc with
    | (d, .error e) => (d, .error e)
    | (d, .ok got) =>
      let (d, x) := readLoc 2 h.1 h.2.1 (h.2.2 + r.1) r.2 d
      (d, x.map fun bytes => got ++ [(r.1, bytes)])) (d, .ok [])

/-- Runs of the stored tiles whose headers have been read: LEN times 64 bytes of a tile's slot, none of a solid one. -/
def slotRuns (s : Source) (rows cols : List Nat) (heads : List (Nat × List Byte)) : List (Nat × Nat) :=
  rows.flatMap fun ty => cols.filterMap fun tx =>
    let h := rd (runByte heads) (s.plane1 + ty * headerPitch s.w + tx * 8) 8
    if h / 128 % 2 = 1 || h % 128 = 0 || 64 < h % 128 then none
    else some (s.plane0 + ty * s.pitch + tx * 4096, h % 128 * 64)

/-- Reads tile rows of a crystal layer: headers, then the stored tiles. -/
def readTiles (h : Issuer × Bool × Nat) (s : Source) (rows cols : List Nat) (d : Dev) :
    Dev × Except MemFail (List (Nat × List Byte)) :=
  match readRuns h (rows.flatMap fun ty => cols.map fun tx => (s.plane1 + ty * headerPitch s.w + tx * 8, 8)) d with
  | (d, .error e) => (d, .error e)
  | (d, .ok heads) =>
    let (d, x) := readRuns h (slotRuns s rows cols heads) d
    (d, x.map (heads ++ ·))

/-- What staging receives of a layer for a band: the runs, and of a crystal layer those of its last tile row apart. -/
def readLayer (f : Flight) (fl : FrameLayer) (b : Nat) (d : Dev) :
    Dev × Except MemFail (List (Nat × List Byte) × List (Nat × List Byte)) :=
  match fl.layer.src with
  | none => (d, .ok ([], []))
  | some s =>
    match layerHome d fl s with
    | none => (d, .ok ([], []))
    | some h =>
      if importShort fl s then (d, .ok ([], []))
      else if !isCrystal s.format then
        let (d, x) := readRuns h (planeRuns f.mode fl s b) d
        (d, x.map fun runs => (runs, []))
      else
        let old := keptRow f fl b
        let rows := (bandTileRows f.mode fl b).filter fun t => !(old.any (·.row == t))
        let cols := bandTileCols f.mode fl
        let had := (old.map (·.runs)).getD []
        match readTiles h s rows.dropLast cols d with
        | (d, .error e) => (d, .error e)
        | (d, .ok a) =>
          let (d, x) := readTiles h s (rows.getLast?).toList cols d
          (d, x.map fun z => (had ++ a ++ z, if rows.isEmpty then had else z))

/-! ### Drops (R224 to R227, R242 to R244) -/

/-- Drops a layer for the rest of a frame. `first` is the first band without it when it is late; a fault loses every
band not yet written. -/
def dropLayer (o : Nat) (f : Flight) (fl : FrameLayer) (reason st : Nat) (band : Option Nat) (stamp : Nat) (d : Dev) : Dev :=
  let lost := (List.range (bandCount f.mode)).filter fun b => bandOpen f b && meetsBand f.mode fl b
  let first := band.getD ((lost.head?).getD 0)
  let d := updFlight o f.frame (fun f => { f with dropped := f.dropped ++ [(fl.number, first)] }) d
  let d := updOut o (fun x => { x with
    drops := x.drops + 1, faults := x.faults + BitVec.ofNat 32 (b2n (reason != 0)), lastDrop := f.frame }) d
  raiseAt stamp 0x0301 fl.number
    (le8 o ++ le8 reason ++ le16 st ++ le32 f.frame.toNat ++ le16 (8 * first) ++ le16 lost.length)
    (ownerPages fl.layer.owner) fl.layer.classW d

/-- A fetch of a layer returns a fault (R226): the layer drops at once, or, where DRAM is lost under HOLD, the output is
held. -/
def fetchFault (o : Nat) (f : Flight) (fl : FrameLayer) (why : MemFail) (d : Dev) : Dev :=
  let loss := why == .fenced
  let st := statusCode (if loss then .memFenced else .memFault)
  if loss && (outOf d o).holdPolicy then holdOutput o f st d
  else dropLayer o f fl (if loss then 2 else 1) st none (nowNs d) d

/-- Reads one layer of a band that has its claim (R216). A layer whose fetch unit is closed is not read (R227). -/
def fetchLayer (o : Nat) (n : U32) (b : Nat) (fl : FrameLayer) (d : Dev) : Dev :=
  match flightOf d o n with
  | none => d
  | some f =>
    if !bandOpen f b || isDropped f fl.number || unitClosed d (0x210 + Config.fetchUnit o b fl.number % 16) then d else
    match readLayer f fl b d with
    | (d, .error e) => fetchFault o f fl e d
    | (d, .ok (runs, last)) =>
      let keeps := f.damaged.testBit (b + 1) && !last.isEmpty
      let d := { d with staging := d.staging.map fun c => if c.output == o && c.frame == n && c.band == b then
        { c with data := c.data ++ [{ layer := fl.number, runs := runs }] } else c }
      updFlight o n (fun f => { f with kept := (f.kept.filter (·.layer != fl.number)) ++
        (if keeps then [{ layer := fl.number, band := b, row := ((bandTileRows f.mode fl b).getLast?).getD 0, runs := last }] else []) }) d

/-- BAND_FETCH_START (R216 to R219): the next band in the pool's order claims staging space, if it has room, and its layers
are read. Each byte is read at this instant (DESIGN CHOICE, log 149). -/
def execBandFetchStart (o : Nat) (frame : U32) (band : Nat) (s : State) : Host.Outcome State Fault Refusal :=
  onDev (fun _ d =>
    let unclaimed := fun o (f : Flight) b => (claimOf d o f.frame b).isNone
    match firstBand d unclaimed with
    | none => d
    | some (o', f, b) =>
      if o' != o || f.frame != frame || b != band then d else
      let need := fun (pan : Bool) => ((fetchOrder f b).filter (inPan · == pan)).map fun fl => (fl.number, bandNeed f fl b)
      let used := fun (g : Claim → Nat) => (d.staging.map g).foldl (· + ·) 0
      match claimPart 8388608 (used (·.dram)) (need false), claimPart 2097152 (used (·.pan)) (need true) with
      | some (n, l), some (n', l') =>
        ((fetchOrder f b).filter fun fl => !(l ++ l').contains fl.number).foldl (fun d fl => fetchLayer o frame b fl d)
          { d with staging := d.staging ++ [{ output := o, frame := frame, band := b, dram := n, pan := n', left := l ++ l',
                                              data := [] }] }
      | _, _ => d) s

/-! ### Pipes and scalers (R174, R193, R476) -/

/-- The gang pairs whose scalers a band's layers need, each once, in stacking order. -/
def bandGangs (f : Flight) (b : Nat) : List Nat :=
  (((stacked f).filter (meetsBand f.mode · b)).filterMap fun fl => fl.layer.binding.map (·.scaler / 2)).eraseDups

/-- A pipe asks for the next scaler it needs, which its arbiter grants at once if it is free (R471). -/
def askScaler (p : Nat) (d : Dev) : Dev :=
  match nthD [] p d.pipeNeeds with
  | [] => d
  | g :: _ => grantGang g (updGang g (fun a => { a with waiting := a.waiting ++ [p] }) d)

/-- A pipe's band passes the scalers it needs, one after another (R193, R476): each is given up once the band's last line
has passed it. It stops at one that another pipe holds. -/
def passScalers (p : Nat) : Nat → Dev → Dev
  | 0, d => d
  | n + 1, d =>
    match nthD [] p d.pipeNeeds with
    | [] => d
    | g :: rest =>
      if (nthD Gang.zero g d.gangs).holder != some p then d else
      passScalers p n (askScaler p (grantGang g (updGang g (fun a => { a with holder := none })
        { d with pipeNeeds := modifyAt (fun _ => rest) p d.pipeNeeds })))

/-- PIPE_TAKES_BAND (R174, R193): a free pipe takes the ready band with the earliest deadline, and asks for the first scaler
it needs. -/
def execPipeTakesBand (pipe : Nat) (s : State) : Host.Outcome State Fault Refusal :=
  onDev (fun _ d =>
    if d.pipes[pipe]? != some none || unitClosed d (0x220 + pipe) then d else
    match firstBand d fun _ f b => !f.taken.testBit b with
    | none => d
    | some (o, f, b) =>
      askScaler pipe (updFlight o f.frame (fun f => { f with taken := f.taken ||| 2 ^ b })
        { d with pipes := modifyAt (fun _ => some (o, f.frame, b)) pipe d.pipes,
                 pipeNeeds := modifyAt (fun _ => bandGangs f b) pipe d.pipeNeeds })) s

/-! ### Deadlines -/

/-- Whether every earlier open band of a flight that a layer meets has the layer's data in staging (R218). -/
def earlierHave (d : Dev) (o : Nat) (f : Flight) (fl : FrameLayer) (b : Nat) : Bool :=
  (List.range b).all fun k => !(bandOpen f k && meetsBand f.mode fl k) || f.arrived.any (fun e => e.1 == fl.number && decide (k ≤ e.2)) ||
    ((claimOf d o f.frame k).map (·.data.any (·.layer == fl.number))).getD false

/-- Notes that the data of layers is complete up to a band (R218). -/
def markArrived (o : Nat) (n : U32) (b : Nat) (ls : List Nat) : Dev → Dev :=
  updFlight o n (fun f => { f with arrived := f.arrived.filter (fun e => !(ls.contains e.1 && decide (e.2 ≤ b))) ++
    (ls.filter fun l => !(f.arrived.any fun e => e.1 == l && decide (b < e.2))).map (·, b) })

/-- Whether a layer's data for a band is complete in staging at the band's deadline. `said` lists the layers whose memory
has answered in time; data known to be complete further down is (R218), and so is pan data while pace holds (R231). -/
def dataComplete (d : Dev) (o : Nat) (f : Flight) (b : Nat) (said : List Nat) (fl : FrameLayer) : Bool :=
  match claimOf d o f.frame b with
  | none => false
  | some c => c.data.any (·.layer == fl.number) && earlierHave d o f fl b &&
      (said.contains fl.number || f.arrived.any (fun e => e.1 == fl.number && decide (b ≤ e.2)) ||
        (inPan fl && decide (1000 ≤ d.power.paceNow) && leadOk d o))

/-- A band whose fetch has not begun at its deadline while pace holds: its pan layers' data is complete all the same
(R231; log 167). -/
def fetchPan (o : Nat) (f : Flight) (b : Nat) (d : Dev) : Dev :=
  if (claimOf d o f.frame b).isSome || d.power.paceNow < 1000 || !leadOk d o then d else
  let ls := (fetchOrder f b).filter inPan
  match claimPart 2097152 ((d.staging.map (·.pan)).foldl (· + ·) 0) (ls.map fun fl => (fl.number, bandNeed f fl b)) with
  | none => d
  | some (n, left) =>
    (ls.filter fun fl => !left.contains fl.number).foldl (fun d fl => fetchLayer o f.frame b fl d)
      { d with staging := d.staging ++ [{ output := o, frame := f.frame, band := b, dram := 0, pan := n, left := left, data := [] }] }

/-- BAND_DEADLINE (R224, R225, R232): once tide time has reached it, each visible layer whose data is not complete is
dropped. `complete` lists those whose memory has answered in time. Deadlines of a frame are taken in order. -/
def execBandDeadline (o : Nat) (frame : U32) (band : Nat) (complete : List Nat) (s : State) :
    Host.Outcome State Fault Refusal :=
  onDev (fun _ d =>
    match flightOf d o frame with
    | none => d
    | some f =>
      if !bandOpen f band || f.late.testBit band || d.tide.now < bandDeadline d o f band ||
        (List.range band).any (fun k => bandOpen f k && !f.late.testBit k) then d else
      let stamp := bandDeadline d o f band / 65536
      let d := fetchPan o f band d
      match flightOf d o frame with
      | none => d
      | some f =>
        let (done, missing) := (fetchOrder f band).partition (dataComplete d o f band complete)
        let d := markArrived o frame band (done.map (·.number)) (updFlight o frame (fun f => { f with late := f.late ||| 2 ^ band }) d)
        missing.foldl (fun d fl => match flightOf d o frame with
          | some f => dropLayer o f fl 0 0 (some band) stamp d
          | none => d) d) s

/-- Why a read that a layer still waits for would fail now: the first failing run of its claimed bands whose data is not
known to be complete. -/
def fetchFails (d : Dev) (o : Nat) (f : Flight) (fl : FrameLayer) (b run : Nat) : Option MemFail :=
  if bandCount f.mode ≤ b || !bandOpen f b || f.late.testBit b || !meetsBand f.mode fl b ||
      f.arrived.any (fun e => e.1 == fl.number && decide (b ≤ e.2)) then none
  else match claimOf d o f.frame b, fl.layer.src.bind fun s => layerHome d fl s with
    | some c, some h => (stagedRuns c.data fl.number)[run]?.bind fun r => locFail d h.1 h.2.1 false (h.2.2 + r.1) r.2.length
    | _, _ => none

/-- LAYER_FETCH_FAULT (R226, R241 to R244): a read still under way returns a fault, because the page has been given back,
the channel fenced or the DRAM island switched off since it was issued. The state says whether it does, and why. -/
def execLayerFetchFault (o : Nat) (frame : U32) (layer band run : Nat) (s : State) : Host.Outcome State Fault Refusal :=
  onDev (fun _ d =>
    match flightOf d o frame with
    | none => d
    | some f =>
      match f.layers.find? (·.number == layer) with
      | none => d
      | some fl =>
        if !f.composing || isDropped f layer || !fl.layer.visible then d else
        match fetchFails d o f fl band run with
        | some e => fetchFault o f fl e d
        | none => d) s

/-! ## Writing and stale bands -/

/-- Pages a flight's frame is stored in. -/
def flightPages (x : Output) (f : Flight) : List Nat := if x.scanning && x.frame == f.frame then x.scanPages else x.pages

/-- A stored pixel's bytes in a harvest channel's format (R274). A compact code in a 10:10:10 image is a free value: the
spec gives no widening (log 15). -/
def harvestPixel (stored wanted : Bool) (b : List Byte) : List Byte :=
  if stored == wanted then b
  else if wanted then
    let w := leNat b
    storedBytes true (w / 1048576 % 1024, w / 1024 % 1024, w % 1024)
  else
    let c := fun i => Config.freeNat (3000000 + (nthD (0 : Byte) i b).toNat) % 1024
    storedBytes false (c 2, c 1, c 0)

/-- Splits bytes into pixels of `n` bytes. -/
def pixelsOf (n : Nat) (b : List Byte) : List (List Byte) :=
  if n = 0 then [] else (List.range (b.length / n)).map fun k => (b.drop (k * n)).take n

/-- Copies one band of a harvested frame to its channels (R274, R276, R278). A DRAM write that faults stops the channel
(R281). For a scaled channel the stored lines are kept, and its image is made when the frame retires (R277). -/
def harvestBand (f : Flight) (b : Nat) (bytes : List Byte) (d : Dev) : Dev :=
  f.harvest.foldl (fun d (k, buf) =>
    let h := harvestOf d k
    let keep := fun (v : List Byte) => updHarvest k (fun h => { h with image := tput [] h.image (f.frame.toNat % 2 * 1024 + b) v }) d
    if !h.running then d else
    if h.binding.isSome then keep bytes else
    let px := pixelsOf (storeBytes f.mode) bytes
    let image := px.flatMap (harvestPixel f.mode.compact h.compact)
    if h.target = 1 then keep image
    else
      let row := f.mode.hActive * harvestBytes h
      let i := issuerOf (h.owner.getD .manager)
      (List.range (bandLines f.mode b).2).foldl (fun d j =>
        let off := h.offset + buf * h.stride + (8 * b + j) * h.pitch
        if !(harvestOf d k).running then d else
        match locFail d i false true off row with
        | none => locWrite d i false off ((image.drop (j * row)).take row)
        | some e => stopHarvest k 2 (statusCode (match e with | .fault => .memFault | .fenced => .memFenced)) d) d) d

/-- Whether the data a band waits for before its deadline is complete: that of every layer it shows (R225). -/
def bandFed (d : Dev) (o : Nat) (f : Flight) (b : Nat) : Bool :=
  (fetchOrder f b).all fun fl => ((claimOf d o f.frame b).any (·.data.any (·.layer == fl.number))) && earlierHave d o f fl b

/-- Whether a pipe may complete its band now (R225, R228): by the write cut-off; after the deadline with what was complete
then, before it only with every layer's data. -/
def mayComplete (d : Dev) (o : Nat) (f : Flight) (b : Nat) : Bool :=
  decide (d.tide.now ≤ bandCutoff d o f b) &&
    (f.late.testBit b || (decide (d.tide.now ≤ bandDeadline d o f b) && bandFed d o f b))

/-- BAND_COMPLETE (R170, R172, R225, R228): a pipe that has passed its scalers writes the band's lines and is free again. A
band already abandoned is not written; one that must still wait stays with its pipe. Where a newer frame overwrites lines
that a scaled harvest may not have read back, a free value says whether it had (R277, log 16). -/
def execBandComplete (pipe : Nat) (s : State) : Host.Outcome State Fault Refusal :=
  onDev (fun _ d =>
    match (d.pipes[pipe]?).join with
    | none => d
    | some (o, n, b) =>
      match flightOf d o n with
      | none => freeBand o n b d
      | some f =>
        if !bandOpen f b then freeBand o n b d
        else if unitClosed d (0x220 + pipe) || !mayComplete d o f b then d else
        let d := passScalers pipe 17 d
        if !(nthD [] pipe d.pipeNeeds).isEmpty then d else
        let d := if f.late.testBit b then d else markArrived o n b ((fetchOrder f b).map (·.number)) d
        let data := ((claimOf d o n b).map (·.data)).getD []
        let bytes := bandBytes data f b
        let bad := ((f.layers.filter fun fl => fl.layer.visible && !isDropped f fl.number && meetsBand f.mode fl b).map fun fl =>
          (fl.number, badTilesOf data f.mode fl b)).filter (!·.2.isEmpty)
        let slack := (bandAt d o f b - d.tide.now) / max 1 (lineTime f.mode)
        let d := storeWrite o (flightPages (outOf d o) f) (8 * b * f.mode.hActive * storeBytes f.mode) bytes d
        let d := updFlight o n (fun f => { f with
          written := f.written ||| 2 ^ b,
          minSlack := some (match f.minSlack with | none => slack | some v => min v slack),
          badTiles := f.badTiles ++ bad.map fun e => { layer := e.1, tiles := e.2 } }) d
        let d := freeBand o n b d
        let short := f.layers.any fun fl => isDropped f fl.number && meetsBand f.mode fl b
        let d := if short then oweDamage o f (2 ^ b) d else d
        let d := harvestBand f b bytes d
        match (outOf d o).flights.find? fun g => !g.retired && g.frame != n && g.frame == n - 1 &&
            g.harvest.any fun e => (harvestOf d e.1).binding.isSome with
        | none => d
        | some g =>
          let (v, d) := drawNat d
          if v % 2 = 0 then d else
          updFlight o g.frame (fun g => { g with harvest := g.harvest.map fun e =>
            if (harvestOf d e.1).binding.isSome then (e.1, e.2 % 16 + 16) else e }) d) s

/-- BAND_WRITE_CUTOFF (R228, R229): a band not composed by its cut-off is abandoned or passed over, and stale. The layers
late at its deadline have been dropped by then. -/
def execBandWriteCutoff (o : Nat) (frame : U32) (band : Nat) (s : State) : Host.Outcome State Fault Refusal :=
  onDev (fun _ d =>
    match flightOf d o frame with
    | none => d
    | some f =>
      if !bandOpen f band || !f.late.testBit band || d.tide.now < bandCutoff d o f band then d else
      let d := updFlight o frame (fun f => { f with stale := f.stale ||| 2 ^ band }) d
      let d := updOut o (fun x => { x with
        stale := x.stale + 1, scanStale := if x.frame == frame then x.scanStale ||| 2 ^ band else x.scanStale }) d
      let d := freeBand o frame band d
      let d := oweDamage o f (2 ^ band) d
      let x := outOf d o
      let n := (bandLines f.mode band).2 * f.mode.hActive * storeBytes f.mode
      harvestBand f band (storeRead d o (flightPages x f) (8 * band * f.mode.hActive * storeBytes f.mode) n) d) s

/-! ## Retirement (R178, R230, R239, R276) -/

/-- STALE_BANDS for a retired frame. -/
def staleEvent (o : Nat) (f : Flight) (d : Dev) : Dev :=
  if f.stale = 0 then d else
  let bands := (List.range (bandCount f.mode)).filter f.stale.testBit
  let hit := f.layers.filter fun fl => bands.any (meetsBand f.mode fl ·)
  let w := hit.any (·.layer.classW)
  raiseAt (nowNs d) 0x0302 o (le32 f.frame.toNat ++ le16 bands.length ++ le16 ((bands.head?).getD 0) ++ le16 ((bands.getLast?).getD 0))
    (512 :: hit.flatMap fun fl => ownerPages fl.layer.owner).eraseDups w d

/-- CRYSTAL_ERROR of each layer of a retired frame (R159): each malformed tile counts once, however many bands met it. -/
def crystalEvents (f : Flight) (d : Dev) : Dev :=
  ((f.badTiles.map (·.layer)).eraseDups).foldl (fun d n =>
    let bad := ((f.badTiles.filter (·.layer == n)).flatMap (·.tiles)).eraseDups
    let first := bad.foldl min 0xFFFFFFFF
    match f.layers.find? (·.number == n) with
    | some fl => raiseOwner 0x0312 n (le32 f.frame.toNat ++ le16 (min 0xFFFF bad.length) ++ le16 first) fl.layer.owner d
    | none => d) d

/-- Codes (R, G, B) of a stored pixel, and their bytes. -/
def codesOf (compact : Bool) (b : List Byte) : Nat × Nat × Nat :=
  if compact then ((nthD (0 : Byte) 2 b).toNat, (nthD (0 : Byte) 1 b).toNat, (nthD (0 : Byte) 0 b).toNat)
  else (leNat b / 1048576 % 1024, leNat b / 1024 % 1024, leNat b % 1024)
def codeBytes (compact : Bool) (c : Nat × Nat × Nat) : List Byte :=
  if compact then [c.2.2, c.2.1, c.1].map (BitVec.ofNat 8 ·) else leBytes 4 (c.1 * 1048576 + c.2.1 * 1024 + c.2.2)

/-- The code that a filter's result is stored as: limited to the format's codes; between two codes a free value says which
(log 16). -/
def codeNear (top : Nat) (x : Fl) : Nat :=
  let q := max 0 (min (top : Rat) (flRat x))
  q.floor.toNat + b2n (q ≠ (q.floor : Rat) && Config.codeUp q)

/-- A scaled image in its channel's format (R190 to R192, R277): the crop is the active area, the destination the channel's
size, and a tap's value is the stored code it reads back (log 16). -/
def scaledImage (f : Flight) (h : Harvest) (b : Binding) : List Byte :=
  let n := storeBytes f.mode
  let top := if f.mode.compact then 255 else 1023
  let get := fun x y =>
    let band := tget [] h.image (f.frame.toNat % 2 * 1024 + y / 8)
    let c := codesOf f.mode.compact ((band.drop ((y % 8 * f.mode.hActive + x) * n)).take n)
    ({ r := .fin c.1, g := .fin c.2.1, b := .fin c.2.2, a := .fin 0 } : Px)
  (List.range h.dstH).flatMap fun j => (List.range h.dstW).flatMap fun i =>
    let p := scaledPx b (f.mode.hActive, f.mode.vActive) (h.dstW, h.dstH) get i j
    harvestPixel f.mode.compact h.compact (codeBytes f.mode.compact (codeNear top p.r, codeNear top p.g, codeNear top p.b))

/-- Writes a scaled image to a DRAM buffer, row by row; a fault stops the channel (R281). -/
def writeImage (k : Nat) (h : Harvest) (buf : Nat) (image : List Byte) (d : Dev) : Dev :=
  let row := h.dstW * harvestBytes h
  let i := issuerOf (h.owner.getD .manager)
  (List.range h.dstH).foldl (fun d j =>
    let off := h.offset + buf * h.stride + j * h.pitch
    if !(harvestOf d k).running then d else
    match locFail d i false true off row with
    | none => locWrite d i false off ((image.drop (j * row)).take row)
    | some e => stopHarvest k 2 (statusCode (match e with | .fault => .memFault | .fenced => .memFenced)) d) d

/-- Sends an image over the port of the export slot a channel feeds, if the port is UP (R78). -/
def sendImage (slot : Nat) (n : U32) (w h : Nat) (image : List Byte) (d : Dev) : Dev :=
  match tget none d.tide.exports slot with
  | some e => if !oxUp d e.port then d else
      sendOx 0x87 (le8 slot ++ le16 w ++ le16 h ++ le32 n.toNat ++ image) [e.port]
        { d with tide := { d.tide with exports := tput none d.tide.exports slot (some { e with lastFrame := n, lastSent := image, lost := false }) } }
  | none => d

/-- Ends a channel's part in a retired frame (R274, R276 to R281). A buffer number of 16 and above marks an incomplete
image. -/
def harvestRetire (o : Nat) (f : Flight) (k buf : Nat) (d : Dev) : Dev :=
  let h := harvestOf d k
  if !h.running || h.output != o then d else
  let inc := decide (16 ≤ buf)
  let buf := buf % 16
  let left := if h.remaining = 0xFFFFFFFF then h.remaining else h.remaining - 1
  let image := match h.binding with
    | some b => if inc then [] else scaledImage f h b
    | none => (List.range (bandCount f.mode)).flatMap fun b => tget [] h.image (f.frame.toNat % 2 * 1024 + b)
  let d := if h.binding.isSome && !inc && h.target = 0 then writeImage k h buf image d else d
  if !(harvestOf d k).running then d else
  let d := if h.target = 1 && !inc then sendImage h.slot f.frame h.dstW h.dstH image d else d
  let d := updHarvest k (fun h => { h with
    remaining := left, lastFrame := if inc then h.lastFrame else f.frame,
    incomplete := h.incomplete + BitVec.ofNat 32 (b2n inc),
    bufState := if h.target = 0 then modifyAt (fun _ => if inc then 0 else 2) buf h.bufState else h.bufState,
    image := h.image.filter fun e => e.1 / 1024 != f.frame.toNat % 2 }) d
  let ow := h.owner.getD .manager
  let d := raiseOwner 0x0601 k (le8 buf ++ le8 (b2n inc + 2 * b2n (f.stale != 0)) ++ [0, 0] ++ le32 f.frame.toNat ++ le32 left) ow d
  let busy := (outOf d o).flights.any fun g => !g.retired && g.frame != f.frame && g.harvest.any (·.1 == k)
  if busy then d else
  let stop := fun cause d => raiseOwner 0x0602 k (le8 cause ++ [0, 0, 0] ++ le32 (harvestOf d k).lastFrame.toNat) ow
    (updHarvest k (fun h => { h with running := false, remaining := 0, stopCause := none }) d)
  match h.stopCause with
  | some c => stop c d
  | none => if left = 0 then stop 0 d else d

/-- Retires a flight whose bands are all settled. -/
def retireFlight (o : Nat) (f : Flight) (d : Dev) : Dev :=
  let d := updFlight o f.frame (fun f => { f with retired := true }) d
  let d := { d with staging := d.staging.filter fun c => !(c.output == o && c.frame == f.frame) }
  let d := if f.stale != 0 then updOut o (fun x => { x with minSlack := 0 }) d
    else match f.minSlack with
      | some v => updOut o (fun x => { x with minSlack := v }) d
      | none => d
  let d := staleEvent o f d
  let d := crystalEvents f d
  let mine := d.uses.filter fun u => u.output == o && u.lastFrame == f.frame
  let d := { d with uses := d.uses.filter fun u => !(u.output == o && u.lastFrame == f.frame) }
  let d := mine.foldl (fun d u => releaseEvent u d) d
  f.harvest.foldl (fun d e => harvestRetire o f e.1 e.2 d) d

/-- CONFIG_RETIRE (R178): the oldest configuration whose last band is settled retires. -/
def execConfigRetire (o : Nat) (s : State) : Host.Outcome State Fault Refusal :=
  onDev (fun _ d =>
    match (outOf d o).flights.find? (!·.retired) with
    | none => d
    | some f => if allSettled f then retireFlight o f d else d) s

/-! ## Frame start -/

/-- Frames of a monitor begin anew: the configuration in force for the frame is taken (R329, R210). -/
def startMonitors (o : Nat) (d : Dev) : Dev :=
  { d with monitors := d.monitors.map fun e => if e.1 / 16 != o then e else
      (e.1, { e.2 with live := if e.2.enable then some ⟨e.2.cfg, e.2.rect, e.2.gen, e.2.owner⟩ else none, reg := e.2.cfg.init,
                       linkDown := false, guardFault := false, covered := false, taking := false }) }

/-- The grid index nearest to now of an output's group, and how far its grid instant lies ahead, in 2^-16 ns (R304). -/
def phaseOf (d : Dev) (g : Group) : Nat × Int :=
  let k := gridNear g d.tide.now
  (k, (gridAt g k : Int) - (d.tide.now : Int))

/-- Whether a start this far from the grid instant is on the grid: 64 ns and one pixel clock (R72). -/
def onGrid (m : Mode) (off : Int) : Bool := decide (off.natAbs ≤ 64 * 65536 + 65536000000 / max 1 m.clock)

/-- The part of the PLL trim that holds an output's period to its group's, in 0.01 ppm (R304). -/
def holdTrim (m : Mode) (g : Group) : Int := ((framePeriod m : Int) - (g.period : Int)) * 100000000 / (max 1 g.period : Nat)

/-- What a frame's start does for an output in a lock group (R72, R304): its lock state, the phase it shows, and the PLL
trim. The pull within ±1,000 ppm is a free value, the whole trim within ±2,000 ppm (log 64). -/
def trackGrid (o : Nat) (n : U32) (d : Dev) : Dev :=
  match lockOf d o, (outOf d o).mode with
  | some (g, gr), some m =>
    let x := outOf d o
    let off := (phaseOf d gr).2
    let lost := x.locked && decide (lineTime m < off.natAbs)
    let (v, d) := drawNat d
    let d := updOut o (fun x => { x with locked := (x.locked || onGrid m off) && !lost }) d
    let d := updLink o (fun k => { k with
      phase := if 0 ≤ off then off / 65536 else -((-off) / 65536),
      trim := if (captures x m gr).isSome then k.trim
        else clampInt (-200000) 200000 (holdTrim m gr + ((v % 200001 : Nat) - 100000)) }) d
    if lost then raise 0x0B08 o (le8 o ++ le8 g ++ le32 n.toNat) (holdPages d o) false d else d
  | _, _ => d

/-- Whether a frame of an output may start now: the cut that opened it has passed, its PLL is locked, its partition
zeroed and the last frame's active lines done; a member on its group's grid starts frames at the group's indices only
(R74). -/
def frameMayStart (d : Dev) (o : Nat) : Bool :=
  let x := outOf d o
  x.enabled && x.cutDone && x.zeroed && x.link.pllLock && activeDone x &&
    (match lockOf d o with
      | some (_, g) => !x.locked || startIndex g (phaseOf d g).1
      | none => true)

/-- OUTPUT_FRAME_START (R70, R72, R74, R75, R304): the next frame's scan-out starts; a group's still refresh begins and
ends with it. -/
def execOutputFrameStart (o : Nat) (s : State) : Host.Outcome State Fault Refusal :=
  onDev (fun _ d =>
    let x := outOf d o
    match x.mode with
    | none => d
    | some m =>
      if !frameMayStart d o then d else
      let now := d.tide.now
      let n : U32 := match lockOf d o with
        | some (_, g) => BitVec.ofNat 32 (phaseOf d g).1
        | none => x.composed
      let stillNow := match lockOf d o with
        | some (_, g) => if d.sup.safeHold then x.still.active else groupStill g (phaseOf d g).1
        | none => x.still.active
      let enters := stillNow && !x.still.active
      let d := if x.still.active && !stillNow then leaveStill o 1 d else d
      let d := renumber o x.composed n d
      let x := outOf d o
      let shown := match x.flights.find? (·.frame == n) with
        | some f => if f.composing then some f else x.shown
        | none => x.shown
      let d := updOut o (fun x => { x with
        frame := n, flights := x.flights.map fun f => if f.frame == n then { f with start := now } else f,
        line := 0, nextLine := 0, frameStart := now,
        period := if x.scanning then BitVec.ofNat 32 (ceilDiv (now - x.frameStart) 65536) else x.period,
        scanning := true, opening := false, switching := false, cutDone := false, shown := shown,
        scanStale := ((x.flights.find? (·.frame == n)).map (·.stale)).getD 0,
        scanPages := x.pages, scanMode := some m, panelLive := x.panelLut,
        still := { x.still with active := stillNow, frames := x.still.frames + BitVec.ofNat 32 (b2n stillNow) } }) d
      let d := if enters then raise 0x0510 o ([1, 0, 0, 0] ++ le32 n.toNat ++ le32 (idlePeriod x / 65536)) [512] false d else d
      let d := startGuardLines o (startMonitors o d)
      let d := refreshDpAudio o (updLink o (fun k => { k with
        up := k.trained, asyncActive := k.trained && m.async && k.sinkAsync }) d)
      let d := { d with power := if d.power.woken then { d.power with woken := false } else d.power }
      refreshCutOffset o (trackGrid o n d)) s

end Sys2Proof.Machine
end

