-- ==== Sys2Proof/Machine/DpLink.lean ====
section
/-! DEFINITION. Hot-plug, capabilities, AUX and link training (chapter 9). -/

namespace Sys2Proof.Machine

/-- Retrains after a loss: the configuration that was in force twice, then the rest of the list below it (R302). -/
def retrainOutput (o : Nat) (cur : Nat × Nat) (d : Dev) : Dev :=
  match (outOf d o).mode with
  | none => d
  | some m =>
    let all := candidatesOf (outOf d o).link m
    if cur.1 = 0 then startTraining o all d
    else startTraining o (cur :: cur :: (all.dropWhile (· != cur)).drop 1) d

/-- Services an IRQ_HPD (R300, R302): a loss on an up link retrains it, a vector is reported, and an output whose last
sequence failed starts a new one. -/
def serviceIrq (o : Nat) (dpcd : List Byte) (loss : Bool) (vector : Byte) (d : Dev) : Dev :=
  let x := outOf d o
  let lost := loss && x.link.trained
  let d := if lost then
      let d := updLink o (fun k => { k with losses := k.losses + 1 }) d
      let d := raise 0x0505 o ((dpcd ++ List.replicate 6 0).take 6 ++ [0, 0] ++ le32 x.frame.toNat) [512] true d
      retrainOutput o (x.link.rate, x.link.lanes) d
    else d
  let d := if vector = 0 then d else raise 0x0506 o [vector] [512] false d
  if x.enabled && x.link.failed && !x.link.training && !x.link.heldDown && !lost then trainOutput o d else d

/-- HPD_RISE (R298, R299): a plug; the capability read starts now, or once the island and the domain are on. -/
def execHpdRise (o : Nat) (s : State) : Host.Outcome State Fault Refusal :=
  onDev (fun _ d =>
    if (outOf d o).link.hpd then d else
    updLink o (fun k => { k with hpd := true, capsRead := false, heldDown := false, capsBusy := dpOn d o,
                                 capsOwed := !dpOn d o }) d) s

/-- HPD_LOW_END (R297, R300): a short low period is ignored, or is an IRQ_HPD, serviced after a running capability
read. -/
def execHpdLowEnd (o lowNs : Nat) (dpcd : List Byte) (loss : Bool) (vector : Byte) (s : State) :
    Host.Outcome State Fault Refusal :=
  onDev (fun _ d =>
    let k := (outOf d o).link
    if !k.hpd || lowNs < 250000 || 2000000 ≤ lowNs || !dpOn d o then d
    else if k.capsBusy then updLink o (fun k => { k with irqOwed := some (dpcd, loss, vector) }) d
    else serviceIrq o dpcd loss vector d) s

/-- HPD_UNPLUG (R297, R299, R302): the link goes down, a training sequence ends, and the capabilities are forgotten. -/
def execHpdUnplug (o : Nat) (s : State) : Host.Outcome State Fault Refusal :=
  onDev (fun _ d =>
    let x := outOf d o
    if !x.link.hpd then d else
    let d := if x.link.up then markLinkDown o d else d
    let d := updLink o (fun k => { k with
      hpd := false, up := false, trained := false, rate := 0, lanes := 0, asyncActive := false, audioActive := false,
      capsRead := false, capsBusy := false,
      capsOwed := false, irqOwed := none, sink128 := false, sinkAudio := false, sinkAsync := false, sink10 := false,
      sinkRate := 0, sinkLanes := 0, asyncMax := 0, asyncMin := 0 }) d
    let d := if x.link.training then failTraining o x.link.lastPhase d else d
    raise 0x0502 o ([0, 0, 0, 0] ++ le32 x.frame.toNat) (holdPages d o) false d) s

/-- The Adaptive-Sync range that capabilities give (R298): the DisplayID block's, or the EDID limits where the sink
ignores the MSA timing. -/
def sinkRange (c : SinkCaps) : Option (Nat × Nat) := c.displayId.or (if c.msaIgnored then c.edid else none)

/-- CAPABILITY_READ_DONE (R298): the summary is stored or reported unread, an enabled output trains, and an IRQ_HPD
that waited is serviced (R297). -/
def execCapabilityReadDone (o : Nat) (caps : Option SinkCaps) (s : State) : Host.Outcome State Fault Refusal :=
  onDev (fun _ d =>
    let k := (outOf d o).link
    if !k.capsBusy || !dpOn d o then d else
    let d := updLink o (fun k => match caps with
      | none => { k with capsBusy := false, capsRead := false, irqOwed := none }
      | some c => { k with
          capsBusy := false, capsRead := true, irqOwed := none, sink128 := c.k128, sinkAudio := c.audio,
          sinkAsync := (sinkRange c).isSome, sink10 := c.bpc10, sinkRate := c.rate % 8, sinkLanes := c.lanes % 16,
          asyncMax := ((sinkRange c).getD (0, 0)).1 % 65536, asyncMin := ((sinkRange c).getD (0, 0)).2 % 65536 }) d
    let w := linkRecord d o
    let d := raise 0x0501 o (le32 (nthD 0 4 w).toNat ++ le32 (nthD 0 5 w).toNat) [512] false d
    let x := outOf d o
    let d := if x.enabled && !x.link.heldDown then trainOutput o d else d
    match k.irqOwed with
    | some (dpcd, loss, v) => serviceIrq o dpcd loss v d
    | none => d) s

/-! ## AUX (R305, R306) -/

/-- Removes an output's running AUX job and completes it. -/
def endAux (j : AuxJob) (st : Status) (detail : Nat) (res : List Byte) (d : Dev) : Dev :=
  finish j.ticket st detail res { d with aux := d.aux.filter (·.ticket.no != j.ticket.no) }

/-- Another attempt, or the end after seven retries. -/
def retryAux (j : AuxJob) (d : Dev) : Dev :=
  if 7 ≤ j.tries then endAux j .timeout j.bytes [] d
  else { d with aux := d.aux.map fun a => if a.ticket.no == j.ticket.no then { a with tries := a.tries + 1 } else a }

/-- The AUX job that runs on an output: none while the GD8's own transactions come first (R305). -/
def auxJob (d : Dev) (o : Nat) : Option AuxJob :=
  let k := (outOf d o).link
  if k.capsBusy || k.training || !dpOn d o then none else d.aux.find? (·.output == o)

/-- AUX_TRANSACTION_END (R306): an attempt that moved fewer bytes than the command asks for is followed by another for the
rest (log 146). A transaction of the GD8's own ends in CAPABILITY_READ_DONE or TRAIN_PHASE_END. -/
def execAuxTransactionEnd (o : Nat) (reply : AuxReply) (s : State) : Host.Outcome State Fault Refusal :=
  onDev (fun _ d =>
    match auxJob d o with
    | none => d
    | some j =>
      match reply with
      | .ack n data =>
        let want := j.cmd.u8 26
        let isRead := j.cmd.u8 25 % 2 == 0
        let j := { j with bytes := min want (j.bytes + n),
                          read := if isRead then j.read ++ (data ++ List.replicate n 0).take n else [] }
        if want ≤ j.bytes then endAux j .ok 0 (j.read.take want) d
        else { d with aux := d.aux.map fun a => if a.ticket.no == j.ticket.no then { j with tries := 0 } else a }
      | .defer => retryAux j d
      | .nack => endAux j .timeout 0xFFFF [] d) s

/-- AUX_REPLY_TIMEOUT (R306). -/
def execAuxReplyTimeout (o : Nat) (s : State) : Host.Outcome State Fault Refusal :=
  onDev (fun _ d => match auxJob d o with
    | none => d
    | some j => retryAux j d) s

/-! ## Training (R301, R302) -/

/-- TRAIN_PHASE_END (R301): the next phase, the link up, or the next candidate. Video is transmitted from the next frame
start (R294). -/
def execTrainPhaseEnd (o : Nat) (e : PhaseEnd) (s : State) : Host.Outcome State Fault Refusal :=
  onDev (fun _ d =>
    let x := outOf d o
    if !x.link.training || !dpOn d o then d else
    match x.link.candidates with
    | [] => failTraining o 3 d
    | (r, l) :: rest =>
      if e.pass && e.phase = 0 then d
      else
        let d := updLink o (fun k => { k with attempts := min 255 (k.attempts + 1) }) d
        if e.pass then
          let m := x.mode
          let d := updLink o (fun k => { k with
            rate := r, lanes := l, trained := true, failed := false, coding128 := decide (5 ≤ r),
            ssc := (m.map (·.ssc)).getD false }) d
          let k := (outOf d o).link
          let d := endTraining o true d
          raise 0x0503 o (le8 r ++ le8 l ++ le8 k.attempts ++ [0] ++ le32 (nextNumber d o).toNat) [512] false d
        else
          let d := updLink o (fun k => { k with lastPhase := min 1 e.phase, candidates := rest }) d
          if rest.isEmpty then failTraining o (min 1 e.phase) d else d) s

/-- TRAIN_SEQUENCE_TIMEOUT (R302): the configuration being tried counts as tried. -/
def execTrainSequenceTimeout (o : Nat) (s : State) : Host.Outcome State Fault Refusal :=
  onDev (fun _ d =>
    if !(outOf d o).link.training then d else
    failTraining o 2 (updLink o (fun k => { k with attempts := min 255 (k.attempts + 1) }) d)) s

/-! ## The pixel PLL (R290, R294, R309) -/

/-- DP_PLL_LOCKED (R294): the output's PLL is locked. -/
def execDpPllLocked (o : Nat) (s : State) : Host.Outcome State Fault Refusal :=
  onDev (fun _ d =>
    let x := outOf d o
    if !x.enabled || !dpOn d o || x.link.relocking || x.link.dead then d else
    updLink o (fun k => { k with pllLock := true, ssc := (x.mode.map (·.ssc)).getD false }) d) s

/-- PLL_UNLOCK. -/
def pllUnlockEvent (o : Nat) (final : Bool) (d : Dev) : Dev :=
  let x := outOf d o
  raise 0x0507 o (le8 (b2n final) ++ le8 x.link.relocks ++ [0, 0] ++ le32 x.frame.toNat) [512] true d

/-- The restart of a DP island that stalled (R309); one that is left reset stays so. -/
def dpStalled (o : Nat) (d : Dev) : Dev :=
  if (outOf d o).link.dead then d else
  let d := if (outOf d o).link.up then markLinkDown o d else d
  let d := if (outOf d o).link.training then failTraining o (outOf d o).link.lastPhase d else d
  let d := updLink o (fun k => { k with pllLock := false, up := false, trained := false, asyncActive := false, audioActive := false,
                                        relocking := true, relocks := 0 }) d
  pllUnlockEvent o false d

/-- PLL_RELOCK_TIMEOUT (R309): the third failure in a row is final. -/
def execPllRelockTimeout (o : Nat) (s : State) : Host.Outcome State Fault Refusal :=
  onDev (fun _ d =>
    if !(outOf d o).link.relocking then d else
    let d := updLink o (fun k => { k with relocks := k.relocks + 1 }) d
    if (outOf d o).link.relocks < 3 then d
    else pllUnlockEvent o true (updLink o (fun k => { k with relocking := false }) d)) s

end Sys2Proof.Machine
end

