-- ==== Sys2Proof/Machine/AudioMix.lean ====
section
/-! DEFINITION. The arithmetic of the mixer: gains, fades, buses, sinks, detectors and meters (chapter 13). -/

namespace Sys2Proof.Machine

/-! ## binary32 (R387) -/

/-- A rational as a binary32 value; beyond the range an infinity. -/
def fin32 (q : Rat) : Fl :=
  let r := r32 q
  if pow2 128 ≤ |r| then .inf (decide (r < 0)) else .fin r

def mul32 : Fl → Fl → Fl
  | .nan, _ => .nan
  | _, .nan => .nan
  | .fin a, .fin b => fin32 (a * b)
  | .inf n, .fin b => if b = 0 then .nan else .inf (n != decide (b < 0))
  | .fin a, .inf n => if a = 0 then .nan else .inf (n != decide (a < 0))
  | .inf n, .inf m => .inf (n != m)

def add32 : Fl → Fl → Fl
  | .nan, _ => .nan
  | _, .nan => .nan
  | .fin a, .fin b => fin32 (a + b)
  | .inf n, .inf m => if n = m then .inf n else .nan
  | .inf n, .fin _ => .inf n
  | .fin _, .inf n => .inf n

def fl1 : Fl := .fin 1
def fl0 : Fl := .fin 0

/-- Sample i of a block; a missing block is silent. -/
def sampleAt (b : Block) (i : Nat) : Fl := nthD fl0 i b

/-- A block from its samples. -/
def mkBlock (f : Nat → Fl) : Block := (List.range 48).map f

/-- Magnitude of a sample. -/
def magOf : Fl → Rat
  | .fin q => |q|
  | .inf _ => pow2 128
  | .nan => 0

/-! ## Gains and fades (R390, R399) -/

/-- The factor of a gain in 1/256 dB: 1 at 0 dB, 0 when muted; which binary32 neighbour it takes is free (log 14). -/
def gainFactor (g : Int) : Fl :=
  if g = -32768 then fl0 else if g = 0 then fl1 else .fin (gain32 (Config.gainUp g) g)

/-- Index of a sample within a ramp: none before it starts. -/
def rampIdx (r : Ramp) (i : Nat) : Option Nat := if i < r.skip then none else some (r.done + i - r.skip)

/-- A ramp after one more block. -/
def Ramp.next (r : Ramp) : Ramp :=
  if 48 ≤ r.skip then { r with skip := r.skip - 48 } else { skip := 0, done := r.done + 48 - r.skip }

/-- A ramp of `n` samples after one more block: none once it has ended. -/
def rampNext (n : Nat) (r : Option Ramp) : Option Ramp :=
  r.bind fun r => let r' := r.next
                  if n ≤ r'.done then none else some r'

/-- A gain at sample i: linear over 64 samples while it changes (R399). -/
def gainAt (src dst : Int) (r : Option Ramp) (i : Nat) : Fl :=
  match r with
  | none => gainFactor dst
  | some r =>
    match rampIdx r i with
    | none => gainFactor src
    | some k =>
      let a := flRat (gainFactor src)
      let b := flRat (gainFactor dst)
      fin32 (a + (b - a) * (min 64 (k + 1) : Nat) / 64)

/-- The fade-in factor sin(π/2 × (k + 1)/64) at sample i; its last step is 1. -/
def fadeInAt (r : Option Ramp) (i : Nat) : Fl :=
  match r with
  | none => fl1
  | some r => match rampIdx r i with
    | none => fl0
    | some k => if 63 ≤ k then fl1 else .fin (grid32 (Config.fadeUp k) (sinPi (((k + 1 : Nat) : Rat) / 128)))

/-- The fade-out factor cos(π/2 × (k + 1)/64) at sample i; its last step is 0. -/
def fadeOutAt (r : Option Ramp) (i : Nat) : Fl :=
  match r with
  | none => fl1
  | some r => match rampIdx r i with
    | none => fl1
    | some k => if 63 ≤ k then fl0 else .fin (grid32 (Config.fadeUp (64 + k)) (sinPi (((63 - k : Nat) : Rat) / 128)))

/-- A port's slots at sample i of a fade. -/
def portFadeAt (f : Option PortFade) (i : Nat) : Fl :=
  match f with
  | none => fl1
  | some f => if f.fadesIn then fadeInAt (some ⟨0, f.done⟩) i else fadeOutAt (some ⟨0, f.done⟩) i

/-- Factor of a 480-sample linear ramp to silence (R411). -/
def quiesceAt (q : Option Ramp) (i : Nat) : Fl :=
  match q.bind (rampIdx · i) with
  | none => fl1
  | some k => fin32 (1 - (min 480 (k + 1) : Nat) / 480)

/-- The factor of the 48-sample fades of R407 at sample k: out runs to 0, in to 1. -/
def streamFade (out : Bool) (k : Nat) : Fl :=
  if out then (if 47 ≤ k then fl0 else denan (ofBits32 (Config.fadeStream k).toNat))
  else if 47 ≤ k then fl1 else denan (ofBits32 (Config.fadeStream (48 + k)).toNat)

def fadeBlock (out : Bool) (b : Block) : Block := mkBlock fun i => mul32 (sampleAt b i) (streamFade out i)

/-! ## Routes and buses (R392, R393, R395) -/

/-- What a route brings at sample i of a source block. -/
def routeAt (r : Route) (src : Block) (i : Nat) : Fl :=
  mul32 (mul32 (mul32 (sampleAt src i) (gainAt r.gainFrom r.gain r.ramp i)) (fadeInAt r.fadeIn i)) (fadeOutAt r.fadeOut i)

/-- Routes into a destination, by number. -/
def routesInto (a : Audio) (dst : Nat) : List Route :=
  sortBy (fun x y => decide (x.number < y.number)) (a.routes.filter (·.dst == dst))

/-- Sum of routes at sample i, in ascending route number. -/
def sumRoutes (rs : List (Route × Block)) (i : Nat) : Fl := rs.foldl (fun acc r => add32 acc (routeAt r.1 r.2 i)) fl0

/-- A bus's scale at sample i: linear over 480 samples while N changes (R393). -/
def scaleAt (b : Bus) (i : Nat) : Rat :=
  match b.scaleRamp with
  | none => b.scaleTo
  | some r => match rampIdx r i with
    | none => b.scaleFrom
    | some k => b.scaleFrom + (b.scaleTo - b.scaleFrom) * (min 480 (k + 1) : Nat) / 480

/-- Output of bus k for the block being mixed: sources from the block before, buses from their last output. -/
def busBlock (a : Audio) (k : Nat) : Block :=
  let b := nthD Bus.zero k a.buses
  if b.idle then mkBlock fun _ => fl0 else
  let rs := (routesInto a (0x5000 + k)).map fun r =>
    (r, if r.src / 4096 = 5 then (nthD Bus.zero (r.src % 4096) a.buses).out else tget [] a.inputs r.src)
  mkBlock fun i => mul32 (mul32 (sumRoutes rs i) (fin32 (scaleAt b i))) (gainAt b.gainFrom b.gain b.gainRamp i)

/-- Signal of a sink from its routes: buses as just mixed, sources from a table. -/
def sinkBlock (a : Audio) (outs : List Block) (src : Tab Block) (dst : Nat) : Block :=
  let rs := (routesInto a dst).map fun r =>
    (r, if r.src / 4096 = 5 then nthD [] (r.src % 4096) outs else tget [] src r.src)
  mkBlock (sumRoutes rs)

/-! ## Slave ports (R402) -/

/-- Whether an endpoint is a slot of a TDM port in slave mode. -/
def onSlave (a : Audio) (code : Nat) : Bool :=
  (code / 4096 == 2 || code / 4096 == 7) && !(nthD Tdm.zero (code % 4096 / 16) a.tdm).master

/-- A block as it leaves a rate converter, 16 samples late, behind the samples still in it (log 169). -/
def converted (held b : Block) : Block := mkBlock fun i => if i < 16 then sampleAt held i else sampleAt b (i - 16)

/-- The samples of a block that stay in the converter; none where all are silent. -/
def heldBack (b : Block) : Block :=
  let l := (List.range 16).map fun i => sampleAt b (32 + i)
  if l.all (· == fl0) then [] else l

/-- Side-tone into an output slot (R401, R403): the input two samples ago. -/
def sideBlock (s : SideTone) (input : Block) : Block :=
  mkBlock fun i =>
    let x := if i < 2 then nthD fl0 i s.tail else sampleAt input (i - 2)
    mul32 (mul32 (mul32 x (gainAt s.gainFrom s.gain s.ramp i)) (fadeInAt s.fadeIn i)) (fadeOutAt s.fadeOut i)

/-! ## Sinks (R387) -/

/-- An integer sample of `w` bits: the code and whether it was clamped. The code of a NaN is a free value. -/
def sinkCode (w : Nat) (x : Fl) : Int × Bool :=
  let top : Rat := 1 - 1 / ((2 ^ (w - 1) : Nat) : Rat)
  match x with
  | .nan => ((Config.freeNat (4000000 + w) % 2 ^ w : Nat) - (2 ^ (w - 1) : Int), false)
  | .inf n => (if n then -(2 ^ (w - 1) : Int) else 2 ^ (w - 1) - 1, true)
  | .fin q =>
    let c := max (-1) (min top q)
    (roundAway (c * ((2 ^ (w - 1) : Nat) : Rat)), decide (c ≠ q))

/-- Bits of a sample on a sink: 24 on DP audio and wide TDM ports, else 16. -/
def sinkBits (a : Audio) (dst : Nat) : Nat :=
  if dst / 4096 = 6 then 24 else if (nthD Tdm.zero (dst % 4096 / 16) a.tdm).sampleW then 24 else 16

/-! ## Detectors (R394) -/

/-- Whether a magnitude reaches a threshold of t/256 dBFS, decided exactly: m^5120 against 10^t. -/
def reaches (t : Int) (m : Rat) : Bool :=
  if m < 1 / 1000000 then false
  else if 1 / 100 ≤ m then true
  else decide (m.den ^ 5120 ≤ m.num.natAbs ^ 5120 * 10 ^ t.natAbs)

/-- A detector after one block. -/
def detect (t : Int) (b : Block) (x : Detector) : Detector :=
  let hits := (b.zipIdx.filter fun e => reaches t (magOf e.1)).map (·.2)
  match hits.getLast? with
  | none => { x with quiet := x.quiet + 48 }
  | some k => { active := true, quiet := 47 - k }

def detOf (a : Audio) (code : Nat) : Detector := tget .zero a.detectors code

/-- Whether a route's source counts as active, and the route is neither muted nor going (R393). -/
def routeActive (a : Audio) (r : Route) : Bool :=
  (detOf a r.src).active && r.gain != -32768 && r.fadeOut.isNone

/-- Whether any source that feeds a destination, directly or through buses, is active (R396). -/
def feedsActive (a : Audio) : Nat → Nat → Bool
  | 0, _ => false
  | n + 1, dst => a.routes.any fun r => r.dst == dst && r.fadeOut.isNone && r.gain != -32768 &&
      (if r.src / 4096 = 5 then feedsActive a n r.src else (detOf a r.src).active)

/-! ## Meters (R416) -/

/-- Level of a squared magnitude: exact silence 0x8000, never below −160 dBFS. -/
def levelOf (sq : Rat) : Int := if sq = 0 then -32768 else level128 (Config.levelUp sq) sq

/-- A meter after one block of its signal. -/
def meterBlock (b : Block) (m : Meter) : Meter :=
  let mags := b.map magOf
  let peak := mags.foldl max 0
  let full := mags.countP fun x => decide (1 ≤ x)
  let bigger := decide (m.peakHold < peak)
  let expired := m.holdMs != 0 && decide (m.holdMs ≤ m.holdAge + 1)
  { m with
    peak := peak, peakHold := if bigger || expired then peak else m.peakHold,
    holdAge := if bigger || expired then 0 else m.holdAge + 1, clips := m.clips + BitVec.ofNat 32 full,
    window := ((mags.map fun x => x * x).foldl (· + ·) 0 :: m.window).take 300 }

/-- RMS² over the last 300 ms. -/
def meterSq (m : Meter) : Rat := (m.window.foldl (· + ·) 0) / 14400

/-- A meter's record (R419). -/
def meterRecord (m : Meter) : List U32 :=
  if m.holder == some .secure then [0, 0, 0, 0] else
  let lv := fun q => unsigned 16 (levelOf q)
  [word32 [(1, b2n m.holder.isSome), (15, 0), (16, m.point)], word32 [(16, lv (m.peakHold * m.peakHold)), (16, lv (m.peak * m.peak))],
   word32 [(16, lv (meterSq m)), (16, m.holdMs)], m.clips]

end Sys2Proof.Machine
end

