-- ==== Sys2Proof/Machine/Settle.lean ====
section
/-! DEFINITION. Completion of transactions and ballots: the landing fields, the reply once every change has landed, and
the tally of domain-wide commits (chapter 4). -/

namespace Sys2Proof.Machine

/-! ## Ballots (R141 to R144) -/

def Tally.zero (b : U32) : Tally :=
  { ballot := b, prepOk := 0, prepFail := 0, landedOk := 0, landedLate := 0, commitFail := 0, firstNode := 0xFFFF,
    firstStatus := 0 }

/-- Adds a vote or a result to a ballot's tally; a 17th tally evicts the one heard of least recently (R144). -/
def addVote (ballot : U32) (node status : Nat) (isResult : Bool) (d : Dev) : Dev :=
  let t := (d.tallies.find? (·.ballot == ballot)).getD (.zero ballot)
  let ok := decide (status = 0)
  let late := decide (status = 2)
  let t := if isResult then
      (if ok then { t with landedOk := t.landedOk + 1 } else if late then { t with landedLate := t.landedLate + 1 }
       else { t with commitFail := t.commitFail + 1 })
    else if ok then { t with prepOk := t.prepOk + 1 } else { t with prepFail := t.prepFail + 1 }
  let t := if !(ok || (isResult && late)) && t.firstNode = 0xFFFF then { t with firstNode := node, firstStatus := status } else t
  { d with tallies := (t :: d.tallies.filter (·.ballot != ballot)).take 16 }

/-- Bytes of a COMMIT message. -/
def ballotMessage (ballot : U32) (coord node status : Nat) (isResult : Bool) : List Byte :=
  le8 (b2n isResult) ++ le32 ballot.toNat ++ le16 coord ++ le16 node ++ le16 status

/-- Sends a vote or a result to the coordinator (R141, R143): tallied here when it is this device, else handed to the
tree's ports, and lost where there is none. -/
def sendBallot (ballot : U32) (coord status : Nat) (isResult : Bool) (d : Dev) : Dev :=
  if ballot = 0 then d
  else if coord = d.tide.node then addVote ballot d.tide.node status isResult d
  else sendOx 0x66 (ballotMessage ballot coord d.tide.node status isResult) (treePorts d) d

/-- Results of TXN_STATUS mode 1. -/
def tallyBytes (t : Tally) : List Byte :=
  le16 t.prepOk ++ le16 t.prepFail ++ le16 t.landedOk ++ le16 t.landedLate ++ le16 t.commitFail ++ le16 t.firstNode ++
    le16 t.firstStatus ++ [0, 0]

/-! ## Landing (R134, R136) -/

/-- Code of HOW. -/
def howCode : How → Nat
  | .untouched => 0 | .cut => 1 | .wakeCut => 2 | .disabledOutput => 3

/-- One landing field (R136). -/
def landingField (t : Txn) (o : Nat) : Nat :=
  match t.landings.find? (·.output == o) with
  | none => 0
  | some l => howCode l.how * 16384 + (if l.how == .disabledOutput then 0 else l.frame.toNat % 16384)

def landingBytes (t : Txn) : List Byte := (List.range 8).flatMap fun o => le16 (landingField t o)

/-- Completes a transaction whose every change has landed: the COMMIT, or the single command, replies (R123, R134). -/
def settleTxn (id : Nat) (d : Dev) : Dev :=
  match txnOf d id with
  | none => d
  | some t =>
    if t.state != .sequenced || t.landings.any (·.pending) || t.waits != 0 then d else
    let (st, det) := t.verdict.getD (.ok, if t.own then 0 else t.changes.length)
    let res := if t.own then t.out else landingBytes t
    let late := (t.commit.map (·.late)).getD false
    let said := if st == .ok && late then .lateApplied else st
    let d := if t.own then { d with txns := d.txns.filter (·.id != id) }
      else updTxn id (fun t => { t with state := .landed, commit := none, lastStatus := said }) d
    let d := sendBallot t.ballot t.coord (statusCode said) true d
    match t.commit with
    | some c => finish c st det res d
    | none => d

/-- One thing a landing waited for has happened. -/
def landingDone (id : Nat) (d : Dev) : Dev := settleTxn id (updTxn id (fun t => { t with waits := t.waits - 1 }) d)

/-- A landing waits for something that is not a cut. -/
def landingWaits (id : Nat) (d : Dev) : Dev := updTxn id (fun t => { t with waits := t.waits + 1 }) d

end Sys2Proof.Machine
end

