-- ==== Sys2Proof/Machine/Audio.lean ====
section
/-! DEFINITION. Family 0x0A: endpoints, landings at block boundaries, host streams, ports and the block boundary itself
(chapter 13). -/

namespace Sys2Proof.Machine

def updAudio (f : Audio → Audio) (d : Dev) : Dev := { d with audio := f d.audio }

/-! ## Endpoints (R388, R389, R417) -/

/-- Number of indexes of an endpoint kind; 0 for an undefined kind. -/
def endCount (kind : Nat) : Nat := nthD 0 kind [0, 512, 64, 8, 8, 32, 64, 64, 128]

/-- An endpoint field: an undefined kind is BAD_PARAM, an index out of range OUT_OF_RANGE. -/
def fEnd (off : Nat) (kinds : List Nat) : Field :=
  ⟨off, 2, fun _ v => if !kinds.contains (v / 4096) then some .badParam
    else if endCount (v / 4096) ≤ v % 4096 then some .outOfRange else none⟩

def allKinds : List Nat := [1, 2, 3, 4, 5, 6, 7, 8]
def isSource (code : Nat) : Bool := code / 4096 ≤ 5
def isDest (code : Nat) : Bool := decide (5 ≤ code / 4096)
/-- TDM slots, microphones and DP audio channels. -/
def isHardware (code : Nat) : Bool := ([2, 3, 6, 7] : List Nat).contains (code / 4096)

/-- The owner of an endpoint that is an object. -/
def endOwner (a : Audio) (code : Nat) : Option Owner :=
  let i := code % 4096
  match code / 4096 with
  | 1 => (nthD Stream.zero (i / 8) a.playback).owner
  | 4 => (nthD Tone.zero i a.tones).owner
  | 5 => (nthD Bus.zero i a.buses).owner
  | 8 => (nthD Stream.zero (i / 8) a.capture).owner
  | _ => none

/-- Whether an endpoint is the secure world's. -/
def endSecure (a : Audio) (code : Nat) : Bool :=
  endOwner a code == some .secure || a.secureHeld.contains code || a.seized.contains code

/-- Whether an owner may route from or into an endpoint (R389); the secure world's own test is its holdings. -/
def endOpen (a : Audio) (ow : Owner) (code : Nat) : Bool :=
  match ow with
  | .secure => endOwner a code == some .secure || a.secureHeld.contains code || a.seized.contains code
  | .manager => !endSecure a code
  | .inst n => if isHardware code then tget none a.grants code == some n else endOwner a code == some ow
  | .delegate => endOwner a code == some ow

/-- Step 8 for an endpoint: the secure world's fails with NOT_PERMITTED, another's with NOT_OWNER. -/
def ownEnd (a : Audio) (i : Issuer) (code : Nat) : Chk :=
  (failIf (endSecure a code) .notPermitted 0).or (failIf (!endOpen a (ownerOf i) code) .notOwner 0)

/-- Step 8 for an object. -/
def ownObj (ow : Option Owner) (i : Issuer) (claim : Bool) : Chk :=
  match ow with
  | none => failIf (!claim) .notOwner 0
  | some .secure => some (.notPermitted, 0)
  | some w => failIf (!(w == ownerOf i || (!claim && mayName w i))) .notOwner 0

/-! ## Routes (R390, R391, R399) -/

def ramp0 (skip : Nat) : Option Ramp := some { skip := skip, done := 0 }

/-- Whether a fade starts at the same sample as a change that lands now: the two are one change (R398). -/
def sameStart (r : Option Ramp) (skip : Nat) : Bool := r == ramp0 skip

/-- Removes the routes that a test selects; a route added by the same change never sounds. -/
def dropRoutes (skip : Nat) (sel : Route → Bool) (a : Audio) : Audio :=
  { a with routes := a.routes.filterMap fun r =>
      if !sel r || (r.fadeOut.isSome && !r.seized) then some r
      else if sameStart r.fadeIn skip then none
      else if r.seized then none
      else some { r with fadeOut := ramp0 skip } }

/-- A route that is present: not on its way out. -/
def liveRoute (r : Route) : Bool := r.fadeOut.isNone || r.seized

/-- Lowest route number not in use. -/
def freeRoute (a : Audio) : Nat :=
  ((List.range 512).find? fun n => a.routes.all fun r => r.number != n || !liveRoute r).getD 0

/-- Lands a route (R390, R391): a gain change of an existing pair, or a new route that replaces what its sink carries.
Answers the route's number. -/
def landRoute (ow : Owner) (src dst : Nat) (gain : Int) (skip : Nat) (a : Audio) : Nat × Audio :=
  match a.routes.find? fun r => r.src == src && r.dst == dst && liveRoute r && (r.owner == .secure) == (ow == .secure) with
  | some r =>
    (r.number, { a with routes := a.routes.map fun x => if x.number == r.number && liveRoute x then
      { x with gainFrom := if sameStart x.ramp skip then x.gainFrom else x.gain, gain := gain,
               ramp := if x.gain = gain then x.ramp else ramp0 skip } else x })
  | none =>
    let a := if dst / 4096 = 5 then a else dropRoutes skip (fun r => r.dst == dst && !r.seized) a
    let n := freeRoute a
    (n, { a with routes := a.routes ++ [{ number := n, src := src, dst := dst, gain := gain, gainFrom := gain, ramp := none,
                                          fadeIn := ramp0 skip, fadeOut := none, owner := ow, seized := false }] })

/-- Whether a destination's previous fade still runs (R400). -/
def dstBusy (a : Audio) (dst : Nat) : Bool :=
  (a.routes.any fun r => r.dst == dst && (r.fadeIn.isSome || r.ramp.isSome || (r.fadeOut.isSome && !r.seized))) ||
    (a.sides.any fun s => s.dst == dst && (s.fadeIn.isSome || s.fadeOut.isSome || s.ramp.isSome)) ||
    (dst / 4096 = 5 && (nthD Bus.zero (dst % 4096) a.buses).gainRamp.isSome)

/-! ## Host streams (R405 to R410) -/

def sampleBytes (fmt : Nat) : Nat := if fmt = 0 then 2 else 4

/-- A sample of a stream's memory. -/
def streamIn (fmt : Nat) (b : List Byte) : Fl :=
  match fmt with
  | 0 => .fin ((signed 16 (leNat b) : Rat) / 32768)
  | 1 => .fin ((signed 24 (leNat b / 256) : Rat) / 8388608)
  | _ => ofBits32 (leNat b)

/-- A sample as a capture stream writes it. F32 keeps the value; the bits of a NaN are free. -/
def streamOut (fmt : Nat) (x : Fl) : List Byte :=
  match fmt with
  | 0 => leBytes 2 (unsigned 16 (sinkCode 16 x).1)
  | 1 => leBytes 4 (unsigned 24 (sinkCode 24 x).1 * 256)
  | _ => leBytes 4 (match x with
      | .fin q => toBits32 q
      | .inf n => if n then 0xFF800000 else 0x7F800000
      | .nan => 0x7F800001 + Config.freeNat 4000100 % 0x7FFFFF)

/-- The ring's pieces that hold `n` frames from position p: offset and frames. -/
def ringPieces (s : Stream) (p n : Nat) : List (Nat × Nat) :=
  let fb := s.channels * sampleBytes s.format
  let i := p % max 1 s.ring
  let a := min n (s.ring - i)
  ((s.ringOff + i * fb, a) :: if a < n then [(s.ringOff, n - a)] else []).filter (·.2 != 0)

def streamIssuer (s : Stream) : Issuer := issuerOf (s.owner.getD .manager)

/-- Subject of a stream's events. -/
def streamSubject (cap : Bool) (k : Nat) : Nat := b2n cap * 256 + k

def streamOf (a : Audio) (cap : Bool) (k : Nat) : Stream := nthD .zero k (if cap then a.capture else a.playback)
def updStream (cap : Bool) (k : Nat) (f : Stream → Stream) : Dev → Dev :=
  updAudio fun a => if cap then { a with capture := modifyAt f k a.capture } else { a with playback := modifyAt f k a.playback }

/-- The last whole millisecond of tide time. -/
def blockNs (d : Dev) : Nat := nowNs d / 1000000 * 1000000

/-- AUDIO_STOPPED (R422). -/
def stoppedEvent (cap : Bool) (k cause st : Nat) (d : Dev) : Dev :=
  let s := streamOf d.audio cap k
  match s.owner with
  | some ow => raiseOwner 0x0A02 (streamSubject cap k) (le8 cause ++ [0] ++ le16 st ++ le64 s.hwPos.toNat) ow d
  | none => d

/-- A stream stops on a fault (R409): playback fades out the block already fetched, which now sounds. -/
def streamFault (cap : Bool) (k : Nat) (why : MemFail) (d : Dev) : Dev :=
  if !(streamOf d.audio cap k).running then d else
  let d := updStream cap k (fun s => { s with
    running := false, quiesce := none, current := s.current.map (fadeBlock true), next := [], fadeIn := false }) d
  match why with
  | .fault => stoppedEvent cap k 0 (statusCode .memFault) d
  | .fenced => stoppedEvent cap k 1 (statusCode .memFenced) d

/-- Reads pieces of a ring; the requester is the audio unit. -/
def readPieces (s : Stream) : List (Nat × Nat) → Dev → Dev × Except MemFail (List Byte)
  | [], d => (d, .ok [])
  | (o, n) :: r, d =>
    match readLoc 5 (streamIssuer s) s.pan o (n * s.channels * sampleBytes s.format) d with
    | (d, .error e) => (d, .error e)
    | (d, .ok b) => match readPieces s r d with
      | (d, .error e) => (d, .error e)
      | (d, .ok b') => (d, .ok (b ++ b'))

/-- Splits interleaved frames into one list of samples a channel. -/
def unpackFrames (s : Stream) (n : Nat) (b : List Byte) : List (List Fl) :=
  let sb := sampleBytes s.format
  (List.range s.channels).map fun c => (List.range n).map fun i =>
    streamIn s.format ((b.drop ((i * s.channels + c) * sb)).take sb)

/-- AUDIO_XRUN, at most once in 100 ms (R407, R408). -/
def xrun (cap : Bool) (k : Nat) (d : Dev) : Dev :=
  let d := updStream cap k (fun s => { s with xruns := s.xruns + 1 }) d
  let s := streamOf d.audio cap k
  if s.xrunAt.any fun t => decide (blockNs d < t + 100000000) then d else
  match s.owner with
  | some ow => raiseAt (blockNs d) 0x0A01 (streamSubject cap k) (le64 s.hwPos.toNat ++ le32 s.xruns.toNat ++ le8 (b2n cap))
      (ownerPages ow) (ow == .secure) (updStream cap k (fun s => { s with xrunAt := some (blockNs d) }) d)
  | none => d

/-- A stream has advanced by `n` frames: HW_POS and HW_STAMP are written, and a notify period may end (R405, R410). -/
def advance (cap : Bool) (k n : Nat) (d : Dev) : Dev :=
  let s := streamOf d.audio cap k
  let pos := BitVec.ofNat 64 (s.hwPos.toNat + n)
  match locFail d (streamIssuer s) s.pan true (s.ctlOff + 16) 16 with
  | some e => streamFault cap k e d
  | none =>
    let d := putLoc 5 (streamIssuer s) s.pan (s.ctlOff + 16) (le64 pos.toNat ++ le64 (blockNs d)) d
    let due := s.notify != 0 && decide (s.notify ≤ s.sinceNote + 1)
    let d := updStream cap k (fun s => { s with hwPos := pos, sinceNote := if due || s.notify = 0 then 0 else s.sinceNote + 1 }) d
    if !due then d else
    match s.owner with
    | some ow => raiseAt (blockNs d) 0x0A03 (streamSubject cap k) (le64 pos.toNat) (ownerPages ow) (ow == .secure) d
    | none => d

/-- Reads APPL_POS. -/
def applPos (s : Stream) (d : Dev) : Dev × Except MemFail Nat :=
  match readLoc 5 (streamIssuer s) s.pan s.ctlOff 8 d with
  | (d, .error e) => (d, .error e)
  | (d, .ok b) => (d, .ok (leNat b))

/-- A playback stream fetches `n` frames for its next block, `48 − n` samples of silence before them (R407, R410). -/
def fetchStream (k n : Nat) (d : Dev) : Dev :=
  let s := streamOf d.audio false k
  match applPos s d with
  | (d, .error e) => streamFault false k e d
  | (d, .ok ap) =>
    let ready := (ap + 2 ^ 64 - s.hwPos.toNat) % 2 ^ 64
    if ready < n || 2 ^ 63 ≤ ready then
      xrun false k (updStream false k (fun s => { s with
        current := s.current.map (fadeBlock true), next := [], fadeIn := true }) d)
    else match readPieces s (ringPieces s s.hwPos.toNat n) d with
      | (d, .error e) => streamFault false k e d
      | (d, .ok b) =>
        let blocks := (unpackFrames s n b).map fun l => List.replicate (48 - n) fl0 ++ l
        let blocks := if s.fadeIn then blocks.map (fadeBlock false) else blocks
        advance false k n (updStream false k (fun s => { s with next := blocks, fadeIn := false }) d)

/-- A playback stream at a block boundary. -/
def playBoundary (k : Nat) (d : Dev) : Dev :=
  let d := updStream false k (fun s => { s with current := s.next, next := [] }) d
  if (streamOf d.audio false k).running then fetchStream k 48 d else d

/-- Writes pieces of a ring. -/
def writePieces (s : Stream) : List (Nat × Nat) → List Byte → Dev → Dev × Option MemFail
  | [], _, d => (d, none)
  | (o, n) :: r, b, d =>
    let len := n * s.channels * sampleBytes s.format
    match locFail d (streamIssuer s) s.pan true o len with
    | some e => (d, some e)
    | none => writePieces s r (b.drop len) (putLoc 5 (streamIssuer s) s.pan o (b.take len) d)

/-- A capture stream writes a block (R408). -/
def captureBoundary (k : Nat) (blocks : List Block) (d : Dev) : Dev :=
  let s := streamOf d.audio true k
  if !s.running then d else
  match applPos s d with
  | (d, .error e) => streamFault true k e d
  | (d, .ok ap) =>
    let used := (s.hwPos.toNat + 2 ^ 64 - ap) % 2 ^ 64
    if s.ring < used + 48 then xrun true k d
    else
      let bytes := (List.range 48).flatMap fun i => (List.range s.channels).flatMap fun c =>
        streamOut s.format (sampleAt (nthD [] c blocks) i)
      match writePieces s (ringPieces s s.hwPos.toNat 48) bytes d with
      | (d, some e) => streamFault true k e d
      | (d, none) => advance true k 48 d

/-- AUDIO_STREAM_FAULT (R409). -/
def execAudioStreamFault (capture : Bool) (stream : Nat) (why : MemFail) (s : State) : Host.Outcome State Fault Refusal :=
  onDev (fun _ d => streamFault capture stream why d) s

/-- HW_POS_LO_READ (R419): the low word is returned and the high word latched; a secure stream reads zero. -/
def execHwPosLoRead (capture : Bool) (stream : Nat) (s : State) : Host.Outcome State Fault Refusal :=
  onDev (fun _ d =>
    let x := streamOf d.audio capture stream
    let v := if x.owner == some .secure then 0 else x.hwPos.toNat
    let d := { d with out := { d.out with host := some (BitVec.ofNat 64 (v % 2 ^ 32)) } }
    if x.owner == some .secure then d
    else updStream capture stream (fun x => { x with latchHi := BitVec.ofNat 32 (v / 2 ^ 32) }) d) s

/-! ## Landings (R398 to R400, R410, R420) -/

/-- Object of a command: the number given, or the one assigned to 0xFF. -/
def audObj (w : AudioWait) : Nat := if w.cmd.u8 24 = 0xFF then w.obj else w.cmd.u8 24

/-- Bytes a stream's ring takes. -/
def ringBytes (c : Cmd) : Nat := c.u32 40 * c.u8 28 * sampleBytes (c.u8 27)

/-- Landing of AUDIO_STREAM. `skip` is the sample of the present block from which the change acts. -/
def landStream (w : AudioWait) (skip : Nat) (d : Dev) : Dev :=
  let c := w.cmd
  let k := audObj w
  let cap := c.bit 26 0
  match c.u8 25 with
  | 0 => updStream cap k (fun s => { Stream.zero with
      latchHi := s.latchHi, owner := some w.owner, pan := c.bit 26 1, format := c.u8 27, channels := c.u8 28, notify := c.u8 29,
      ring := c.u32 40, ringOff := c.u64 32, ctlOff := c.u64 48 }) d
  | 1 =>
    if (streamOf d.audio cap k).running then d else
    let d := updStream cap k (fun s => { s with running := true, quiesce := none, sinceNote := 0, fadeIn := false }) d
    if cap || skip = 0 then d else fetchStream k (48 - min 48 skip) d
  | 2 => updStream cap k (fun s => { s with running := false, quiesce := none, next := s.next.map (fadeBlock true) }) d
  | _ => updStream cap k (fun s => { Stream.zero with latchHi := s.latchHi }) d

/-- Landing of AUDIO_BUS: an AUTO bus follows its inputs, a FIXED one has 1/NMAX; the change of scale ramps as R393's
does (log 21). -/
def landBus (w : AudioWait) (skip : Nat) (d : Dev) : Dev :=
  let c := w.cmd
  let k := audObj w
  updAudio (fun a => { a with buses := modifyAt (fun b =>
    if c.bit 25 0 then Bus.zero else
    let g := signed 16 (c.u16 28)
    { b with
      owner := some w.owner, fixed := c.bit 25 1, nmax := c.u8 26, gain := g,
      gainFrom := if sameStart b.gainRamp skip then b.gainFrom else if b.owner.isNone then g else b.gain,
      gainRamp := if b.owner.isNone || g = b.gain then b.gainRamp else ramp0 skip }) k a.buses }) d

/-- Landing of AUDIO_TONE. -/
def landTone (w : AudioWait) (skip : Nat) (d : Dev) : Dev :=
  let c := w.cmd
  updAudio (fun a => { a with tones := modifyAt (fun t =>
    if c.bit 25 0 then Tone.zero else
    { t with
      owner := some w.owner, on := c.bit 25 1, freq := c.u16 26, level := signed 16 (c.u16 28),
      run := if t.on then t.run else { skip := skip, done := 0 }, quiesce := none }) (audObj w) a.tones }) d

/-- Landing of AUDIO_SIDETONE. -/
def landSide (c : Cmd) (skip : Nat) (d : Dev) : Dev :=
  updAudio (fun a => { a with sides := modifyAt (fun s =>
    if !c.bit 25 0 then
      (if s.enable then { s with enable := false, fadeOut := ramp0 skip } else s)
    else
      let g := signed 16 (c.u16 30)
      let same := s.enable && s.src == c.u16 26 && s.dst == c.u16 28
      if same then { s with gainFrom := s.gain, gain := g, ramp := if g = s.gain then s.ramp else ramp0 skip }
      else { enable := true, src := c.u16 26, dst := c.u16 28, gain := g, gainFrom := g, ramp := none,
             fadeIn := ramp0 skip, fadeOut := none, tail := [] }) (c.u8 24) a.sides }) d

/-- Landing of AUDIO_PORT. A reconfiguration other than ENABLE or AUTO_OFF fades the slots out and in around a silence of
at most 2 blocks, whose length is a free value (R420). -/
def landPort (c : Cmd) (skip : Nat) (d : Dev) : Dev :=
  let t := c.u8 24
  if t ≤ 3 then
    let set := fun (p : Tdm) =>
      let p' := { p with
        enabled := c.bit 26 0, master := c.bit 26 1, i2s := c.bit 26 2, delay := c.bit 26 3, autoOff := c.bit 26 4,
        slots := c.u8 27, slotW := c.bit 28 0, sampleW := c.bit 28 1, offMs := c.u16 30,
        off := p.off && c.bit 26 0 && c.bit 26 4, clockOk := p.clockOk && c.bit 26 0 && !c.bit 26 1 && !p.master }
      let shape := fun (q : Tdm) => (q.master, q.i2s, q.delay, q.slots, q.slotW, q.sampleW, q.offMs)
      if p.enabled && p'.enabled && shape p != shape p' then { p' with redo := some { fadesIn := false, done := 0 } } else p'
    updAudio (fun a => { a with tdm := modifyAt set t a.tdm }) d
  else match t with
    | 4 => updAudio (fun a => { a with
        micMask := c.u8 27, hpf := c.bit 26 0,
        micRedo := if a.hpf != c.bit 26 0 && a.micMask != 0 then some { fadesIn := false, done := 0 } else a.micRedo }) d
    | 5 =>
      let o := c.u8 25
      refreshDpAudio o (updAudio (fun a => { a with dp := modifyAt (fun p => { p with
        enable := c.bit 26 0, channels := c.u8 27, offMs := c.u16 30, off := p.off && c.bit 26 0 }) o a.dp }) d)
    | 6 => updAudio (fun a => { a with threshold := signed 16 (c.u16 26), holdMs := c.u16 28 }) d
    | _ =>
      let e := c.u16 26
      let holder : Option Nat := if c.bit 30 0 then none else some (c.u16 28)
      updAudio (fun a =>
        let old := tget none a.grants e
        let a := if old == holder then a else match old with
          | some n => dropRoutes skip (fun r => (r.src == e || r.dst == e) && r.owner == .inst n) a
          | none => a
        { a with grants := tput none a.grants e holder }) d

/-- Landing of AUDIO_METER, for the manager or the secure world. -/
def landMeter (ow : Owner) (c : Cmd) (d : Dev) : Dev :=
  updAudio (fun a => { a with meters := modifyAt (fun _ =>
    if c.bit 25 0 then Meter.zero
    else { Meter.zero with holder := some ow, point := c.u16 26, holdMs := c.u16 28 }) (c.u8 24) a.meters }) d

/-- Outputs whose DP audio may start or stop with a route. -/
def refreshAll (d : Dev) : Dev := (List.range 8).foldl (fun d o => refreshDpAudio o d) d

/-- Lands one change; answers the results of its reply. -/
def applyAudio (w : AudioWait) (skip : Nat) (d : Dev) : List Byte × Dev :=
  let c := w.cmd
  match w.op with
  | .audioStream => (le8 (audObj w), landStream w skip d)
  | .audioRoute =>
    let (n, a) := landRoute w.owner (c.u16 24) (c.u16 26) (signed 16 (c.u16 28)) skip d.audio
    (le16 n, refreshAll { d with audio := a })
  | .audioUnroute =>
    ([], refreshAll (updAudio (dropRoutes skip fun r => r.src == c.u16 24 && r.dst == c.u16 26 && liveRoute r &&
      (r.owner == .secure) == (w.owner == .secure)) d))
  | .audioBus => (le8 (audObj w), landBus w skip d)
  | .audioPort => ([], landPort c skip d)
  | .audioMeter => ([], landMeter w.owner c d)
  | .audioTone => (le8 (audObj w), landTone w skip d)
  | .audioSidetone => ([], landSide c skip d)
  | _ => ([], d)

/-- The destinations a change is a change to (R400). -/
def waitDsts (w : AudioWait) : List Nat :=
  match w.op with
  | .audioRoute => [w.cmd.u16 26]
  | .audioUnroute => [w.cmd.u16 26]
  | .audioSidetone => [w.cmd.u16 28]
  | .audioBus => [0x5000 + audObj w]
  | _ => []

/-- Ends a landing: its transaction has its results and waits for one thing less. -/
def landedAudio (w : AudioWait) (res : List Byte) (d : Dev) : Dev :=
  match w.txn with
  | none => d
  | some id => landingDone id (updTxn id (fun t => { t with out := if t.own then res else t.out }) d)

/-- Lands the waiting changes at a block boundary, in queue order; one to a destination whose fade still runs waits, and
so does every later one to it (R398, R400). -/
def landWaiting (d : Dev) : Dev :=
  let before := d.audio
  let ws := before.waiting
  let (kept, d) := ws.foldl (fun (acc : List AudioWait × Dev) w =>
    let (kept, d) := acc
    let dsts := waitDsts w
    if dsts.any fun x => dstBusy before x || kept.any fun k => (waitDsts k).contains x then (kept ++ [w], d)
    else
      let (res, d) := applyAudio w 0 d
      (kept, landedAudio w res d)) ([], d)
  updAudio (fun a => { a with waiting := kept }) d

/-- The device as its waiting audio changes will leave it. -/
def audioView (d : Dev) : Dev := d.audio.waiting.foldl (fun d w => (applyAudio w 0 d).2) d

/-- Sample of the present block at or after now (R386, R398). -/
def sampleNow (d : Dev) : Nat := ceilDiv ((nowNs d - blockNs d) * 3) 62500

/-- The landing of every change of this family: with a launch instant it acts from the next sample, otherwise it waits for
the block boundary (R398). -/
def landAudio (op : Op) (id : Nat) (ch : Change) (d : Dev) : Dev :=
  let w : AudioWait := { op := op, cmd := ch.cmd, owner := ownerOf ch.cmd.issuer, obj := ch.obj, txn := some id }
  let instant := (txnOf d id).any fun t => t.wait.isSome
  let busy := (waitDsts w).any fun x => dstBusy d.audio x || d.audio.waiting.any fun k => (waitDsts k).contains x
  if instant && !busy then
    let (res, d) := applyAudio w (sampleNow d) d
    updTxn id (fun t => { t with out := if t.own then res else t.out }) d
  else landingWaits id (updAudio (fun a => { a with waiting := a.waiting ++ [w] }) d)

/-! ## The block boundary (R386 to R416) -/

/-- The hardware inputs during the block that ends, through their ports' fades, as their ports bring them. -/
def portInputs (a : Audio) (inputs : List (Nat × List U32)) : Tab Block :=
  let hw := fun code (b : List U32) =>
    let p := nthD Tdm.zero (code % 4096 / 16) a.tdm
    let open_ := if code / 4096 = 2 then p.enabled && !p.off && (p.master || p.clockOk || p.clock.isSome) && p.silent = 0
      else a.micMask.testBit (code % 4096) && a.micSilent = 0
    if !open_ then mkBlock fun _ => fl0 else
    mkBlock fun i =>
      let x := ofBits32 (nthD 0 i b).toNat
      if code / 4096 = 2 then mul32 (mul32 x (portFadeAt p.clock i)) (portFadeAt p.redo i) else mul32 x (portFadeAt a.micRedo i)
  inputs.foldl (fun t e => if e.1 / 4096 = 2 || e.1 / 4096 = 3 then tput [] t e.1 (hw e.1 e.2) else t) []

/-- The signals of every source during the block that ends (R393): hardware inputs, those of slave ports through their rate
converters (R402), streams, tone generators. -/
def gatherSources (a : Audio) (raw : Tab Block) : Tab Block :=
  let t : Tab Block := (tkeys raw ++ tkeys a.slaveIn).eraseDups.foldl (fun t code =>
    tput [] t code (if onSlave a code then converted (tget [] a.slaveIn code) (tget [] raw code) else tget [] raw code)) []
  let t := a.playback.zipIdx.foldl (fun t (s, k) => s.current.zipIdx.foldl (fun t (b, c) =>
    tput [] t (0x1000 + k * 8 + c) (mkBlock fun i => mul32 (sampleAt b i) (quiesceAt s.quiesce i))) t) t
  a.tones.zipIdx.foldl (fun t (x, k) =>
    if !x.on then t else tput [] t (0x4000 + k) (mkBlock fun i =>
      match rampIdx x.run i with
      | none => fl0
      | some n => mul32 (denan (ofBits32 (Config.toneSample x.freq n x.level).toNat)) (quiesceAt x.quiesce i))) t

/-- What the rate converters of the slave ports hold back of a table of blocks. -/
def holdBack (a : Audio) (t : Tab Block) : Tab Block :=
  t.foldl (fun u e => if onSlave a e.1 then tput [] u e.1 (heldBack e.2) else u) []

/-- Sinks in use: routed, fed by a side-tone path, or still fed by a rate converter. -/
def usedSinks (a : Audio) : List Nat :=
  ((a.routes.map (·.dst)).filter (fun c => c / 4096 = 6 || c / 4096 = 7) ++ tkeys a.slaveOut ++
    (a.sides.filter fun s => s.enable || s.fadeOut.isSome).map (·.dst)).eraseDups

/-- Factor of the sinks' fade before the island stops (R418). -/
def closeAt (c : Option Nat) (i : Nat) : Fl :=
  match c with
  | none => fl1
  | some k => if 479 ≤ k + i then fl0 else denan (ofBits32 (Config.fadeSinks (k + i)).toNat)

/-- The input of a side-tone path: one that ends on a slave port stays in that port's clock (R402). -/
def sideInput (a : Audio) (raw src : Tab Block) (s : SideTone) : Block := tget [] (if onSlave a s.dst then raw else src) s.src

/-- The signal of one sink for the block that ends: what its routes bring, on a slave port through its rate converter
(R402), and its side-tones. -/
def sinkSignal (a : Audio) (raw src base : Tab Block) (dst : Nat) : Block :=
  let base := if onSlave a dst then converted (tget [] a.slaveOut dst) (tget [] base dst) else tget [] base dst
  let sides := (a.sides.filter fun s => (s.enable || s.fadeOut.isSome) && s.dst == dst).map fun s => sideBlock s (sideInput a raw src s)
  let p := nthD Tdm.zero (dst % 4096 / 16) a.tdm
  mkBlock fun i =>
    let x := sides.foldl (fun x b => add32 x (sampleAt b i)) (sampleAt base i)
    let x := if dst / 4096 = 7 then (if p.silent != 0 then fl0 else mul32 x (portFadeAt p.redo i)) else x
    mul32 x (closeAt a.closing i)

/-- One more block of a port's reconfiguration and clock fades; `gap` is the free length of the silence. -/
def portNext (gap : Nat) (p : Tdm) : Tdm :=
  let p : Tdm := { p with clock := p.clock.bind fun f =>
    if 64 ≤ f.done + 48 then (if f.fadesIn then none else some { f with done := 64 }) else some { f with done := f.done + 48 } }
  let p : Tdm := if p.clockOk || (p.clock.any (·.fadesIn)) then p else { p with clock := p.clock.filter fun f => f.done < 64 }
  if p.silent != 0 then
    (if p.silent = 1 then { p with silent := 0, redo := some { fadesIn := true, done := 0 } } else { p with silent := p.silent - 1 })
  else match p.redo with
    | none => p
    | some f =>
      if f.done + 48 < 64 then { p with redo := some { f with done := f.done + 48 } }
      else if f.fadesIn then { p with redo := none }
      else if gap = 0 then { p with redo := some { fadesIn := true, done := 0 } }
      else { p with silent := gap, redo := some { fadesIn := true, done := 0 } }

/-- Every ramp and fade after one more block (R393, R399, R411). -/
def advanceRamps (gap : Nat) (raw src : Tab Block) (a : Audio) : Audio :=
  let mic := portNext gap { Tdm.zero with clockOk := true, redo := a.micRedo, silent := a.micSilent }
  { a with
    routes := a.routes.filterMap fun r =>
      let gone := r.fadeOut.isSome && (rampNext 64 r.fadeOut).isNone
      if gone && !r.seized then none
      else some { r with
        ramp := rampNext 64 r.ramp, gainFrom := if (rampNext 64 r.ramp).isNone then r.gain else r.gainFrom,
        fadeIn := rampNext 64 r.fadeIn,
        fadeOut := if gone then r.fadeOut else rampNext 64 r.fadeOut },
    buses := a.buses.map fun b => { b with
      gainRamp := rampNext 64 b.gainRamp, gainFrom := if (rampNext 64 b.gainRamp).isNone then b.gain else b.gainFrom,
      scaleRamp := rampNext 480 b.scaleRamp, scaleFrom := if (rampNext 480 b.scaleRamp).isNone then b.scaleTo else b.scaleFrom },
    tones := a.tones.map fun t => if !t.on then t else { t with run := t.run.next, quiesce := t.quiesce.map Ramp.next },
    sides := a.sides.map fun s =>
      let input := sideInput a raw src s
      { s with
        ramp := rampNext 64 s.ramp, gainFrom := if (rampNext 64 s.ramp).isNone then s.gain else s.gainFrom,
        fadeIn := rampNext 64 s.fadeIn, fadeOut := rampNext 64 s.fadeOut,
        tail := if s.enable || s.fadeOut.isSome then [sampleAt input 46, sampleAt input 47] else [] },
    playback := a.playback.map fun s => { s with quiesce := s.quiesce.map Ramp.next },
    tdm := a.tdm.map (portNext gap), micRedo := mic.redo, micSilent := mic.silent,
    closing := a.closing.bind fun k => if 480 ≤ k + 48 then none else some (k + 48) }

/-- N and IDLE of a bus for the next block (R393, R395). -/
def nextBus (a : Audio) (k : Nat) (b : Bus) : Bus :=
  let ins := a.routes.filter fun r => r.dst == 0x5000 + k && r.fadeOut.isNone
  let n := ins.countP (routeActive a)
  let aim : Rat := 1 / ((if b.fixed then max 1 b.nmax else max 1 n : Nat) : Rat)
  let silent := ins.all (fun r => !(detOf a r.src).active) && !(a.routes.any fun r => r.dst == 0x5000 + k && r.fadeOut.isSome)
  let b := if aim = b.scaleTo then b
    else { b with scaleFrom := scaleAt b 0, scaleTo := aim, scaleRamp := some { skip := 0, done := 0 } }
  { b with n := n, idle := silent, idleBlocks := b.idleBlocks + BitVec.ofNat 32 (b2n silent) }

/-- Powered-down ports and DP audio wake as soon as a source feeding them is active (R396, R397). -/
def wakePorts (d : Dev) : Dev :=
  let d := (List.range 4).foldl (fun d p =>
    let x := nthD Tdm.zero p d.audio.tdm
    if x.off && (List.range 16).any fun k => feedsActive d.audio 33 (0x7000 + p * 16 + k) then
      raiseAt (blockNs d) 0x0A05 p (le8 1) [512] false
        (updAudio (fun a => { a with tdm := modifyAt (fun x => { x with off := false }) p a.tdm }) d)
    else d) d
  (List.range 8).foldl (fun d o =>
    let x := nthD DpAudio.zero o d.audio.dp
    if x.off && (List.range 8).any fun k => feedsActive d.audio 33 (0x6000 + o * 8 + k) then
      raiseAt (blockNs d) 0x0A05 5 (le8 1 ++ le8 o) [512] false
        (refreshDpAudio o (updAudio (fun a => { a with dp := modifyAt (fun x => { x with off := false }) o a.dp }) d))
    else d) d

/-- Whether a quiesce ramp has run its 480 samples. -/
def rampOver (r : Option Ramp) : Bool := r.any fun r => decide (480 ≤ r.done)

/-- Streams and tone generators whose quiesce ramp has ended stop (R411). -/
def endQuiesce (d : Dev) : Dev :=
  let d := (List.range 64).foldl (fun d k =>
    if rampOver (streamOf d.audio false k).quiesce then
      stoppedEvent false k 2 0 (updStream false k (fun s => { s with running := false, quiesce := none, current := [], next := [] }) d)
    else d) d
  let d := (List.range 16).foldl (fun d k =>
    let s := streamOf d.audio true k
    if s.running && s.quiesce.isSome then
      stoppedEvent true k 2 0 (updStream true k (fun s => { s with running := false, quiesce := none }) d)
    else d) d
  updAudio (fun a => { a with
    tones := a.tones.map fun t => if rampOver t.quiesce then { t with on := false, quiesce := none } else t }) d

/-- Whether the audio island runs: PD_FEED and the audio sample island on, or their closing fade. -/
def audioOn (d : Dev) : Bool := (domainOn d 10 && islandOn d 11) || d.audio.closing.isSome

/-- Whether a sink channel is transmitted: a TDM port that is enabled, not powered down, and has its clock (R396, R413), or
DP audio that is sent (R397, R415). -/
def sending (d : Dev) (code : Nat) : Bool :=
  if code / 4096 = 6 then (outOf d (code % 4096 / 8)).link.audioActive
  else
    let p := nthD Tdm.zero (code % 4096 / 16) d.audio.tdm
    p.enabled && !p.off && (p.master || p.clockOk)

/-- AUDIO_BLOCK_BOUNDARY (R386, R387, R392 to R400, R403, R407, R408, R410, R411, R416): the block that ends is mixed and
sent, changes land, streams fetch and write, and active counts are re-evaluated. `inputs` holds the samples of the
hardware inputs in the block that ends, by endpoint code. A boundary is a whole millisecond of tide time, each only once
(R36, R386; log 168). -/
def execAudioBlockBoundary (inputs : List (Nat × List U32)) (s : State) : Host.Outcome State Fault Refusal :=
  onDev (fun _ d =>
    if !audioOn d || d.audio.lastBlock == some (blockNs d) then d else
    let a := d.audio
    let raw := portInputs a inputs
    let src := gatherSources a raw
    let outs := (List.range 32).map (busBlock a)
    let base : Tab Block := (usedSinks a).foldl (fun t c => tput [] t c (sinkBlock a outs a.inputs c)) []
    let sinks : Tab Block := (usedSinks a).foldl (fun t c => tput [] t c (sinkSignal a raw src base c)) []
    let codes := sinks.map fun e => (e.1, e.2.map (sinkCode (sinkBits a e.1)))
    let clips := fun (sel : Nat → Bool) => BitVec.ofNat 32 (((codes.filter (sel ·.1)).map fun e => e.2.countP (·.2)).foldl (· + ·) 0)
    let caps := (List.range 16).map fun k => (List.range 8).map fun c => sinkBlock a outs src (0x8000 + k * 8 + c)
    let point := fun code =>
      match code / 4096 with
      | 5 => nthD [] (code % 4096) outs
      | 6 => tget [] sinks code
      | 7 => tget [] sinks code
      | 8 => nthD [] (code % 4096 % 8) (nthD [] (code % 4096 / 8) caps)
      | _ => tget [] src code
    let (gap, d) := drawNat d
    let seen := src ++ (outs.zipIdx.map fun (b, k) => (0x5000 + k, b)) ++ sinks ++
      (caps.zipIdx.flatMap fun (bs, k) => if (streamOf a true k).running then bs.zipIdx.map fun (b, c) => (0x8000 + k * 8 + c, b) else [])
    let keys := (tkeys a.detectors ++ seen.map (·.1)).eraseDups
    let a := advanceRamps (gap % 3) raw src a
    let a := { a with
      meters := a.meters.map fun m => if m.holder.isSome then meterBlock (point m.point) m else m,
      tdm := a.tdm.zipIdx.map fun (p, k) => { p with clips := p.clips + clips fun c => c / 4096 = 7 && c % 4096 / 16 = k },
      dp := a.dp.zipIdx.map fun (p, o) => { p with clips := p.clips + clips fun c => c / 4096 = 6 && c % 4096 / 8 = o },
      buses := a.buses.zipIdx.map fun (b, k) => { b with out := nthD [] k outs },
      detectors := keys.foldl (fun t k => tput .zero t k (detect a.threshold ((seen.find? (·.1 == k)).elim [] (·.2)) (tget .zero t k))) a.detectors,
      slaveIn := holdBack a raw, slaveOut := holdBack a base, lastBlock := some (blockNs d),
      inputs := src, sinks := sinks, sent := (codes.filter fun e => sending d e.1).map fun e => (e.1, e.2.map (·.1)),
      blocks := a.blocks + 1 }
    let d := { d with audio := a }
    if !(domainOn d 10 && islandOn d 11) then d else
    let d := endQuiesce d
    let d := landWaiting d
    let d := (List.range 64).foldl (fun d k =>
      let s := streamOf d.audio false k
      if s.running || !s.current.isEmpty || !s.next.isEmpty then playBoundary k d else d) d
    let d := (List.range 16).foldl (fun d k => captureBoundary k (nthD [] k caps) d) d
    let d := updAudio (fun a => { a with buses := a.buses.zipIdx.map fun (b, k) => nextBus a k b }) d
    wakePorts d) s

/-- SILENCE_HOLD_EXPIRY (R394): a signal that has stayed below the threshold for the hold time is silent. -/
def execSilenceHoldExpiry (endpoint : Nat) (s : State) : Host.Outcome State Fault Refusal :=
  onDev (fun _ d =>
    let x := detOf d.audio endpoint
    if !x.active || x.quiet < d.audio.holdMs * 48 then d
    else updAudio (fun a => { a with detectors := tput .zero a.detectors endpoint { x with active := false } }) d) s

/-- Whether an input slot of a port is routed or feeds a side-tone path. -/
def inputUsed (a : Audio) (code : Nat) : Bool :=
  a.routes.any (fun r => r.src == code && liveRoute r) || a.sides.any fun s => s.enable && s.src == code

/-- Whether a sink has been silent for a time: its detector is silent and has been for it. -/
def silentFor (a : Audio) (code msecs : Nat) : Bool :=
  let x := detOf a code
  !x.active && (tget Detector.zero a.detectors code == .zero || decide ((a.holdMs + msecs) * 48 ≤ x.quiet) )

/-- TDM_PORT_OFF (R396). -/
def execTdmPortOff (p : Nat) (s : State) : Host.Outcome State Fault Refusal :=
  onDev (fun _ d =>
    let a := d.audio
    let x := nthD Tdm.zero p a.tdm
    let busy := (List.range 16).any fun k => inputUsed a (0x2000 + p * 16 + k) || !silentFor a (0x7000 + p * 16 + k) x.offMs
    if !x.enabled || !x.autoOff || x.off || busy then d else
    raiseAt (blockNs d) 0x0A05 p (le8 0) [512] false
      (updAudio (fun a => { a with tdm := modifyAt (fun x => { x with off := true }) p a.tdm }) d)) s

/-- DP_AUDIO_OFF (R397). -/
def execDpAudioOff (o : Nat) (s : State) : Host.Outcome State Fault Refusal :=
  onDev (fun _ d =>
    let a := d.audio
    let x := nthD DpAudio.zero o a.dp
    if !x.enable || x.off || (List.range 8).any fun k => !silentFor a (0x6000 + o * 8 + k) x.offMs then d else
    raiseAt (blockNs d) 0x0A05 5 (le8 0 ++ le8 o) [512] false
      (refreshDpAudio o (updAudio (fun a => { a with dp := modifyAt (fun x => { x with off := true }) o a.dp }) d))) s

/-- TDM_CLOCK_LOST (R413). -/
def execTdmClockLost (p : Nat) (s : State) : Host.Outcome State Fault Refusal :=
  onDev (fun _ d =>
    let x := nthD Tdm.zero p d.audio.tdm
    if !x.enabled || x.master || !x.clockOk then d else
    raiseAt (blockNs d) 0x0A05 p (le8 2) [512] false
      (updAudio (fun a => { a with tdm := modifyAt (fun x => { x with
        clockOk := false, clock := some { fadesIn := false, done := 0 } }) p a.tdm }) d)) s

/-- TDM_CLOCK_RESTORED (R413). The measured rate error is a free value within ±500 ppm. -/
def execTdmClockRestored (p : Nat) (s : State) : Host.Outcome State Fault Refusal :=
  onDev (fun _ d =>
    let x := nthD Tdm.zero p d.audio.tdm
    if !x.enabled || x.master || x.clockOk then d else
    let (v, d) := drawNat d
    raiseAt (blockNs d) 0x0A05 p (le8 3) [512] false
      (updAudio (fun a => { a with tdm := modifyAt (fun x => { x with
        clockOk := true, clock := some { fadesIn := true, done := 0 }, rateErr := (v % 100001 : Nat) - 50000 }) p a.tdm }) d)) s

/-! ## The secure world (R417) -/

/-- AUDIO_SEIZED for the routes of the normal world into a sink. -/
def seizedEvents (sink : Nat) (on : Bool) (d : Dev) : Dev :=
  let owners := (d.audio.routes.filter fun r => r.dst == sink && r.owner != .secure && liveRoute r).flatMap fun r => ownerPages r.owner
  raise 0x0A04 sink (le8 (b2n on)) (owners ++ [512]).eraseDups false d

/-- AUDIO_SEIZE (R417): the normal world's route into a sink fades out and is kept, or fades back in. -/
def execAudioSeize (sink : Nat) (seize : Bool) (s : State) : Host.Outcome State Fault Refusal :=
  onDev (fun _ d =>
    if !secUp d || !isDest sink || sink / 4096 = 5 || endCount (sink / 4096) ≤ sink % 4096 then d else
    let a := d.audio
    let k := sampleNow d
    if seize then
      if a.seized.contains sink then d else
      let d := seizedEvents sink true d
      updAudio (fun a => { a with
        seized := sink :: a.seized,
        routes := a.routes.map fun r =>
          if r.dst == sink && r.owner != .secure && r.fadeOut.isNone then { r with seized := true, fadeOut := ramp0 k } else r }) d
    else if !a.seized.contains sink then d
    else
      let d := seizedEvents sink false d
      refreshAll (updAudio (fun a => { a with
        seized := a.seized.filter (· != sink),
        routes := a.routes.map fun r => if r.dst == sink && r.seized then
          { r with seized := false, fadeOut := none, fadeIn := ramp0 48 } else r }) d)) s

/-- A request of the secure controller in the form of a command. -/
def secCmd (params : BitVec 320) : Cmd :=
  { issuer := .manager, urgent := false,
    pkt := { flags := 0, len := 0, tag := 0, handle := 0, rsvd := 0, instant := 0, params := params } }

/-- Whether a secure route stays where its signal may go (R417): into no normal capture stream and no normal bus. -/
def secRouteOk (a : Audio) (src dst : Nat) : Bool :=
  isSource src && isDest dst && endCount (src / 4096) > src % 4096 && endCount (dst / 4096) > dst % 4096 &&
    endOpen a .secure src && endOpen a .secure dst && !(src / 4096 = 5 && dst / 4096 = 5 && dst ≤ src)

/-- Queues a change of the secure world for the next block boundary. -/
def secWait (op : Op) (c : Cmd) (obj : Nat) (d : Dev) : Dev :=
  updAudio (fun a => { a with waiting := a.waiting ++ [{ op := op, cmd := c, owner := .secure, obj := obj, txn := none }] }) d

/-- SECURE_METER_ASSIGN (R416). -/
def execSecureMeterAssign (params : BitVec 320) (s : State) : Host.Outcome State Fault Refusal :=
  onDev (fun _ d =>
    let c := secCmd params
    let e := c.u16 26
    if !secUp d || 8 ≤ c.u8 24 || (!c.bit 25 0 && (endCount (e / 4096) ≤ e % 4096 || 10000 < c.u16 28)) then d
    else landMeter .secure c d) s

/-! ## What the rest of the device does to the audio island -/

/-- R411: an instance is quiesced. Its playback streams and tones ramp from the next block boundary; its capture streams
stop there. -/
def quiesceAudio (n : Nat) (d : Dev) : Dev :=
  let mine := fun (o : Option Owner) => o == some (.inst n)
  let d := updAudio (fun a => { a with
    playback := a.playback.map fun s => if mine s.owner && s.running && s.quiesce.isNone then { s with quiesce := some ⟨48, 0⟩ } else s,
    tones := a.tones.map fun t => if mine t.owner && t.on && t.quiesce.isNone then { t with quiesce := some ⟨48, 0⟩ } else t }) d
  updAudio (fun a => { a with
    capture := a.capture.map fun s => if mine s.owner && s.running then { s with quiesce := some ⟨48, 0⟩ } else s }) d

/-- Whether an instance still has a stream or a tone sounding. -/
def audioBusy (d : Dev) (n : Nat) : Bool :=
  let mine := fun (o : Option Owner) => o == some (.inst n)
  d.audio.playback.any (fun s => mine s.owner && s.running) ||
    d.audio.capture.any (fun s => mine s.owner && s.running) || d.audio.tones.any (fun t => mine t.owner && t.on)

/-- R411: an instance is reset or destroyed. -/
def disownAudio (n : Nat) (d : Dev) : Dev :=
  let mine := fun (o : Option Owner) => o == some (.inst n)
  let k := sampleNow d
  refreshAll (updAudio (fun a =>
    let a := dropRoutes k (fun r => r.owner == .inst n) a
    { a with
      playback := a.playback.map fun s => if mine s.owner then { Stream.zero with latchHi := s.latchHi } else s,
      capture := a.capture.map fun s => if mine s.owner then { Stream.zero with latchHi := s.latchHi } else s,
      buses := a.buses.map fun b => if mine b.owner then .zero else b,
      tones := a.tones.map fun t => if mine t.owner then .zero else t,
      waiting := a.waiting.filter (·.owner != .inst n),
      grants := a.grants.filter fun e => e.2 != some n }) d)

/-- R418, R542: PD_FEED or the audio sample island goes off. Every sink fades over 480 samples; every running stream stops
with cause 3. -/
def stopAudio (d : Dev) : Dev :=
  let stop := fun cap k d =>
    if (streamOf d.audio cap k).running then
      stoppedEvent cap k 3 0 (updStream cap k (fun s => { s with running := false, quiesce := none }) d) else d
  let d := (List.range 64).foldl (fun d k => stop false k d) d
  let d := (List.range 16).foldl (fun d k => stop true k d) d
  updAudio (fun a => { a with closing := some 0, playback := a.playback.map fun s => { s with next := [], fadeIn := false } }) d

/-! ## Commands (R420, R421) -/

/-- A gain field: lo..hi in 1/256 dB, or 0x8000. -/
def fGain (off : Nat) (lo hi : Int) (mute : Bool) : Field :=
  fIf off 2 (fun v => let g := signed 16 v
                      !(decide (lo ≤ g) && decide (g ≤ hi)) && !(mute && v == 0x8000)) .outOfRange

/-- A number 0 to `n` − 1, or 0xFF. -/
def fObj (off n : Nat) : Field := fIf off 1 (fun v => decide (n ≤ v) && v != 0xFF) .outOfRange

def specAudioStream : OpSpec where
  len := 4
  fields := fun x =>
    let cap := x.c.bit 26 0
    let claim := x.c.u8 25 == 0
    [fObj 24 (if cap then 16 else 64), fCode 25 3, fBits 26 3, if claim then fCode 27 2 else fAny 27 1,
     if claim then fRange 28 1 1 8 else fAny 28 1, fAny 29 1, fAny 32 8, if claim then fRange 40 4 96 1048576 else fAny 40 4, fAny 48 8]
  own := fun x =>
    let k := x.c.u8 24
    let claim := x.c.u8 25 == 0
    if k = 0xFF then failIf (!claim) .notOwner 0
    else
      let ow := (streamOf x.view.audio (x.c.bit 26 0) k).owner
      if ow.isNone && x.c.u8 25 = 1 then none else ownObj ow x.c.issuer claim
  creates := fun c => c.u8 24 == 0xFF && c.u8 25 == 0
  alloc := fun d c => (List.range (if c.bit 26 0 then 16 else 64)).find? fun k => (streamOf (audioView d).audio (c.bit 26 0) k).owner.isNone
  objs := fun _ ch => [(7, b2n (ch.cmd.bit 26 0) * 256 + (if ch.cmd.u8 24 = 0xFF then ch.obj else ch.cmd.u8 24))]
  stillOwned := fun d ch => ch.cmd.u8 24 == 0xFF ||
    (ownObj (streamOf (audioView d).audio (ch.cmd.bit 26 0) (ch.cmd.u8 24)).owner ch.cmd.issuer (ch.cmd.u8 25 == 0)).isNone
  step10 := fun d c =>
    (failIf (c.u8 25 = 1 && c.u8 24 != 0xFF && (streamOf d.audio (c.bit 26 0) (c.u8 24)).owner.isNone) .badParam 24).or <|
      failIf (c.u8 25 = 0 && (c.u64 32 % 64 != 0 || c.u64 48 % 64 != 0 ||
        !locMapped d c.issuer (c.bit 26 1) (c.bit 26 0) (c.u64 32) (ringBytes c) ||
        !locMapped d c.issuer (c.bit 26 1) true (c.u64 48) 64)) .outOfRange 32
  land := landAudio .audioStream
  results := fun d _ => d.result

/-- Routes that a new pair would meet: the bus and device limits of R390 and R391. -/
def routeRoom (a : Audio) (src dst : Nat) : Bool :=
  a.routes.any (fun r => r.src == src && r.dst == dst && liveRoute r) ||
    ((dst / 4096 != 5 || decide ((a.routes.countP fun r => r.dst == dst && liveRoute r) < 32)) &&
      (decide ((a.routes.countP liveRoute) < 512) || (dst / 4096 != 5 && a.routes.any fun r => r.dst == dst && liveRoute r)))

def specAudioRoute : OpSpec where
  len := 1
  fields := fun _ => [fEnd 24 allKinds, fEnd 26 allKinds, fGain 28 (-24576) 6144 true]
  own := fun x =>
    let a := x.view.audio
    let s := x.c.u16 24
    let t := x.c.u16 26
    ((ownEnd a x.c.issuer s).or (ownEnd a x.c.issuer t)).or
      (failIf (t / 4096 != 5 && a.routes.any fun r => r.dst == t && liveRoute r && r.src != s && !mayName r.owner x.c.issuer) .notOwner 0)
  step10 := fun d c =>
    let s := c.u16 24
    let t := c.u16 26
    (failIf (!isSource s) .badParam 24).or <| (failIf (!isDest t) .badParam 26).or <|
      (failIf (s / 4096 = 5 && t / 4096 = 5 && t ≤ s) .badParam 26).or <|
        (failIf (!routeRoom d.audio s t) .noResource 0).or
          (failIf (t / 4096 = 6 && (nthD DpAudio.zero (t % 4096 / 8) d.audio.dp).channels ≤ t % 8) .outOfRange 26)
  land := landAudio .audioRoute
  results := fun d _ => d.result

def specAudioUnroute : OpSpec where
  len := 1
  fields := fun _ => [fEnd 24 allKinds, fEnd 26 allKinds]
  own := fun x => (ownEnd x.view.audio x.c.issuer (x.c.u16 24)).or (ownEnd x.view.audio x.c.issuer (x.c.u16 26))
  step10 := fun d c =>
    (failIf (!isSource (c.u16 24)) .badParam 24).or <| (failIf (!isDest (c.u16 26)) .badParam 26).or
      (failIf (!d.audio.routes.any fun r => r.src == c.u16 24 && r.dst == c.u16 26 && liveRoute r && r.owner != .secure) .badParam 24)
  land := landAudio .audioUnroute

def specAudioBus : OpSpec where
  len := 1
  fields := fun x =>
    let rel := x.c.bit 25 0
    [fObj 24 32, fBits 25 3, if rel then fAny 26 1 else fRange 26 1 1 32, if rel then fAny 28 2 else fGain 28 (-24576) 6144 true]
  own := fun x => if x.c.u8 24 = 0xFF then failIf (x.c.bit 25 0) .notOwner 0
    else ownObj (nthD Bus.zero (x.c.u8 24) x.view.audio.buses).owner x.c.issuer (!x.c.bit 25 0)
  creates := fun c => c.u8 24 == 0xFF && !c.bit 25 0
  alloc := fun d _ => (List.range 32).find? fun k => (nthD Bus.zero k (audioView d).audio.buses).owner.isNone
  objs := fun _ ch => [(8, if ch.cmd.u8 24 = 0xFF then ch.obj else ch.cmd.u8 24)]
  stillOwned := fun d ch => ch.cmd.u8 24 == 0xFF ||
    (ownObj (nthD Bus.zero (ch.cmd.u8 24) (audioView d).audio.buses).owner ch.cmd.issuer (!ch.cmd.bit 25 0)).isNone
  land := landAudio .audioBus
  results := fun d _ => d.result

def specAudioTone : OpSpec where
  len := 1
  fields := fun x =>
    let rel := x.c.bit 25 0
    [fObj 24 8, fBits 25 3, if rel then fAny 26 2 else fRange 26 2 20 20000, if rel then fAny 28 2 else fGain 28 (-24576) 0 false]
  own := fun x => if x.c.u8 24 = 0xFF then failIf (x.c.bit 25 0) .notOwner 0
    else ownObj (nthD Tone.zero (x.c.u8 24) x.view.audio.tones).owner x.c.issuer (!x.c.bit 25 0)
  creates := fun c => c.u8 24 == 0xFF && !c.bit 25 0
  alloc := fun d _ => (List.range 8).find? fun k => (nthD Tone.zero k (audioView d).audio.tones).owner.isNone
  objs := fun _ ch => [(9, if ch.cmd.u8 24 = 0xFF then ch.obj else ch.cmd.u8 24)]
  stillOwned := fun d ch => ch.cmd.u8 24 == 0xFF ||
    (ownObj (nthD Tone.zero (ch.cmd.u8 24) (audioView d).audio.tones).owner ch.cmd.issuer (!ch.cmd.bit 25 0)).isNone
  land := landAudio .audioTone
  results := fun d _ => d.result

def specAudioPort : OpSpec where
  len := 2
  fields := fun x =>
    let t := x.c.u8 24
    fCode 24 7 ::
      (if t ≤ 3 then [fBits 26 31, fIf 27 1 (fun v => decide (3 < v)) .outOfRange, fBits 28 3, fRange 30 2 100 60000]
       else match t with
        | 4 => [fBits 26 1, fAny 27 1]
        | 5 => [fRange 25 1 0 7, fBits 26 1, fRange 27 1 2 8, fRange 30 2 100 60000]
        | 6 => [fGain 26 (-30720) (-10240) false, fRange 28 2 10 10000]
        | _ => [fEnd 26 [2, 3, 6, 7], fRange 28 2 0 511, fBits 30 1])
  multi := fun x =>
    (failIf (x.c.u8 24 ≤ 3 && x.c.bit 26 2 && x.c.u8 27 != 0) .badParam 27).or
      (failIf (x.c.u8 24 ≤ 3 && x.c.bit 28 1 && !x.c.bit 28 0) .badParam 28)
  own := fun x => if x.c.u8 24 != 7 then none else
    (failIf (endSecure x.view.audio (x.c.u16 26)) .notPermitted 0).or
      (failIf (!x.c.bit 30 0 && !(instOf x.view (x.c.u16 28)).exists_) .noContext 0)
  land := landAudio .audioPort

def specAudioMeter : OpSpec where
  len := 1
  fields := fun x =>
    if x.c.bit 25 0 then [fRange 24 1 0 7, fBits 25 1, fAny 26 2, fAny 28 2]
    else [fRange 24 1 0 7, fBits 25 1, fEnd 26 allKinds, fRange 28 2 0 10000]
  own := fun x => failIf ((nthD Meter.zero (x.c.u8 24) x.view.audio.meters).holder == some .secure ||
    (!x.c.bit 25 0 && endSecure x.view.audio (x.c.u16 26))) .notPermitted 0
  land := landAudio .audioMeter

def specAudioSidetone : OpSpec where
  len := 1
  fields := fun x =>
    if x.c.bit 25 0 then [fRange 24 1 0 7, fBits 25 1, fEnd 26 [2, 3], fEnd 28 [7], fGain 30 (-15360) 3072 true]
    else [fRange 24 1 0 7, fBits 25 1, fAny 26 2, fAny 28 2, fAny 30 2]
  own := fun x => failIf (x.c.bit 25 0 && (endSecure x.view.audio (x.c.u16 26) || endSecure x.view.audio (x.c.u16 28))) .notPermitted 0
  step10 := fun d c =>
    let p := c.u16 28 % 4096 / 16
    let x := nthD Tdm.zero p d.audio.tdm
    failIf (c.bit 25 0 && !x.master && !(c.u16 26 / 4096 = 2 && c.u16 26 % 4096 / 16 = p)) .badParam 26
  land := landAudio .audioSidetone

/-- Whether a request of the secure controller keeps the ranges of its command's parameters (R420). -/
def secFields (sp : OpSpec) (c : Cmd) (d : Dev) : Bool :=
  let x : Ctx := { d := d, view := d, c := c, txn := none }
  (fieldsCheck x (sp.fields x) (24 + 8 * sp.len) 320 24).isNone

/-- SECURE_AUDIO_CONTROL (R417): the secure world's streams, buses, tone generators, routes and holdings. A request that
its rules do not allow, those of R390, R391, R415 and R420 among them, changes nothing. -/
def execSecureAudioControl (a : SecAudio) (s : State) : Host.Outcome State Fault Refusal :=
  onDev (fun _ d =>
    if !secUp d then d else
    let v := (audioView d).audio
    let free := fun (ow : Option Owner) (claim : Bool) => match ow with
      | none => claim
      | some w => w == .secure
    match a with
    | .stream p =>
      let c := secCmd p
      let k := c.u8 24
      if k < (if c.bit 26 0 then 16 else 64) && secFields specAudioStream c d &&
          (c.u8 25 != 0 || (c.u64 32 % 64 == 0 && c.u64 48 % 64 == 0)) && free (streamOf v (c.bit 26 0) k).owner (c.u8 25 = 0) then
        secWait .audioStream c k d else d
    | .bus p =>
      let c := secCmd p
      if c.u8 24 < 32 && secFields specAudioBus c d && free (nthD Bus.zero (c.u8 24) v.buses).owner (!c.bit 25 0) then
        secWait .audioBus c (c.u8 24) d else d
    | .tone p =>
      let c := secCmd p
      if c.u8 24 < 8 && secFields specAudioTone c d && free (nthD Tone.zero (c.u8 24) v.tones).owner (!c.bit 25 0) then
        secWait .audioTone c (c.u8 24) d else d
    | .route p =>
      let c := secCmd p
      if secFields specAudioRoute c d && secRouteOk v (c.u16 24) (c.u16 26) && routeRoom v (c.u16 24) (c.u16 26) &&
          (c.u16 26 / 4096 != 6 || decide (c.u16 26 % 8 < (nthD DpAudio.zero (c.u16 26 % 4096 / 8) v.dp).channels)) then
        secWait .audioRoute c 0 d else d
    | .unroute p => if secFields specAudioUnroute (secCmd p) d then secWait .audioUnroute (secCmd p) 0 d else d
    | .hold e on =>
      if !isHardware e || endCount (e / 4096) ≤ e % 4096 then d else
      updAudio (fun a => { a with secureHeld := if on then e :: a.secureHeld.filter (· != e) else a.secureHeld.filter (· != e) }) d) s

/-- The stream record (R419). -/
def streamRecord (a : Audio) (cap : Bool) (k : Nat) : List U32 :=
  let s := streamOf a cap k
  match s.owner with
  | some .secure => List.replicate 8 0
  | _ =>
    let ow := s.owner.getD (.inst 0)
    let act := maskOf ((List.range 8).filter fun c => (detOf a ((if cap then 0x8000 else 0x1000) + k * 8 + c)).active)
    [word32 [(1, b2n s.owner.isSome), (1, b2n s.running), (2, ownerKind ow), (1, b2n s.pan), (2, s.format), (4, s.channels),
       (12, 0), (9, ownerInst ow)],
     BitVec.ofNat 32 s.ring, BitVec.ofNat 32 s.hwPos.toNat, s.latchHi, s.xruns, BitVec.ofNat 32 act, 0, 0]

/-- The bus record (R419). -/
def busRecord (a : Audio) (k : Nat) : List U32 :=
  let b := nthD Bus.zero k a.buses
  match b.owner with
  | some .secure => [0, 0, 0, 0]
  | _ =>
    let ow := b.owner.getD (.inst 0)
    [word32 [(1, b2n b.owner.isSome), (1, b2n b.fixed), (1, b2n b.idle), (2, ownerKind ow),
       (6, a.routes.countP fun r => r.dst == 0x5000 + k && liveRoute r), (6, b.n), (6, b.nmax), (9, ownerInst ow)],
     word32 [(16, unsigned 16 b.gain), (16, (scaleAt b 0 * 32768).floor.toNat)], b.idleBlocks, 0]

/-- The TDM port record (R419). -/
def tdmRecord (a : Audio) (p : Nat) : List U32 :=
  let x := nthD Tdm.zero p a.tdm
  let used := fun (f : Nat → Bool) => maskOf ((List.range 16).filter f)
  [word32 [(1, b2n x.enabled), (1, b2n x.master), (1, b2n x.i2s), (1, b2n x.delay), (1, b2n x.autoOff), (1, b2n x.off),
     (1, b2n x.clockOk), (2, x.slots), (1, b2n x.slotW), (1, b2n x.sampleW), (5, 0), (16, x.offMs)],
   word32 [(16, used fun k => inputUsed a (0x2000 + p * 16 + k)), (16, used fun k =>
     a.routes.any (fun r => r.dst == 0x7000 + p * 16 + k && liveRoute r && r.owner != .secure) ||
       a.sides.any fun s => s.enable && s.dst == 0x7000 + p * 16 + k)],
   BitVec.ofNat 32 (unsigned 32 x.rateErr), x.clips]

def specAudioStatus : OpSpec where
  len := 1
  fields := fun x =>
    let n := nthD 1 (x.c.u8 24) [64, 16, 32, 4, 8]
    [fCode 24 4, fRange 25 1 0 (n - 1), fRange 26 1 0 1]
  own := fun x =>
    let a := x.view.audio
    let k := x.c.u8 25
    let ow : Option Owner := match x.c.u8 24 with
      | 0 => (streamOf a false k).owner
      | 1 => (streamOf a true k).owner
      | 2 => (nthD Bus.zero k a.buses).owner
      | 4 => (nthD Meter.zero k a.meters).holder
      | _ => none
    (failIf (ow == some .secure) .notPermitted 0).or
      (failIf (x.c.issuer != .manager && !(decide (x.c.u8 24 ≤ 2) && ow == some (ownerOf x.c.issuer))) .notOwner 0)
  read := fun _ d c =>
    let a := d.audio
    let k := c.u8 25
    let ws := match c.u8 24 with
      | 0 => streamRecord a false k
      | 1 => streamRecord a true k
      | 2 => busRecord a k
      | 3 => tdmRecord a k
      | _ => meterRecord (nthD .zero k a.meters)
    (d, .ok (fourWords ws (4 * c.u8 26)))

end Sys2Proof.Machine
end

