-- ==== Sys2Proof/Machine/Haptics.lean ====
section
/-! DEFINITION. Family 0x09: haptic channels, the effect ROM, triggers, protection and the power budget (chapter 12). -/

namespace Sys2Proof.Machine

def hapOf (d : Dev) (c : Nat) : Haptic := nthD .zero c d.haptic.channels
def updHap (c : Nat) (f : Haptic → Haptic) (d : Dev) : Dev :=
  { d with haptic := { d.haptic with channels := modifyAt f c d.haptic.channels } }

/-! ## The effect ROM (R368, R369) -/

def ms (n : Nat) : Nat := n * 1000000

/-- A drive segment of half cycles. -/
def segHc (hc amp od : Nat) : Segment :=
  { drive := true, halfCycles := hc, time := 0, ampFrom := amp, ampTo := amp, overdrive := od }
/-- A drive segment of a time. -/
def segMs (t a b od : Nat) : Segment :=
  { drive := true, halfCycles := 0, time := ms t, ampFrom := a, ampTo := b, overdrive := od }
/-- A pause that ends `t` ms after the start of the drive segment before it. -/
def segGap (t : Nat) : Segment :=
  { drive := false, halfCycles := 0, time := ms t, ampFrom := 0, ampTo := 0, overdrive := 0 }

/-- CLICK n, 1 to 8. -/
def romClick (n : Nat) : Segment := segHc 2 (1000 - 100 * (n - 1)) 1

/-- `n` bursts of `on` ms every `every` ms at full amplitude. -/
def bursts (n on every od : Nat) : List Segment :=
  ((List.range n).flatMap fun k => (if k = 0 then [] else [segGap every]) ++ [segMs on 1000 1000 od])

/-- TEXTURE for `t` ms: drive 20 ms, pause 20 ms. -/
def texture (t : Nat) : List Segment :=
  let one := [segMs 20 300 300 0, segGap 40]
  let r := t % 40
  (List.range (t / 40)).flatMap (fun _ => one) ++
    (if r = 0 then [] else if r ≤ 20 then [segMs r 300 300 0] else [segMs 20 300 300 0, segGap r])

/-- The segments of a ROM effect. -/
def romSegments (n : Nat) : List Segment :=
  if n = 0 then []
  else if n ≤ 8 then [romClick n]
  else if n ≤ 16 then [romClick (n - 8), segGap 60, romClick (n - 8)]
  else if n ≤ 24 then [segHc 1 (600 - 50 * (n - 17)) 0]
  else if n ≤ 32 then [segHc (n - 22) 1000 3]
  else if n ≤ 40 then [segMs (20 * (n - 32)) 1000 1000 2]
  else if n ≤ 48 then [segMs (20 * (n - 40)) 500 500 2]
  else if n ≤ 56 then [segMs (100 * (n - 48)) 0 1000 0]
  else if n ≤ 64 then [segMs (100 * (n - 56)) 1000 0 2]
  else if n ≤ 72 then bursts (n - 63) 40 100 1
  else if n ≤ 76 then [romClick 6, segGap (60 + 20 * (n - 73)), romClick 1]
  else if n ≤ 80 then [romClick 1, segGap (50 + 20 * (n - 77)), romClick 1, segGap (50 + 20 * (n - 77)), romClick 1]
  else if n ≤ 96 then bursts (n - 80) 200 400 2
  else if n ≤ 104 then bursts (n - 96) 500 1000 2
  else if n ≤ 112 then (List.range (n - 104)).flatMap fun k =>
    (if k = 0 then [] else [segGap 850]) ++ [segHc 3 1000 3, segGap 150, segHc 3 1000 3]
  else if n ≤ 120 then texture (250 * (n - 112))
  else [segMs 1000 (1000 - 125 * (n - 121)) (1000 - 125 * (n - 121)) 2]

/-- Natural length in ms; 0 for an effect given only in half cycles. -/
def romNatural (n : Nat) : Nat :=
  if n ≤ 8 then 0 else if n ≤ 16 then 60 else if n ≤ 32 then 0
  else if n ≤ 40 then 20 * (n - 32) else if n ≤ 48 then 20 * (n - 40) else if n ≤ 56 then 100 * (n - 48)
  else if n ≤ 64 then 100 * (n - 56) else if n ≤ 72 then 100 * (n - 63) - 60 else if n ≤ 76 then 60 + 20 * (n - 73)
  else if n ≤ 80 then 2 * (50 + 20 * (n - 77)) else if n ≤ 96 then 400 * (n - 80) - 200
  else if n ≤ 104 then 1000 * (n - 96) - 500 else if n ≤ 112 then 1000 * (n - 105) + 150
  else if n ≤ 120 then 250 * (n - 112) else 1000

/-- The segments of an effect under a duration (R369). -/
def effectSegments (n dur : Nat) : List Segment :=
  let nat := romNatural n
  if dur = 0 || nat = 0 then romSegments n
  else (romSegments n).map fun g => { g with time := g.time * dur / nat }

/-! ## Planning a half cycle (R364, R366, R376, R380) -/

/-- The rank of what occupies a channel: a trigger that waits, else the running effect. -/
def hapRank (h : Haptic) : Option Nat :=
  match h.waiting with
  | some w => some w.source.rank
  | none => h.run.map (·.source.rank)

/-- Length of a half cycle at the drive frequency, ns: the tracked frequency, or F0 without back-EMF (R365). -/
def halfLen (h : Haptic) : Nat := 8000000000 / max 1 (if h.noBemf then h.f0 * 16 else h.fTrack)

/-- Peak limit squared, mV² (R364). -/
def peakLimitSq (h : Haptic) : Nat := min (h.clamp * h.clamp) ((95 * h.hvdd) * (95 * h.hvdd) / 10000)

/-- Planned peak squared at an amplitude × 1,000 under a scale, before any limit. -/
def ampSq (h : Haptic) (amp scale : Nat) : Nat := 2 * (amp * scale * h.rmsLimit) ^ 2 / 255000 ^ 2

/-- Amplitude × 1,000 of the segment in progress at an instant. -/
def segAmp (e : Effect) (now : Nat) : Nat :=
  match e.segments with
  | g :: _ =>
    if g.ampFrom = g.ampTo || g.time = 0 then g.ampFrom
    else
      let t := min g.time (now - e.segStart)
      (g.ampFrom * (g.time - t) + g.ampTo * t) / g.time
  | [] => 0

/-- Power in mW at a squared peak (R380). -/
def hapPower (h : Haptic) : Rat := (h.plannedSq : Rat) / ((200 * max 1 h.res : Nat) : Rat)

/-- R380: the power factors of priorities 0 to 7 for (priority, power) pairs and a budget. -/
def rescale (chs : List (Nat × Rat)) (budget : Rat) : List Rat :=
  let order := ([1 / 4, 0] : List Rat).flatMap fun f => ([7, 6, 5, 4, 3, 2, 1, 0] : List Nat).map fun p => (f, p)
  let total := (chs.map (·.2)).foldl (· + ·) 0
  (order.foldl (fun (acc : List Rat × Rat) fp =>
    let (factor, excess) := acc
    let g0 := ((chs.filter (·.1 == fp.2)).map (·.2)).foldl (· + ·) 0
    if excess ≤ 0 || g0 = 0 then acc else
    let cut := min excess (g0 * nthD 1 fp.2 factor - fp.1 * g0)
    (modifyAt (· - cut / g0) fp.2 factor, excess - cut)) (List.replicate 8 1, total - budget)).1

/-- Pages of the manager and a channel's owner. -/
def hapPages (h : Haptic) : List Nat := 512 :: h.owner.toList

/-- HAPTIC_LIMIT, at most once a second for each limit (R385). -/
def hapLimitEvent (c limit value : Nat) (d : Dev) : Dev :=
  let h := hapOf d c
  let recent := h.limitAt.any fun e => e.1 == limit && decide (nowNs d < e.2 + 1000000000)
  if recent then d else
  raise 0x0902 c (le8 limit ++ [0, 0, 0] ++ le32 value) (hapPages h) false
    (updHap c (fun h => { h with limitAt := (limit, nowNs d) :: h.limitAt.filter (·.1 != limit) }) d)

/-- SCALE: the amplitude factor in force, 0x8000 for 1.0. -/
def hapScale (h : Haptic) : Nat := Nat.sqrt h.factor

/-- Drops the parts of earlier half cycles that lie at or after an instant, and those that left the 100 ms window. -/
def trimSquares (now : Nat) (l : List (Nat × Nat × Nat)) : List (Nat × Nat × Nat) :=
  (l.map fun e => (e.1, min e.2.1 (now - e.1), e.2.2)).filter fun e => decide (now < e.1 + e.2.1 + ms 100)

/-- Plans the half cycle that starts now in DRIVE or BRAKE: the peak, RMS and budget limits in order. -/
def planHalf (c : Nat) (d : Dev) : Dev :=
  let h := hapOf d c
  match h.run with
  | none => d
  | some e =>
    let now := nowNs d
    let braking := h.state == .brake
    let amp := if braking then e.amp else segAmp e now
    let od := braking || decide (0 < e.odLeft)
    let want := min (peakLimitSq h) ((if od then 4 else 1) * ampSq h amp e.scale)
    let len := max 1 (halfLen h)
    let old := trimSquares now h.squares
    let spent := old.foldl (fun acc q =>
      acc + (q.1 + q.2.1 - max q.1 (now + len - ms 100)) * q.2.2) 0
    let room := (2 * h.rmsLimit * h.rmsLimit * ms 100 - spent) / len
    let rms := decide (room < want)
    let planned := min want room
    let d := updHap c (fun h => { h with plannedSq := planned, run := some { e with amp := amp }, tripped := false }) d
    let factors := rescale (d.haptic.channels.map fun x => (x.priority, hapPower x)) (d.haptic.budget : Nat)
    let f := nthD 1 h.priority factors
    let fix := (f * 1073741824).floor.toNat
    let low := decide (f < 1) && planned != 0
    let d := updHap c (fun h => { h with
      factor := fix, limited := h.limited + BitVec.ofNat 32 (b2n (rms || low)),
      squares := (now, len, planned * fix / 1073741824) :: old }) d
    let d := if rms then hapLimitEvent c 2 0 d else d
    if low then hapLimitEvent c 3 (hapScale (hapOf d c)) d else d

/-! ## Drive time (R378) -/

/-- Adds drive time from one tide instant to another to the bins. -/
def markDrive (a b : Nat) (h : Haptic) : Haptic :=
  let s := a / ms 1
  let e := b / ms 1 + 1
  let lastEnd := match h.bins with
    | [] => 0
    | (f, n) :: _ => f + n
  let s' := max s lastEnd
  let new := e - s'
  let gap := decide (lastEnd + 20 ≤ s)
  { h with
    contMs := (if gap then 0 else h.contMs) + new,
    bins := ((s', new) :: h.bins).filter fun x => decide (0 < x.2) && decide (e < x.1 + x.2 + 10000) }

/-- Drive time in the last 10,000 bins. -/
def dutyMs (h : Haptic) (now : Nat) : Nat :=
  let bin := now / ms 1 + 1
  h.bins.foldl (fun acc x => acc + (x.1 + x.2 - max x.1 (bin - 10000))) 0

/-- Continuous drive: 0 once 20 ms have passed without drive. -/
def contMs (h : Haptic) (now : Nat) : Nat :=
  match h.bins with
  | [] => 0
  | (f, n) :: _ => if h.state != .drive && h.state != .brake && decide (f + n + 20 ≤ now / ms 1) then 0 else h.contMs

/-- Counts the drive time of the half cycle in progress up to now. -/
def accountHalf (c : Nat) (d : Dev) : Dev :=
  let h := hapOf d c
  match h.squares with
  | [] => d
  | (s, _, _) :: _ =>
    if (h.state != .drive && h.state != .brake) || nowNs d ≤ s then d
    else
      let now := nowNs d
      updHap c (fun h => markDrive s now { h with
        run := h.run.map fun e => { e with driveNs := e.driveNs + (now - s) } }) d

/-! ## Effects -/

/-- HAPTIC_DONE (R385). -/
def hapDone (c : Nat) (number : Nat) (src : HapSource) (cause driveNs : Nat) (d : Dev) : Dev :=
  match src.issuer with
  | some i => if src.notify then
      raise 0x0901 src.serial.toNat (le8 c ++ le8 number ++ le8 cause ++ [0] ++ le32 (driveNs / ms 1)) [pageKey i] false d
    else d
  | none => d

/-- Ends the running effect of a channel with a cause. -/
def endEffect (c cause : Nat) (d : Dev) : Dev :=
  match (hapOf d c).run with
  | none => d
  | some e => hapDone c e.number e.source cause e.driveNs (updHap c (fun h => { h with run := none, plannedSq := 0 }) d)

/-- The landing of a waiting play ends, with a verdict other than OK where there is one. -/
def settlePlay (w : HapWait) (v : Option (Status × Nat)) (d : Dev) : Dev :=
  match w.txn with
  | none => d
  | some id => landingDone id (match v with
    | some x => updTxn id (fun t => { t with verdict := some x }) d
    | none => d)

/-- A waiting trigger ends without having driven. -/
def dropWait (c : Nat) (cause : Nat) (v : Option (Status × Nat)) (d : Dev) : Dev :=
  match (hapOf d c).waiting with
  | none => d
  | some w =>
    let d := updHap c (fun h => { h with waiting := none }) d
    settlePlay w v (if v.isSome then d else hapDone c w.effect w.source cause 0 d)

/-- Landing of a HAPTIC_CHANNEL's parameters (R362, R363). A trigger that waits on a channel it disables is refused. -/
def setChannel (c : Nat) (k : Cmd) (d : Dev) : Dev :=
  let d := updHap c (fun h =>
    let on := k.bit 25 0
    let f0 := k.u16 30
    { h with
      enabled := on, clickAny := k.bit 25 1, owner := if k.bit 25 2 then some (k.u16 28) else none,
      priority := k.u8 26, odMax := k.u8 27, f0 := f0, rmsLimit := k.u16 32, clamp := k.u16 34, res := k.u16 36,
      oc := k.u16 38, brakeMv := k.u16 40,
      fTrack := max (max 1600 (ceilDiv (f0 * 64) 5)) (min (min 4800 (f0 * 96 / 5)) h.fTrack),
      state := if !on || !domainOn d 10 then .off else if h.state == .off || h.state == .fault then .idle else h.state,
      trips := if h.state == .fault then 0 else h.trips }) d
  if (hapOf d c).state == .off then dropWait c 4 (some (.notPermitted, 2)) d else d

/-- A HAPTIC_CHANNEL that waited for braking lands. -/
def applySetup (c : Nat) (d : Dev) : Dev :=
  match (hapOf d c).setup with
  | none => d
  | some (id, k) => landingDone id (setChannel c k (updHap c (fun h => { h with setup := none }) d))

/-- The bridge of a channel releases and its effect ends with a cause, at once. -/
def releaseBridge (c cause : Nat) (next : HapState) (d : Dev) : Dev :=
  let d := accountHalf c d
  let d := endEffect c cause d
  let d := updHap c (fun h => { h with
    state := if h.enabled && domainOn d 10 then next else .off, squares := trimSquares (nowNs d) h.squares }) d
  applySetup c d

/-- A channel's effect is to end by braking (R367). -/
def brakeEffect (c cause : Nat) (d : Dev) : Dev :=
  let h := hapOf d c
  match h.run with
  | none => d
  | some e =>
    let e' := { e with endCause := some (e.endCause.getD cause) }
    match h.state with
    | .drive => planHalf c (updHap c (fun h => { h with state := .brake, run := some { e' with brakes := 0 } }) (accountHalf c d))
    | .brake => updHap c (fun h => { h with run := some e' }) d
    | _ => releaseBridge c cause .idle d

/-- Starts a waiting trigger (R366, R369, R372). -/
def startEffect (c : Nat) (d : Dev) : Dev :=
  match (hapOf d c).waiting with
  | none => d
  | some w =>
    let driving := (hapOf d c).state == .drive
    let d := endEffect c (((hapOf d c).run.bind (·.endCause)).getD 2) d
    let h := hapOf d c
    let segs := effectSegments w.effect w.duration
    let od := match segs with
      | g :: _ => if driving then 0 else min g.overdrive h.odMax
      | [] => 0
    let e : Effect := {
      number := w.effect, scale := w.scale, source := w.source, segments := segs, segStart := nowNs d, hcDone := 0,
      odLeft := od, amp := 0, driveNs := 0, brakes := 0, endCause := none }
    let d := updHap c (fun h => { h with state := .drive, run := some e, waiting := none, effects := h.effects + 1 }) d
    settlePlay w none (planHalf c d)

/-- Why a trigger of a rank is refused (R373, R378, R379, R384), in the order of R384's table. -/
def triggerRefusal (d : Dev) (c rank : Nat) : Chk :=
  let h := hapOf d c
  let limited := match h.run with
    | some e => h.state == .brake && e.endCause == some 3
    | none => false
  (failIf ((hapRank h).any fun r => decide (rank < r)) .notPermitted 1).or <|
    (failIf (!h.enabled || h.state == .off || h.state == .fault) .notPermitted 2).or <|
      (failIf (h.state == .rest || limited) .noResource 1).or
        (failIf (d.haptic.hot || d.haptic.lowSupply.testBit (c / 2)) .noResource 2)

/-- An accepted trigger (R369 to R373). Answers whether it waits for its first drive. -/
def acceptTrigger (c effect scale dur : Nat) (src : HapSource) (txn : Option Nat) (d : Dev) : Bool × Dev :=
  if scale = 0 then (false, d)
  else if effect = 0 then (false, brakeEffect c 2 (dropWait c 2 none d))
  else
    let d := dropWait c 2 none d
    (true, updHap c (fun h => { h with
      waiting := some { effect := effect, scale := scale, duration := dur, source := src, txn := txn } }) d)

/-- A trigger without a reply: a click, a pin edge or a secure play. A refusal is counted (R373, R378, R379). -/
def silentTrigger (c effect scale dur rank : Nat) (who : Option Issuer) (d : Dev) : Dev :=
  match triggerRefusal d c rank with
  | some _ => updHap c (fun h => { h with refused := h.refused + 1 }) d
  | none => (acceptTrigger c effect scale dur { rank := rank, issuer := who, notify := false, serial := 0 } none d).2

/-- Braking of a segment has ended (R367): the effect ends, pauses, or the channel rests. -/
def brakeEnd (c : Nat) (d : Dev) : Dev :=
  match (hapOf d c).run with
  | none => d
  | some e =>
    match e.endCause with
    | some 3 =>
      let d := releaseBridge c 3 .rest d
      updHap c (fun h => { h with restAt := nowNs d }) d
    | some k => releaseBridge c k .idle d
    | none =>
      match e.segments.drop 1 with
      | [] => releaseBridge c 0 .idle d
      | rest => applySetup c (updHap c (fun h => { h with
          state := .pause, plannedSq := 0, run := some { e with segments := rest } }) d)

/-! ## Events -/

/-- HAPTIC_EFFECT_START (R366, R370, R372): a waiting trigger drives for the first time, on a channel that is not
braking. -/
def execHapticEffectStart (ch hvdd : Nat) (s : State) : Host.Outcome State Fault Refusal :=
  onDev (fun _ d =>
    let h := hapOf d ch
    if h.waiting.isNone || !(h.state == .idle || h.state == .pause || h.state == .drive) then d
    else startEffect ch (updHap ch (fun h => { h with hvdd := hvdd }) (accountHalf ch d))) s

/-- Tracking and back-EMF at the gap of a half cycle (R365). -/
def trackGap (c : Nat) (m : HapMeasure) (d : Dev) : Dev :=
  let h := hapOf d c
  let quiet := if m.bemf ≤ 20 then h.noGaps + 1 else 0
  let lost := !h.noBemf && decide (8 ≤ quiet) && m.freq.isNone
  let d := updHap c (fun h => { h with
    hvdd := m.hvdd, noGaps := quiet, noBemf := (h.noBemf || lost) && m.freq.isNone,
    fTrack := match m.freq with
      | some f => max (max 1600 (ceilDiv (h.f0 * 64) 5)) (min (min 4800 (h.f0 * 96 / 5)) ((3 * h.fTrack + f) / 4))
      | none => h.fTrack }) d
  if lost then
    raise 0x0903 c (le8 4 ++ [0] ++ le16 m.hvdd ++ le32 h.ocTrips.toNat) (hapPages h) true d
  else d

/-- HAPTIC_HALF_CYCLE (R364 to R367, R372, R376, R380): a half cycle has completed and the next is planned. -/
def execHapticHalfCycle (ch : Nat) (m : HapMeasure) (s : State) : Host.Outcome State Fault Refusal :=
  onDev (fun _ d =>
    let h := hapOf d ch
    match h.run with
    | none => d
    | some _ =>
      if h.state != .drive && h.state != .brake then d else
      let now := nowNs d
      let d := trackGap ch m d
      let d := updHap ch (fun h => markDrive (now - m.length) now { h with
        trips := if h.tripped then h.trips else 0, tripped := false,
        run := h.run.map fun e => { e with
          driveNs := e.driveNs + m.length, odLeft := e.odLeft - 1,
          hcDone := if h.state == .drive then e.hcDone + 1 else e.hcDone,
          brakes := if h.state == .brake then e.brakes + 1 else e.brakes } }) d
      match (hapOf d ch).run with
      | none => d
      | some e =>
        if h.state == .drive then
          let hc := (e.segments.head?.map (·.halfCycles)).getD 0
          if hc != 0 && decide (hc ≤ e.hcDone) then
            planHalf ch (updHap ch (fun h => { h with state := .brake, run := some { e with brakes := 0 } }) d)
          else planHalf ch d
        else if (hapOf d ch).waiting.isSome then
          let d := applySetup ch d
          if (hapOf d ch).waiting.isSome then startEffect ch d else releaseBridge ch (e.endCause.getD 0) .idle d
        else if m.bemf < h.brakeMv then brakeEnd ch d
        else if 6 ≤ e.brakes then brakeEnd ch (updHap ch (fun h => { h with brakeLong := h.brakeLong + 1 }) d)
        else planHalf ch d) s

/-- HAPTIC_SEGMENT_END (R368): a drive segment given in ms, or a pause, ends by time. -/
def execHapticSegmentEnd (ch : Nat) (s : State) : Host.Outcome State Fault Refusal :=
  onDev (fun _ d =>
    let h := hapOf d ch
    match h.run with
    | none => d
    | some e =>
      match e.segments with
      | [] => d
      | g :: rest =>
        if nowNs d < e.segStart + g.time then d
        else if h.state == .drive && g.drive && g.halfCycles = 0 then
          planHalf ch (updHap ch (fun h => { h with
            state := .brake, run := h.run.map fun e => { e with brakes := 0 } }) (accountHalf ch d))
        else if h.state == .pause && !g.drive then
          match rest with
          | [] => releaseBridge ch 0 .idle d
          | n :: _ => planHalf ch (updHap ch (fun h => { h with
              state := .drive,
              run := some { e with segments := rest, segStart := nowNs d, hcDone := 0, odLeft := min n.overdrive h.odMax } }) d)
        else d) s

/-- HAPTIC_FAULT of a channel (R385). -/
def hapFaultEvent (c cause : Nat) (d : Dev) : Dev :=
  let h := hapOf d c
  raise 0x0903 c (le8 cause ++ [0] ++ le16 h.hvdd ++ le32 h.ocTrips.toNat) (hapPages h) true d

/-- A channel goes to FAULT (R377, R379). -/
def faultChannel (c cause : Nat) (d : Dev) : Dev :=
  let d := dropWait c 4 (some (.notPermitted, 2)) d
  hapFaultEvent c cause (releaseBridge c 4 .fault d)

/-- HAPTIC_OVERCURRENT (R375, R377): the bridge releases for the rest of the half cycle; the fourth half cycle in a row
faults the channel. -/
def execHapticOvercurrent (ch : Nat) (s : State) : Host.Outcome State Fault Refusal :=
  onDev (fun _ d =>
    let h := hapOf d ch
    if (h.state != .drive && h.state != .brake) || h.tripped then d else
    let now := nowNs d
    let d := updHap ch (fun h => { h with
      tripped := true, trips := h.trips + 1, ocTrips := h.ocTrips + 1, squares := trimSquares now h.squares }) d
    if 4 ≤ h.trips + 1 then faultChannel ch 0 d else d) s

/-- HAPTIC_HARD_CURRENT (R375, R379). -/
def execHapticHardCurrent (ch : Nat) (s : State) : Host.Outcome State Fault Refusal :=
  onDev (fun _ d =>
    let h := hapOf d ch
    if h.state != .drive && h.state != .brake then d else faultChannel ch 1 d) s

/-- Releases channels whose supply or die gives out (R379): their effects end, triggers are refused until recovery. -/
def supplyLoss (chs : List Nat) (cause : Nat) (d : Dev) : Dev :=
  chs.foldl (fun d c =>
    let h := hapOf d c
    if !h.enabled || h.state == .off then d else
    let d := dropWait c 6 (some (.noResource, 2)) d
    let d := if h.run.isSome then releaseBridge c 6 .idle d else d
    hapFaultEvent c cause d) d

/-- HVDD_LOW (R379). -/
def execHvddLow (k : Nat) (s : State) : Host.Outcome State Fault Refusal :=
  onDev (fun _ d =>
    if d.haptic.lowSupply.testBit k then d else
    supplyLoss [2 * k, 2 * k + 1] 2 { d with haptic := { d.haptic with lowSupply := setBit d.haptic.lowSupply k true } }) s

/-- FEEDBACK_OVERTEMP (R379). -/
def execFeedbackOvertemp (s : State) : Host.Outcome State Fault Refusal :=
  onDev (fun _ d => if d.haptic.hot then d else supplyLoss (List.range 8) 3 { d with haptic := { d.haptic with hot := true } }) s

/-- HAPTIC_SUPPLY_RECOVER (R379): HVDDk is above 3.0 V again, or the die is below 125 °C. -/
def execHapticSupplyRecover (k : Option Nat) (s : State) : Host.Outcome State Fault Refusal :=
  onDev (fun _ d =>
    { d with haptic := match k with
        | some k => { d.haptic with lowSupply := setBit d.haptic.lowSupply k false }
        | none => { d.haptic with hot := false } }) s

/-- HAPTIC_LIMIT (R378): the continuous or the duty limit is reached; the channel brakes and then rests. -/
def execHapticLimit (ch : Nat) (duty : Bool) (s : State) : Host.Outcome State Fault Refusal :=
  onDev (fun _ d =>
    let d := accountHalf ch d
    let h := hapOf d ch
    let now := nowNs d
    let v := if duty then dutyMs h now else contMs h now
    if h.run.isNone || (h.state != .drive && h.state != .brake) || v < (if duty then 5000 else 2000) then d else
    let d := updHap ch (fun h => { h with
      limitStops := h.limitStops + 1, restDuty := duty, squares := trimSquares now h.squares,
      run := h.run.map fun e => { e with endCause := some 3 } }) d
    let d := dropWait ch 3 (some (.noResource, 1)) d
    let d := if h.state == .drive then
        planHalf ch (updHap ch (fun h => { h with state := .brake, run := h.run.map fun e => { e with brakes := 0 } }) d)
      else d
    hapLimitEvent ch (b2n duty) v d) s

/-- HAPTIC_REST_END (R378). -/
def execHapticRestEnd (ch : Nat) (s : State) : Host.Outcome State Fault Refusal :=
  onDev (fun _ d =>
    let h := hapOf d ch
    let now := nowNs d
    let done := if h.restDuty then decide (dutyMs h now < 4000) else decide (h.restAt + ms 100 ≤ now)
    if h.state == .rest && done then updHap ch (fun h => { h with state := .idle }) d else d) s

/-- HAP_TRIG_EDGE (R371): an edge that passed the glitch filter; within the pin's guard it is ignored. -/
def execHapTrigEdge (pin : Nat) (rising : Bool) (s : State) : Host.Outcome State Fault Refusal :=
  onDev (fun _ d =>
    let p := nthD .zero pin d.haptic.pins
    let wanted := p.edge.testBit (if rising then 0 else 1)
    let guarded := p.lastEdge.any fun t => decide (nowNs d < t + ms p.guard)
    if !p.enable || !wanted || guarded then d else
    let d := { d with haptic := { d.haptic with
      pins := modifyAt (fun p => { p with lastEdge := some (nowNs d) }) pin d.haptic.pins } }
    silentTrigger p.channel p.effect p.amplitude p.duration 1 none d) s

/-- SECURE_HAPTIC_PLAY (R362, R370): the secure world plays on any channel at rank 2. -/
def execSecureHapticPlay (channel effect scale duration : Nat) (s : State) : Host.Outcome State Fault Refusal :=
  onDev (fun _ d => if secUp d then silentTrigger channel effect scale duration 2 none d else d) s

/-! ## What the rest of the device does to the channels -/

/-- The bridges release when PD_FEED or the feedback drive island goes off (R385, R541, R542). -/
def stopHaptics (pdFeed : Bool) (d : Dev) : Dev :=
  (List.range 8).foldl (fun d c =>
    let d := dropWait c 6 (some (.notPermitted, 2)) d
    let d := releaseBridge c 6 (if (hapOf d c).state == .fault then .fault else if (hapOf d c).state == .rest then .rest else .idle) d
    if pdFeed then updHap c (fun h => { h with state := .off }) d else d) d

/-- PD_FEED is on again: enabled channels are idle. -/
def resumeHaptics (d : Dev) : Dev :=
  (List.range 8).foldl (fun d c => updHap c (fun h => { h with
    state := if h.enabled && h.state == .off then .idle else h.state }) d) d

/-- R374: the rank-0 effects an instance started brake to stop. -/
def quiesceHaptics (n : Nat) (d : Dev) : Dev :=
  let mine := fun (s : HapSource) => s.rank == 0 && s.issuer == some (.inst n)
  (List.range 8).foldl (fun d c =>
    let d := if (hapOf d c).waiting.any fun w => mine w.source then dropWait c 5 (some (.quiesced, 0)) d else d
    if (hapOf d c).run.any fun e => mine e.source then brakeEffect c 5 d else d) d

/-- Whether an instance still has a rank-0 effect braking. -/
def hapticsBusy (d : Dev) (n : Nat) : Bool :=
  d.haptic.channels.any fun h => h.run.any fun e => e.source.rank == 0 && e.source.issuer == some (.inst n)

/-- R362: channels of an instance reset or destroyed return to the manager. -/
def disownHaptics (n : Nat) (d : Dev) : Dev :=
  (List.range 8).foldl (fun d c => updHap c (fun h => if h.owner == some n then { h with owner := none } else h) d) d

/-! ## Commands (R383, R384) -/

def hapOpen (d : Dev) (i : Issuer) (c : Nat) : Bool :=
  match i with
  | .manager => true
  | .inst n => (hapOf d c).owner == some n
  | .delegate => false

def specHapticChannel : OpSpec where
  len := 3
  fields := fun _ => [fRange 24 1 0 7, fBits 25 7, fRange 26 1 0 7, fRange 27 1 0 3, fRange 28 2 0 511, fRange 30 2 100 300,
    fRange 32 2 500 4000, fRange 34 2 500 5500, fRange 36 2 40 1000, fRange 38 2 50 400, fRange 40 2 20 500]
  own := fun x => failIf (x.c.bit 25 2 && !(instOf x.view (x.c.u16 28)).exists_) .noContext 0
  step10 := fun _ c => failIf (decide (c.u16 34 * c.u16 34 < 2 * (c.u16 32 * c.u16 32))) .outOfRange 34
  land := fun id ch d =>
    let c := ch.cmd.u8 24
    let d := match (hapOf d c).setup with
      | some _ => applySetup c d
      | none => d
    if (hapOf d c).run.isNone then setChannel c ch.cmd d else
    let d := brakeEffect c 1 d
    if (hapOf d c).run.isNone then setChannel c ch.cmd d
    else landingWaits id (updHap c (fun h => { h with setup := some (id, ch.cmd) }) d)

def specHapticPlay : OpSpec where
  len := 1
  fields := fun _ => [fRange 24 1 0 7, fRange 25 1 0 127, fAny 26 1, fBits 27 1, fRange 28 2 0 60000]
  own := fun x => failIf (!hapOpen x.view x.c.issuer (x.c.u8 24)) .notOwner 0
  stillOwned := fun d ch => hapOpen d ch.cmd.issuer (ch.cmd.u8 24)
  step10 := fun d c => triggerRefusal d (c.u8 24) 0
  land := fun id ch d =>
    let c := ch.cmd
    match triggerRefusal d (c.u8 24) 0 with
    | some v => updTxn id (fun t => { t with verdict := some v }) d
    | none =>
      let serial := Config.freeHandle d.free
      let d := { d with free := d.free + 1, result := le32 serial.toNat }
      let src : HapSource := { rank := 0, issuer := some c.issuer, notify := c.bit 27 0, serial := serial }
      let (waits, d) := acceptTrigger (c.u8 24) (c.u8 25) (c.u8 26) (c.u16 28) src (some id) d
      if waits then landingWaits id d else d
  results := fun d _ => d.result

/-- Ranks a HAPTIC_STOP may stop: 0 for an instance, up to 1 for the manager (R373). -/
def stopRank (i : Issuer) : Nat := if i == .manager then 1 else 0

def specHapticStop : OpSpec where
  len := 1
  fields := fun _ => [fRange 24 1 0 7, fBits 25 1]
  own := fun x => failIf (!hapOpen x.view x.c.issuer (x.c.u8 24)) .notOwner 0
  stillOwned := fun d ch => hapOpen d ch.cmd.issuer (ch.cmd.u8 24)
  step10 := fun d c => failIf ((hapRank (hapOf d (c.u8 24))).any fun r => decide (stopRank c.issuer < r)) .notPermitted 1
  land := fun id ch d =>
    let c := ch.cmd.u8 24
    let h := hapOf d c
    if (hapRank h).any fun r => decide (stopRank ch.cmd.issuer < r) then
      updTxn id (fun t => { t with verdict := some (.notPermitted, 1) }) d
    else
      let stopped := h.run.isSome || h.waiting.isSome
      let d := { d with result := le8 (b2n stopped) }
      let d := dropWait c 1 none d
      if ch.cmd.bit 25 0 then (if h.run.isSome then releaseBridge c 1 .idle d else d) else brakeEffect c 1 d
  results := fun d _ => d.result

def specHapticTrigger : OpSpec where
  len := 2
  fields := fun _ => [fRange 24 1 0 7, fIf 25 1 (fun v => decide (8 ≤ v) || v == 1) .badParam, fRange 26 1 0 7,
    fRange 27 1 1 127, fAny 28 1, fRange 30 2 0 1000, fRange 32 2 0 60000]
  land := fun _ ch d =>
    let c := ch.cmd
    { d with haptic := { d.haptic with pins := modifyAt (fun p => { p with
        enable := c.bit 25 0, edge := c.u8 25 / 2 % 4, channel := c.u8 26, effect := c.u8 27, amplitude := c.u8 28,
        guard := c.u16 30, duration := c.u16 32 }) (c.u8 24) d.haptic.pins } }

def specHapticBudget : OpSpec where
  len := 1
  fields := fun _ => [fRange 24 2 1000 10000]
  land := fun _ ch d => { d with haptic := { d.haptic with budget := ch.cmd.u16 24 } }

/-- Code of a channel state (R367). -/
def hapCode : HapState → Nat
  | .off => 0 | .idle => 1 | .drive => 2 | .brake => 3 | .pause => 4 | .rest => 5 | .fault => 6

/-- The haptic channel record (R381). -/
def hapRecord (d : Dev) (c : Nat) : List U32 :=
  let h := hapOf d c
  let now := nowNs d
  [word32 [(1, b2n h.enabled), (3, hapCode h.state), (2, b2n h.owner.isNone), (1, b2n h.clickAny), (1, b2n h.noBemf),
     (3, h.priority), (2, (h.run.map (·.source.rank)).getD 0), (3, h.odMax), (7, (h.run.map (·.number)).getD 0),
     (9, h.owner.getD 0)],
   word32 [(16, h.fTrack), (16, h.f0)], word32 [(16, h.clamp), (16, h.rmsLimit)], word32 [(16, h.oc), (16, h.res)],
   word32 [(16, h.brakeMv), (16, hapScale h)], word32 [(16, (hapPower h).floor.toNat), (16, h.hvdd)],
   word32 [(16, dutyMs h now), (16, contMs h now)], h.effects, h.refused, h.limited, h.ocTrips, h.brakeLong,
   h.limitStops, 0, 0, 0]

/-- The budget register (R382). -/
def budgetReg (d : Dev) : U32 :=
  word32 [(16, ((d.haptic.channels.map hapPower).foldl (· + ·) 0).floor.toNat), (16, d.haptic.budget)]

/-- A pin register (R382). -/
def pinReg (p : HapPin) : U32 :=
  word32 [(1, b2n p.enable), (2, p.edge), (3, p.channel), (7, p.effect), (8, p.amplitude), (1, 0), (10, p.guard)]

def specHapticStatus : OpSpec where
  len := 1
  fields := fun _ => [fRange 24 1 0 7, fRange 25 1 0 4]
  own := fun x => failIf (!hapOpen x.view x.c.issuer (x.c.u8 24)) .notOwner 0
  read := fun _ d c =>
    let k := c.u8 24
    (d, .ok (if c.u8 25 < 4 then fourWords (hapRecord d k) (4 * c.u8 25)
      else
        let (w, t) := match d.haptic.pins.find? fun p => p.enable && p.channel == k with
          | some p => (pinReg p, p.duration)
          | none => (0, 0)
        le32 (budgetReg d).toNat ++ le32 w.toNat ++ le32 t))

end Sys2Proof.Machine
end

