-- ==== Sys2Proof/Machine/MemCtl.lean ====
section
/-! DEFINITION. Family 0x0C and the Memory hall: slots, page policy, refresh, self-refresh, disturbance tracking,
training, fencing and reduced maps (chapter 14). -/

namespace Sys2Proof.Machine

def updDram (f : Dram → Dram) (d : Dev) : Dev := { d with dram := f d.dram }
def chanOf (d : Dev) (c : Nat) : Channel := nthD .zero c d.dram.channels
def updChan (c : Nat) (f : Channel → Channel) : Dev → Dev :=
  updDram fun m => { m with channels := modifyAt f c m.channels }

/-- Key of a bank: channel, rank, and bank n of 16, bank group × 4 + bank. -/
def bankKey (c rank n : Nat) : Nat := c * 32 + rank * 16 + n
def bankOf (d : Dev) (k : Nat) : Bank := tget .zero d.dram.banks k
def updBank (k : Nat) (f : Bank → Bank) : Dev → Dev :=
  updDram fun m => { m with banks := tput .zero m.banks k (f (tget .zero m.banks k)) }

/-- Closes the open rows of the banks that a test on their keys selects. -/
def closeRows (sel : Nat → Bool) (d : Dev) : Dev :=
  (tkeys d.dram.banks).foldl (fun d k => if sel k then updBank k (fun b => { b with openRow := none }) d else d) d

def closeChannel (c : Nat) : Dev → Dev := closeRows fun k => k / 32 == c

/-! ## Fencing (R87, R237, R450) -/

/-- Why a running queue's rings can no longer be read or written (R87); queue 2 is the event queue. -/
def ringFail (d : Dev) (k q : Nat) : Option MemFail :=
  let p := pageOf d k
  let i := issuerOfKey k
  if q = 2 then (if p.eq.running then locFail d i p.eq.loc true p.eq.base.toNat (p.eq.depth * 32) else none)
  else
    let x := queueOf p q
    if !x.running then none
    else match locFail d i x.loc false x.sqBase.toNat (x.depth * 64) with
      | some e => some e
      | none => locFail d i x.rloc true x.rqBase.toNat (x.depth * 32)

/-- Stops every queue whose ring can no longer be reached (R87, R541); the switch-off of all DRAM. A fence of one channel,
a remap or an unmap stops a queue at its next access instead (log 29). -/
def stopLostQueues (d : Dev) : Dev :=
  (tkeys d.pages).foldl (fun d k => [2, 0, 1].foldl (fun d q =>
    match ringFail d k q with
    | some e => stopQueue k q e d
    | none => d) d) d

/-- RESERVE_SHORT for every output whose declared sum is above its reserved rate, after a change of the slot table or of the
map (R237). -/
def reserveShort (d : Dev) : Dev :=
  (List.range 8).foldl (fun d o =>
    if slotCount d o * slotRateX d < declaredRate d o * 76800 then
      raise 0x0305 o (le32 (reservedRate d o) ++ le32 (declaredRate d o)) [512] false d
    else d) d

/-- MEM_FENCED of a channel (R450, R452). -/
def fencedEvent (c : Nat) (boot : Bool) (d : Dev) : Dev :=
  raise 0x0C01 c (le8 (b2n boot) ++ le8 (chanOf d c).attempts ++ [0, 0] ++ le32 (workingMask d.dram)) [512] true d

/-- Fences a channel (R450): reads of it return poisoned data, and writes are dropped. -/
def fenceChannel (c : Nat) (d : Dev) : Dev :=
  fencedEvent c false (closeChannel c (updChan c (fun x => { x with state := .fenced, owed := [] }) d))

/-! ## Slots and page policy (R426 to R429, R437, R438, R440, R441, R445, R446) -/

/-- Class of a request (R427's table): a fetch takes that of the output whose band it serves, unless its layer declares no
rate (R234). -/
def slotClass (d : Dev) (r : DramReq) : Nat :=
  if r.requester < 16 then
    (if (layerOf d r.layer).any fun l => l.rate == 0 && (l.src.map (·.mem)) == some 0 then 15 else r.output)
  else if r.requester < 24 then 8 else if r.requester < 26 then 9 else if r.requester < 28 then 10
  else if r.requester < 32 then 11 else if r.requester < 34 then 12 else if r.requester < 39 then 13 else 15

/-- Rotating priority: the first requester at or after the pointer, wrapping over the 40. -/
def rotate (ptr : Nat) (rs : List DramReq) : Option DramReq :=
  (List.range 40).findSome? fun k => rs.find? fun r => r.requester == (ptr + k) % 40

/-- Counts an activate of a row in a tracking entry's four counters (R445). Which of several counters with the lowest count
a new row replaces is a free value, `pick`. -/
def countRow (pick row : Nat) (rows : List (Nat × Nat)) : List (Nat × Nat) :=
  if rows.any (·.1 == row) then rows.map fun r => if r.1 == row then (r.1, r.2 + 1) else r
  else if rows.length < 4 then rows ++ [(row, 1)]
  else
    let low := (rows.map (·.2)).foldl min ((rows.head?.map (·.2)).getD 0)
    let ties := (List.range rows.length).filter fun i => (rows[i]?).any (·.2 == low)
    match ties[pick % ties.length]? with
    | some i => modifyAt (fun _ => (row, low + 1)) i rows
    | none => rows

/-- Requester number of the shared bucket. -/
def bucket : Nat := 40

/-- The tracking entry that counts a requester's activates of a bank (R445). -/
def entryOf (b : Bank) (req : Nat) : Nat :=
  if b.table.any (·.requester == req) then req
  else if (b.table.filter (·.requester != bucket)).length < 16 then req else bucket

/-- Whether a requester's activates of a bank are spaced and the last was under 1 µs ago (R446). -/
def spacedOut (d : Dev) (b : Bank) (req : Nat) : Bool :=
  b.table.any fun e => e.requester == entryOf b req && e.tripped && decide (d.tide.now < e.lastAct + 1000 * 65536)

/-- Refresh management of a bank (R441, R446): its accumulated count falls by the die's threshold. -/
def issueRfm (k : Nat) : Dev → Dev :=
  updBank k fun b => { b with activates := b.activates - Config.rfmThreshold, openRow := none }

/-- One activate of a bank by a requester: accumulated activates, the tracker and its trip (R441, R445, R446). -/
def activate (c k row req : Nat) (d : Dev) : Dev :=
  let b := bankOf d k
  let who := entryOf b req
  let old := (b.table.find? (·.requester == who)).getD { requester := who, rows := [], tripped := false, lastAct := 0 }
  let rows := countRow (Config.freeNat d.free) row old.rows
  let trips := !old.tripped && rows.any fun r => decide (d.dram.disturbTh ≤ r.2)
  let e : TrackEntry := { requester := who, rows := rows, tripped := old.tripped || trips, lastAct := d.tide.now }
  let table := if b.table.any (·.requester == who) then b.table.map fun x => if x.requester == who then e else x
    else b.table ++ [e]
  let d := updBank k (fun b => { b with table := table, activates := b.activates + 1 }) { d with free := d.free + 1 }
  let d := if Config.rfmThreshold ≠ 0 ∧ Config.rfmThreshold ≤ (bankOf d k).activates then issueRfm k d else d
  if !trips then d else
  let d := updChan c (fun x => { x with trips := x.trips + 1 }) (issueRfm k d)
  raise 0x0C03 c (le8 (if who = bucket then 0xFF else who) ++ le8 (k % 32) ++ [0, 0] ++ le32 row) [512] false d

/-- A granted access: the predictor counts, a closed or other row is activated, and the row stays open or closes
(R437, R438). How many bits link ECC corrected in its bursts (R456) is a free value. -/
def accessBank (r : DramReq) (d : Dev) : Dev :=
  let a := decodeAddr d.dram r.addr
  let k := bankKey a.channel a.rank (a.group * 4 + a.bank)
  let b := bankOf d k
  let n := if b.lastRow == some a.row then min 3 (b.counter + 1) else b.counter - 1
  let d := if b.openRow == some a.row then d else activate a.channel k a.row r.requester d
  let d := updChan a.channel (fun x => { x with eccFixed := x.eccFixed + BitVec.ofNat 32 (Config.freeNat d.free) })
    { d with free := d.free + 1 }
  updBank k (fun b => { b with
    counter := n, lastRow := some a.row,
    openRow := if b.policy = 1 || (b.policy = 0 && decide (2 ≤ n)) then some a.row else none }) d

/-- Grants one channel's access for the next slot (R428): the owner class first, then best effort. -/
def grantSlot (cls : Nat) (reqs : List DramReq) (c : Nat) (d : Dev) : Dev :=
  let x := chanOf d c
  let mine := reqs.filter fun r =>
    let a := decodeAddr d.dram r.addr
    let b := bankOf d (bankKey a.channel a.rank (a.group * 4 + a.bank))
    a.channel == c && decide (r.addr < dramCapacity d.dram) &&
      (b.openRow == some a.row || !spacedOut d b r.requester)
  match rotate (tget 0 x.classPtr cls) (mine.filter (slotClass d · == cls)) with
  | some r => accessBank r (updChan c (fun x => { x with classPtr := tput 0 x.classPtr cls ((r.requester + 1) % 40) }) d)
  | none =>
    match rotate x.bestPtr mine with
    | some r => accessBank r (updChan c (fun x => { x with bestPtr := (r.requester + 1) % 40 }) d)
    | none => d

/-- DRAM_SLOT_ARBITRATION (R426 to R429): during slot k the arbiter decides slot k+1, whose owner the shadow table
names where slot k+1 is slot 0 of a wheel that a new table starts (R432). -/
def execDramSlotArbitration (reqs : List DramReq) (s : State) : Host.Outcome State Fault Refusal :=
  onDev (fun _ d =>
    if !domainOn d 8 || !d.dram.trained then d else
    let k := (d.dram.position + 1) % 1024
    let slots := match k, d.dram.shadow with
      | 0, some t => t.map fun b => b.toNat % 16
      | _, _ => liveSlots d
    let cls := nthD 15 k slots
    let open_ := if d.dram.remapping.isSome then [] else (mapChannels d.dram).filter fun c => (chanOf d c).state == .serving
    updDram (fun m => { m with position := k }) (open_.foldl (fun d c => grantSlot cls reqs c d) d)) s

/-! ## Refresh (R439, R440) -/

/-- Key of the refreshes owed: by rank and bank pair, or by rank in all-bank mode. -/
def owedKey (all : Bool) (rank pair : Nat) : Nat := if all then 16 + rank else rank * 8 + pair

/-- REFRESH_DUE (R439, R440): the refresh is issued, or postponed while requests wait for its banks, to at most 8. -/
def execRefreshDue (ch rank : Nat) (busy : Bool) (s : State) : Host.Outcome State Fault Refusal :=
  onDev (fun _ d =>
    let x := chanOf d ch
    if x.state == .selfRefresh || x.state == .fenced || !d.dram.trained then d else
    let all := d.dram.allBank
    let pair := tget 0 x.pairs rank
    let k := owedKey all rank pair
    let n := tget 0 x.owed k
    let d := updChan ch (fun x => { x with allBank := all, pairs := if all then x.pairs else tput 0 x.pairs rank ((pair + 1) % 8) }) d
    if busy && decide (n < 8) then updChan ch (fun x => { x with owed := tput 0 x.owed k (n + 1) }) d
    else
      let d := if busy then d else updChan ch (fun x => { x with owed := tput 0 x.owed k 0 }) d
      closeRows (fun b => b / 16 == ch * 2 + rank && (all || b % 8 == pair)) d) s

/-- MR4_READ (R439): the refresh multiplier codes the dies report, by channel. -/
def execMr4Read (codes : List Nat) (s : State) : Host.Outcome State Fault Refusal :=
  onDev (fun _ d => (List.range 8).foldl (fun d c =>
    match codes[c]? with
    | some v => if (chanOf d c).state == .fenced then d else updChan c (fun x => { x with mr4 := v % 8 }) d
    | none => d) d) s

/-! ## Self-refresh (R442 to R444) -/

/-- A channel enters self-refresh: rows close, and nothing is owed. -/
def enterSelfRefresh (c : Nat) (d : Dev) : Dev :=
  let x := chanOf d c
  if x.state == .fenced || x.state == .selfRefresh then d else
  closeChannel c (updChan c (fun x => { x with state := .selfRefresh, srEntries := x.srEntries + 1, owed := [] }) d)

/-- Every channel enters self-refresh (R444, R545). -/
def memSleep (d : Dev) : Dev := (List.range 8).foldl (fun d c => enterSelfRefresh c d) d

/-- One tracking pass on every channel, all in parallel (R444). -/
def memWake (d : Dev) : Dev :=
  (List.range 8).foldl (fun d c =>
    if (chanOf d c).state == .selfRefresh then
      updChan c (fun x => { x with state := .tracking, tracks := x.tracks + 1, lastTrack := now32 d }) d
    else d) d

/-- Whether the Memory hall runs: its domain, its island and the device state. -/
def memOn (d : Dev) : Bool :=
  domainOn d 8 && islandOn d 8 && (d.power.state == .run || d.power.state == .still)

/-- SELF_REFRESH_IDLE (R442): a channel idle for the idle time. -/
def execSelfRefreshIdle (ch : Nat) (s : State) : Host.Outcome State Fault Refusal :=
  onDev (fun _ d => if d.dram.srIdle = 0 || (chanOf d ch).state != .serving then d else enterSelfRefresh ch d) s

/-- SELF_REFRESH_EXIT (R443): a request has reached the channel and exit completes. -/
def execSelfRefreshExit (ch : Nat) (s : State) : Host.Outcome State Fault Refusal :=
  onDev (fun _ d =>
    if (chanOf d ch).state == .selfRefresh && memOn d then updChan ch (fun x => { x with state := .serving }) d else d) s

/-! ## Row disturbance (R447) -/

/-- DISTURB_WINDOW_END (R447): tables clear, spacing ends, and a changed threshold applies. Windows start at t = 0 of tide
time and every 32 ms. -/
def execDisturbWindowEnd (s : State) : Host.Outcome State Fault Refusal :=
  onDev (fun _ d =>
    let w := nowNs d / 32000000
    if w = d.dram.window then d else
    updDram (fun m => { m with disturbTh := m.disturbNext, window := w })
      ((tkeys d.dram.banks).foldl (fun d k => updBank k (fun b => { b with table := [] }) d) d)) s

/-! ## Tracking and retraining (R448, R449) -/

/-- DRAM_TRACKING_DUE (R448): a pass starts, unless another channel is being tracked or retrained. -/
def execDramTrackingDue (ch : Nat) (temp : Int) (s : State) : Host.Outcome State Fault Refusal :=
  onDev (fun _ d =>
    let x := chanOf d ch
    if (x.state != .serving && x.state != .selfRefresh) || !memOn d ||
        d.dram.channels.any (fun y => y.state == .tracking || y.state == .retraining) then d
    else updChan ch (fun x => { x with state := .tracking, tracks := x.tracks + 1, lastTrack := now32 d, trackTemp := temp }) d) s

/-- A retrain starts (R449): its first attempt. Rows close. -/
def startRetrain (c : Nat) (d : Dev) : Dev :=
  closeChannel c (updChan c (fun x => { x with state := .retraining, attempts := 1, retrains := x.retrains + 1 }) d)

/-- TRACKING_PASS_END (R444, R448): the channel serves again, or retrains. -/
def execTrackingPassEnd (ch : Nat) (moved pass : Bool) (s : State) : Host.Outcome State Fault Refusal :=
  onDev (fun _ d =>
    if (chanOf d ch).state != .tracking then d
    else if moved || !pass then startRetrain ch d
    else updChan ch (fun x => { x with state := .serving }) d) s

/-- LINK_ECC_FAIL (R449): a read and its retry have failed link ECC. -/
def execLinkEccFail (ch : Nat) (s : State) : Host.Outcome State Fault Refusal :=
  onDev (fun _ d =>
    if (chanOf d ch).state != .serving then d
    else startRetrain ch (updChan ch (fun x => { x with eccRetries := x.eccRetries + 1 }) d)) s

/-- The end of a retrain attempt (R449): the channel serves, tries again, or is fenced after the third. -/
def endRetrain (ch : Nat) (pass : Bool) (d : Dev) : Dev :=
  let x := chanOf d ch
  if x.state != .retraining then d
  else if pass then updChan ch (fun x => { x with state := .serving }) d
  else if x.attempts < 3 then updChan ch (fun x => { x with attempts := x.attempts + 1, retrains := x.retrains + 1 }) d
  else fenceChannel ch d

/-! ## Training and the map (R425, R434, R436, R452) -/

/-- The next lower data rate (R424, R425). -/
def nextBin (r : Nat) : Option Nat :=
  match r with
  | 9600 => some 8533 | 8533 => some 7500 | 7500 => some 6400 | 6400 => some 5500 | 5500 => some 4267
  | 4267 => some 3200 | _ => none

/-- A map code as the controller runs it: map C gives way to map A with 24 Gb dies (R436). -/
def mapInForce (density code : Nat) : Nat := if code = 2 && density = 1 then 0 else code

/-- Takes the boot configuration for training (R425, R434). `keep` says that the map in MAP_NEXT is used. -/
def configureDram (cfg : BootCfg) (keep : Bool) (m : Dram) : Dram :=
  let code := if keep then m.mapNext else cfg.map
  { Dram.zero with
    window := m.window, map := mapInForce cfg.density code, mapNext := code, bootMap := cfg.map,
    fallback := code == 2 && cfg.density == 1, ranks2 := cfg.ranks == 2, density := cfg.density, rate := cfg.rate,
    channels := List.replicate 8 { Channel.zero with state := .tracking } }

/-- DRAM_TRAINING_DONE (R425, R452): training at the rate in force ends; `trained` names the channels that trained. -/
def execDramTrainingDone (trained : Nat) (s : State) : Host.Outcome State Fault Refusal :=
  onDev (fun _ d =>
    if d.power.boot != .running || d.dram.trained then d else
    match trained % 256, nextBin d.dram.rate with
    | 0, some r => updDram (fun m => { m with rate := r }) d
    | ok, _ =>
      let d := updDram (fun m => { m with
        trained := true, working := ok,
        channels := (List.range 8).map fun c =>
          { nthD .zero c m.channels with state := if ok.testBit c then .serving else .fenced } }) d
      ((List.range 8).filter (!ok.testBit ·)).foldl (fun d c => fencedEvent c true d) d) s

/-! ## MEM_REMAP (R451, R453, R454) -/

/-- Whether a page's queue or ring lies in DRAM (R454). -/
def ringInDram (d : Dev) (q : Nat) : Bool :=
  let p := pageOf d 512
  if q = 2 then p.eq.running && !p.eq.loc else (queueOf p q).running && (!(queueOf p q).loc || !(queueOf p q).rloc)

/-- Capacity of a map over a mask of channels, in bytes. -/
def capacityOver (m : Dram) (mask : Nat) : Nat := fullCapacity m / 8 * (bitsSet 8 mask).length

/-- Whether a window or the manager's reserved DRAM reaches above a capacity. -/
def dramAbove (d : Dev) (cap : Nat) : Bool :=
  let hi := fun (p : Nat) => decide (cap < (p + 1) * 2097152)
  d.insts.any (fun e => e.2.dram.any fun w => (w.2.map fun x => hi x.1).getD false) ||
    d.reserved.any fun r => !r.1 && hi r.2

/-- MEM_REMAP action 0 begins (R453): from now on DRAM answers as fenced. -/
def startRemap (t : Ticket) (mask : Nat) (d : Dev) : Dev :=
  updDram (fun m => { m with remapping := some t, remapMask := mask }) d

/-- The scrub ends (R453): the new map is in force, every byte reads 0, and the command replies. -/
def endRemap (trained scrubUs : Nat) (d : Dev) : Dev :=
  match d.dram.remapping with
  | none => d
  | some t =>
    let ok := maskOf ((bitsSet 8 d.dram.remapMask).filter fun c => !isFenced d.dram c || trained.testBit c)
    let fewer := decide ((bitsSet 8 ok).length < (mapChannels d.dram).length)
    let d := { updDram (fun m => { m with
      remapping := none, working := ok, banks := [],
      channels := (List.range 8).map fun c =>
        let x := nthD Channel.zero c m.channels
        if ok.testBit c then { x with state := .serving } else x }) d with dramMem := [] }
    let mib := dramCapacity d.dram / 1048576
    let d := raise 0x0C02 0 (le8 ok ++ [0, 0, 0] ++ le32 mib ++ le32 scrubUs) [512] true d
    finish t .ok 0 (le8 ok ++ [0, 0, 0] ++ le32 mib) (if fewer then reserveShort d else d)

/-- The shadow table becomes live at the wheel wrap (R432); the commands that brought it complete (R105). -/
def swapTable (d : Dev) : Dev :=
  match d.dram.shadow with
  | none => updDram (fun m => { m with position := 0 }) d
  | some t =>
    let txns := d.dram.shadowTxns
    let d := updDram (fun m => { m with live := some t, shadow := none, shadowTxns := [], swaps := m.swaps + 1, position := 0 }) d
    let res := le32 d.dram.swaps.toNat
    reserveShort (txns.foldl (fun d id => landingDone id (updTxn id (fun t => { t with out := res }) d)) d)

/-! ## Registers (R456) -/

def memInfo (m : Dram) : U32 :=
  word32 [(2, m.map), (2, m.mapNext), (1, b2n m.fallback), (1, b2n m.remapping.isSome), (1, b2n m.ranks2), (2, m.density),
    (8, workingMask m), (15, m.rate)]
def memCapacity (m : Dram) : U32 := BitVec.ofNat 32 (dramCapacity m / 1048576)
def memPolicy (m : Dram) : U32 := word32 [(1, b2n m.allBank), (15, m.srIdle), (16, m.disturbNext)]
def memInfoWords (m : Dram) : List U32 := [memInfo m, memCapacity m, memPolicy m]

def chanCode : ChanState → Nat
  | .serving => 0 | .selfRefresh => 1 | .tracking => 2 | .retraining => 3 | .fenced => 4

def chanRecord (d : Dev) (c : Nat) : List U32 :=
  let x := chanOf d c
  let owed := (x.owed.map (·.2)).foldl max 0
  let rowsOpen := maskOf ((List.range 16).filter fun n =>
    (bankOf d (bankKey c 0 n)).openRow.isSome || (bankOf d (bankKey c 1 n)).openRow.isSome)
  [word32 [(3, chanCode x.state), (2, x.attempts), (3, x.mr4), (4, owed), (4, 0), (16, rowsOpen)],
   x.retrains, x.tracks, x.srEntries, x.trips, x.eccFixed, x.eccRetries, x.lastTrack]

def slotView (d : Dev) : List U32 :=
  let l := liveSlots d
  let e := fun k => nthD 0 k l
  ((List.range 256).map fun w => word32 [(8, e (4 * w + 3)), (8, e (4 * w + 2)), (8, e (4 * w + 1)), (8, e (4 * w))]) ++
  [word32 [(1, b2n d.dram.shadow.isSome), (21, 0), (10, d.dram.position)], d.dram.swaps] ++
  (List.range 8).map fun k => word32 [(16, l.countP (· == 2 * k + 1)), (16, l.countP (· == 2 * k))]

def memUnit (d : Dev) (u : Nat) : List U32 :=
  match u with
  | 0 => memInfoWords d.dram
  | 1 => (List.range 8).flatMap (chanRecord d)
  | _ => slotView d

/-! ## Commands (R457, R458) -/

def specMemMapInfo : OpSpec where
  read := fun _ d _ => (d, .ok ((memInfoWords d.dram).flatMap fun w => le32 w.toNat))

/-- Whether a table address lies outside its memory (R431). -/
def outsideMemory (d : Dev) (pan : Bool) (off len : Nat) : Bool :=
  if pan then decide (panBytes < off + len) else decide (dramCapacity d.dram < off + len)

def specSlotTable : OpSpec where
  len := 2
  fields := fun x => [fCode 24 1, ⟨32, 8, fun _ v =>
    if v % 64 ≠ 0 || outsideMemory x.d (x.c.u8 24 == 1) v 1024 then some .outOfRange else none⟩]
  copy := some fun x =>
    match readTable x.c.issuer (x.c.u8 24 == 1) (x.c.u64 32) 1024 64 32 x.d with
    | (d, .error e) => (d, .error e)
    | (d, .ok t) => if t.any fun b => decide (15 < b.toNat) || b == 14 then (d, .error (.badParam, 32)) else (d, .ok t)
  land := fun id ch d =>
    landingWaits id (updDram (fun m => { m with shadow := some ch.table, shadowTxns := m.shadowTxns ++ [id] }) d)

def specMemRemap : OpSpec where
  len := 1
  fields := fun x => [fCode 24 1, fIf 25 1 (fun v => if x.c.u8 24 = 0 then v == 0 else decide (3 < v)) .badParam]
  step10 := fun d c =>
    if c.u8 24 = 1 then none else
    (failIf (dramAbove d (capacityOver d.dram (c.u8 25))) .outOfRange 0).or <|
    (failIf (ringInDram d (b2n c.urgent) || ringInDram d 2) .notPermitted 0).or <|
    failIf d.dram.remapping.isSome .noResource 0
  start := fun t c d =>
    if c.u8 24 = 0 then startRemap t (c.u8 25) d
    else
      let d := updDram (fun m => { m with mapNext := c.u8 25 }) d
      finish t .ok 0 (le8 (workingMask d.dram) ++ [0, 0, 0] ++ le32 (memCapacity d.dram).toNat) d

def specMemPagePolicy : OpSpec where
  len := 1
  fields := fun _ => [fIf 24 1 (· == 0) .badParam, fIf 26 2 (· == 0) .badParam, fCode 28 2]
  land := fun _ ch d =>
    (bitsSet 8 (ch.cmd.u8 24)).foldl (fun d c => (bitsSet 16 (ch.cmd.u16 26)).foldl (fun d n =>
      [0, 1].foldl (fun d r => updBank (bankKey c r n) (fun b => { b with policy := ch.cmd.u8 28 }) d) d) d) d

def specMemRefresh : OpSpec where
  len := 1
  fields := fun _ => [fCode 24 1]
  land := fun _ ch => updDram fun m => { m with allBank := ch.cmd.u8 24 == 1 }

def specMemDisturb : OpSpec where
  len := 1
  fields := fun _ => [fRange 24 2 256 16384]
  land := fun _ ch => updDram fun m => { m with disturbNext := ch.cmd.u16 24 }

def specMemSelfRefresh : OpSpec where
  len := 1
  fields := fun _ => [fRange 24 4 0 10000]
  land := fun _ ch => updDram fun m => { m with srIdle := ch.cmd.u32 24 }

def specMemStatus : OpSpec where
  len := 1
  fields := fun _ => [fRange 24 1 0 2, fRange 26 2 0 0x109]
  read := fun _ d c => (d, .ok (fourWords (memUnit d (c.u8 24)) (c.u16 26)))

end Sys2Proof.Machine
end

