-- ==== Sys2Proof/Machine/PanRows.lean ====
section
/-! DEFINITION. Pan memory's events: host accesses through BAR2 and BAR4, same-word collisions and their retries, and the
background march test (chapters 15 and 16). -/

namespace Sys2Proof.Machine

def updPan (f : Pan → Pan) (d : Dev) : Dev := { d with pan := f d.pan }

/-! ## Ports and windows as the host sees them (R484, R487, R489) -/

/-- First instance behind port B (R484). -/
def portBFirst (d : Dev) : Nat := if d.power.cfg.split then 512 - d.power.cfg.portB else 512

/-- PCIe port of an issuer's function: 0 port A, 1 port B. -/
def portOfIssuer (d : Dev) : Issuer → Nat
  | .inst n => if portBFirst d ≤ n then 1 else 0
  | .manager => 0
  | .delegate => 1

/-- VF BAR2 size of a port in bytes (R489). -/
def bar2Bytes (d : Dev) (port : Nat) : Nat := nthD 1024 port d.bar2 * 1048576

/-- Whether host accesses of a port reach the device. -/
def hostReaches (d : Dev) (port : Nat) : Bool :=
  (d.power.boot == .running || (d.power.boot == .awaitPush && port == 0)) && domainOn d 0 && islandOn d 9 && !nthD false port d.power.perst &&
    (port == 0 || d.power.cfg.split)

/-- WINDOW_FAULT (R493): counted, and raised at most once per instance in any millisecond. -/
def windowFault (n : Nat) (pan ro write : Bool) (page : Nat) (d : Dev) : Dev :=
  let d := updInst n (fun x => { x with windowFaults := x.windowFaults + 1 }) d
  let x := instOf d n
  if x.faultEventAt.any fun t => decide (nowNs d < t + 1000000) then d else
  raise 0x0E01 n (le8 (b2n pan) ++ le8 (b2n ro) ++ le8 (b2n write) ++ [0] ++ le32 page ++ le32 x.windowFaults.toNat)
    [n, 512] false (updInst n (fun x => { x with faultEventAt := some (nowNs d) }) d)

/-- What a host read returns. -/
def hostAnswer (bytes : List Byte) (poisoned : Bool) (d : Dev) : Dev :=
  { d with out := { d.out with bytes := bytes, poisoned := poisoned } }

/-- A read of all bytes 0xFF; a dropped write. -/
def hostNothing (len : Nat) (write : Option (List Byte)) (poisoned : Bool) (d : Dev) : Dev :=
  match write with
  | some _ => d
  | none => hostAnswer (List.replicate len 0xFF) poisoned d

/-- Where a host access leads (R488, R493, and R555 while a push is awaited): a device address, no answer, or a window fault. -/
inductive HostTarget where
  | at_ (addr : Nat)
  | nothing
  | undecoded
  | faulted (ro : Bool)
  deriving DecidableEq, Repr

def hostTarget (d : Dev) (i : Issuer) (pan : Bool) (off : Nat) (write : Bool) : HostTarget :=
  if d.power.boot == .awaitPush then (if i == .manager && pan && off < 16777216 then .at_ off else .undecoded) else
  match i with
  | .delegate => .undecoded
  | .manager =>
    if pan then (if panBytes ≤ off then .undecoded else if securePage d (off / 4096) then .nothing else .at_ off)
    else if 2 ^ 36 ≤ off then .undecoded else if dramCapacity d.dram ≤ off then .nothing else .at_ off
  | .inst _ =>
    if (if pan then panBytes else bar2Bytes d (portOfIssuer d i)) ≤ off then .undecoded else
    match mapByte d i pan off with
    | .error _ => .faulted false
    | .ok (a, ro) => if ro && write then .faulted true else .at_ a

/-- Requester code of a port's BAR4 bridge. -/
def bridgeCode (port : Nat) : Nat := 0x80 + port

/-- PAN_COLLIDE (R466, R468): the write is discarded and counted, and the window's owner told at most once per bank in
any millisecond. -/
def panCollide (i : Issuer) (off addr : Nat) (d : Dev) : Dev :=
  let b := panBank addr
  let d := updPanBank b (fun x => { x with collide := x.collide + 1 }) d
  let d := updPan (fun p => { p with collideAll := p.collideAll + 1 }) d
  if d.pan.collideEvent.any fun e => e.1 == b && e.2.1 == i && decide (nowNs d < e.2.2 + 1000000) then d else
  let n := (tget PanBank.zero d.pan.banks b).collide
  raise 0x0103 (off / 8) (le16 b ++ le32 n.toNat) [pageKey i] false
    (updPan (fun p => { p with
      collideEvent := p.collideEvent.filter (fun e => !(e.1 == b && e.2.1 == i)) ++ [(b, i, nowNs d)] }) d)

/-- Completes a host access at a device address (R450, R462). -/
def hostComplete (port : Nat) (pan : Bool) (addr len : Nat) (write : Option (List Byte)) (d : Dev) : Dev :=
  if pan then
    match write with
    | some b => panWrite (bridgeCode port) addr b d
    | none =>
      let (d, bad) := panScan (bridgeCode port) addr len d
      if bad then hostNothing len none true d else hostAnswer (memRead d.panMem addr len) false d
  else if !dramOn d || (unitsOf addr len).any fun u => (dramFail d.dram u).isSome then hostNothing len write true d
  else match write with
    | some b => { d with dramMem := memWrite d.dramMem addr b }
    | none => hostAnswer (memRead d.dramMem addr len) false d

/-- A busy access waits in its bridge for a retry (R466, R467). -/
def holdRetry (port : Nat) (i : Issuer) (addr len : Nat) (write : Option (List Byte)) (d : Dev) : Dev :=
  updPan (fun p => { p with
    retries := p.retries ++ [{ requester := port, issuer := i, addr := addr, write := write, len := len }] }) d

/-- A busy read or write is counted (R467). -/
def countBusy (write : Bool) (addr : Nat) (d : Dev) : Dev :=
  updPan (fun p => { p with busyAll := p.busyAll + 1 })
    (updPanBank (panBank addr) (fun x => { x with
      busyRead := x.busyRead + BitVec.ofNat 32 (b2n !write), busyWrite := x.busyWrite + BitVec.ofNat 32 (b2n write) }) d)

/-- HOST_WINDOW_ACCESS (R465 to R468, R488, R493): one access, which never leaves its 4 KiB page. `meet` says what port F
does to the first word of the access in the same collision window, `rivals` which requesters wait at its bank (R470). -/
def execHostWindowAccess (i : Issuer) (pan : Bool) (off len : Nat) (write : Option (List Byte)) (meet : BankMeet)
    (s : State) : Host.Outcome State Fault Refusal :=
  onDev (fun _ d =>
    let port := portOfIssuer d i
    let room := 4096 - off % 4096
    let len := min len room
    let write := write.map (·.take room)
    let len := (write.map (·.length)).getD len
    if !hostReaches d port || len = 0 then d else
    match hostTarget d i pan off write.isSome with
    | .undecoded => d
    | .nothing => hostNothing len write false d
    | .faulted ro =>
      match i with
      | .inst n => hostNothing len write false (windowFault n pan ro write.isSome (off / (if pan then 4096 else 2097152)) d)
      | _ => d
    | .at_ a =>
      if !pan then hostComplete port pan a len write d else
      let d := meet.rivals.foldl (fun d r => portAsk (panBank a) r d) d
      if d.pan.retries.any (·.requester == port) then holdRetry port i a len write d
      else match meet.portF, write with
        | .fWrite, some b =>
          let n := min len (8 - a % 8)
          let d := panCollide i off a d
          if n = len then d else panWrite (bridgeCode port) (a + n) (b.drop n) d
        | .fWrite, none => holdRetry port i a len none (countBusy false a d)
        | .fRead, some b => holdRetry port i a len (some b) (countBusy true a d)
        | _, _ => hostComplete port pan a len write d) s

/-- PAN_BUSY_RETRY (R467): the collision window has closed; the held accesses of that bridge reach the bank in order. -/
def execPanBusyRetry (s : State) : Host.Outcome State Fault Refusal :=
  onDev (fun _ d =>
    match d.pan.retries with
    | [] => d
    | r :: _ =>
      let mine := d.pan.retries.filter (·.requester == r.requester)
      let d := updPan (fun p => { p with retries := p.retries.filter (·.requester != r.requester) }) d
      mine.foldl (fun d r => hostComplete r.requester true r.addr r.len r.write d) d) s

/-! ## Background march test (R478 to R481) -/

/-- Begins a pass of the test. -/
def beginPass (p : Pan) : Pan := { p with testPage := p.testFirst, pass := p.pass + 1, abandons := [], retry := [] }

/-- PAN_TEST_CONTROL (R478): secure firmware starts, paces or stops the test. Pages and spacing outside their ranges change
nothing. -/
def execPanTestControl (a : PanTest) (s : State) : Host.Outcome State Fault Refusal :=
  onDev (fun _ d =>
    if !secUp d then d else
    let spaced := fun n => decide (10000 ≤ n) && decide (n ≤ 1000000000)
    match a with
    | .start f l sp =>
      if f ≤ l && decide (l ≤ 8191) && spaced sp then
        updPan (fun p => beginPass { p with testRunning := true, testFirst := f, testLast := l, testSpacing := sp }) d
      else d
    | .pace sp => if spaced sp then updPan (fun p => { p with testSpacing := sp }) d else d
    | .stop => updPan (fun p => { p with testRunning := false }) d) s

/-- Borrows a page. -/
def borrowPage (n : Nat) (d : Dev) : Dev :=
  updPanBank (n % 64) (fun b => { b with borrowed := true }) (updPan (fun p => { p with borrowed := some n }) d)

/-- PAN_BORROW_START (R479, R480): the next page, after any abandoned one whose millisecond has passed. A pass that has
covered every page gives way to the next. -/
def execPanBorrowStart (s : State) : Host.Outcome State Fault Refusal :=
  onDev (fun _ d =>
    let p := d.pan
    if !p.testRunning || p.borrowed.isSome || !domainOn d 9 then d else
    match p.retry.find? fun e => decide (e.2 + 1000000 ≤ nowNs d) with
    | some e => borrowPage e.1 d
    | none =>
      if p.testPage ≤ p.testLast then borrowPage p.testPage (updPan (fun p => { p with testPage := p.testPage + 1 }) d)
      else if !p.retry.isEmpty then d
      else
        let d := updPan beginPass d
        borrowPage d.pan.testPage (updPan (fun p => { p with testPage := p.testPage + 1 }) d)) s

/-- PAN_BORROW_RELEASE (R479, R481): the page is restored and released; failing cells are reported. -/
def execPanBorrowRelease (fails : List MarchFail) (s : State) : Host.Outcome State Fault Refusal :=
  onDev (fun _ d =>
    match d.pan.borrowed with
    | none => d
    | some n =>
      let d := fails.foldl (fun d f =>
        raise 0x0F21 (n * 512 + f.word) (le16 (n % 64) ++ le8 f.bit ++ le8 f.element ++ le32 d.pan.pass.toNat) [] true d) d
      updPanBank (n % 64) (fun b => { b with borrowed := false })
        (updPan (fun p => { p with borrowed := none, retry := p.retry.filter (·.1 != n) }) d)) s

/-- PAN_BORROW_ABANDON (R480): an access has reached the borrowed page. -/
def execPanBorrowAbandon (s : State) : Host.Outcome State Fault Refusal := onDev (fun _ d => abandonBorrow d) s

/-! ## Registers (R482) -/

def panInfoWords (d : Dev) : List U32 :=
  [word32 [(1, b2n d.pan.testRunning), (1, 0), (14, d.sec.first), (2, 0), (14, d.sec.count)], d.pan.collideAll, d.pan.busyAll,
   d.pan.uncorrAll]

def panBankRecord (fuses : Fuses) (d : Dev) (b : Nat) : List U32 :=
  let x := tget PanBank.zero d.pan.banks b
  [word32 [(1, b2n x.borrowed), (3, tget 0 fuses.spares b), (28, 0)], x.corrected, x.uncorrectable, x.collide, x.busyRead,
   x.busyWrite, x.held, x.skipped]

end Sys2Proof.Machine
end

