-- ==== Sys2Proof/Machine/Checks.lean ====
section
/-! DEFINITION. Check values, check-value units, rake jobs and region monitors (chapter 10). -/

namespace Sys2Proof.Machine

/-! ## The check-value arithmetic (R312, R313) -/

/-- The low `w` bits of a number in reverse order. -/
def reflect (v : Nat) : Nat → Nat
  | 0 => 0
  | w + 1 => reflect (v / 2) w + v % 2 * 2 ^ w

/-- One byte through the register, bit 7 first. -/
def cvByte (c : CvCfg) (reg : Nat) (b : Byte) : Nat :=
  let v := if c.refin then reflect b.toNat 8 else b.toNat
  (List.range 8).foldl (fun r k =>
    let top := ((r / 2 ^ (c.width - 1)) % 2 != 0) != v.testBit (7 - k)
    let r := r * 2 % 2 ^ c.width
    if top then Nat.xor r c.poly.toNat else r) reg

/-- The register after a byte sequence. -/
def cvRun (c : CvCfg) (reg : Nat) (bytes : List Byte) : Nat := bytes.foldl (cvByte c) reg

/-- The check value of a register. -/
def cvEnd (c : CvCfg) (reg : Nat) : U64 :=
  BitVec.ofNat 64 (Nat.xor (if c.refout then reflect reg c.width else reg) c.xorout.toNat)

/-- cv_value of R313. -/
def cvValue (c : CvCfg) (bytes : List Byte) : U64 := cvEnd c (cvRun c c.init.toNat bytes)

/-- Fold block of a rake job (R314). -/
def rakeFold (start : U64) (sequence tag : U32) : List Byte := leBytes 8 start.toNat ++ leBytes 4 sequence.toNat ++ leBytes 4 tag.toNat

/-- Fold block of a monitor (R315). -/
def monFold (o depth : Nat) (frame : U32) (r : Rect) : List Byte :=
  le8 o ++ le8 depth ++ [0, 0] ++ le32 frame.toNat ++ le16 r.x ++ le16 r.y ++ le16 r.w ++ le16 r.h

/-! ## Units (R316 to R319) -/

def cvOf (d : Dev) (u : Nat) : CvUnit := nthD .zero u d.cv
def updCv (u : Nat) (f : CvUnit → CvUnit) (d : Dev) : Dev := { d with cv := modifyAt f u d.cv }

/-- Owner of a unit once every RELEASE that waits has landed (step 8). -/
def cvOwner (d : Dev) (u : Nat) : Option Owner :=
  let x := cvOf d u
  if x.releasing.isSome && !x.reclaimed then none else x.owner

/-- The configuration of a packet: width at `w`, flags at `fl` (bit 1 REFIN, bit 2 REFOUT), POLY, INIT and XOROUT from
`p`. -/
def cfgOf (c : Cmd) (w fl p : Nat) : CvCfg :=
  { width := c.u8 w, poly := BitVec.ofNat 64 (c.u64 p), init := BitVec.ofNat 64 (c.u64 (p + 8)),
    xorout := BitVec.ofNat 64 (c.u64 (p + 16)), refin := c.bit fl 1, refout := c.bit fl 2 }

/-- A configuration word whose bits above WIDTH − 1 are set fails with BAD_PARAM (R312). -/
def fPoly (off w : Nat) : Field :=
  ⟨off, 8, fun x v => if x.c.u8 w < 64 && 2 ^ (x.c.u8 w) ≤ v then some .badParam else none⟩

/-- A unit number 0–15, or 0xFF for a claim. -/
def fUnit (off : Nat) (any : Bool) : Field := fIf off 1 (fun v => decide (16 ≤ v) && !(any && v == 0xFF)) .outOfRange

/-- Step 8 for a unit or a monitor: a claim names a free object or the issuer's own (R337). -/
def claimOk (ow : Option Owner) (i : Issuer) (claim : Bool) : Bool :=
  match ow with
  | none => claim
  | some w => w == ownerOf i || (!claim && mayName w i)

/-- Landing of CV_CONFIG (R316, R318). -/
def landCvConfig (txn : Nat) (ow : Owner) (ch : Change) (d : Dev) : Dev :=
  let c := ch.cmd
  let u := if c.u8 24 = 0xFF then ch.obj else c.u8 24
  if c.bit 25 0 then
    if (cvOf d u).jobs.isEmpty then updCv u (fun x => { x with owner := none, cfg := .zero }) d
    else landingWaits txn (updCv u (fun x => { x with releasing := some txn, reclaimed := false }) d)
  else updCv u (fun x => { x with owner := some ow, cfg := cfgOf c 26 25 32, reclaimed := x.releasing.isSome }) d

def specCvConfig : OpSpec where
  len := 4
  fields := fun x =>
    if x.c.bit 25 0 then [fUnit 24 true, fBits 25 7, fAny 26 1, fAny 32 8, fAny 40 8, fAny 48 8]
    else [fUnit 24 true, fBits 25 7, fRange 26 1 1 64, fPoly 32 26, fPoly 40 26, fPoly 48 26]
  own := fun x =>
    let claim := !x.c.bit 25 0
    failIf (if x.c.u8 24 = 0xFF then !claim else !claimOk (cvOwner x.view (x.c.u8 24)) x.c.issuer claim) .notOwner 0
  creates := fun c => c.u8 24 == 0xFF && !c.bit 25 0
  alloc := fun d _ => (List.range 16).find? fun u => (cvOf d u).owner.isNone
  objs := fun _ ch => [(6, if ch.cmd.u8 24 = 0xFF then ch.obj else ch.cmd.u8 24)]
  stillOwned := fun d ch => ch.cmd.u8 24 == 0xFF || claimOk (cvOwner d (ch.cmd.u8 24)) ch.cmd.issuer (!ch.cmd.bit 25 0)
  land := fun t ch d => landCvConfig t (ownerOf ch.cmd.issuer) ch d
  results := fun _ ch => le8 (if ch.cmd.u8 24 = 0xFF then ch.obj else ch.cmd.u8 24)

/-- Code of an owner as the records give it: kind, instance, and whether the manager may see the object. -/
def ownerWords (ow : Option Owner) : Nat × Nat × Bool :=
  match ow with
  | none => (0, 0, false)
  | some .secure => (0, 0, false)
  | some w => (ownerKind w, ownerInst w, true)

def flagsZP (x : CvUnit) : Nat := b2n x.zeroLength + 2 * b2n x.part

/-- The unit record (R319); one of the secure world reads all zero to every other reader (R316). -/
def cvRecord (d : Dev) (secure : Bool) (u : Nat) : List U32 :=
  let x := cvOf d u
  if x.owner == some .secure && !secure then List.replicate 16 0 else
  let (k, n, claimed) := ownerWords x.owner
  let lo := fun (v : U64) => BitVec.ofNat 32 v.toNat
  let hi := fun (v : U64) => BitVec.ofNat 32 (v.toNat / 2 ^ 32)
  [word32 [(1, b2n claimed), (1, b2n !x.jobs.isEmpty), (2, k), (1, b2n x.cfg.refin), (1, b2n x.cfg.refout),
     (1, b2n x.zeroLength), (1, b2n x.part), (2, 0), (3, x.jobs.length), (3, 0), (7, x.cfg.width), (9, n)],
   0, lo x.cfg.poly, hi x.cfg.poly, lo x.cfg.init, hi x.cfg.init, lo x.cfg.xorout, hi x.cfg.xorout, lo x.result,
   x.latchHi, x.latchDoneLo, x.latchDoneHi, x.sequence, x.tag, x.count, 0]

/-- RESULT_LO_READ (R319): the low word is returned and the others are latched; `secure` says that the secure controller
reads. -/
def execResultLoRead (r : LatchRead) (s : State) : Host.Outcome State Fault Refusal :=
  onDev (fun _ d =>
    let unit := r.index
    let x := cvOf d unit
    if r.secure && !secUp d then d else
    let lo := nthD 0 8 (cvRecord d r.secure unit)
    let d := { d with out := { d.out with host := some (lo.setWidth 64) } }
    if x.owner == some .secure && !r.secure then d else
    updCv unit (fun x => { x with
      latchHi := BitVec.ofNat 32 (x.result.toNat / 2 ^ 32), latchDoneLo := BitVec.ofNat 32 x.done,
      latchDoneHi := BitVec.ofNat 32 (x.done / 2 ^ 32) }) d) s

/-! ## Rake jobs (R320 to R326) -/

/-- Bytes of an output's partition: whole pages (R250). -/
def partitionBytes (d : Dev) (o : Nat) : Nat :=
  let x := outOf d o
  if x.enabled then x.pages.length * 1048576 else 0

/-- Whether an issuer may rake an output's partition (R320). -/
def mayRakeStore (d : Dev) (i : Issuer) (o : Nat) : Bool :=
  match i with
  | .inst n => !(activeOf d o).empty && (viewportsOf d n o).any fun v => coveredBy (activeOf d o) [v]
  | .manager => true
  | .delegate => false

/-- A rake job joins its unit's jobs with the configuration copied when it was taken (R318, R324). A unit that the issuer
has lost by then takes no job (log 151). -/
def startRake (cfg : CvCfg) (t : Ticket) (c : Cmd) (d : Dev) : Dev :=
  let u := c.u8 24
  if !claimOk (cvOf d u).owner c.issuer false then finish t .notOwner 0 [] d else
  let start := BitVec.ofNat 64 (c.u64 32)
  let sequence := BitVec.ofNat 32 (c.u32 28)
  let tag := BitVec.ofNat 32 (c.u32 48)
  let j : RakeJob := { ticket := t, cfg := cfg, memory := c.u8 25, output := c.u8 26, sequence := sequence, start := start,
                       length := c.u64 40, tag := tag, pieces := 0, reg := cvRun cfg cfg.init.toNat (rakeFold start sequence tag) }
  leaveDeviceStill (updCv u (fun x => { x with jobs := x.jobs ++ [j] }) d)

def specRakeJob : OpSpec where
  len := 5
  fields := fun x => [fUnit 24 false, fCode 25 2, if x.c.u8 25 = 2 then fRange 26 1 0 7 else fAny 26 1, fAny 28 4,
    fAny 32 8, fRange 40 8 0 (2 ^ 48 - 1), fAny 48 4]
  own := fun x => failIf (!claimOk (cvOwner x.view (x.c.u8 24)) x.c.issuer false) .notOwner 0
  step10 := fun d c =>
    let a := c.u64 32
    let n := c.u64 40
    let o := c.u8 26
    (failIf (decide (4 ≤ (cvOf d (c.u8 24)).jobs.length)) .noResource 0).or <|
      if c.u8 25 = 2 then
        (failIf (!(outOf d o).enabled) .outOfRange 26).or
          (failIf (!mayRakeStore d c.issuer o || decide (partitionBytes d o < a + max 1 n)) .outOfRange 32)
      else failIf (decide (2 ^ 40 < a + n) || !locMapped d c.issuer (c.u8 25 == 1) false a (max 1 n)) .outOfRange 32
  start := fun t c d => startRake (cvOf d (c.u8 24)).cfg t c d

/-- The pieces of a job: offset and length of its bytes in each 64-byte block (R325). -/
def rakePieces (start len : Nat) : List (Nat × Nat) :=
  (unitsOf start len).map fun u => (u, min (start + len) ((u / 64 + 1) * 64) - u)

/-- The piece a job reads next; none once all are read. -/
def nextPiece (j : RakeJob) : Option (Nat × Nat) := (rakePieces j.start.toNat j.length)[j.pieces]?

/-- The units whose answers a piece waits for (R22): the rake engine, the check-value units, and the memory's own. -/
def rakeUnits (d : Dev) (j : RakeJob) (p : Nat × Nat) : List Nat :=
  [0x205, 0x206] ++
    if j.memory = 2 then [0x306 + j.output / 4]
    else match mapByte d j.ticket.issuer (j.memory == 1) p.1 with
      | .error _ => []
      | .ok (a, _) => if j.memory = 1 then [0x510 + panBank a] else [0x403, 0x410 + (decodeAddr d.dram a).channel]

/-- Reads one piece: its bytes, or the status and detail that end the job. A unit that is closed does not answer (R27,
R566). -/
def rakePiece (j : RakeJob) (p : Nat × Nat) (d : Dev) : Dev × Except (Status × Nat) (List Byte) :=
  match (rakeUnits d j p).find? (unitClosed d) with
  | some u => (d, .error (.stalled, u))
  | none =>
    if j.memory = 2 then
      if partitionBytes d j.output < p.1 + p.2 then (d, .error (.memFault, 0))
      else (d, .ok (storeRead d j.output (outOf d j.output).pages p.1 p.2))
    else match readLoc 0x85 j.ticket.issuer (j.memory == 1) p.1 p.2 d with
      | (d, .ok b) => (d, .ok b)
      | (d, .error .fault) => (d, .error (.memFault, 0))
      | (d, .error .fenced) => (d, .error (.memFenced, 0))

/-- Reads at most `n` more pieces of a job (R323): the job as it then stands, and the status and detail that end it early. -/
def rakeRun : Nat → RakeJob → Dev → Dev × RakeJob × Option (Status × Nat)
  | 0, j, d => (d, j, none)
  | n + 1, j, d =>
    match nextPiece j with
    | none => (d, j, none)
    | some p =>
      match rakePiece j p d with
      | (d, .error e) => (d, j, some e)
      | (d, .ok b) => rakeRun n { j with pieces := j.pieces + 1, reg := cvRun j.cfg j.reg b } d

/-- Bytes of the pieces a job has read. -/
def rakeDone (j : RakeJob) : Nat := (((rakePieces j.start.toNat j.length).take j.pieces).map (·.2)).foldl (· + ·) 0

def rakeResults (v : U64) (done : Nat) (zero part : Bool) : List Byte :=
  leBytes 8 v.toNat ++ leBytes 6 done ++ le8 (b2n zero + 2 * b2n part)

/-- A unit's job leaves it; a RELEASE that waited for the last one lands (R318). -/
def popJob (u : Nat) (d : Dev) : Dev :=
  let d := updCv u (fun x => { x with jobs := x.jobs.drop 1 }) d
  let x := cvOf d u
  match x.releasing with
  | some id =>
    if !x.jobs.isEmpty then d else
    landingDone id (updCv u (fun x =>
      if x.reclaimed then { x with releasing := none, reclaimed := false }
      else { x with owner := none, cfg := .zero, releasing := none }) d)
  | none => d

/-- The running job of a unit ends, whole or early with a status and a detail (R321, R324, R325). -/
def endRake (unit : Nat) (j : RakeJob) (why : Option (Status × Nat)) (d : Dev) : Dev :=
  let v := cvEnd j.cfg j.reg
  let done := rakeDone j
  let zero := decide (j.length = 0)
  let d := updCv unit (fun x => { x with
    result := v, done := done, zeroLength := zero, part := why.isSome, sequence := j.sequence, tag := j.tag,
    count := x.count + 1 }) d
  let e := why.getD (.ok, 0)
  popJob unit (finish j.ticket e.1 e.2 (rakeResults v done zero why.isSome) d)

/-- The running job of a unit reads at most `n` more pieces, and ends where a read fails or none is left to end it. -/
def runRake (n unit : Nat) (last : Bool) (d : Dev) : Dev :=
  match (cvOf d unit).jobs with
  | [] => d
  | j :: rest =>
    let (d, j, why) := rakeRun n j d
    if why.isSome || last then endRake unit j why d
    else updCv unit (fun x => { x with jobs := j :: rest }) d

/-- RAKE_JOB_END (R321 to R325): the running job of a unit reads `pieces` more pieces and ends, whole where they are all that
is left of it, early at a piece whose read fails. -/
def execRakeJobEnd (unit pieces : Nat) (s : State) : Host.Outcome State Fault Refusal :=
  onDev (fun _ d => match (cvOf d unit).jobs with
    | [] => d
    | j :: _ => runRake pieces unit (decide ((rakePieces j.start.toNat j.length).length ≤ j.pieces + pieces)) d) s

/-- With time the running job of every unit reads its next piece (R323; DESIGN CHOICE, log 152). -/
def tickRakes (d : Dev) : Dev := (List.range 16).foldl (fun d u => runRake 1 u false d) d

/-- A unit that stalls ends the running jobs that wait for it with STALLED (R27, R325). -/
def stallRakes (unit : Nat) (d : Dev) : Dev :=
  (List.range 16).foldl (fun d u => match (cvOf d u).jobs with
    | [] => d
    | j :: _ => match nextPiece j with
      | some p => if (rakeUnits d j p).contains unit then endRake u j (some (.stalled, unit)) d else d
      | none => d) d

def specCvRead : OpSpec where
  len := 1
  fields := fun _ => [fUnit 24 false]
  own := fun x => failIf (!claimOk (cvOwner x.view (x.c.u8 24)) x.c.issuer false) .notOwner 0
  read := fun _ d c =>
    let x := cvOf d (c.u8 24)
    (d, .ok (rakeResults x.result x.done x.zeroLength x.part ++ le8 x.jobs.length))

/-! ## Region monitors (R327 to R335) -/

def monKey (o m : Nat) : Nat := o * 16 + m
def monOf (d : Dev) (o m : Nat) : Monitor := tget .zero d.monitors (monKey o m)
def updMon (o m : Nat) (f : Monitor → Monitor) (d : Dev) : Dev :=
  { d with monitors := tput .zero d.monitors (monKey o m) (f (monOf d o m)) }

/-- Monitor a MONITOR_SET names: the number given, or the one assigned. -/
def monNamed (ch : Change) : Nat := if ch.cmd.u8 25 = 0xFF then ch.obj else ch.cmd.u8 25

def monRect (c : Cmd) : Rect := { x := c.u16 28, y := c.u16 30, w := c.u16 32, h := c.u16 34 }

/-- A monitor becomes free (R329, R330): its generation counts on, what was latched stays (R43), and the frame being scanned
keeps its configuration. -/
def freeMonitor (x : Monitor) : Monitor :=
  { Monitor.zero with gen := (x.gen + 1) % 256, latch := x.latch, live := x.live, reg := x.reg, linkDown := x.linkDown,
                      guardFault := x.guardFault, covered := x.covered }

/-- Landing of MONITOR_SET (R329, R330). A monitor that changes hands brings no results along. -/
def landMonitorSet (ow : Owner) (ch : Change) (d : Dev) : Dev :=
  let c := ch.cmd
  let o := c.u8 24
  let m := monNamed ch
  if c.bit 26 4 then updMon o m freeMonitor d
  else updMon o m (fun x => { x with
    history := if x.owner == some ow then x.history else [], owner := some ow, enable := c.bit 26 0, publish := c.bit 26 3,
    cfg := cfgOf c 27 26 36, rect := monRect c,
    gen := (x.gen + 1) % 256 }) d

def fMon (off : Nat) (any : Bool) : Field := fUnit off any

def specMonitorSet : OpSpec where
  len := 5
  fields := fun x =>
    if x.c.bit 26 4 then
      [fRange 24 1 0 7, fMon 25 true, fBits 26 31, fAny 27 1, fAny 28 8, fAny 36 8, fAny 44 8, fAny 52 8]
    else
      [fRange 24 1 0 7, fMon 25 true, fBits 26 31, fRange 27 1 1 64, fAny 28 2, fAny 30 2, fRange 32 2 1 7680,
       fRange 34 2 1 7680, fPoly 36 27, fPoly 44 27, fPoly 52 27]
  own := fun x =>
    let claim := !x.c.bit 26 4
    failIf (if x.c.u8 25 = 0xFF then !claim else !claimOk (monOf x.view (x.c.u8 24) (x.c.u8 25)).owner x.c.issuer claim)
      .notOwner 0
  creates := fun c => c.u8 25 == 0xFF && !c.bit 26 4
  alloc := fun d c => (List.range 16).find? fun m => (monOf d (c.u8 24) m).owner.isNone
  outs := fun _ ch => [ch.cmd.u8 24]
  objs := fun _ ch => [(5, monKey (ch.cmd.u8 24) (monNamed ch))]
  stillOwned := fun d ch => ch.cmd.u8 25 == 0xFF ||
    claimOk (monOf d (ch.cmd.u8 24) (ch.cmd.u8 25)).owner ch.cmd.issuer (!ch.cmd.bit 26 4)
  prep := fun _ _ r ch =>
    let c := ch.cmd
    if c.bit 26 4 then [] else
    let o := c.u8 24
    let inside := coveredBy (monRect c) [activeOf r o] && (match c.issuer with
      | .inst n => coveredBy (monRect c) (viewportsOf r n o)
      | .delegate => false
      | .manager => true)
    if inside then [] else [(3, .outOfRange)]
  land := fun _ ch d => landMonitorSet (ownerOf ch.cmd.issuer) ch d
  results := fun _ ch => le8 (monNamed ch)

/-- Flags word of a history entry. -/
def monFlags (r : MonResult) : U32 :=
  word32 [(1, b2n r.valid), (1, b2n r.covered), (1, b2n r.linkDown), (1, b2n r.stale), (1, b2n r.guardFault),
    (1, b2n r.held), (10, 0), (8, r.gen), (8, r.depth)]

/-- The monitor record: 32 words, a history entry's words 1 to 3 as latched. -/
def monRecord (d : Dev) (secure : Bool) (o m : Nat) : List U32 :=
  let x := monOf d o m
  if x.owner == some .secure && !secure then List.replicate 32 0 else
  let (k, n, claimed) := ownerWords x.owner
  let lo := fun (v : U64) => BitVec.ofNat 32 v.toNat
  let hi := fun (v : U64) => BitVec.ofNat 32 (v.toNat / 2 ^ 32)
  let c := x.cfg
  [word32 [(1, b2n claimed), (1, b2n x.enable), (1, b2n c.refin), (1, b2n c.refout), (1, b2n x.publish), (2, k), (2, 0),
     (7, c.width), (7, 0), (9, n)],
   word32 [(16, x.rect.y), (16, x.rect.x)], word32 [(16, x.rect.h), (16, x.rect.w)], word32 [(24, 0), (8, x.gen)],
   lo c.poly, hi c.poly, lo c.init, hi c.init, lo c.xorout, hi c.xorout] ++ List.replicate 6 0 ++
  (List.range 4).flatMap fun e =>
    let r := nthD .zero e x.history
    let l := nthD ((0 : U32), (0 : U32), (0 : U32)) e x.latch
    [lo r.value, l.1, l.2.1, l.2.2]

/-- VALUE_LO_READ (R43, monitor records): latches the entry's other words; `secure` says that the secure controller reads. -/
def execValueLoRead (o m : Nat) (e : LatchRead) (s : State) : Host.Outcome State Fault Refusal :=
  onDev (fun _ d =>
    let entry := e.index
    let x := monOf d o m
    if e.secure && !secUp d then d else
    let v := nthD 0 (16 + 4 * entry) (monRecord d e.secure o m)
    let d := { d with out := { d.out with host := some (v.setWidth 64) } }
    if (x.owner == some .secure && !e.secure) || 4 ≤ entry then d else
    let r := nthD .zero entry x.history
    let l := (BitVec.ofNat 32 (r.value.toNat / 2 ^ 32), r.frame, monFlags r)
    updMon o m (fun x => { x with
      latch := modifyAt (fun _ => l) entry (if x.latch.isEmpty then List.replicate 4 (0, 0, 0) else x.latch) }) d) s

def specMonitorRead : OpSpec where
  len := 1
  fields := fun _ => [fRange 24 1 0 7, fMon 25 false, fRange 26 1 0 4]
  own := fun x => failIf (!claimOk (monOf x.view (x.c.u8 24) (x.c.u8 25)).owner x.c.issuer false) .notOwner 0
  read := fun _ d c =>
    let x := monOf d (c.u8 24) (c.u8 25)
    let r := if c.u8 26 = 4 then x.capture else x.history[c.u8 26]?
    (d, .ok (match r with
      | none => []
      | some r => leBytes 8 r.value.toNat ++ le32 r.frame.toNat ++ le32 (monFlags r).toNat))

def specMonitorCapture : OpSpec where
  len := 1
  fields := fun _ => [fRange 24 1 0 7, fMon 25 false]
  own := fun x => failIf (!claimOk (monOf x.view (x.c.u8 24) (x.c.u8 25)).owner x.c.issuer false) .notOwner 0
  objs := fun _ ch => [(5, monKey (ch.cmd.u8 24) (ch.cmd.u8 25))]
  stillOwned := fun d ch => claimOk (monOf d (ch.cmd.u8 24) (ch.cmd.u8 25)).owner ch.cmd.issuer false
  land := fun _ ch d => updMon (ch.cmd.u8 24) (ch.cmd.u8 25) (fun x => { x with armed := true, taking := false }) d

/-- MONITOR_RESULT_COMPLETE (R327, R332 to R334): once the rectangle's last line has been scanned, the result enters the
history, and the capture slot when a capture was armed before its first line. A monitor that has changed hands keeps
none. -/
def execMonitorResultComplete (o m : Nat) (s : State) : Host.Outcome State Fault Refusal :=
  onDev (fun _ d =>
    let x := outOf d o
    let mon := monOf d o m
    match mon.live, x.scanMode with
    | some ⟨cfg, rect, gen, ow⟩, some md =>
      if !x.scanning || x.nextLine < rect.y + rect.h then d else
      let bands := maskOf (rangeFrom (rect.y / 8) ((rect.y + rect.h - 1) / 8 - rect.y / 8 + 1))
      let r : MonResult := {
        value := if mon.covered then 0 else cvEnd cfg mon.reg.toNat, frame := x.frame, valid := true, covered := mon.covered,
        linkDown := mon.linkDown, stale := x.scanStale &&& bands != 0, guardFault := mon.guardFault,
        held := x.held || d.sup.safeHold, gen := gen, depth := if md.bpc10 then 10 else 8 }
      if mon.owner != ow then updMon o m (fun y => { y with live := none, taking := false }) d else
      let d := updMon o m (fun y => { y with
        live := none, history := (r :: y.history).take 4,
        capture := if y.taking then some r else y.capture, armed := y.armed && !y.taking, taking := false }) d
      if !mon.taking then d else
      match mon.owner with
      | some ow => raiseOwner 0x0701 (o * 256 + m) (leBytes 8 r.value.toNat ++ le32 r.frame.toNat ++ le32 (monFlags r).toNat) ow d
      | none => d
    | _, _ => d) s

end Sys2Proof.Machine
end

