-- ==== Sys2Proof/Machine/Secure.lean ====
section
/-! DEFINITION. The secure world: the mailbox, family 0x10, the secure event queue, the canvas engine, the watchdog, the
lifecycle and the debug gate (chapter 17). -/

namespace Sys2Proof.Machine

def updSec (f : Secure → Secure) (d : Dev) : Dev := { d with sec := f d.sec }

/-- How the secure controller's request ended. -/
def secAnswer (st : Status) (d : Dev) : Dev := { d with out := { d.out with secure := some st } }

/-- Bytes at an offset of the secure partition. -/
def partRead (d : Dev) (off len : Nat) : List Byte := memRead d.panMem (secureBase d + off) len

/-- A write by a port's requester at an offset of the secure partition; what lies outside it is dropped (R518). -/
def partWrite (req off : Nat) (bytes : List Byte) (d : Dev) : Dev :=
  panWrite req (secureBase d + off) (bytes.take (d.sec.count * 4096 - off)) d

/-- Stores the secure controller made before a register write that publishes them. -/
def secStores (l : List (Nat × List Byte)) (d : Dev) : Dev := l.foldl (fun d e => partWrite 0x84 e.1 e.2 d) d

/-! ## The world mailbox (R519 to R521) -/

/-- One index word of the mailbox, modulo the ring's 256 messages. -/
def mailIndex (d : Dev) (off : Nat) : Nat := leNat (partRead d off 8) % 256

def n2sRoom (d : Dev) : Bool := (mailIndex d 0 + 1) % 256 != mailIndex d 0x40

/-- Issuer codes of mailbox messages. -/
def mailIssuer : Issuer → Nat
  | .inst n => n
  | .delegate => 0xFFFE
  | .manager => 0xFFFF
def issuerOfMail (c : Nat) : Option Issuer :=
  if c < 512 then some (.inst c) else if c = 0xFFFE then some .delegate else if c = 0xFFFF then some .manager else none

/-- An N2S message (R520). -/
def n2sMessage (kind mail iss op tag stamp : Nat) (body : List Byte) : List Byte :=
  le16 kind ++ [0, 0] ++ le32 mail ++ le16 iss ++ le16 op ++ le32 tag ++ le64 stamp ++ (body ++ List.replicate 40 0).take 40

/-- Writes a message into the N2S ring, then its tail, and raises WORLD_IN (R520). -/
def putN2S (m : List Byte) (d : Dev) : Dev :=
  let t := mailIndex d 0
  let d := partWrite 4 0 (le64 ((t + 1) % 256)) (partWrite 4 (0x1000 + t * 64) m d)
  updSec (fun s => { s with intStatus := s.intStatus ||| 2 }) d

/-- Sends a message, or holds it behind those already held while the ring is full (R521). -/
def sendN2S (m : List Byte) (d : Dev) : Dev :=
  if d.sec.heldMsgs.isEmpty && n2sRoom d then putN2S m d else updSec (fun s => { s with heldMsgs := s.heldMsgs ++ [m] }) d

/-- Sends held messages while the ring has room. -/
def flushN2S : Nat → Dev → Dev
  | 0, d => d
  | n + 1, d =>
    match d.sec.heldMsgs with
    | [] => d
    | m :: r => if n2sRoom d then flushN2S n (putN2S m (updSec (fun s => { s with heldMsgs := r }) d)) else d

/-- The next mailbox ticket (R521); 0, which an S2N NOTICE carries, is left out (DESIGN CHOICE, log 25). -/
def takeMail (d : Dev) : Nat × Dev :=
  (d.sec.nextMail.toNat,
    updSec (fun s => { s with nextMail := if s.nextMail + 1 = 0 then 1 else s.nextMail + 1 }) d)

/-- CANCEL of a request (R524): cause 0 answer limit, 1 quiesce. -/
def sendCancel (w : SecWait) (cause : Nat) (d : Dev) : Dev :=
  sendN2S (n2sMessage 2 w.mail.toNat (mailIssuer w.ticket.issuer) (opCode w.op) w.ticket.tag.toNat (nowNs d) (le8 cause)) d

/-- RELEASE_REQUEST for a held target (R530). -/
def sendRelease (island : Bool) (idx : Nat) (d : Dev) : Dev :=
  let (m, d) := takeMail d
  sendN2S (n2sMessage 3 m 0xFFFF 0 0 (nowNs d) (le8 (b2n island) ++ le8 idx)) d

/-- INSTANCE_GONE (R524). -/
def sendGone (n : Nat) (d : Dev) : Dev :=
  let (m, d) := takeMail d
  sendN2S (n2sMessage 4 m n 0 0 (nowNs d) []) d

/-! ## Family 0x10 (R522 to R524) -/

/-- A family 0x10 command becomes a REQUEST (R523). -/
def secRequest (op : Op) (t : Ticket) (c : Cmd) (d : Dev) : Dev :=
  let (m, d) := takeMail d
  let d := updSec (fun s => { s with waits := s.waits ++ [{ mail := BitVec.ofNat 32 m, ticket := t, op := op }] }) d
  sendN2S (n2sMessage 1 m (mailIssuer c.issuer) (opCode op) c.pkt.tag.toNat (nowNs d)
    (leBytes 40 c.pkt.params.toNat)) d

/-- Whether a request can be sent now: SEC_RUNNING, then room in the ring (R523). -/
def secReady (d : Dev) : Chk :=
  (failIf (!d.sec.running) .notPermitted 1).or (failIf (!(n2sRoom d && d.sec.heldMsgs.isEmpty)) .noResource 0)

/-- Whether an issuer has been granted a viewport on an output: only an instance can (R486, R496, R523). -/
def grantedViewport (d : Dev) (i : Issuer) (o : Nat) : Bool := i != .manager && holdsViewport d i o

def specPromptOpen : OpSpec where
  len := 5
  fields := fun _ => [fRange 24 1 0 7, fAny 25 1, fAny 26 2, fAny 28 36]
  step10 := fun d c => (failIf (!grantedViewport d c.issuer (c.u8 24)) .notOwner 0).or (secReady d)
  start := secRequest .securePromptOpen

def specPromptClose : OpSpec where
  len := 1
  fields := fun _ => [fAny 24 4]
  step10 := fun d _ => secReady d
  start := secRequest .securePromptClose

def specWatchRequest : OpSpec where
  len := 2
  fields := fun _ => [fRange 24 2 0 127, fAny 28 12]
  step10 := fun d c =>
    (failIf ((layerOf d (c.u16 24)).map (·.owner) != some (ownerOf c.issuer)) .notOwner 0).or (secReady d)
  start := secRequest .watchRequest

def specWatchRelease : OpSpec where
  len := 1
  fields := fun _ => [fAny 24 4]
  step10 := fun d _ => secReady d
  start := secRequest .watchRelease

def specSecureMessage : OpSpec where
  len := 5
  fields := fun _ => [fAny 24 40]
  step10 := fun d _ => secReady d
  start := secRequest .secureMessage

/-- Result bytes that each opcode's reply lays out (R522). -/
def secResultBytes : Op → Nat
  | .securePromptOpen => 4
  | .watchRequest => 8
  | .secureMessage => 16
  | _ => 0

/-- The status an ANSWER gives the issuer (R523). -/
def answerStatus (code : Nat) : Status :=
  (([.ok, .badParam, .outOfRange, .notPermitted, .noResource, .classViolation] : List Status).find?
    fun s => statusCode s == code).getD .internal

/-- Takes one S2N message (R520, R521). -/
def takeS2N (m : List Byte) (d : Dev) : Dev :=
  let f := fun off n => leNat ((m.drop off).take n)
  if f 0 2 = 0x81 then
    match d.sec.waits.find? fun w => w.mail.toNat == f 4 4 with
    | none => updSec (fun s => { s with late := min 65535 (s.late + 1) }) d
    | some w =>
      let d := updSec (fun s => { s with waits := s.waits.filter fun x => x.mail != w.mail }) d
      let st := answerStatus (f 10 2)
      let d := if st == .internal then logFault 0x701 2 0 d else d
      finish w.ticket st (f 12 2) (if st == .ok then ((m.drop 16).take 16).take (secResultBytes w.op) else []) d
  else if f 0 2 = 0x82 then
    let code := f 10 2
    let who := issuerOfMail (f 8 2)
    let ok := match who with
      | some (.inst n) => (instOf d n).exists_
      | some _ => true
      | none => false
    if ok && decide (0x1001 ≤ code) && decide (code ≤ 0x1003) then
      raise code (f 12 4) ((m.drop 16).take 16) ((who.map pageKey).toList) false d
    else updSec (fun s => { s with bad := min 65535 (s.bad + 1) }) d
  else d

/-- Takes waiting S2N messages, oldest first, advancing S2N_HEAD. -/
def takeAllS2N : Nat → Dev → Dev
  | 0, d => d
  | n + 1, d =>
    let h := mailIndex d 0xC0
    if h = mailIndex d 0x80 then d
    else takeAllS2N n (partWrite 4 0xC0 (le64 ((h + 1) % 256)) (takeS2N (partRead d (0x5000 + h * 64) 64) d))

/-- S2N_DOORBELL_WRITE (R520): `stores` are the firmware's stores to its partition that the doorbell publishes. -/
def execS2nDoorbellWrite (_value : U32) (stores : List (Nat × List Byte)) (s : State) : Host.Outcome State Fault Refusal :=
  onDev (fun _ d => if !secUp d then d else takeAllS2N 256 (secStores stores d)) s

/-- N2S_HEAD_WRITE (R519, R521): room appears, and held messages follow. -/
def execN2sHeadWrite (value : U64) (s : State) : Host.Outcome State Fault Refusal :=
  onDev (fun _ d =>
    if !secUp d then d else
    let d := partWrite 0x84 0x40 (le64 value.toNat) d
    flushN2S d.sec.heldMsgs.length d) s

/-- SECURE_ANSWER_TIMEOUT (R524). -/
def execSecureAnswerTimeout (mail : U32) (s : State) : Host.Outcome State Fault Refusal :=
  onDev (fun _ d =>
    match d.sec.waits.find? (·.mail == mail) with
    | none => d
    | some w =>
      let d := updSec (fun s => { s with waits := s.waits.filter fun x => x.mail != w.mail }) d
      sendCancel w 0 (finish w.ticket .timeout 0 [] d)) s

/-- The requests of a quiesced instance are answered with QUIESCED and withdrawn (R505, R524). -/
def quiesceSecure (n : Nat) (d : Dev) : Dev :=
  let mine := d.sec.waits.filter fun w => w.ticket.issuer == .inst n
  let d := updSec (fun s => { s with waits := s.waits.filter fun w => w.ticket.issuer != .inst n }) d
  mine.foldl (fun d w => sendCancel w 1 (finish w.ticket .quiesced 0 [] d)) d

/-! ## The partition and the secure event queue (R518, R526, R537) -/

/-- Whether a pan page is FREE (R490): in no window, and not reserved. -/
def panPageFree (d : Dev) (p : Nat) : Bool :=
  !d.reserved.contains (true, p) && d.insts.all fun e => e.2.pan.all fun w => (w.2.map (·.1)) != some p

/-- SEC_PARTITION_WRITE (R518): the new run contains the old one and adds FREE pages, or PART_REFUSED is set. -/
def execSecPartitionWrite (value : U32) (s : State) : Host.Outcome State Fault Refusal :=
  onDev (fun _ d =>
    if !secUp d then d else
    let v := value.toNat
    let d := if v.testBit 31 then updSec (fun s => { s with partRefused := false }) d else d
    let first := bitsOf v 28 16
    let count := bitsOf v 13 0
    let ok := decide (16 ≤ count) && decide (first + count ≤ 8192) && decide (first ≤ d.sec.first) &&
      decide (d.sec.first + d.sec.count ≤ first + count) &&
      (rangeFrom first count).all fun p => securePage d p || panPageFree d p
    updSec (fun s => if ok then { s with first := first, count := count } else { s with partRefused := true }) d) s

/-- SEQ_DEPTH_WRITE (R537). -/
def execSeqDepthWrite (value : U32) (s : State) : Host.Outcome State Fault Refusal :=
  onDev (fun _ d =>
    if !secUp d then d else
    let n := value.toNat % 8192
    updSec (fun s => { s with
      seqDepth := if 16 ≤ n ∧ n ≤ 4096 then n else 0, seqBaseLive := s.seqBase, seqTail := 0, seqHead := 0 }) d) s

/-- SEQ_HEAD_WRITE (R537): an advance beyond the entries written is ignored. -/
def execSeqHeadWrite (value : U32) (s : State) : Host.Outcome State Fault Refusal :=
  onDev (fun _ d =>
    let q := d.sec
    let h := value.toNat % 4096
    if !secUp d || q.seqDepth ≤ h ||
        decide ((q.seqTail + q.seqDepth - q.seqHead) % q.seqDepth < (h + q.seqDepth - q.seqHead) % q.seqDepth) then d
    else updSec (fun s => { s with seqHead := h }) d) s

/-! ## The canvas engine (R527) -/

/-- One canvas command's fields. -/
structure Canvas where
  op : Nat
  flags : Nat
  rsvd : Nat
  base : Nat
  pitch : Nat
  x : Nat
  y : Nat
  w : Nat
  h : Nat
  glyphs : Nat
  raw : List Byte
  deriving DecidableEq, Repr

def Canvas.of (b : List Byte) : Canvas :=
  let f := fun off n => leNat ((b.drop off).take n)
  { op := f 0 1, flags := f 1 1, rsvd := f 2 2, base := f 4 4, pitch := f 8 2, x := f 10 2, y := f 12 2, w := f 14 2, h := f 16 2,
    glyphs := f 14 4, raw := b }

def Canvas.f (c : Canvas) (off n : Nat) : Nat := leNat ((c.raw.drop off).take n)
/-- Bytes of a target pixel. -/
def Canvas.bpp (c : Canvas) : Nat := if c.flags.testBit 0 then 1 else 4
def Canvas.blend (c : Canvas) : Bool := c.flags.testBit 1 && !c.flags.testBit 0

/-- Whether the command is one of the table's. -/
def Canvas.defined (c : Canvas) : Bool :=
  let head := decide (c.flags < 4) && c.rsvd == 0
  let pitch := decide (64 ≤ c.pitch) && decide (c.pitch ≤ 8192)
  let size := decide (1 ≤ c.w) && decide (c.w ≤ 4096) && decide (1 ≤ c.h) && decide (c.h ≤ 4096)
  match c.op with
  | 1 => head && pitch && size
  | 2 => head && pitch && size
  | 3 => head && pitch && decide (1 ≤ c.f 18 2) && decide (c.f 18 2 ≤ 256) && decide (1 ≤ c.f 28 1) && decide (1 ≤ c.f 29 1)
  | 4 => head
  | 5 => head && decide (c.f 20 1 ≤ 7)
  | _ => false

/-- Rows of a rectangle of a surface, as (partition offset, bytes). -/
def surfaceRows (base pitch bpp x y w h : Nat) : List (Nat × Nat) :=
  (List.range h).map fun r => (base + (y + r) * pitch + x * bpp, w * bpp)

/-- The glyph numbers of a GLYPHS command. -/
def Canvas.glyphList (d : Dev) (c : Canvas) : List Nat :=
  (List.range (c.f 18 2)).map fun k => leNat (partRead d (c.glyphs + 2 * k) 2)

/-- Byte ranges a command reads and writes, by partition offset. -/
def Canvas.ranges (d : Dev) (c : Canvas) : List (Nat × Nat) :=
  match c.op with
  | 1 => surfaceRows c.base c.pitch c.bpp c.x c.y c.w c.h
  | 2 => surfaceRows c.base c.pitch c.bpp c.x c.y c.w c.h ++
      surfaceRows (c.f 20 4) (c.f 24 2) c.bpp (c.f 26 2) (c.f 28 2) c.w c.h
  | 3 =>
    let cw := c.f 28 1
    let ch := c.f 29 1
    surfaceRows c.base c.pitch c.bpp c.x c.y (c.f 18 2 * cw) ch ++ [(c.glyphs, 2 * c.f 18 2)] ++
      (if c.glyphs + 2 * c.f 18 2 ≤ d.sec.count * 4096 then
        (c.glyphList d).map fun g => (c.f 24 4 + g * cw * ch, cw * ch) else [])
  | _ => []

/-- A colour composited over an ARGB8888 pixel with an alpha (R257). The target's own alpha afterwards, which the spec does
not give, is a free value unless the colour is transparent or opaque. -/
def blendOver (free : Byte) (colour a : Nat) (old : List Byte) : List Byte :=
  if a = 0 then old
  else if a = 255 then leBytes 4 (colour % 2 ^ 24 + 255 * 2 ^ 24)
  else ((List.range 3).map fun k =>
      let v := bitsOf colour (8 * k + 7) (8 * k)
      BitVec.ofNat 8 ((v * a + ((old[k]?).getD 0).toNat * (255 - a) + 127) / 255)) ++ [free]

/-- Whether a byte at an offset is one the command writes. -/
def Canvas.writes (c : Canvas) (off : Nat) : Bool :=
  (surfaceRows c.base c.pitch c.bpp c.x c.y c.w c.h).any fun r => decide (r.1 ≤ off) && decide (off < r.1 + r.2)

/-- The bytes of one pixel of a drawing command: its column and row in the drawing, and what the target holds. A source
pixel that the same BLIT writes elsewhere gives free bytes: the spec gives no order of the copy. `draw` numbers the
pixel's own free values, of which one rounds the alpha that a glyph's coverage scales, down or up. -/
def Canvas.pixel (d : Dev) (c : Canvas) (glyphs : List Nat) (draw i j : Nat) (old : List Byte) : List Byte :=
  let free := Config.freeByte draw
  match c.op with
  | 1 => leBytes c.bpp (c.f 20 4)
  | 2 =>
    let src := c.f 20 4 + (c.f 28 2 + j) * c.f 24 2 + (c.f 26 2 + i) * c.bpp
    let dst := c.base + (c.y + j) * c.pitch + (c.x + i) * c.bpp
    if src ≠ dst ∧ c.writes src = true then (List.range c.bpp).map (fun k => Config.freeByte (draw + k)) else
    let p := partRead d src c.bpp
    if c.blend then blendOver free (leNat p) (leNat p / 2 ^ 24) old else p
  | _ =>
    let cw := c.f 28 1
    let cell := c.f 24 4 + nthD 0 (i / cw) glyphs * cw * c.f 29 1
    let cov := leNat (partRead d (cell + j * cw + i % cw) 1)
    let colour := c.f 20 4
    if c.blend then blendOver free colour ((colour / 2 ^ 24 * cov + 254 * (Config.freeNat (draw + 1) % 2)) / 255) old
    else if 128 ≤ cov then leBytes c.bpp colour else old

/-- Draws: every row of the target is formed from what stood before the command, then written through F3. -/
def Canvas.draw (c : Canvas) (d : Dev) : Dev :=
  let glyphs := if c.op = 3 then c.glyphList d else []
  let w := if c.op = 3 then c.f 18 2 * c.f 28 1 else c.w
  let h := if c.op = 3 then c.f 29 1 else c.h
  let rows := (List.range h).map fun j =>
    let at_ := c.base + (c.y + j) * c.pitch + c.x * c.bpp
    (at_, (List.range w).flatMap fun i => c.pixel d glyphs (d.free + 4 * (j * w + i)) i j (partRead d (at_ + i * c.bpp) c.bpp))
  rows.foldl (fun d r => partWrite 3 r.1 r.2 d) { d with free := d.free + 4 * w * h }

/-- Runs one command: the device, or the kind of error it stops with. -/
def Canvas.run (c : Canvas) (d : Dev) : Except Nat Dev :=
  if !c.defined then .error 2
  else if (c.ranges d).any fun r => decide (d.sec.count * 4096 < r.1 + r.2) then .error 1
  else match c.op with
    | 4 => .ok (raise 0x1010 (c.f 20 4) [] [] true d)
    | 5 => .ok (updOut (c.f 20 1) (fun x => { x with guardPending := true }) d)
    | _ => .ok (c.draw d)

/-- Runs a list from a command on. -/
def canvasList (n : Nat) : Nat → Dev → Dev
  | 0, d => updSec (fun s => { s with cvIndex := n - 1 }) d
  | k + 1, d =>
    let i := n - (k + 1)
    let off := d.sec.cvList.toNat + 32 * i
    let stop := fun kind (d : Dev) => updSec (fun s => { s with cvError := true, cvErrorKind := kind, cvIndex := i }) d
    if d.sec.count * 4096 < off + 32 then stop 1 d else
    match (Canvas.of (partRead d off 32)).run d with
    | .ok d => canvasList n k d
    | .error kind => stop kind d

/-- CV_COUNT_WRITE (R527): starts the list held in CV_LIST. `stores` are the firmware's stores that it publishes. -/
def execCvCountWrite (value : U32) (stores : List (Nat × List Byte)) (s : State) : Host.Outcome State Fault Refusal :=
  onDev (fun _ d =>
    if !secUp d then d else
    let d := secStores stores d
    let n := value.toNat % 8192
    if d.sec.cvBusy || n = 0 || 4096 < n then d
    else updSec (fun s => { s with cvBusy := true, cvCount := n, cvError := false, cvErrorKind := 0 }) d) s

/-- CANVAS_LIST_END (R527): the list has run, to its end or to its first error. -/
def execCanvasListEnd (s : State) : Host.Outcome State Fault Refusal :=
  onDev (fun _ d =>
    if !d.sec.cvBusy || !domainOn d 2 then d else
    updSec (fun s => { s with cvBusy := false, cvLists := s.cvLists + 1, intStatus := s.intStatus ||| 1 })
      (canvasList d.sec.cvCount d.sec.cvCount d)) s

/-! ## The watchdog (R532) -/

/-- PERIOD as stored: clamped. -/
def wdClamp (n : Nat) : Nat := max 10 (min 60000 n)

/-- Restarts the count with the period in force. -/
def wdRestart (s : Secure) (now : Nat) : Secure :=
  { s with wdRun := true, wdForce := s.wdPeriod, wdLeft := now + s.wdPeriod * 1000000 }

/-- WD_RUN_WRITE (R532): takes PERIOD; RUN starts the count. -/
def execWdRunWrite (value : U32) (s : State) : Host.Outcome State Fault Refusal :=
  onDev (fun _ d =>
    if !secUp d then d else
    let v := value.toNat
    let d := updSec (fun s => { s with wdPeriod := wdClamp (v % 65536) }) d
    if v.testBit 31 && !d.sec.wdRun then updSec (fun s => wdRestart s (nowNs d)) d else d) s

/-- WD_KICK (R532): the key that WD_STATUS shows restarts the count, and a new key is drawn. -/
def execWdKick (key : Byte) (s : State) : Host.Outcome State Fault Refusal :=
  onDev (fun _ d =>
    if !secUp d || !d.sec.wdRun || key != d.sec.wdKey then d else
    let d := updSec (fun s => { wdRestart s (nowNs d) with wdKey := Config.freeByte d.free }) d
    { d with free := d.free + 1, sup := { d.sup with hbSecure := d.sup.hbSecure + 1 } }) s

/-! ## Lifecycle, fuses and the debug gate (R534, R535, R556) -/

/-- The lifecycle state the fuses hold (R534). -/
def lifecycleOf (f : Fuses) : Nat := if f.returned then 3 else if f.fieldSet then 2 else if f.ownerKey.isSome then 1 else 0

/-- WINDOW_BOUND (R534, R585). -/
def windowBound (d : Dev) : Bool := d.lifecycle == 1 || d.lifecycle == 2

/-- What R534's table says of the key store (unit 0x06 of the Security hall). -/
inductive KeyStore where
  | empty
  | inUse
  | erased
  deriving DecidableEq, Repr

/-- The key store in the lifecycle state in force (R534): it holds keys in PROVISIONED and FIELD alone, and entering
RETURN erases it. DESIGN CHOICE (log 106, unsafe): no command reads the keys, so their bytes are not held. -/
def keyStore (d : Dev) : KeyStore :=
  if d.lifecycle == 0 then .empty else if windowBound d then .inUse else .erased

/-- LIFECYCLE_ADVANCE (R534): forward only, in force from the next power-on reset. -/
def execLifecycleAdvance (a : LifeStep) (s : State) : Host.Outcome State Fault Refusal :=
  onDevFuses (fun f d =>
    if !secUp d then (d, f) else
    match a, lifecycleOf f with
    | .ownerKey h, 0 => if h.length = 48 then (d, { f with ownerKey := some h }) else (d, f)
    | .field, 1 => (d, { f with fieldSet := true })
    | _, _ => (d, f)) s

/-- ANTI_ROLLBACK_ADVANCE (R556): one more version fuse, of 64. -/
def execAntiRollbackAdvance (s : State) : Host.Outcome State Fault Refusal :=
  onDevFuses (fun f d => (d, if secUp d && decide (f.rollback < 64) then { f with rollback := f.rollback + 1 } else f)) s

/-- Whether the gate answers at all: not blocked by a failure, and under 8 failures since power-on (R535). -/
def gateOpen (d : Dev) : Bool :=
  d.power.boot != .dark && decide (d.power.gateFails < 8) && decide (d.sec.gateBlock ≤ nowNs d)

/-- A gate failure (R535). -/
def gateFail (d : Dev) : Dev :=
  { updSec (fun s => { s with gateBlock := nowNs d + 1000000000 }) d with
    power := { d.power with gateFails := d.power.gateFails + 1 } }

/-- GATE_CHALLENGE (R535): 48 random bytes, free values, and the device ID. -/
def execGateChallenge (s : State) : Host.Outcome State Fault Refusal :=
  onDev (fun f d =>
    if !gateOpen d then d else
    let c := (rangeFrom d.free 48).map Config.freeByte
    let d := updSec (fun s => { s with challenge := some (c, nowNs d) }) d
    { d with free := d.free + 48, out := { d.out with gate := c ++ (f.deviceId ++ List.replicate 16 0).take 16 } }) s

/-- Whether a response's signature holds: over SHA-384 of challenge, device ID and scope, against the owner key (R535). -/
def gateVerifies (f : Fuses) (challenge : List Byte) (scope : U32) (sig : List Byte) : Bool :=
  match f.ownerKey with
  | none => false
  | some k => Config.ecdsaVerify k
      (Config.sha384 (challenge ++ (f.deviceId ++ List.replicate 16 0).take 16 ++ leBytes 4 scope.toNat)) sig

/-- GATE_RESPONSE (R535): one response per challenge, within 60 s; a good one opens its scope until the next reset. -/
def execGateResponse (scope : U32) (r sig : List Byte) (s : State) : Host.Outcome State Fault Refusal :=
  onDevFuses (fun f d =>
    if !gateOpen d then (d, f) else
    match d.sec.challenge with
    | none => (gateFail d, f)
    | some (c, at_) =>
      let d := updSec (fun s => { s with challenge := none }) d
      if nowNs d ≤ at_ + 60000000000 ∧ gateVerifies f c scope (r ++ sig) = true then
        (updSec (fun s => { s with
            debugNormal := s.debugNormal || scope.getLsbD 0, debugSecure := s.debugSecure || scope.getLsbD 1,
            scanOpen := s.scanOpen || scope.getLsbD 2 }) d,
         if scope.getLsbD 3 then { f with returned := true } else f)
      else (gateFail d, f)) s

/-- GATE_PASSWORD (R535): opens normal debug. -/
def execGatePassword (password : List Byte) (s : State) : Host.Outcome State Fault Refusal :=
  onDev (fun f d =>
    if !gateOpen d then d
    else if 8 ≤ password.length ∧ password.length ≤ 64 ∧
        Config.sha384 ((f.salt ++ List.replicate 16 0).take 16 ++ password) = f.passHash then
      updSec (fun s => { s with debugNormal := true }) d
    else gateFail d) s

/-! ## Check-value units (R316) -/

/-- Whether a PREPARED or ARMED transaction has reserved a unit (R126): the secure world claims none of those. -/
def cvReserved (d : Dev) (u : Nat) : Bool :=
  d.txns.any fun t => (t.state == .prepared || t.state == .armed) &&
    t.resolved.any fun ch => ch.act == .cmd .cvConfig && !ch.cmd.bit 25 0 && (if ch.cmd.u8 24 = 0xFF then ch.obj else ch.cmd.u8 24) == u

/-- SECURE_CV_CONFIG (R316): the secure world claims, configures or releases a unit. -/
def execSecureCvConfig (params : BitVec 320) (s : State) : Host.Outcome State Fault Refusal :=
  onDev (fun _ d =>
    if !secUp d then d else
    let c := secCmd params
    let x : Ctx := { d := d, view := d, c := c, txn := none }
    match fieldsCheck x (specCvConfig.fields x) 56 320 24 with
    | some (st, _) => secAnswer st d
    | none =>
      let claim := !c.bit 25 0
      let u := if c.u8 24 = 0xFF then
          (if claim then (List.range 16).find? fun u => (cvOf d u).owner.isNone && !cvReserved d u else none)
        else some (c.u8 24)
      match u with
      | none => secAnswer (if claim then .noResource else .notOwner) d
      | some u =>
        let ow := (cvOf d u).owner
        if claim && cvReserved d u then secAnswer .noResource d
        else if ow == some .secure || (ow.isNone && claim) then
          secAnswer .ok (landCvConfig 0 .secure { act := .cmd .cvConfig, cmd := c, table := [], obj := u, outs := [] } d)
        else secAnswer .notOwner d) s

/-! ## Registers (R536, R537) -/

def worldInfo (d : Dev) : U32 :=
  word32 [(2, d.lifecycle), (1, b2n d.sec.running), (1, b2n d.sec.debugNormal), (1, b2n d.sec.debugSecure),
    (1, b2n d.sec.scanOpen), (1, b2n (windowBound d)), (12, d.sec.holdDomains.toNat), (13, d.sec.holdIslands.toNat)]
def wdRecord (d : Dev) : U32 :=
  word32 [(1, b2n d.power.wdExpired), (1, b2n d.power.wdSrDone), (8, d.power.wdSrMask), (6, 0), (16, d.power.wdCount)]

/-- Unit 0x00 of the Security hall. -/
def worldWords (d : Dev) : List U32 :=
  [worldInfo d, wdRecord d, d.power.wdLast, word32 [(16, d.sec.late), (16, d.sec.bad)]]

/-- Unit 0x01, as the secure controller reads it. -/
def worldControl (d : Dev) : List U32 :=
  let s := d.sec
  [word32 [(1, b2n s.partRefused), (2, 0), (13, s.first), (2, 0), (14, s.count)], 0, s.intStatus.setWidth 32,
   s.intEnable.setWidth 32, s.seqBase, BitVec.ofNat 32 s.seqDepth, BitVec.ofNat 32 s.seqTail, BitVec.ofNat 32 s.seqHead,
   s.seqLost, BitVec.ofNat 32 (b2n s.forceFault)]

/-- Unit 0x02: holds and locks. -/
def holdWords (d : Dev) : List U32 :=
  let pend := fun (f : Queued → Nat) => BitVec.ofNat 32 (d.sec.queued.foldl (fun m q => m ||| f q) 0)
  [d.sec.holdDomains.setWidth 32, d.sec.holdIslands.setWidth 32, pend (·.domains), pend (·.islands),
   d.sec.lutLock.setWidth 32]

/-- Unit 0x03: the watchdog. -/
def wdWords (d : Dev) : List U32 :=
  let s := d.sec
  let left := if s.wdRun then (s.wdLeft - nowNs d) / 1000000 else 0
  [word32 [(1, b2n s.wdRun), (15, 0), (16, s.wdPeriod)], 0, word32 [(16, left), (8, 0), (8, s.wdKey.toNat)], wdRecord d,
   d.power.wdLast]

/-- Unit 0x04: the canvas engine. -/
def canvasWords (d : Dev) : List U32 :=
  let s := d.sec
  [s.cvList, 0, word32 [(1, b2n s.cvBusy), (1, b2n s.cvError), (2, s.cvErrorKind), (16, 0), (12, s.cvIndex)], s.cvLists]

end Sys2Proof.Machine
end

