-- ==== Sys2Proof/Machine/TideTick.lean ====
section
/-! DEFINITION. One reference cycle of 4 ns of tide time (R40, R44 to R46), in which every Oxtas port sends the blocks it has
time for (R56, R57). -/

namespace Sys2Proof.Machine

/-- Priority of a block kind (R56). -/
def oxPriority (kind : Nat) : Nat :=
  match kind with
  | 0x33 => 1 | 0x39 => 1 | 0x4B => 2 | 0x99 => 2 | 0x55 => 3 | 0x66 => 3 | 0x78 => 3 | _ => 4

/-- The message whose block leaves next (R57): highest priority, the earliest handed over. `streams` says whether the
slot may carry a remote layer stream. -/
def nextMsg (streams : Bool) (tx : List OxMsg) : Option Nat :=
  ([1, 2, 3] ++ (if streams then [4] else [])).findSome? fun q => tx.findIdx? fun (m : OxMsg) => oxPriority m.kind == q

/-- Whether a slot carries an alignment marker: slots alternate between the lanes from lane 0, and each lane has a marker
after every 16,384 blocks (R56). -/
def markerSlot (n : Nat) : Bool := n / 2 % 16385 == 16384

/-- One block slot of a port. Of each 25 slots one is kept from streams: 48 of 50 Gb/s (R57). -/
def txSlot (x : OxPort) : OxPort :=
  let n := x.slots
  let x := { x with slots := n + 1 }
  if markerSlot n then x else
  match nextMsg (n % 25 != 24) x.tx with
  | none => x
  | some k =>
    match x.tx[k]? with
    | none => x
    | some m =>
      if m.left ≤ 1 then { x with tx := x.tx.eraseIdx k, lastSent := some (m.kind, m.content) }
      else { x with tx := x.tx.set k { m with left := m.left - 1 } }

def txSlots : Nat → OxPort → OxPort
  | 0, x => x
  | n + 1, x => txSlots n (txSlot x)

/-- A port over 4 ns: two lanes of 390.625 M blocks/s are 25/8 slots. A port in DOWN sends none. -/
def tickPort (x : OxPort) : OxPort :=
  if x.state == .down then x else
  let e := x.eighths + 25
  txSlots (e / 8) { x with eighths := e % 8 }

/-- Adds one 4 ns reference cycle to tide time, with the rate correction and the slew of at most 52 units of 2^-16 ns
a cycle (R40, R46). -/
def tideTick (t : Tide) : Tide :=
  let r : Int := t.resid + 4 * 65536 * t.rate
  let unit : Int := 100000000000
  let step := clampInt (-52) 52 t.slew
  { t with now := (t.now + 262144 + step + r / unit).toNat % 2 ^ 80, resid := r % unit, slew := t.slew - step,
           ports := t.ports.map tickPort }

/-- HOLDOVER follows the reference, tide's return to it (R45) and the domain; TIDE_HOLDOVER at its start and end. -/
def recheckHoldover (d : Dev) : Dev :=
  let h := !d.tide.refOk || d.tide.returning || d.tide.domainLost
  if h == d.tide.holdover then d
  else raise 0x0B01 0 (le8 (b2n h)) [512] false (updTide (fun t => { t with holdover := h }) d)

end Sys2Proof.Machine
end

