-- ==== Sys2Proof/Machine/Tide.lean ====
section
/-! DEFINITION. Tide time: reading, references, steering, steps, and the source command (chapter 2). -/

namespace Sys2Proof.Machine

/-- Code of ROLE. -/
def roleCode : Role → Nat
  | .standalone => 0 | .master => 1 | .member => 2 | .isolated => 3

/-- TIDE_STATUS (chapter 2). -/
def tideStatus (t : Tide) : U32 :=
  word32 [(2, 0), (14, t.node), (6, t.hops), (1, b2n t.stepSeen), (1, b2n t.ppsReject), (2, roleCode t.role),
    (2, t.source), (1, b2n t.holdover), (1, b2n t.refOk), (1, b2n t.locked), (1, 0)]

/-- TIDE_NOW_LO_READ (R43): the read latches the whole value. -/
def execTideNowLoRead (s : State) : Host.Outcome State Fault Refusal :=
  onDev (fun _ d =>
    let n := nowNs d
    { updTide (fun t => { t with latchHi := BitVec.ofNat 32 (n / 2 ^ 32), latchFrac := BitVec.ofNat 16 (t.now % 65536) }) d with
      out := { d.out with host := some (BitVec.ofNat 64 (n % 2 ^ 32)) } }) s

/-- TIDE_LO_READ (R43, R83): the status window of a page latches its own copy. -/
def execTideLoRead (i : Issuer) (s : State) : Host.Outcome State Fault Refusal :=
  onDev (fun _ d =>
    let n := nowNs d
    { updPage (pageKey i) (fun p => { p with tideHi := BitVec.ofNat 32 (n / 2 ^ 32),
                                             tideFrac := BitVec.ofNat 16 (d.tide.now % 65536) }) d with
      out := { d.out with host := some (BitVec.ofNat 64 (n % 2 ^ 32)) } }) s

/-- TIDE_SLEW, saturating (chapter 2). -/
def slewWord (t : Tide) : U32 := BitVec.ofInt 32 (clampInt (-2147483647) 2147483647 t.slew)

/-! ## Steps and steering (R46, R47, R49, R50) -/

/-- 1 ms in units of 2^-16 ns. -/
def oneMs : Int := 65536000000

/-- A step of tide time (R49, R50): launch instants that it leaves earlier than tide time are marked. A pulse on
TIDE_PPS_OUT keeps its length. -/
def stepTide (delta : Int) (d : Dev) : Dev :=
  let old := d.tide.now
  let new := ((old : Int) + delta).toNat % 2 ^ 80
  let gone := fun (i : Nat) => decide (i * 65536 < new)
  let d := { updTide (fun t => { t with now := new, slew := 0, stepSeen := true, ppsAt := ((t.ppsAt : Int) + delta).toNat }) d with
    launches := d.launches.map fun l => { l with passed := l.passed || gone l.instant }
    txns := d.txns.map fun t => { t with passed := t.passed || t.wait.any gone } }
  raise 0x0B02 0 (le64 (old / 65536) ++ le64 (new / 65536)) [512] true d

/-- One measurement of the offset to the source against the threshold of R47, both in 2^-16 ns. -/
def measureLock (limit : Nat) (offset : Int) (t : Tide) : Tide :=
  let t := if offset.natAbs ≤ limit then { t with lockIn := min 16 (t.lockIn + 1) } else { t with lockIn := 0 }
  let t := if 2 * limit < offset.natAbs then { t with lockOut := min 4 (t.lockOut + 1) } else { t with lockOut := 0 }
  { t with locked := if t.lockIn = 16 then true else if t.lockOut = 4 then false else t.locked }

/-- Steers tide time by slewing an offset away (R46). The rate correction that the loop then holds is a free value
within the slew limit of 200 ppm. -/
def steer (limit : Nat) (offset : Int) (d : Dev) : Dev :=
  let (v, d) := drawNat d
  updTide (fun t => { measureLock limit offset t with slew := -offset, rate := (v % 40000001 : Nat) - 20000000 }) d

/-! ## The reference and PPS (R44, R45, R48, R51) -/

/-- TIDE_REF_FAIL (R44). -/
def execTideRefFail (s : State) : Host.Outcome State Fault Refusal :=
  onDev (fun _ d => recheckHoldover (updTide (fun t => { t with refOk := false, returning := false }) d)) s

/-- TIDE_REF_RECOVER (R45): the reference is valid again, and tide is slewed back to it; HOLDOVER is cleared once it is
there. How far tide drifted is a free value, within the 1 ms that slewing covers. -/
def execTideRefRecover (s : State) : Host.Outcome State Fault Refusal :=
  onDev (fun _ d =>
    if d.tide.refOk then d else
    let (v, d) := drawNat d
    updTide (fun t => { t with refOk := true, returning := true, slew := (v % 131072000001 : Nat) - oneMs }) d) s

/-- TIDE_PPS_EDGE (R48, R49): an edge `ago` nanoseconds before now. -/
def execTidePpsEdge (ago : Nat) (s : State) : Host.Outcome State Fault Refusal :=
  onDev (fun _ d =>
    let t := d.tide
    if t.source ≠ 1 then d else
    let sec : Nat := 1000000000 * 65536
    let r := ((t.now : Int) - (ago * 65536 : Nat)) % (sec : Int)
    let off := if 2 * r ≤ (sec : Int) then r else r - (sec : Int)
    if !t.ppsSeen && t.stepPermit && decide (oneMs ≤ (off.natAbs : Int)) then
      stepTide (-off) (updTide (fun t => { t with ppsSeen := true }) d)
    else if decide (oneMs < (off.natAbs : Int)) then
      updTide (fun t => { t with ppsReject := true, ppsRejects := t.ppsRejects + 1 }) d
    else steer (20 * 65536) off (updTide (fun t => { t with ppsSeen := true }) d)) s

/-- 1 s in units of 2^-16 ns. -/
def oneSecond : Nat := 65536000000000

/-- TIDE_PPS_OUT_SECOND (R51): the pin goes high within 5 ns of a whole second. -/
def execTidePpsOutSecond (s : State) : Host.Outcome State Fault Refusal :=
  onDev (fun _ d =>
    let r := d.tide.now % oneSecond
    if decide (r ≤ 5 * 65536) || decide (oneSecond ≤ r + 5 * 65536) then
      updTide (fun t => { t with ppsOut := true, ppsAt := t.now }) d
    else d) s

/-- TIDE_PPS_OUT_END (R51): the pin goes low 100 µs ± 1 µs later. -/
def execTidePpsOutEnd (s : State) : Host.Outcome State Fault Refusal :=
  onDev (fun _ d =>
    let high := d.tide.now - d.tide.ppsAt
    if d.tide.ppsOut && decide (99000 * 65536 ≤ high) && decide (high ≤ 101000 * 65536) then
      updTide (fun t => { t with ppsOut := false }) d
    else d) s

/-! ## Ports and the domain (R58 to R68) -/

/-- Whether master a precedes master b (R62): priority, then node number. -/
def masterBefore (a b : Nat × Nat) : Bool := decide (a.1 < b.1) || (a.1 == b.1 && decide (a.2 < b.2))

/-- The UP ports whose neighbour announces a master: (port, (priority, node), hops through the port). -/
def masterPaths (d : Dev) : List (Nat × (Nat × Nat) × Nat) :=
  (upPorts d).filterMap fun p =>
    let x := oxPortOf d p
    if x.hops = 0x3F then none else some (p, (x.masterPriority, x.masterNode), x.hops + 1)

/-- The path with the fewest hops to a master, and among equals the lowest port. -/
def bestPath (m : Nat × Nat) (paths : List (Nat × (Nat × Nat) × Nat)) : Option (Nat × Nat) :=
  (paths.filter (·.2.1 == m)).foldl (fun (best : Option (Nat × Nat)) e =>
    match best with
    | none => some (e.1, e.2.2)
    | some b => if e.2.2 < b.2 then some (e.1, e.2.2) else best) none

/-- Leaves the domain: standalone, or isolated for a cause. -/
def outsideDomain (r : Role) (cause : Nat) : Dev → Dev :=
  updTide fun t => { t with role := r, isoCause := cause, hops := 0x3F, parent := none, joining := false }

/-- Lies too many hops from the master (R62): isolated, with DOMAIN_HOPS once. -/
def tooFar (hops : Nat) (d : Dev) : Dev :=
  let d' := outsideDomain .isolated 1 d
  if d.tide.role == .isolated && d.tide.isoCause == 1 then d' else raise 0x0B05 0 (le8 hops) [512] false d'

/-- Chooses the master and the parent port anew (R62, R65, R68). A device whose source is not DOMAIN joins no other
device's domain. -/
def chooseMaster (d : Dev) : Dev :=
  let t := d.tide
  if t.electing then d
  else if (upPorts d).isEmpty then recheckHoldover (updTide (fun t => { t with domainLost := false }) (outsideDomain .standalone 0 d))
  else
    let self := (t.priority, t.node)
    let paths := masterPaths d
    let best := paths.foldl (fun m e => if masterBefore e.2.1 m then e.2.1 else m) self
    match bestPath best paths with
    | none =>
      recheckHoldover (updTide (fun t => { t with
        role := .master, hops := 0, parent := none, joining := false, masterNode := t.node, masterPriority := t.priority,
        domainLost := false }) d)
    | some (p, hops) =>
      if best == self then
        recheckHoldover (updTide (fun t => { t with
          role := .master, hops := 0, parent := none, joining := false, masterNode := t.node,
          masterPriority := t.priority, domainLost := false }) d)
      else if t.source ≠ 2 then outsideDomain .standalone 0 d
      else if 32 < hops then tooFar hops d
      else
        let same := t.role == .member && t.masterNode == best.2 && t.masterPriority == best.1
        updTide (fun t => { t with
          parent := some p, masterNode := best.2, masterPriority := best.1, joining := t.joining || !same,
          hops := if t.role == .member then hops else 0x3F,
          role := if t.role == .master then .standalone else t.role }) d

/-! ### Streams (R78 to R81) -/

def updExport (s : Nat) (e : Option Export) : Dev → Dev := updTide fun t => { t with exports := tput none t.exports s e }
def updImport (s : Nat) (e : Option Import) : Dev → Dev := updTide fun t => { t with imports := tput none t.imports s e }

/-- STREAM_LOST of a stream (R81), once; its payload is packed as log 13 says. -/
def loseStream (imported : Bool) (s : Nat) (d : Dev) : Dev :=
  let event := fun port (last : U32) pages d =>
    raise 0x0B09 s (le8 s ++ le8 port ++ le32 last.toNat) pages false d
  if imported then
    match importOf d s with
    | some i => if i.lost then d else
        event i.port i.lastFrame (512 :: ownerPages i.owner).eraseDups (updImport s (some { i with lost := true }) d)
    | none => d
  else
    match exportOf d s with
    | some e => if e.lost then d else event e.port e.lastFrame [512] (updExport s (some { e with lost := true }) d)
    | none => d

/-- Every stream of a port stops (R81). -/
def loseStreamsOn (p : Nat) (d : Dev) : Dev :=
  (List.range 4).foldl (fun d s =>
    let d := if ((importOf d s).map (·.port)) == some p then loseStream true s d else d
    if ((exportOf d s).map (·.port)) == some p then loseStream false s d else d) d

/-- What the domain does once a port has left UP (R66): a member that lost its parent runs in holdover, is
not LOCKED from this instant (DESIGN CHOICE, log 141), and takes another path to the same master if it has one. -/
def afterPortLoss (p : Nat) (d : Dev) : Dev :=
  let d := loseStreamsOn p (updOx p (fun x => { x with hops := 0x3F }) d)
  let t := d.tide
  if t.parent ≠ some p then (if t.role == .member || t.electing then d else chooseMaster d)
  else
    let d := updTide (fun t => { t with domainLost := true, locked := false, lockIn := 0, lockOut := 0 }) d
    let d := match bestPath (t.masterPriority, t.masterNode) (masterPaths d) with
      | some (q, hops) => updTide (fun t => { t with parent := some q, hops := if hops ≤ 32 then hops else t.hops }) d
      | none => updTide (fun t => { t with parent := none }) d
    recheckHoldover d

/-- The messages still on a port are lost, and counted (R58; log 165). -/
def dropTx (p : Nat) : Dev → Dev :=
  updOx p fun x => { x with tx := [], lostMsgs := x.lostMsgs + BitVec.ofNat 32 x.tx.length }

/-- A port enters a state other than UP. -/
def leaveUp (p : Nat) (f : OxPort → OxPort) (d : Dev) : Dev :=
  let was := oxUp d p
  let d := updOx p (fun x => f { x with child := false }) (dropTx p d)
  if was then afterPortLoss p d else d

/-- A port in DOWN. -/
def OxPort.fallen (hold : Bool) (x : OxPort) : OxPort :=
  { x with state := .down, stopped := false, clashed := false, known := false, hold := hold, signalSeen := false,
           slots := 0, eighths := 0 }

/-- A port returns to DOWN and stays there for 1 ms (R58). -/
def portToDown (p : Nat) : Dev → Dev :=
  leaveUp p (OxPort.fallen true)

/-- OX_LINK_DOWN (R82; its payload is packed as log 13 says, and so are those of the other events of this chapter). -/
def linkDownEvent (p : Nat) (d : Dev) : Dev :=
  raise 0x0B03 p (le8 p ++ le32 (oxPortOf d p).lostMsgs.toNat) [512] false d

/-- Every port is unpowered, with OX_LINK_DOWN on every UP port (R541); ENABLE is kept (R540). -/
def linkDownAll (d : Dev) : Dev :=
  (List.range 4).foldl (fun d p =>
    let d := if oxUp d p then linkDownEvent p (dropTx p d) else d
    leaveUp p (OxPort.fallen false) d) d

/-- Whether a port's neighbour clashes with this device or with another port's neighbour that has reported itself
(R59). -/
def nodeClash (d : Dev) (p : Nat) : Bool :=
  let n := (oxPortOf d p).peerNode
  n == d.tide.node || (List.range 4).any fun q =>
    q != p && (oxPortOf d q).known && (oxPortOf d q).peerNode == n

/-- Decides HELLO once identities are known (R59, R61): stop, or go on to MEASURED. -/
def decideHello (p : Nat) (d : Dev) : Dev :=
  let x := oxPortOf d p
  if nodeClash d p then
    let d := updOx p (fun x => { x with stopped := true, clashed := true }) d
    if x.clashed then d else raise 0x0B04 p (le8 p ++ le16 x.peerNode) [512] false d
  else if x.peerDomain ≠ d.tide.domain then updOx p (fun x => { x with stopped := true }) d
  else updOx p (fun x => { x with state := .measured, stopped := false, clashed := false, delays := [] }) d

/-- OX_SIGNAL_DETECT (R58). -/
def execOxSignalDetect (p : Nat) (s : State) : Host.Outcome State Fault Refusal :=
  onDev (fun _ d =>
    let x := oxPortOf d p
    if !linkOn d || !x.enable || x.state != .down then d
    else if x.hold then updOx p (fun x => { x with signalSeen := true }) d
    else updOx p (fun x => { x with state := .signal }) d) s

/-- OX_DOWN_HOLD_END (R58). -/
def execOxDownHoldEnd (p : Nat) (s : State) : Host.Outcome State Fault Refusal :=
  onDev (fun _ d =>
    let x := oxPortOf d p
    if !x.hold then d else
    updOx p (fun x => { x with hold := false, signalSeen := false,
                               state := if x.signalSeen && x.enable && x.state == .down then .signal else x.state }) d) s

/-- OX_BRINGUP_STAGE_DONE (R56, R58 to R61): lanes more than 64 blocks apart are not deskewed; the identity operands count
in HELLO; MEASURED ends with 16 delay measurements. -/
def execOxBringupStageDone (at_ : PortSkew) (node domain priority : Nat) (s : State) : Host.Outcome State Fault Refusal :=
  onDev (fun _ d =>
    let p := at_.port
    if !linkOn d then d else
    let x := oxPortOf d p
    match x.state with
    | .signal => updOx p (fun x => { x with state := .aligned }) d
    | .aligned => if 64 < at_.skew then d else updOx p (fun x => { x with state := .hello, known := false, clashed := false }) d
    | .hello =>
      decideHello p (updOx p (fun x => { x with peerNode := node, peerDomain := domain, peerPriority := priority, known := true }) d)
    | .measured =>
      if x.delays.length < 16 then d else chooseMaster (updOx p (fun x => { x with state := .up, hops := 0x3F }) d)
    | _ => d) s

/-- OX_BRINGUP_LIMIT (R58). -/
def execOxBringupLimit (p : Nat) (s : State) : Host.Outcome State Fault Refusal :=
  onDev (fun _ d =>
    let x := oxPortOf d p
    if x.state == .down || x.state == .up || x.stopped then d else portToDown p d) s

/-- OX_LINK_DOWN (R58): 10 µs of silence on a port in UP, or on one stopped in HELLO. -/
def execOxLinkDown (p lost : Nat) (s : State) : Host.Outcome State Fault Refusal :=
  onDev (fun _ d =>
    let x := oxPortOf d p
    if !(x.state == .up || x.stopped) then d else
    let d := updOx p (fun x => { x with lostMsgs := x.lostMsgs + BitVec.ofNat 32 lost }) d
    portToDown p (linkDownEvent p (dropTx p d))) s

/-- OX_DELAY_MEASURE (R60): timestamps in 1/4 ns; the last 16 delays are kept, in 1/8 ns. -/
def execOxDelayMeasure (p : Nat) (t1 t2 t3 t4 : Int) (s : State) : Host.Outcome State Fault Refusal :=
  onDev (fun _ d =>
    let x := oxPortOf d p
    if x.state == .measured || x.state == .up then
      updOx p (fun x => { x with delays := (((t4 - t1) - (t3 - t2)) :: x.delays).take 16 }) d
    else d) s

/-- Mean of the last measured delays of a port, in 2^-16 ns, rounded down (R60; DESIGN CHOICE, log 164). -/
def meanDelay (x : OxPort) : Int := x.delays.foldl (· + ·) 0 * 8192 / (max 1 x.delays.length : Nat)

/-- SYNC handed to ports (R56; log 163). -/
def sendSync (ports : List Nat) (d : Dev) : Dev :=
  sendOx 0x33 (leBytes 10 d.tide.now ++ le8 d.tide.hops ++ le16 d.tide.masterNode ++ le8 d.tide.masterPriority) ports d

/-- OX_SYNC_SEND (R56): the master sends its time. -/
def execOxSyncSend (s : State) : Host.Outcome State Fault Refusal :=
  onDev (fun _ d => if d.tide.role == .master then sendSync (treePorts d) d else d) s

/-- OX_SYNC_RECEIVED (R47, R49, R60, R63 to R65): `ahead` is this device's tide time at the receipt less the time that SYNC
carries, in 2^-16 ns; with the delay taken off it is the offset from the parent. DOMAIN_SPLIT carries its magnitude in ns
(DESIGN CHOICE, log 159). -/
def execOxSyncReceived (p node priority hops : Nat) (ahead : Int) (s : State) : Host.Outcome State Fault Refusal :=
  onDev (fun _ d =>
    if !onTree d p then d else
    let d := updOx p (fun x => { x with masterNode := node, masterPriority := priority, hops := hops }) d
    let t := d.tide
    let offset := ahead - meanDelay (oxPortOf d p)
    if t.parent ≠ some p || t.source ≠ 2 || t.electing || t.masterNode ≠ node then chooseMaster d
    else if 32 < hops + 1 then tooFar (hops + 1) d
    else
      let big := decide (oneMs ≤ (offset.natAbs : Int))
      if (t.joining || t.role != .member) && big && !t.stepPermit then
        let d' := updTide (fun t => { t with role := .isolated, isoCause := 2, hops := 0x3F, joining := true }) d
        if t.role == .isolated && t.isoCause == 2 then d'
        else raise 0x0B06 0 (le16 node ++ le64 (offset.natAbs / 65536)) [512] false d'
      else
        let steps := (t.joining || t.role != .member) && big
        let d := updTide (fun t => { t with role := .member, isoCause := 0, hops := hops + 1, joining := false }) d
        let d := if steps then stepTide (-offset) d else steer (2 * (hops + 1) * 65536) offset d
        let d := if d.tide.locked then updTide (fun t => { t with domainLost := false }) d else d
        let d := recheckHoldover d
        sendSync (otherPorts d p) d) s

/-- OX_ANNOUNCE_SEND (R56): on every port that is no dyke port; to its parent a device names itself its child. -/
def execOxAnnounceSend (s : State) : Host.Outcome State Fault Refusal :=
  onDev (fun _ d =>
    let t := d.tide
    (treePorts d).foldl (fun d p =>
      sendOx 0x4B (le16 t.node ++ le16 t.domain ++ le8 t.priority ++ le16 t.masterNode ++ le8 t.masterPriority ++ le8 t.hops ++
        le8 (b2n (t.parent == some p))) [p] d) d) s

/-- OX_ANNOUNCE_RECEIVED (R62, R63, R66 to R68): the master that the neighbour follows, its hops to it, and whether it takes
this device as its parent. A dyke port carries none, until the neighbour needs it as its parent port (R66). -/
def execOxAnnounceReceived (p node priority : Nat) (place : TreePlace) (s : State) : Host.Outcome State Fault Refusal :=
  onDev (fun _ d =>
    if !oxUp d p || (dykePort d p && !place.child) then d
    else chooseMaster (updOx p (fun x => { x with masterNode := node, masterPriority := priority, hops := place.hops, child := place.child }) d)) s

/-- MASTER_LOST (R67): no SYNC for 3 ms; what the ports announced of the lost master no longer counts, and the
device is not LOCKED (log 141). -/
def execMasterLost (s : State) : Host.Outcome State Fault Refusal :=
  onDev (fun _ d =>
    let t := d.tide
    if t.role != .member then d else
    let d := updTide (fun t => { t with
      electing := true, domainLost := true, locked := false, lockIn := 0, lockOut := 0, parent := none,
      ports := t.ports.map fun x => { x with hops := 0x3F, child := false } }) d
    recheckHoldover (raise 0x0B07 0 (le16 t.masterNode) [512] true d)) s

/-- OX_ELECTION_END (R67): the ANNOUNCE messages of 2 ms decide. -/
def execOxElectionEnd (s : State) : Host.Outcome State Fault Refusal :=
  onDev (fun _ d => if !d.tide.electing then d else chooseMaster (updTide (fun t => { t with electing := false }) d)) s

/-! ## Cross-device messages (R74 to R77, R141 to R144) -/

def chanTab (d : Dev) (c : Nat) : EvChan := tget .zero d.tide.channels c
def updEvChan (c : Nat) (f : EvChan → EvChan) : Dev → Dev :=
  updTide fun t => { t with channels := tput .zero t.channels c (f (tget .zero t.channels c)) }

/-- Delivers a message to the subscribers of its channel, or counts it as discarded (R77). DOMAIN_EVENT has the channel
and the sender in its subject, and the sender's stamp (DESIGN CHOICE, log 158). -/
def deliverMessage (c sender stamp : Nat) (payload : List Byte) (d : Dev) : Dev :=
  let x := chanTab d c
  if x.subs.isEmpty && !x.secure then updEvChan c (fun x => { x with discarded := x.discarded + 1 }) d
  else raiseAt stamp 0x0B0A (c + 256 * sender) payload (x.subs.map pageKey) x.secure d

/-- Bytes of an EVENT message (log 163). -/
def eventMessage (c dest sender stamp : Nat) (payload : List Byte) : List Byte :=
  le8 c ++ le16 dest ++ le16 sender ++ le64 stamp ++ payload

/-- OX_EVENT_RECEIVED (R63, R76, R77): delivered here, and passed on along the tree unless it was for this device alone. -/
def execOxEventReceived (p sender dest : Nat) (stamp : U64) (channel : Nat) (payload : List Byte) (s : State) :
    Host.Outcome State Fault Refusal :=
  onDev (fun _ d =>
    if !onTree d p then d else
    let all := decide (16384 ≤ dest)
    let mine := dest == d.tide.node
    let d := if all || mine then deliverMessage channel sender stamp.toNat payload d else d
    if mine then d else sendOx 0x55 (eventMessage channel dest sender stamp.toNat payload) (otherPorts d p) d) s

/-- OX_COMMIT_RECEIVED (R63, R141, R144): tallied at its destination, else passed on along the tree. -/
def execOxCommitReceived (p : Nat) (m : CommitMsg) (s : State) : Host.Outcome State Fault Refusal :=
  onDev (fun _ d =>
    if !onTree d p then d
    else if m.dest = d.tide.node then addVote m.ballot m.node m.status m.isResult d
    else sendOx 0x66 (ballotMessage m.ballot m.dest m.node m.status m.isResult) (otherPorts d p) d) s

/-- A group's definition: t0, period, leader (R69). -/
def sameGroup (x : Group) (t0 period node output : Nat) : Bool :=
  x.t0 == t0 && x.period == period && x.leaderNode == node && x.leaderOutput == output

/-- OX_LOCK_RECEIVED (R63, R71, R74, R75, R138): a message to the leader goes no further than the leader. -/
def execOxLockReceived (p group : Nat) (m : LockMsg) (s : State) : Host.Outcome State Fault Refusal :=
  onDev (fun _ d =>
    if !onTree d p then d else
    let leads := ((groupOf d group).map (·.leaderNode)) == some d.tide.node
    let pass := fun (d : Dev) => sendLock group m (otherPorts d p) d
    match m with
    | .define t0 period node output c => pass <|
      match groupOf d group with
      | some x =>
        if x.period = 0 then
          (groupOutputs d group).foldl (fun d o => restart o false d)
            (updGroup group (fun x => { x with t0 := t0, period := period, leaderNode := node, leaderOutput := output,
                                               cutOffset := c, heard := true }) d)
        else if sameGroup x t0 period node output then updGroup group (fun x => { x with cutOffset := c, heard := true }) d
        else d
      | none => updTide (fun t => { t with groups := tput none t.groups group (some { Group.zero with
          t0 := t0, period := period, leaderNode := node, leaderOutput := output, cutOffset := c, heard := true }) }) d
    | .quiet node output lo hi => if leads then leaderQuiet group (node * 8 + output) hi lo d else pass d
    | .busy node output =>
      if leads then updGroup group (fun x => { x with quiet := x.quiet.filter (·.1 != node * 8 + output) }) d else pass d
    | .stillEnter m k =>
      pass (updGroup group (fun x => { x with still := true, divisor := m, fromIndex := k, wakeIndex := none }) d)
    | .wake k => wakeGroupAt group k (pass d)
    | .wakeAsk _ _ landed => if leads then leaderWake group landed d else pass d) s

/-! ## Streams on the link (R80, R81) -/

/-- Buffers of an import slot that a frame in flight reads. -/
def importBusy (d : Dev) (s : Nat) : List Nat :=
  d.outputs.flatMap fun x => (x.flights.filter (!·.retired)).flatMap fun f => f.layers.filterMap fun fl =>
    match fl.layer.src with
    | some r => if r.mem = 2 ∧ r.slot = s then some fl.importBuf else none
    | none => none

def importBuf (i : Import) (k : Nat) : Nat := match k with | 0 => i.buf0 | 1 => i.buf1 | _ => i.buf2

/-- OX_STREAM_FRAME_RECEIVED (R80, R81): written to a buffer that no layer reads, then latest. A frame that is too large,
or that no buffer can take, never arrived. -/
def execOxStreamFrameReceived (p slot w h : Nat) (frame : U32) (bytes : List Byte) (s : State) :
    Host.Outcome State Fault Refusal :=
  onDev (fun _ d =>
    match importOf d slot with
    | none => d
    | some i =>
      if i.port ≠ p || !oxUp d p || i.size < bytes.length then d else
      let busy := importBusy d slot
      match [0, 1, 2].find? fun k => i.latest != some k && !busy.contains k with
      | none => d
      | some k =>
        let who := issuerOf i.owner
        if (locFail d who false true (importBuf i k) bytes.length).isSome then d else
        updImport slot (some { i with
          latest := some k, frames := i.frames + 1, lastFrame := frame, lost := false,
          sizes := modifyAt (fun _ => (w, h)) k (if i.sizes.isEmpty then List.replicate 3 (0, 0) else i.sizes) })
          (locWrite d who false (importBuf i k) bytes)) s

/-- STREAM_LOST (R81): two frame periods without data. -/
def execStreamLost (imported : Bool) (slot : Nat) (s : State) : Host.Outcome State Fault Refusal :=
  onDev (fun _ d => loseStream imported slot d) s

/-! ## Family 0x0B -/

def specTideRead : OpSpec where
  read := fun _ d _ => (d, .ok (le64 (nowNs d) ++ le16 (d.tide.now % 65536) ++ [0, 0] ++ le32 (tideStatus d.tide).toNat))

def specTideSource : OpSpec where
  len := 1
  fields := fun _ => [fCode 24 2, fBits 25 1]
  land := fun _ ch d =>
    let v := ch.cmd.u8 24
    let permit := ch.cmd.u8 25 == 1
    let changes := v != d.tide.source
    let d := updTide (fun t => { t with source := v, stepPermit := permit }) d
    if !changes then d else
    let d := updTide (fun t => { t with
      ppsSeen := false, locked := false, lockIn := 0, lockOut := 0, slew := if v = 0 then 0 else t.slew,
      rate := if v = 0 then 0 else t.rate, domainLost := t.domainLost && v == 2 }) d
    chooseMaster (recheckHoldover d)

def specOxPort : OpSpec where
  len := 1
  fields := fun _ => [fRange 24 1 0 3, fBits 25 1]
  land := fun _ ch d =>
    let p := ch.cmd.u8 24
    if ch.cmd.u8 25 = 1 then updOx p (fun x => { x with enable := true }) d
    else leaveUp p (fun x => { x.fallen false with enable := false }) d
  results := fun d ch => le8 (oxCode (oxPortOf d (ch.cmd.u8 24)).state)

/-- Re-examines the neighbours' identities after DOMAIN_SET (R59, R61). -/
def recheckPorts (d : Dev) : Dev :=
  (List.range 4).foldl (fun d p =>
    let x := oxPortOf d p
    if x.stopped then decideHello p d
    else if (x.state == .measured || x.state == .up) && (nodeClash d p || x.peerDomain != d.tide.domain) then
      decideHello p (leaveUp p (fun x => { x with state := .hello }) d)
    else d) d

def specDomainSet : OpSpec where
  len := 1
  fields := fun _ => [fRange 24 2 0 16383, fAny 26 2, fAny 28 1]
  land := fun _ ch d =>
    chooseMaster (recheckPorts (updTide (fun t => { t with
      node := ch.cmd.u16 24, domain := ch.cmd.u16 26, priority := ch.cmd.u8 28, joined := true }) d))

/-- An output leaves its group. The definition is forgotten with its last member here, unless another device has
distributed it. -/
def leaveGroup (o : Nat) (d : Dev) : Dev :=
  match (outOf d o).group with
  | none => d
  | some g =>
    let d := updOut o (fun x => { x with group := none, locked := false, still := { x.still with said := false } }) d
    let me := d.tide.node * 8 + o
    let d := updGroup g (fun x => { x with members := x.members.filter (· != me), quiet := x.quiet.filter (·.1 != me) }) d
    match groupOf d g with
    | none => d
    | some x =>
      if x.heard || !(groupOutputs d g).isEmpty then d else
      let y := { Group.zero with margin := x.margin }
      updTide (fun t => { t with groups := tput none t.groups g (if y = Group.zero then none else some y) }) d

/-- Landing of LOCK_GROUP (R69 to R72). A definition that no other member shares is set anew; the output pulls in from
its present phase, and the frame it has opened starts accordingly (R222). -/
def landLockGroup (ch : Change) (d : Dev) : Dev :=
  let c := ch.cmd
  let o := c.u8 24
  if c.bit 26 0 then restart o false (leaveGroup o d) else
  let g := c.u8 25
  let d := if (outOf d o).group = some g then d else leaveGroup o d
  let old := (groupOf d g).getD .zero
  let shared := old.heard || (groupOutputs d g).any (· != o)
  let same := sameGroup old (c.u64 32) (c.u64 40) (c.u16 28) (c.u8 30)
  let x := if old.period = 0 || (!shared && !same) then
      { Group.zero with margin := old.margin, t0 := c.u64 32, period := c.u64 40, leaderNode := c.u16 28, leaderOutput := c.u8 30 }
    else old
  let d := updTide (fun t => { t with groups := tput none t.groups g (some x) }) d
  let d := updOut o (fun y => { y with group := some g, locked := y.locked && y.group == some g && x == old }) d
  restart o false (distributeGroup g d)

/-- R71, in PREPARE step 3. -/
def lockFails (before result : Dev) (c : Cmd) : List (Nat × Status) :=
  if c.bit 26 0 then [] else
  let period := c.u64 40
  (match (outOf result (c.u8 24)).mode with
    | none => []
    | some m =>
      let p := framePeriod m
      if period < 1000 * (max p period - min p period) then [(3, Status.outOfRange)] else []) ++
  (match groupOf before (c.u8 25) with
    | none => []
    | some x =>
      let others := x.heard || (groupOutputs before (c.u8 25)).any (· != c.u8 24)
      if x.period ≠ 0 && others && !sameGroup x (c.u64 32) period (c.u16 28) (c.u8 30) then [(3, Status.badParam)] else [])

def specLockGroup : OpSpec where
  len := 3
  fields := fun x =>
    if x.c.bit 26 0 then [fRange 24 1 0 7, fAny 25 1, fBits 26 1, fAny 27 1, fAny 28 4, fAny 32 8, fAny 40 8]
    else [fRange 24 1 0 7, fRange 25 1 0 63, fBits 26 1, fRange 28 2 0 16383, fRange 30 1 0 7, fAny 32 8,
      fIf 40 8 (fun v => decide (v / 65536 < 1000000) || decide (1000000000 < v / 65536)) .outOfRange]
  outs := outOnly
  objs := outObj
  prep := fun before _ result ch => lockFails before result ch.cmd
  land := fun _ ch d => landLockGroup ch d

def specEventSend : OpSpec where
  len := 3
  permit := fun x => match x.c.issuer with
    | .manager => true
    | .inst n => (chanTab x.d (x.c.u8 24)).grants.contains n
    | .delegate => false
  fields := fun _ => [fAny 24 1, fBits 25 1, fRange 26 2 0 16383, fAny 32 8, fAny 40 8]
  multi := fun x => failIf (x.c.u8 25 == 1 && x.c.u16 26 != 0x3FFF) .outOfRange 26
  land := fun _ ch d =>
    let c := ch.cmd
    let payload := le64 (c.u64 32) ++ le64 (c.u64 40)
    if c.u8 25 = 1 then sendOx 0x55 (eventMessage (c.u8 24) 0x7FFF d.tide.node (nowNs d) payload) (treePorts d) d
    else if c.u16 26 = d.tide.node then deliverMessage (c.u8 24) d.tide.node (nowNs d) payload d
    else sendOx 0x55 (eventMessage (c.u8 24) (c.u16 26) d.tide.node (nowNs d) payload) (treePorts d) d

def specEventSubscribe : OpSpec where
  len := 1
  fields := fun x => [fAny 24 1, fBits 25 7,
    if x.c.u8 25 / 4 % 2 = 1 then fAny 26 2 else fIf 26 2 (fun v => decide (511 < v) && v != 0xFFFF) .outOfRange]
  land := fun _ ch d =>
    let c := ch.cmd
    let on := c.u8 25 % 2 == 1
    let grant := c.u8 25 / 2 % 2 == 1
    let n := c.u16 26
    updEvChan (c.u8 24) (fun x =>
      if c.u8 25 / 4 % 2 = 1 then { x with secure := on } else
      let i : Issuer := if n = 0xFFFF then .manager else .inst n
      let x := { x with subs := x.subs.filter (· != i) ++ (if on then [i] else []) }
      if n = 0xFFFF then x else { x with grants := x.grants.filter (· != n) ++ (if grant then [n] else []) }) d

def specStreamExport : OpSpec where
  len := 1
  fields := fun x =>
    if x.c.bit 25 0 then [fRange 24 1 0 3, fBits 25 1, fAny 26 2, fAny 28 2, fAny 30 2]
    else [fRange 24 1 0 3, fBits 25 1, fRange 26 1 0 3, fRange 27 1 0 7, fCode 28 1, fRange 30 2 0 16383]
  step10 := fun d c =>
    if c.u8 25 = 1 then none else
    firstFail [
      failIf (!oxUp d (c.u8 26) || (oxPortOf d (c.u8 26)).peerNode != c.u16 30) .badParam 30,
      failIf (exportOf d (c.u8 24)).isSome .noResource 0,
      failIf (decide (48000000000 < portRate d (c.u8 26) + exportRate d (c.u8 27) (c.u8 28 == 1))) .bandwidth 0]
  land := fun _ ch d =>
    let c := ch.cmd
    if c.u8 25 = 1 then updExport (c.u8 24) none (loseStream false (c.u8 24) d)
    else updExport (c.u8 24) (some { port := c.u8 26, channel := c.u8 27, compact := c.u8 28 == 1, node := c.u16 30,
                                     lastFrame := 0, lastSent := [], lost := false }) d

def specStreamImport : OpSpec where
  len := 5
  fields := fun x =>
    let off := fun k => fIf k 8 (fun v => v % 64 != 0) .outOfRange
    if x.c.bit 25 0 then [fRange 24 1 0 3, fBits 25 1, fAny 26 2, fAny 28 4, fAny 32 8, fAny 40 8, fAny 48 8, fAny 56 4,
      fAny 60 4]
    else [fRange 24 1 0 3, fBits 25 1, fRange 26 1 0 3, fCode 27 1,
      fIf 28 2 (fun v => decide (511 < v) && v != 0xFFFF) .outOfRange, fRange 30 2 0 16383, off 32, off 40, off 48, fAny 56 4]
  step10 := fun d c =>
    if c.u8 25 = 1 then none else
    firstFail [
      failIf (!oxUp d (c.u8 26) || (oxPortOf d (c.u8 26)).peerNode != c.u16 30) .badParam 30,
      failIf (importOf d (c.u8 24)).isSome .noResource 0]
  land := fun _ ch d =>
    let c := ch.cmd
    if c.u8 25 = 1 then updImport (c.u8 24) none d
    else updImport (c.u8 24) (some {
      port := c.u8 26, compact := c.u8 27 == 1, owner := if c.u16 28 = 0xFFFF then .manager else .inst (c.u16 28),
      node := c.u16 30, buf0 := c.u64 32, buf1 := c.u64 40, buf2 := c.u64 48, size := c.u32 56,
      latest := none, frames := 0, sizes := [], lastFrame := 0, lost := false }) d

def specWakeMargin : OpSpec where
  len := 1
  fields := fun _ => [fRange 24 1 0 63, fRange 28 4 20 1000]
  land := fun _ ch d =>
    let g := ch.cmd.u8 24
    let x := { (groupOf d g).getD .zero with margin := ch.cmd.u32 28 }
    updTide (fun t => { t with groups := tput none t.groups g (if x = Group.zero then none else some x) }) d

end Sys2Proof.Machine
end

