-- ==== Sys2Proof/Machine/Instances.lean ====
section
/-! DEFINITION. Instances: windows, viewports, contexts, shares and the scheduler, and the commands that read them
(chapter 16). -/

namespace Sys2Proof.Machine

/-- Code of INST_STATE. -/
def instCode : InstState → Nat
  | .active => 0 | .quiescing => 1 | .quiesced => 2 | .resetting => 3

/-- INST_STATE of a page: command pages are always ACTIVE. -/
def pageState (d : Dev) : Issuer → InstState
  | .inst n => if (instOf d n).exists_ then (instOf d n).state else .quiesced
  | _ => .active

/-- Whether an instance is in the delegate's range (R485). -/
def inRange (d : Dev) (n : Nat) : Bool := decide (d.delegFirst ≤ n) && decide (n < d.delegFirst + d.delegCount)

/-- Step 3 of the M/D commands: a delegate names only instances of its range. -/
def permitNamed (x : Ctx) : Bool :=
  match x.c.issuer with
  | .delegate => inRange x.d (x.c.u16 24) || isProv x .instanceCreate (x.c.u16 24)
  | _ => true

/-- Step 8: the named instance has a context (R514). -/
def ownContext (x : Ctx) : Chk :=
  failIf (!(instOf x.d (x.c.u16 24)).exists_ && !isProv x .instanceCreate (x.c.u16 24)) .noContext 0

/-- An instance number, or the provisional number of a staged INSTANCE_CREATE (R121). -/
def fInst (off : Nat) : Field :=
  ⟨off, 2, fun x v => if v < 512 || isProv x .instanceCreate v then none else some .outOfRange⟩

/-- Changes an instance's state, and raises INSTANCE_STATE at once (R102, R515). -/
def setInstState (n : Nat) (st : InstState) (d : Dev) : Dev :=
  let d := updInst n (fun x => { x with state := st, stateT := now32 d }) d
  raiseNow 0x0102 n (le8 (instCode st) ++ le8 (b2n (instOf d n).hide))
    ((if (pageOf d n).eq.running then [n] else []) ++ [512] ++ (if inRange d n then [513] else [])) false d

/-! ## Windows (R490 to R492) -/

/-- Window entries in force: (device page, read-only). -/
def windowEntries (d : Dev) (pan : Bool) : List (Nat × Bool) :=
  d.insts.flatMap fun e => (if pan then e.2.pan else e.2.dram).filterMap (·.2)

/-- Entries left in a pool (R490). -/
def poolLeft (d : Dev) (pan : Bool) : Nat := (if pan then 16384 else 65536) - (windowEntries d pan).length

/-- Whether every page of a run may be mapped: action 0 only from FREE, action 1 also from SHARED. -/
def mayMap (d : Dev) (pan ro : Bool) (first count : Nat) : Bool :=
  let used := fun p => decide (first ≤ p) && decide (p < first + count)
  !(d.reserved.any fun r => r.1 == pan && used r.2) &&
    (windowEntries d pan).all fun e => !used e.1 || (ro && e.2)

/-- The checks of R491, in its order. -/
def windowFails (d : Dev) (c : Cmd) : Chk :=
  let n := c.u16 24
  let pan := c.u8 26 == 1
  let act := c.u8 27
  let first := c.u32 28
  let count := c.u32 32
  let dev := c.u32 36
  let own := n != 0xFFFF
  let devPages := if pan then 8192 else dramCapacity d.dram / 2097152
  let winPages := if pan then 8192 else bar2Bytes d (portOfIssuer d (.inst n)) / 2097152
  let usesDev := !own || act != 2
  let t := if pan then (instOf d n).pan else (instOf d n).dram
  let mapped := fun k => (tget none t (first + k)).isSome
  firstFail [
    failIf ((own && decide (winPages < first + count)) || (usesDev && decide (devPages < dev + count))) .outOfRange 0,
    failIf (pan && usesDev && (List.range count).any fun k => securePage d (dev + k)) .notPermitted 0,
    failIf (own && (List.range count).any fun k => mapped k == (act != 2)) .badParam 0,
    failIf (if !own then
        (if act = 2 then !((List.range count).all fun k => d.reserved.contains (pan, dev + k))
         else !mayMap d pan false dev count)
      else act != 2 && !mayMap d pan (act == 1) dev count) .notOwner 0,
    failIf (own && act != 2 && decide (poolLeft d pan < count)) .noResource 0]

/-- Layers of class W whose buffer lies in pages that a window change touches become class P (R167). -/
def windowLosesW (n : Nat) (pan : Bool) (first count : Nat) (d : Dev) : Dev :=
  let sz := if pan then 4096 else 2097152
  (layersAll d).foldl (fun d e =>
    let hit : Bool := match e.2.src with
      | some s => e.2.owner == .inst n && e.2.classW && s.mem == b2n pan &&
          (sourceExtents s).any fun x => decide (x.1 < (first + count) * sz) && decide (first * sz < x.1 + x.2)
      | none => false
    if hit then loseW e.1 5 (nextFrame d e.2.output) d else d) d

/-- Landing of INSTANCE_WINDOW: an unmap completes once its accesses have (R492). -/
def landWindow (txn : Nat) (ch : Change) (d : Dev) : Dev :=
  let c := ch.cmd
  let n := c.u16 24
  let pan := c.u8 26 == 1
  let act := c.u8 27
  let first := c.u32 28
  let count := c.u32 32
  let dev := c.u32 36
  if n = 0xFFFF then
    let run := (rangeFrom dev count).map fun p => (pan, p)
    { d with reserved := if act = 2 then d.reserved.filter (!run.contains ·) else d.reserved ++ run }
  else
    let set := fun (t : Tab (Option (Nat × Bool))) =>
      (List.range count).foldl (fun t k =>
        tput none t (first + k) (if act = 2 then none else some (dev + k, act == 1))) t
    let d := updInst n (fun x => if pan then { x with pan := set x.pan } else { x with dram := set x.dram }) d
    let d := windowLosesW n pan first count d
    if act = 2 then
      landingWaits txn (updInst n (fun x => { x with
        draining := x.draining ++ (rangeFrom first count).map fun p => (pan, p),
        unmapWaits := x.unmapWaits ++ [txn] }) d)
    else d

def specInstanceWindow : OpSpec where
  len := 2
  fields := fun _ => [⟨24, 2, fun x v => if v < 512 || v == 0xFFFF || isProv x .instanceCreate v then none else some .outOfRange⟩,
    fCode 26 1, fCode 27 2, fAny 28 4, fRange 32 4 1 8192, fAny 36 4]
  prov := [24]
  own := fun x => if x.c.u16 24 = 0xFFFF then none else ownContext x
  objs := fun _ ch =>
    let c := ch.cmd
    let pan := c.u8 26
    let dev := (rangeFrom (c.u32 36) (c.u32 32)).map fun p => (11, pan * 1048576 + p)
    if c.u16 24 = 0xFFFF then dev
    else ((rangeFrom (c.u32 28) (c.u32 32)).map fun p => (10, (c.u16 24 * 2 + pan) * 1048576 + p)) ++
      (if c.u8 27 = 2 then [] else dev)
  stillOwned := fun d ch => ch.cmd.u16 24 == 0xFFFF || (instOf d (ch.cmd.u16 24)).exists_
  step10 := windowFails
  land := landWindow
  results := fun d ch => le32 (poolLeft d (ch.cmd.u8 26 == 1))

/-! ## Viewports (R496) -/

def vpRect (c : Cmd) : Rect := { x := c.u16 28, y := c.u16 30, w := c.u16 32, h := c.u16 34 }

/-- Sets or removes a viewport, with the consequences of R162, R167 and R331. -/
def setViewport (n o slot : Nat) (r : Rect) (d0 : Dev) : Dev :=
  let r := if r.w = 0 || r.h = 0 then Rect.zero else r
  let d := updInst n (fun x => { x with viewports := tput .zero x.viewports (vpKey o slot) r }) d0
  clipMonitors o 0 (clipLayers o d0 d)

/-- Viewports on an output. -/
def viewportCount (d : Dev) (o : Nat) : Nat := (d.insts.map fun e => (viewportsOf d e.1 o).length).foldl (· + ·) 0

/-- Whether a change of viewports brings a layer above a visible pixel of a class W layer (R166). -/
def newlyCovers (before result : Dev) (o : Nat) : Bool :=
  (layersOn result o).any fun e => coversW result e.1 e.2 && !((layerOf before e.1).any (coversW before e.1))

def specInstanceViewport : OpSpec where
  len := 2
  fields := fun _ => [fInst 24, fRange 26 1 0 7, fRange 27 1 0 7, fAny 28 2, fAny 30 2, fAny 32 2, fAny 34 2]
  own := ownContext
  prov := [24]
  outs := fun _ ch => [ch.cmd.u8 26]
  objs := fun _ ch => [(12, ch.cmd.u16 24 * 64 + vpKey (ch.cmd.u8 26) (ch.cmd.u8 27))]
  stillOwned := fun d ch => (instOf d (ch.cmd.u16 24)).exists_
  prep := fun before after result ch =>
    let o := ch.cmd.u8 26
    let r := vpRect ch.cmd
    let a := activeOf result o
    (if newlyCovers before result o then [(2, .classViolation)] else []) ++
    if r.empty then [] else
    (if a.w < r.x + r.w || a.h < r.y + r.h then [(3, .outOfRange)] else []) ++
    (if 64 < viewportCount after o ∧ viewportCount before o < viewportCount after o then [(4, .noResource)] else [])
  land := fun _ ch d => setViewport (ch.cmd.u16 24) (ch.cmd.u8 26) (ch.cmd.u8 27) (vpRect ch.cmd) d

/-! ## Contexts and shares (R498, R114, R485) -/

/-- The lowest instance without a context that an issuer may create. -/
def freeContext (d : Dev) (i : Issuer) : Option Nat :=
  (List.range 512).find? fun n => !(instOf d n).exists_ && (i != .delegate || inRange d n)

def specInstanceCreate : OpSpec where
  len := 1
  permit := fun x => x.c.u16 24 == 0xFFFF || permitNamed x
  fields := fun _ => [fIf 24 2 (fun v => decide (511 < v) && v != 0xFFFF) .outOfRange, fAny 26 1]
  creates := fun _ => true
  alloc := fun d c => if c.u16 24 = 0xFFFF then freeContext d c.issuer else some (c.u16 24)
  objs := fun _ ch => [(13, ch.obj)]
  step10 := fun d c => failIf (if c.u16 24 = 0xFFFF then (freeContext d c.issuer).isNone
    else (instOf d (c.u16 24)).exists_) .noContext 0
  land := fun _ ch d =>
    if 512 ≤ ch.obj then d else
    updInst ch.obj (fun _ => { Instance.zero with
      exists_ := true, state := .active, weight := ch.cmd.u8 26, inForce := ch.cmd.u8 26, stateT := now32 d }) d
  results := fun _ ch => le16 ch.obj

def specInstanceShare : OpSpec where
  len := 1
  fields := fun _ => [fInst 24, fAny 26 1]
  own := ownContext
  prov := [24]
  objs := fun _ ch => [(13, ch.cmd.u16 24)]
  stillOwned := fun d ch => (instOf d (ch.cmd.u16 24)).exists_
  land := fun _ ch d => updInst (ch.cmd.u16 24) (fun x => { x with weight := ch.cmd.u8 26 }) d

def specDelegateRange : OpSpec where
  len := 1
  fields := fun _ => [fInst 24, fRange 26 2 0 512]
  step10 := fun d c => failIf (c.u16 26 != 0 && (decide (c.u16 24 < portBFirst d) || decide (512 < c.u16 24 + c.u16 26)))
    .outOfRange 0
  land := fun _ ch d => { d with delegFirst := ch.cmd.u16 24, delegCount := ch.cmd.u16 26 }

/-! ## The scheduler (R92, R113, R501 to R503) -/

/-- Slots of a queue's reply ring neither written and unread nor promised (R92). -/
def replySpace (q : SubQueue) : Nat :=
  if q.depth = 0 then 0 else q.depth - 1 - (q.rqTail + q.depth - q.rqHead) % q.depth - q.promised

/-- Whether the engine may take an entry of a submission queue (R86, R92). -/
def mayTake (q : SubQueue) : Bool := q.running && !q.draining && q.sqHead != q.sqTail && replySpace q != 0

def pageHasEntry (p : Page) : Bool := mayTake p.q0 || mayTake p.q1

/-- READY instances (R501), by the weights of the present round. -/
def readyInsts (d : Dev) : List Nat :=
  (tkeys d.insts).filter fun n =>
    let x := instOf d n
    x.exists_ && x.state == .active && x.inForce != 0 && pageHasEntry (pageOf d n)

/-- Engine fractions (R502): weights whose share of the engines left is one or more are capped at one, until none is. -/
def fillShares : Nat → Nat → List (Nat × Nat) → List (Nat × Rat)
  | 0, _, _ => []
  | fuel + 1, engines, ws =>
    let total := (ws.map (·.2)).foldl (· + ·) 0
    let capped := ws.filter fun w => decide (total ≤ w.2 * engines)
    if capped.isEmpty then ws.map fun w => (w.1, ((w.2 * engines : Nat) : Rat) / (max 1 total : Nat))
    else capped.map (fun w => (w.1, (1 : Rat))) ++
      fillShares fuel (engines - capped.length) (ws.filter fun w => !(decide (total ≤ w.2 * engines)))

def engineShares (d : Dev) (ready : List Nat) : List (Nat × Rat) :=
  fillShares (ready.length + 1) (min 16 ready.length) (ready.map fun n => (n, (instOf d n).inForce))

/-- The instance furthest below its fraction, the lowest number among equals. -/
def furthestBelow (d : Dev) (l : List Nat) : Option Nat :=
  l.foldl (fun (best : Option Nat) n => match best with
    | none => some n
    | some b => if (instOf d b).share < (instOf d n).share then some n else some b) none

/-- The instances that run in a round. -/
def pickRound (d : Dev) : Nat → List Nat → List Nat
  | 0, _ => []
  | k + 1, l => match furthestBelow d l with
    | none => []
    | some n => n :: pickRound d k (l.filter (· != n))

/-- SCHED_ROUND_START (R113, R114, R502): each ready instance is owed its fraction of a round, and the engines take those
that are owed most. -/
def execSchedRoundStart (s : State) : Host.Outcome State Fault Refusal :=
  onDev (fun _ d =>
    if !alive d then d else
    let d := (tkeys d.insts).foldl (fun d n => updInst n (fun x => { x with inForce := x.weight }) d) d
    let ready := readyInsts d
    let d := (tkeys d.insts).foldl (fun d n => if ready.contains n || (instOf d n).share = 0 then d
      else updInst n (fun x => { x with share := 0 }) d) d
    let d := (engineShares d ready).foldl (fun d e =>
      updInst e.1 (fun x => { x with share := x.share + (e.2 * 65536).floor }) d) d
    let run := pickRound d (min 16 ready.length) ready
    let d := run.foldl (fun d n => updInst n (fun x => { x with share := x.share - 65536, rounds := x.rounds + 1 }) d) d
    { d with running := run, ready := ready.length, rounds := d.rounds + 1,
             sup := { d.sup with hbSched := d.sup.hbSched + 1 } }) s

/-! ## Records and reads (R512, R513) -/

/-- Bit o: the instance has a viewport on output o. -/
def vpOutputs (d : Dev) (n : Nat) : Nat := maskOf ((List.range 8).filter fun o => !(viewportsOf d n o).isEmpty)

def mappedCount (t : Tab (Option (Nat × Bool))) : Nat := (t.filter (·.2.isSome)).length

/-- Instance record (R512). -/
def instRecord (d : Dev) (n : Nat) : List U32 :=
  let x := instOf d n
  let layers := ((layersAll d).filter fun e => e.2.owner == .inst n).length
  [word32 [(1, b2n x.exists_), (2, instCode (pageState d (.inst n))), (1, b2n x.hide), (1, portOfIssuer d (.inst n)),
     (1, b2n (inRange d n)), (1, b2n x.flr), (17, 0), (8, x.weight)],
   word32 [(16, mappedCount x.dram), (16, mappedCount x.pan)],
   word32 [(8, vpOutputs d n), (16, 0), (8, layers)], x.rounds, x.taken, x.windowFaults, x.stateT, 0]

/-- Scheduler and link registers (unit 0x11). -/
def schedWords (d : Dev) : List U32 :=
  [word32 [(6, 0), (10, d.ready), (11, 0), (5, d.running.length)],
   word32 [(6, 0), (10, d.delegFirst), (6, 0), (10, d.delegCount)],
   word32 [(1, b2n d.power.cfg.split), (21, 0), (10, d.power.cfg.portB)], d.rounds]

def specInstanceStatus : OpSpec where
  len := 1
  permit := permitNamed
  fields := fun _ => [fInst 24, fRange 26 1 0 1]
  own := ownContext
  read := fun _ d c => (d, .ok (fourWords (instRecord d (c.u16 24)) (4 * c.u8 26)))

def specInstanceInfo : OpSpec where
  read := fun _ d c => (d, .ok (match c.issuer with
    | .inst n =>
      let x := instOf d n
      le16 n ++ le8 (instCode x.state) ++ le8 x.weight ++ le16 (mappedCount x.dram) ++ le16 (mappedCount x.pan) ++
        le8 (vpOutputs d n) ++ [0, 0, 0] ++ le32 (nthD 1024 (portOfIssuer d c.issuer) d.bar2)
    | .manager => le16 0x1FF ++ [0, 0, 0, 0, 0, 0, 0, 0, 0, 0] ++ le32 65536
    | .delegate => le16 0x1FF))

def specViewportList : OpSpec where
  len := 1
  fields := fun _ => [fRange 24 1 0 7, ⟨25, 1, fun _ v => if 7 < v then some .outOfRange else if v % 2 = 1 then some .badParam else none⟩]
  read := fun _ d c => (d, .ok (match c.issuer with
    | .inst n => (List.range 2).flatMap fun k =>
        let r := tget Rect.zero (instOf d n).viewports (vpKey (c.u8 24) (c.u8 25 + k))
        le16 r.x ++ le16 r.y ++ le16 r.w ++ le16 r.h
    | _ => []))

def specQueueStats : OpSpec where
  len := 1
  fields := fun _ => [fRange 24 1 0 1]
  read := fun _ d c =>
    let q := queueOf (pageOf d (pageKey c.issuer)) (c.u8 24)
    (d, .ok (le32 q.taken.toNat ++ le32 q.replied.toNat ++ le32 q.quiesced.toNat))

/-! ## The lifecycle's own checks (R500, R507, R508, R514) -/

/-- Whether an instance is QUIESCED and no INSTANCE_DESTROY runs on it. -/
def idleQuiesced (d : Dev) (n : Nat) : Bool := (instOf d n).state == .quiesced && (instOf d n).resetBy.isNone

def fQuiesceAct : Field := fCode 26 2

def specInstanceQuiesce : OpSpec where
  len := 1
  permit := permitNamed
  fields := fun _ => [fInst 24, fQuiesceAct]
  own := ownContext
  step10 := fun d c => failIf (c.u8 26 == 2 && !idleQuiesced d (c.u16 24)) .instanceBusy 0

def specInstanceReset : OpSpec where
  len := 1
  permit := permitNamed
  fields := fun _ => [fInst 24]
  own := ownContext
  step10 := fun d c => failIf (!idleQuiesced d (c.u16 24)) .instanceBusy 0

def specInstanceDestroy : OpSpec where
  len := 1
  fields := fun _ => [fInst 24]
  own := ownContext
  step10 := fun d c => failIf (!idleQuiesced d (c.u16 24)) .instanceBusy 0

/-- WINDOW_UNMAP_DRAINED (R492): no access through an unmapped page is in progress any more. -/
def execWindowUnmapDrained (n : Nat) (s : State) : Host.Outcome State Fault Refusal :=
  onDev (fun _ d =>
    let ids := (instOf d n).unmapWaits
    ids.foldl (fun d id => landingDone id d) (updInst n (fun x => { x with draining := [], unmapWaits := [] }) d)) s

end Sys2Proof.Machine
end

