-- ==== Sys2Proof/Machine/Scanout.lean ====
section
/-! DEFINITION. Scan-out and guard planes: pixels, the panel LUT, dither, latches, fail colours and what region monitors
are fed (chapter 8). -/

namespace Sys2Proof.Machine

/-! ## Guard planes (R260 to R266) -/

/-- GUARD_COMMIT_WRITE (R263): the output's records are to be latched at its next latch. -/
def execGuardCommitWrite (o : Nat) (s : State) : Host.Outcome State Fault Refusal :=
  onDev (fun _ d => if secUp d then updOut o (fun x => { x with guardPending := true }) d else d) s

/-- Whether a guard region lies in the secure partition (R261). -/
def guardRegionOk (d : Dev) (base size : Nat) : Bool :=
  size == 0 || (decide (d.sec.first ≤ base) && decide (base + size ≤ d.sec.first + d.sec.count))

/-- GUARD_REGION_WRITE (R261): GUARD_SIZE or GUARD_BASE takes its field unless the region would leave the secure
partition; bit 31 of a GUARD_BASE write clears REGION_REFUSED first. -/
def execGuardRegionWrite (size : Bool) (value : U32) (s : State) : Host.Outcome State Fault Refusal :=
  onDev (fun _ d =>
    if !secUp d then d else
    let v := value.toNat
    let d := if !size && v.testBit 31 then { d with regionRefused := false } else d
    let b := if size then d.guardBase else bitsOf v 24 12
    let n := if size then min 3072 (bitsOf v 11 0) else d.guardSize
    if guardRegionOk d b n then { d with guardBase := b, guardSize := n } else { d with regionRefused := true }) s

/-- The latch checks of an enabled plane (R263), against a region of `size` bytes. -/
def guardOk (r : GuardRec) (size : Nat) : Bool :=
  !r.enable ||
    (decide (r.w * guardBpp r ≤ r.pitch) && decide (r.base + r.pitch * (r.h - 1) + r.w * guardBpp r ≤ size) &&
      (!r.indexed || decide (r.palette + 1024 ≤ size)) && decide (r.x ≤ 7679) && decide (r.y ≤ 4319) &&
      decide (1 ≤ r.w) && decide (r.w ≤ 1920) && decide (1 ≤ r.h) && decide (r.h ≤ 1080) && r.pitch % 64 == 0 &&
      decide (64 ≤ r.pitch) && decide (r.pitch ≤ 8192) && r.base % 64 == 0 && r.palette % 64 == 0)

/-- The rectangle of a guard record. -/
def guardRect (r : GuardRec) : Rect := { x := r.x, y := r.y, w := r.w, h := r.h }

/-- Pages of the instances with a viewport on an output that meets one of some rectangles. -/
def viewersOf (d : Dev) (o : Nat) (rs : List Rect) : List Nat :=
  (tkeys d.insts).filter fun n => (viewportsOf d n o).any fun v => rs.any fun r => !(v.meet r).empty

/-- GUARD_COVER for one plane (R266): nothing unless the plane appears, moves or goes. -/
def coverEvent (o g : Nat) (old new : GuardRec) (frame : U32) (d : Dev) : Dev :=
  let say := fun (shown : Nat) (r : Rect) (rs : List Rect) (d : Dev) =>
    raise 0x0512 o (le8 g ++ le8 shown ++ [0, 0] ++ le16 r.x ++ le16 r.y ++ le16 r.w ++ le16 r.h ++ le32 frame.toNat)
      (512 :: viewersOf d o rs) false d
  if new.enable then
    if new.silent || (old.enable && guardRect old == guardRect new) then d
    else say 1 (guardRect new) (guardRect new :: if old.enable then [guardRect old] else []) d
  else if old.enable && !old.silent then say 0 (guardRect old) [guardRect old] d
  else d

/-- GUARD_LATCH (R261, R263, R266): the shadow records that pass their checks become live, with the region in force. -/
def execGuardLatch (o : Nat) (s : State) : Host.Outcome State Fault Refusal :=
  onDev (fun _ d =>
    let x := outOf d o
    if !x.enabled || !x.guardPending then d else
    let bad := maskOf ((List.range x.guards.length).filter fun g => !guardOk (nthD GuardPlane.zero g x.guards).shadow (d.guardSize * 4096))
    let frame := nextNumber d o
    let next := x.guards.zipIdx.map fun (p, g) =>
      if bad.testBit g then p else { p with live := p.shadow, base := d.guardBase, size := d.guardSize }
    let d := updOut o (fun x => { x with
      guards := next, guardRefused := bad, guardLatches := x.guardLatches + 1, guardPending := false }) d
    let d := if bad = 0 then d else raise 0x0513 o (le8 bad ++ [0, 0, 0] ++ le32 frame.toNat) [] true d
    if !x.report then d else
    (x.guards.zip next).zipIdx.foldl (fun d e => coverEvent o e.2 e.1.1.live e.1.2.live frame d) d) s

/-! ## Pixels (R256 to R258) -/

/-- Step 1: the 12-bit codes of a stored pixel. -/
def expandStored (compact : Bool) (b : List Byte) : Nat × Nat × Nat :=
  if compact then
    let e := fun i => let v := (nthD (0 : Byte) i b).toNat
                      v * 16 + v / 16
    (e 2, e 1, e 0)
  else
    let w := leNat b
    let e := fun c => c * 4 + c / 256
    (e (w / 1048576 % 1024), e (w / 1024 % 1024), e (w % 1024))

/-- R257: one component under a guard pixel of effective alpha `a` and colour byte `v`. -/
def guardMix (a v x12 : Nat) : Nat := ((v * 16 + v / 16) * a + x12 * (255 - a) + 127) / 255

/-- R257: a pixel under a guard pixel given as an ARGB8888 word. -/
def guardPixel (planeAlpha argb : Nat) (p : Nat × Nat × Nat) : Nat × Nat × Nat :=
  let a := (argb / 16777216 * planeAlpha + 127) / 255
  (guardMix a (argb / 65536 % 256) p.1, guardMix a (argb / 256 % 256) p.2.1, guardMix a (argb % 256) p.2.2)

/-- The dither table of R258. -/
def ditherB (y x : Nat) : Nat := nthD 0 (y % 4 * 4 + x % 4) [0, 8, 2, 10, 12, 4, 14, 6, 3, 11, 1, 9, 15, 7, 13, 5]

/-- Step 4 (R258): a 12-bit code reduced to the link's bits per component. -/
def reduceCode (m : Mode) (f x y p : Nat) : Nat :=
  if m.bpc10 then min 1023 ((p - p / 1024 + 2) / 4)
  else
    let dd := match m.dither with
      | 0 => 8
      | 1 => ditherB y x
      | _ => ditherB (y + f / 2) (x + f)
    min 255 ((p - p / 256 + dd) / 16)

/-- GUARD_FAULT (R265): at most once a frame for a plane. -/
def guardFault (o g line : Nat) (st : Status) (d : Dev) : Dev :=
  let x := outOf d o
  let seen := (nthD GuardPlane.zero g x.guards).faultFrame == some x.frame
  let d := updOut o (fun x => { x with
    guardFaults := x.guardFaults + 1,
    guards := modifyAt (fun p => { p with faultFrame := some x.frame }) g x.guards }) d
  if seen then d else
  raise 0x0514 o (le8 g ++ [0] ++ le16 (statusCode st) ++ le32 x.frame.toNat ++ le16 line) [512] true d

/-- The planes that a line shows, from the line buffers (R264, R265); `late` names those whose line is not complete. -/
def guardLines (o line : Nat) (late : List Nat) (d : Dev) : List GuardLine × Dev :=
  ((outOf d o).guardBuf.filter (·.line == line)).foldl (fun (acc : List GuardLine × Dev) g =>
    let (ls, d) := acc
    if late.contains g.plane then (ls ++ [{ g with words := none }], guardFault o g.plane line .stalled d)
    else if g.words.isNone then (ls ++ [g], guardFault o g.plane line .memFault d)
    else (ls ++ [g], d)) ([], d)

/-- One pixel under the planes of its line. -/
def underGuards (gs : List GuardLine) (x : Nat) (p : Nat × Nat × Nat) : Nat × Nat × Nat :=
  gs.foldl (fun p g =>
    if x < g.rec_.x || g.rec_.x + g.rec_.w ≤ x then p else
    let argb := match g.words with
      | some w => nthD 0 (x - g.rec_.x) w
      | none => g.rec_.fail.toNat
    guardPixel g.rec_.alpha argb p) p

/-- The transmitted pixels of a line (R256): R, G, B codes. -/
def linePixels (d : Dev) (o : Nat) (m : Mode) (line : Nat) (gs : List GuardLine) : List (Nat × Nat × Nat) :=
  let x := outOf d o
  let n := storeBytes m
  let bytes := storeRead d o x.scanPages (line * m.hActive * n) (m.hActive * n)
  (pixelsOf n bytes).zipIdx.map fun (b, i) =>
    let p := underGuards gs i (expandStored m.compact b)
    let out := fun k c => reduceCode m x.frame.toNat i line (panelEntry k c)
    (out x.panelLive.r p.1, out x.panelLive.g p.2.1, out x.panelLive.b p.2.2)

/-- Bytes a monitor is fed for one pixel (R328). -/
def monBytes (m : Mode) (p : Nat × Nat × Nat) : List Byte :=
  if m.bpc10 then le32 (p.1 * 1048576 + p.2.1 * 1024 + p.2.2) else le8 p.1 ++ le8 p.2.1 ++ le8 p.2.2

/-- Feeds a line to one monitor (R327, R328, R332 to R334). -/
def feedMonitor (o line : Nat) (m : Mode) (frame : U32) (up : Bool) (live : List GuardRec) (px : List (Nat × Nat × Nat))
    (faults : List GuardRec) (mon : Monitor) : Monitor :=
  match mon.live with
  | none => mon
  | some l =>
    let cfg := l.cfg
    let r := l.rect
    if line < r.y || r.y + r.h ≤ line then mon else
    let first := line == r.y
    let reg := if first then cvRun cfg cfg.init.toNat (monFold o (if m.bpc10 then 10 else 8) frame r) else mon.reg.toNat
    let data := ((px.drop r.x).take r.w).flatMap (monBytes m)
    let normal := l.owner != some .secure
    { mon with
      reg := BitVec.ofNat 64 (cvRun cfg reg data), taking := if first then mon.armed else mon.taking,
      covered := mon.covered || (normal && live.any fun g => g.enable && !((guardRect g).meet r).empty),
      linkDown := mon.linkDown || !up, guardFault := mon.guardFault || faults.any fun g => !((guardRect g).meet r).empty }

/-- SCANOUT_LINE_START (R256 to R258, R264, R265, R295, R327, R328): scan-out forms the next active line. The last line
of a disabled output closes it, and that of a mode switch stops the video stream (R292). -/
def execScanoutLineStart (o : Nat) (meet : LineMeet) (s : State) : Host.Outcome State Fault Refusal :=
  onDev (fun _ d =>
    let x := outOf d o
    match x.scanMode with
    | none => d
    | some m =>
      if !x.scanning || m.vActive ≤ x.nextLine then d else
      let line := x.nextLine
      let d := meet.rivals.foldl (fun d r => portAsk r.1 r.2 d) d
      let d := if line + 4 < m.vActive then bufferGuardLine o (line + 4) d else d
      let (gs, d) := guardLines o line meet.late d
      let px := linePixels d o m line gs
      let live := x.guards.map (·.live)
      let faults := (gs.filter (·.words.isNone)).map (·.rec_)
      let d := updOut o (fun x => { x with
        line := line, nextLine := line + 1, guardBuf := x.guardBuf.filter (line < ·.line),
        pixel := px.map fun p => BitVec.ofNat 64 (p.1 * 2 ^ 32 + p.2.1 * 2 ^ 16 + p.2.2) }) d
      let d := { d with monitors := d.monitors.map fun e =>
        if e.1 / 16 = o then (e.1, feedMonitor o line m x.frame x.link.up live px faults e.2) else e }
      if line + 1 < m.vActive then d else if !x.enabled then closeOutput o d else if x.switching then beginSwitch o d else d) s

end Sys2Proof.Machine
end

