-- ==== Sys2Proof/Machine/Touch.lean ====
section
/-! DEFINITION. Family 0x08: touch ports, the sieve on reports, mapping, hit testing and delivery (chapter 11). -/

namespace Sys2Proof.Machine

/-- Code of a port state (R341). -/
def portCode : PortState → Nat
  | .off => 0 | .descriptor => 1 | .reset => 2 | .running => 3 | .recovering => 4 | .failed => 5

/-- TOUCH_FAULT (R360), once the port has its new state. -/
def touchFault (p cause : Nat) (st : Status) (d : Dev) : Dev :=
  raise 0x0802 p (le8 cause ++ le8 (portCode (portOf d p).state) ++ le16 (statusCode st)) [512] false d

/-! ## Bring-up and recovery (R340, R346) -/

/-- Bring-up starts from a step. -/
def startBringUp (p step : Nat) (st : PortState) (d : Dev) : Dev :=
  updPort p (fun x => { x with
    state := st, step := step, reading := false, emptyReads := 0, scan := 0, entries := 0 }) d

/-- A transfer, a reset or the interrupt failed (R346): recovery from step 3, or FAILED after three that failed. -/
def recoverPort (p cause : Nat) (st : Status) (failed : Bool) (d : Dev) : Dev :=
  let d := cancelOn p 1 (fun _ => true) d
  let n := (portOf d p).failures + b2n failed
  let d := updPort p (fun x => { x with failures := n }) d
  if 3 ≤ n then
    touchFault p 4 st (updPort p (fun x => { x with state := .failed, step := 0, reading := false }) d)
  else touchFault p cause st (startBringUp p 3 .recovering d)

/-- The active area of the frame being scanned, or of the mode. -/
def touchArea (d : Dev) (o : Nat) : Rect :=
  match (outOf d o).scanMode with
  | some m => { x := 0, y := 0, w := m.hActive, h := m.vActive }
  | none => activeOf d o

/-- The calibration that maps the logical range onto the active area in force (R349). -/
def defaultCalib (d : Dev) (x : TouchPort) : List Int :=
  let a := touchArea d x.output
  let c0 : Int := (65536 * a.w / (x.xMax - x.xMin + 1) : Nat)
  let c4 : Int := (65536 * a.h / (x.yMax - x.yMin + 1) : Nat)
  [c0, 0, -c0 * (x.xMin : Int), 0, c4, -c4 * (x.yMin : Int), 0, 0, 65536]

/-- TOUCH_BRINGUP_STEP_DONE (R340, R349): the step that runs is done. -/
def execTouchBringupStepDone (p : Nat) (res : BringUp) (s : State) : Host.Outcome State Fault Refusal :=
  onDev (fun _ d =>
    let x := portOf d p
    let reject := fun d => touchFault p 0 .badParam (updPort p (fun x => { x with state := .failed, step := 0 }) d)
    match x.step, res with
    | 0, _ => d
    | 2, .ranges x0 x1 y0 y1 =>
      let bad := fun (v : Int) => decide (v < 0) || decide (65535 < v)
      if bad x0 || bad x1 || bad y0 || bad y1 then reject d else
      let d := updPort p (fun x => { x with
        xMin := x0.toNat, xMax := x1.toNat, yMin := y0.toNat, yMax := y1.toNat, step := 3, state := .reset }) d
      updPort p (fun x => { x with calib := defaultCalib d x }) d
    | _, .ranges _ _ _ _ => d
    | n, .rejected => if n ≤ 2 then reject d else d
    | 1, .done => updPort p (fun x => { x with step := 2 }) d
    | 3, .done => updPort p (fun x => { x with step := 4 }) d
    | 4, .done => updPort p (fun x => { x with step := 0, state := .running, failures := 0 }) d
    | _, .done => d) s

/-- TOUCH_RESET_TIMEOUT (R340, R346): the reset of step 3 did not complete within 1 s. -/
def execTouchResetTimeout (p : Nat) (s : State) : Host.Outcome State Fault Refusal :=
  onDev (fun _ d => if (portOf d p).step != 3 then d else recoverPort p 1 .timeout ((portOf d p).state == .recovering) d) s

/-- TOUCH_TRANSFER_TIMEOUT (R346): a transfer did not complete within 5 ms. -/
def execTouchTransferTimeout (p : Nat) (s : State) : Host.Outcome State Fault Refusal :=
  onDev (fun _ d =>
    let x := portOf d p
    if !x.reading && x.step = 0 then d else
    let d := updPort p (fun x => { x with timeouts := x.timeouts + 1 }) d
    recoverPort p 2 .timeout (x.state == .recovering) d) s

/-- TP_IRQ_ASSERT (R339, R346): the interrupt passed its filter; a report read starts. -/
def execTpIrqAssert (p : Nat) (s : State) : Host.Outcome State Fault Refusal :=
  onDev (fun _ d => updPort p (fun x => { x with reading := x.reading || x.state == .running }) d) s

/-- TOUCH_STUCK_TIMEOUT (R347): a contact has stayed within the tolerance for the stuck time. -/
def execTouchStuckTimeout (p slot : Nat) (s : State) : Host.Outcome State Fault Refusal :=
  onDev (fun _ d =>
    let x := portOf d p
    match x.contacts.find? (·.slot == slot) with
    | none => d
    | some c =>
      if x.stuckS = 0 || nowNs d < c.since + x.stuckS * 1000000000 then d
      else cancelContact p 0 c (updPort p (fun x => { x with stuck := x.stuck + 1 }) d)) s

/-! ## Mapping and hit testing (R348, R350, R351) -/

/-- R348: output position in 1/16 pixel, or none where d ≤ 0. -/
def mapTouch (c : List Int) (u v : Nat) : Option (Int × Int) :=
  let k := fun i => nthD 0 i c
  let den := k 6 * u + k 7 * v + k 8
  if den ≤ 0 then none
  else some (16 * (k 0 * u + k 1 * v + k 2) / den, 16 * (k 3 * u + k 4 * v + k 5) / den)

/-- What a point hits (R351). -/
inductive Hit where
  | plane (g : Nat) (r : GuardRec)
  | layer (n : Nat) (l : Layer)
  deriving DecidableEq, Repr

/-- R350, R351: guard planes from plane 3 down, then layers from the highest. -/
def hitTest (d : Dev) (o x y : Nat) : Option Hit :=
  let out := outOf d o
  if !out.scanning then none else
  let plane := ((List.range 4).reverse.find? fun g =>
    let r := (nthD GuardPlane.zero g out.guards).live
    r.enable && r.input && (guardRect r).has x y)
  match plane with
  | some g => some (.plane g (nthD GuardPlane.zero g out.guards).live)
  | none =>
    let active := fun (ow : Owner) => match ow with
      | .inst n => (instOf d n).exists_ && (instOf d n).state == InstState.active
      | _ => true
    let hits : List FrameLayer := match out.shown with
      | some f => f.layers.filter fun (l : FrameLayer) => l.layer.visible && l.layer.input && active l.layer.owner && l.clips.any (·.has x y)
      | none => []
    (hits.foldl (fun (best : Option FrameLayer) l =>
      match best with
      | none => some l
      | some b => if b.layer.z < l.layer.z || (b.layer.z == l.layer.z && b.number < l.number) then some l else best) none).map
      fun l => .layer l.number l.layer

/-- Key of an owner's serial counter. -/
def serialKey (ow : Owner) : Nat := (ownerPage ow).getD 514

/-- Starts the click of the content hit (R357). -/
def startClick (h : Hit) (d : Dev) : Dev :=
  match h with
  | .plane _ r => if r.click then silentTrigger r.channel r.effect r.amplitude 0 2 none d else d
  | .layer _ l =>
    match l.click with
    | none => d
    | some k => silentTrigger k.channel k.effect k.amplitude k.duration 0 (some (issuerOf l.owner)) d

/-- A touch-down at an output position in 1/16 pixel (R348 to R353, R356, R357). -/
def touchDown (p ident : Nat) (pos : Option (Int × Int)) (d : Dev) : Dev :=
  let x := portOf d p
  let a := touchArea d x.output
  let slot := ((List.range 10).find? fun k => x.contacts.all (·.slot != k)).getD 0
  let now := nowNs d
  let blank : Contact := { slot := slot, ident := ident, owner := none, serial := 0, ownerSlot := 0, layer := 0xFFFF,
                           frame := (outOf d x.output).frame, x := 0, y := 0, anchorX := 0, anchorY := 0, since := now }
  let lost := fun c d => updPort p (fun x => { x with unclaimed := x.unclaimed + 1, contacts := x.contacts ++ [c] }) d
  match pos with
  | none => lost blank d
  | some (px, py) =>
    if px < 0 || py < 0 || (16 * a.w : Nat) ≤ px || (16 * a.h : Nat) ≤ py then lost blank d else
    let c := { blank with x := px.toNat, y := py.toNat, anchorX := px.toNat, anchorY := py.toNat }
    let give := fun (ow : Owner) (layer : Nat) (d : Dev) =>
      let os := ((List.range 10).find? fun k => (portOf d p).contacts.all fun e => e.owner != some ow || e.ownerSlot != k).getD 0
      let n := tget 0 d.serials (serialKey ow)
      let c := { c with owner := some ow, serial := BitVec.ofNat 32 n, ownerSlot := os, layer := layer }
      let d := { d with serials := tput 0 d.serials (serialKey ow) ((n + 1) % 2 ^ 32) }
      updPort p (fun x => { x with contacts := x.contacts ++ [c] }) d
    match hitTest d x.output (px.toNat / 16) (py.toNat / 16) with
    | some (.plane g r) =>
      -- the spec names no layer number for a plane's contact: a free value
      let (v, d) := drawNat d
      startClick (.plane g r) (give .secure (v % 65536) d)
    | some (.layer n l) => startClick (.layer n l) (give l.owner n d)
    | none =>
      if x.orphans then give .manager 0xFFFF (updPort p (fun x => { x with unclaimed := x.unclaimed + 1 }) d)
      else lost c d

/-! ## Reports (R342 to R347) -/

/-- Refills the token bucket (R345): units of 10^-9 token. -/
def refill (now : Nat) (x : TouchPort) : TouchPort :=
  { x with tokens := min 8000000000 (x.tokens + (now - x.tokensAt) * x.rateLimit), tokensAt := now }

/-- A contact's new position after touch-down: clamped to the active area (R348), with its stuck anchor (R347). -/
def moveContact (tol : Nat) (a : Rect) (now : Nat) (pos : Option (Int × Int)) (c : Contact) : Contact :=
  match pos with
  | none => c
  | some (px, py) =>
    let x := (clampInt 0 ((16 * a.w : Nat) - 1 : Int) px).toNat
    let y := (clampInt 0 ((16 * a.h : Nat) - 1 : Int) py).toNat
    let dx := max x c.anchorX - min x c.anchorX
    let dy := max y c.anchorY - min y c.anchorY
    if dx * dx + dy * dy ≤ (16 * tol) * (16 * tol) then { c with x := x, y := y }
    else { c with x := x, y := y, anchorX := x, anchorY := y, since := now }

/-- One entry of an accepted scan. Answers the slot and phase of the event it causes, if any; a lift leaves its contact
in the list until the events are written. -/
def touchEntry (p : Nat) (t : TouchPoint) (d : Dev) : Option (Nat × Nat) × Dev :=
  let x := portOf d p
  let inRange := decide (x.xMin ≤ t.x) && decide (t.x ≤ x.xMax) && decide (x.yMin ≤ t.y) && decide (t.y ≤ x.yMax)
  let d := updPort p (fun x => { x with entries := x.entries + 1 }) d
  if 10 ≤ x.entries then
    (none, updPort p (fun x => { x with
      extra := x.extra + 1, ignored := if t.tip && x.contacts.all (·.ident != t.ident) then t.ident :: x.ignored.filter (· != t.ident) else x.ignored }) d)
  else if x.ignored.contains t.ident then
    (none, if t.tip then d else updPort p (fun x => { x with ignored := x.ignored.filter (· != t.ident) }) d)
  else match x.contacts.find? (·.ident == t.ident) with
    | some c =>
      if !t.tip then (some (c.slot, 2), d)
      else if !inRange then (none, updPort p (fun x => { x with range := x.range + 1 }) d)
      else
        let c' := moveContact x.stuckPx (touchArea d x.output) (nowNs d) (mapTouch x.calibLive t.x t.y) c
        let d := updPort p (fun x => { x with contacts := x.contacts.map fun e => if e.slot == c.slot then c' else e }) d
        (if c'.x == c.x && c'.y == c.y then none else some (c.slot, 1), d)
    | none =>
      if !t.tip then (none, d)
      else if !inRange then (none, updPort p (fun x => { x with range := x.range + 1 }) d)
      else if 10 ≤ x.contacts.length then
        (none, updPort p (fun x => { x with extra := x.extra + 1, ignored := t.ident :: x.ignored }) d)
      else
        let d := touchDown p t.ident (mapTouch x.calibLive t.x t.y) d
        (((portOf d p).contacts.getLast?).map fun c => (c.slot, 0), d)

/-- The entries of a report, then its events in port-slot order (R356). -/
def touchEntries (p : Nat) (pts : List TouchPoint) (d : Dev) : Dev :=
  let (evs, d) := pts.foldl (fun (acc : List (Nat × Nat) × Dev) t =>
    let (e, d) := touchEntry p t acc.2
    (acc.1 ++ e.toList, d)) ([], d)
  let d := (List.range 10).foldl (fun d k =>
    match (portOf d p).contacts.find? (·.slot == k) with
    | none => d
    | some c => (evs.filter (·.1 == k)).foldl (fun d e => contactEvent p e.2 0 c d) d) d
  updPort p (fun x => { x with contacts := x.contacts.filter fun c => !evs.contains (c.slot, 2) }) d

/-- TOUCH_REPORT_ARRIVAL (R342 to R357): a report has been read from a controller. -/
def execTouchReportArrival (p : Nat) (report : TouchReport) (s : State) : Host.Outcome State Fault Refusal :=
  onDev (fun _ d =>
    if (portOf d p).state != .running then d else
    let d := updPort p (fun x => { x with reading := false }) d
    if report.empty then
      let d := updPort p (fun x => { x with emptyReads := x.emptyReads + 1 }) d
      if 3 ≤ (portOf d p).emptyReads then recoverPort p 3 .timeout true d else d
    else
      let d := updPort p (fun x => refill (nowNs d) { x with emptyReads := 0 }) d
      let x := portOf d p
      let more := report.hybrid && !report.last
      let leave := fun (k : Nat) (d : Dev) => updPort p (fun x => { x with
        scan := if more then k else 0, entries := if more then x.entries else 0 }) d
      if x.scan = 2 then leave 2 d
      else if !report.lengthOk then leave 2 (updPort p (fun x => { x with length := x.length + 1 }) d)
      else if x.scan = 1 then leave 1 (touchEntries p report.points d)
      else if x.tokens < 1000000000 then leave 2 (updPort p (fun x => { x with rate := x.rate + 1 }) d)
      else
        let d := updPort p (fun x => { x with
          tokens := x.tokens - 1000000000, scans := x.scans + 1, entries := 0, calibLive := x.calib }) d
        leave 1 (touchEntries p report.points d)) s

/-! ## PD_FEED and the feedback drive island (R355, R541, R542) -/

/-- PD_FEED goes off: contacts are cancelled and ports stop. -/
def stopTouch (d : Dev) : Dev :=
  let d := cancelAll 6 (fun _ => true) d
  { d with touch := d.touch.map fun x => { x with state := .off, step := 0, reading := false, ignored := [], scan := 0 } }

/-- PD_FEED is on again: enabled ports run bring-up (R539). -/
def resumeTouch (d : Dev) : Dev :=
  (List.range 8).foldl (fun d p => if (portOf d p).enabled then startBringUp p 1 .descriptor d else d) d

/-! ## Commands (R358, R359) -/

def specTouchPort : OpSpec where
  len := 2
  fields := fun x =>
    let spi := x.c.bit 25 1
    [fRange 24 1 0 7, fBits 25 7, fRange 26 1 0 7, if spi then fAny 27 1 else fRange 27 1 0x08 0x77, fAny 28 2,
     if spi then fRange 30 2 1000 25000 else fRange 30 2 100 1000, fIf 32 1 (fun v => v != 0 && v != 3) .badParam]
  land := fun _ ch d =>
    let c := ch.cmd
    let p := c.u8 24
    let d := cancelOn p 2 (fun _ => true) d
    let d := updPort p (fun x => { x with
      enabled := c.bit 25 0, spi := c.bit 25 1, orphans := c.bit 25 2, output := c.u8 26, i2cAddr := c.u8 27,
      descReg := c.u16 28, busRate := c.u16 30, spiMode := c.u8 32, failures := 0, ignored := [] }) d
    if c.bit 25 0 && domainOn d 10 then startBringUp p 1 .descriptor d
    else updPort p (fun x => { x with state := .off, step := 0, reading := false }) d

/-- The calibration of a packet. -/
def calibOf (c : Cmd) : List Int := (List.range 9).map fun k => signed 32 (c.u32 (28 + 4 * k))

/-- Whether d is positive at every corner of the logical range (R359). -/
def calibOk (x : TouchPort) (k : List Int) : Bool :=
  [(x.xMin, x.yMin), (x.xMin, x.yMax), (x.xMax, x.yMin), (x.xMax, x.yMax)].all fun q => (mapTouch k q.1 q.2).isSome

def specTouchCalib : OpSpec where
  len := 5
  fields := fun _ => [fRange 24 1 0 7, fBits 25 1] ++ (List.range 9).map fun k => fAny (28 + 4 * k) 4
  step10 := fun d c => failIf (!c.bit 25 0 && !calibOk (portOf d (c.u8 24)) (calibOf c)) .outOfRange 28
  land := fun _ ch d => updPort (ch.cmd.u8 24) (fun x => { x with
    calib := if ch.cmd.bit 25 0 then defaultCalib d x else calibOf ch.cmd }) d

def specTouchSieve : OpSpec where
  len := 1
  fields := fun _ => [fRange 24 1 0 7, fRange 26 2 0 600, fRange 28 2 1 64, fRange 30 2 60 480]
  land := fun _ ch d => updPort (ch.cmd.u8 24) (fun x => { refill (nowNs d) x with
    stuckS := ch.cmd.u16 26, stuckPx := ch.cmd.u16 28, rateLimit := ch.cmd.u16 30 }) d

/-- The contacts a TOUCH_CANCEL names (R358). -/
def cancelNames (i : Issuer) (c : Cmd) (t : Contact) : Bool :=
  if c.bit 25 0 then (if i == .manager then t.owner != some .secure else t.owner == some (ownerOf i))
  else t.owner == some (ownerOf i) && t.serial.toNat == c.u32 28

def specTouchCancel : OpSpec where
  len := 1
  fields := fun _ => [fRange 24 1 0 7, fBits 25 1, fAny 28 4]
  own := fun x => failIf (!x.c.bit 25 0 && !(portOf x.view (x.c.u8 24)).contacts.any (cancelNames x.c.issuer x.c)) .notOwner 0
  land := fun _ ch d =>
    let p := ch.cmd.u8 24
    let n := (portOf d p).contacts.countP (cancelNames ch.cmd.issuer ch.cmd)
    cancelOn p 3 (cancelNames ch.cmd.issuer ch.cmd) { d with result := le8 n }
  results := fun d _ => d.result

/-- The touch port record (R341), for a count of contacts. -/
def portRecord (x : TouchPort) (active : Nat) : List U32 :=
  [word32 [(1, b2n x.enabled), (3, portCode x.state), (1, b2n x.spi), (3, x.output), (1, b2n x.orphans), (3, 0),
     (4, active), (16, x.rateLimit)],
   x.scans, x.length, x.range, x.extra, x.rate, x.timeouts, x.stuck, word32 [(16, x.xMax), (16, x.xMin)],
   word32 [(16, x.yMax), (16, x.yMin)], x.unclaimed, word32 [(16, x.stuckS), (16, x.stuckPx)], 0, 0, 0, 0]

def specTouchStatus : OpSpec where
  len := 1
  fields := fun _ => [fRange 24 1 0 7, fRange 25 1 0 3]
  own := fun x => failIf (!holdsViewport x.view x.c.issuer (portOf x.view (x.c.u8 24)).output) .notOwner 0
  read := fun _ d c =>
    let x := portOf d (c.u8 24)
    let ws := match c.issuer with
      | .manager => portRecord x x.contacts.length
      | i => (portRecord x (x.contacts.countP fun t => t.owner == some (ownerOf i))).take 1
    (d, .ok (fourWords ws (4 * c.u8 25)))

end Sys2Proof.Machine
end

