-- ==== Sys2Proof/Machine/Power.lean ====
section
/-! DEFINITION. Power domains, islands, device states, holds, pace and voltage, stalls, temperatures and the commands of
family 0x0D (chapter 18). -/

namespace Sys2Proof.Machine

def updPower (f : Power → Power) (d : Dev) : Dev := { d with power := f d.power }

/-! ## Domains and islands (R539 to R542) -/

/-- Domain that contains an island (R542). -/
def islandDomain (i : Nat) : Nat :=
  if i < 4 then 6 else if i < 8 then 7 else match i with | 8 => 8 | 9 => 0 | 10 => 11 | _ => 10

/-- Whether a domain is on and serves accesses: in DORMANT pan memory, and in STANDBY the frame store, only keep theirs
(R543). -/
def domainServes (d : Dev) (i : Nat) : Bool :=
  domainOn d i && !(d.power.state == .standby && (i == 4 || i == 5)) && !(d.power.state == .dormant && i == 9) &&
    !(d.power.state == .still && i == 3)

/-- Whether a domain or island is on. -/
def targetOn (d : Dev) (island : Bool) (i : Nat) : Bool := if island then islandOn d i else domainOn d i

/-- Whether the secure world holds a domain or island (R529). -/
def heldBy (d : Dev) (island : Bool) (i : Nat) : Bool :=
  if island then d.sec.holdIslands.getLsbD i else d.sec.holdDomains.getLsbD i

def maskBit (w i : Nat) : BitVec w := BitVec.ofNat w (2 ^ i)

/-- Records whether a target is on, and whether the manager keeps it off. -/
def markTarget (island : Bool) (i : Nat) (on : Bool) : Dev → Dev :=
  updPower fun p =>
    let put := fun (w : Nat) (m : BitVec w) (b : Bool) => if b then m ||| maskBit w i else m &&& ~~~(maskBit w i)
    let p := { p with pendOn := p.pendOn.filter (· != (island, i)) }
    if island then { p with islands := put 13 p.islands on, islandsOffBy := put 13 p.islandsOffBy !on }
    else { p with domains := put 12 p.domains on, domainsOffBy := put 12 p.domainsOffBy !on }

/-- The Memory hall goes off: its channels enter self-refresh, and rings in DRAM are lost (R444, R541). -/
def memoryOff (d : Dev) : Dev := stopLostQueues (memSleep d)

/-- What the switch-off of a domain loses and causes (R540, R541). -/
def domainLoses (i : Nat) (d : Dev) : Dev :=
  match i with
  | 3 => { d with staging := [], pipes := d.pipes.map fun _ => none, pipeNeeds := List.replicate 8 [], gangs := List.replicate 16 .zero }
  | 4 => { d with fsA := [] }
  | 5 => { d with fsB := [] }
  | 8 => memoryOff d
  | 10 => stopTouch (stopHaptics true (stopAudio d))
  | 11 => linkDownAll d
  | _ => d

/-- What the switch-off of an island causes (R542). -/
def islandLoses (i : Nat) (d : Dev) : Dev :=
  match i with
  | 8 => memoryOff d
  | 10 => linkDownAll d
  | 11 => stopAudio d
  | 12 => cancelAll 6 (fun _ => true) (stopHaptics false d)
  | _ => d

/-- Switches a domain or island off. -/
def switchOff (island : Bool) (i : Nat) (d : Dev) : Dev :=
  let d := markTarget island i false d
  if island then islandLoses i d else domainLoses i d

/-- Begins to switch a domain or island on; DOMAIN_SWITCHED_ON ends it. -/
def beginOn (island : Bool) (i : Nat) (d : Dev) : Dev :=
  if targetOn d island i || d.power.pendOn.contains (island, i) then d
  else updPower (fun p => { p with pendOn := p.pendOn ++ [(island, i)] }) d

/-- A plug recorded while an output's island or domain was off starts its capability read (R299). -/
def owedCaps (d : Dev) : Dev :=
  (List.range 8).foldl (fun d o =>
    let k := (outOf d o).link
    if k.capsOwed && dpOn d o then updLink o (fun k => { k with capsOwed := false, capsBusy := k.hpd }) d else d) d

/-- What a domain or island does once it is on (R299, R385, R444, R539). -/
def targetResumes (island : Bool) (i : Nat) (d : Dev) : Dev :=
  match island, i with
  | _, 8 => if memOn d then memWake d else d
  | false, 10 => resumeTouch (resumeHaptics d)
  | _, _ => owedCaps d

/-- DOMAIN_SWITCHED_ON (R529, R539, R542): a domain or island that is switching on resumes with its configuration. -/
def execDomainSwitchedOn (island : Bool) (idx : Nat) (s : State) : Host.Outcome State Fault Refusal :=
  onDev (fun _ d =>
    if !d.power.pendOn.contains (island, idx) then d
    else targetResumes island idx (markTarget island idx true d)) s

/-! ## Switch-off commands (R530, R539, R542, R570, R571) -/

/-- Whether the manager may switch a domain off (R539). -/
def domainMayOff (d : Dev) (q i : Nat) : Bool :=
  let idle := fun (l : List Nat) => l.all fun o => !(outOf d o).enabled
  match i with
  | 3 => idle (List.range 8)
  | 4 => idle (List.range 4)
  | 5 => idle (rangeFrom 4 4)
  | 6 => idle (List.range 4)
  | 7 => idle (rangeFrom 4 4)
  | 8 => !ringInDram d q && !ringInDram d 2
  | 10 => true
  | 11 => true
  | _ => false

/-- Whether the manager may switch an island off (R542). -/
def islandMayOff (d : Dev) (q i : Nat) : Bool :=
  if i < 8 then !(outOf d i).enabled else if i = 8 then domainMayOff d q 8 else decide (10 ≤ i)

/-- DEFERRED_DONE: `kind` 0 domain, 1 island, 2 state. -/
def deferredDone (kind i : Nat) (cancelled : Bool) : Dev → Dev := raise 0x0D05 i (le8 kind ++ le8 (b2n cancelled)) [512] false

/-- The queued switch-offs of a target, and those that are not. -/
def queuedFor (island : Bool) (i : Nat) (q : Queued) : Bool :=
  if island then q.op == .powerIsland && q.islands.testBit i else q.op == .powerDomain && q.domains.testBit i

/-- Whether some queued switch-off waits for a target. -/
def targetQueued (d : Dev) (island : Bool) (i : Nat) : Bool :=
  d.sec.queued.any fun q => if island then q.islands.testBit i else q.domains.testBit i

/-- Queues a switch-off behind a hold; one RELEASE_REQUEST for each held target that had none (R530). -/
def queueOff (q : Queued) (held : List (Bool × Nat)) (d : Dev) : Dev :=
  let fresh := held.filter fun t => !targetQueued d t.1 t.2
  let d := updSec (fun s => { s with queued := s.queued ++ [q] }) d
  fresh.foldl (fun d t => sendRelease t.1 t.2 d) d

/-- Landing of POWER_DOMAIN and POWER_ISLAND. -/
def landSwitch (island : Bool) (txn : Nat) (ch : Change) (d : Dev) : Dev :=
  let i := ch.cmd.u8 24
  let mine := queuedFor island i
  if ch.cmd.u8 25 = 1 then
    let d := if d.sec.queued.any mine then deferredDone (b2n island) i true
        (updSec (fun s => { s with queued := s.queued.filter (!mine ·) }) d) else d
    beginOn island i d
  else if !targetOn d island i then
    updPower (fun p => { p with pendOn := p.pendOn.filter (· != (island, i)) }) d
  else if heldBy d island i then
    let d := updTxn txn (fun t => { t with verdict := some (.secureHeld, if island then islandDomain i else 0) }) d
    let was := d.sec.queued.any mine
    let q : Queued := { op := if island then .powerIsland else .powerDomain, cmd := ch.cmd,
                        domains := if island then 0 else 2 ^ i, islands := if island then 2 ^ i else 0 }
    if was then updSec (fun s => { s with queued := s.queued.filter (!mine ·) ++ [q] }) d else queueOff q [(island, i)] d
  else switchOff island i d

/-- Islands running: on, in a domain that is on. -/
def islandsRunning (d : Dev) : Nat :=
  maskOf ((List.range 13).filter fun i => islandOn d i && domainServes d (islandDomain i))

def specPowerDomain : OpSpec where
  len := 1
  fields := fun _ => [fRange 24 1 0 11, fCode 25 1]
  step10 := fun d c => failIf (c.u8 25 == 0 && domainOn d (c.u8 24) && !domainMayOff d (b2n c.urgent) (c.u8 24))
    .notPermitted 0
  land := landSwitch false
  results := fun d _ => le16 d.power.domains.toNat

def specPowerIsland : OpSpec where
  len := 1
  fields := fun _ => [fRange 24 1 0 12, fCode 25 1]
  step10 := fun d c => failIf (c.u8 25 == 0 && islandOn d (c.u8 24) && !islandMayOff d (b2n c.urgent) (c.u8 24))
    .notPermitted 0
  land := landSwitch true
  results := fun d _ => le16 (islandsRunning d)

/-! ## Device states (R543 to R548) -/

def stateOfCode : Nat → DevState
  | 0 => .run | 1 => .still | 2 => .standby | 3 => .dormant | _ => .off

/-- Domains that a device state switches off (R543). -/
def stateOff : DevState → List Nat
  | .standby => [11, 10, 8, 7, 6, 3, 1]
  | .dormant => [11, 10, 8, 7, 6, 5, 4, 3, 1]
  | .off => [11, 10, 9, 8, 7, 6, 5, 4, 3, 2, 1, 0]
  | _ => []

/-- Outputs stop scanning as the device goes to sleep: links go down, and frames not finished are over. -/
def sleepOutput (o : Nat) (d : Dev) : Dev :=
  let d := ((outOf d o).flights.filter (!·.retired)).foldl (fun d f => retireFlight o f d) d
  let d := if (outOf d o).link.training then endTraining o false d else d
  updOut o (fun x => { x with
    scanning := false, link := { x.link with up := false, trained := false, asyncActive := false, audioActive := false, pllLock := false } }) d

/-- A domain's part in a device state's entry; the queues of a device that sleeps are kept (R554). -/
def domainSleeps (i : Nat) (d : Dev) : Dev :=
  match i with
  | 8 => memSleep d
  | 7 => (rangeFrom 4 4).foldl (fun d o => sleepOutput o d) d
  | 6 => (List.range 4).foldl (fun d o => sleepOutput o d) d
  | 2 => updSec (fun s => { s with running := false, wdRun := false }) d
  | 1 => { d with running := [] }
  | i => if domainOn d i then domainLoses i d else d

/-- Step 4 of R545: domains switch in descending index order. -/
def sleepDevice (target : DevState) (d : Dev) : Dev :=
  let d := (stateOff target).foldl (fun d i => updPower (fun p => { p with domains := p.domains &&& ~~~(maskBit 12 i) })
    (domainSleeps i d)) d
  setDevState target 0 (updPower (fun p => { p with entering := none, woken := false }) d)

/-- POWER_STATE_SWITCH (R545): the active lines of the frames in progress have ended; the reply is written, then the domains
switch. -/
def execPowerStateSwitch (s : State) : Host.Outcome State Fault Refusal :=
  onDev (fun _ d =>
    match d.power.entering with
    | none => d
    | some e =>
      if !d.aux.isEmpty || (List.range 8).any fun o => (outOf d o).enabled && !activeDone (outOf d o) then d else
      let d := match e.ticket with
        | some t => finish t .ok 0 (le8 (devCode e.target)) d
        | none => d
      sleepDevice e.target d) s

/-- Targets of a state that the secure world holds: (island?, index). -/
def stateHeld (d : Dev) (s : DevState) : List (Bool × Nat) :=
  ((stateOff s).filter (heldBy d false)).map (fun i => (false, i)) ++
    ((List.range 13).filter fun i => heldBy d true i && (stateOff s).contains (islandDomain i)).map fun i => (true, i)

/-- VCORE within VMIN to min(VMAX, thermal ceiling) (R562). -/
def clampCore (p : Power) (v : Nat) : Nat := min (min p.vmax p.vceil) (max p.vmin v)

/-- The settings of a POWER_STATE (R570). -/
def powerSettings (c : Cmd) (d : Dev) : Dev :=
  let d := updPower (fun p => { p with wakeMask := BitVec.ofNat 8 (c.u8 25), wakeInstant := c.u64 28 }) d
  if c.u8 26 = 1 then
    updPower (fun p =>
      let p := { p with target := c.u16 36, vmin := c.u16 38, vmax := c.u16 40 }
      { p with vcore := clampCore p p.vcore }) d
  else d

/-- A POWER_STATE that passed its checks and meets no hold (R545). -/
def runPowerState (t : Option Ticket) (c : Cmd) (d : Dev) : Dev :=
  let d := powerSettings c d
  let reply := fun (d : Dev) => match t with
    | some t => finish t .ok 0 (le8 (devCode d.power.state)) d
    | none => d
  match c.u8 24 with
  | 0 => reply (leaveDeviceStill (updPower (fun p => { p with stillOk := false }) d))
  | 1 => reply (updPower (fun p => { p with stillOk := true }) d)
  | 0xFF => reply d
  | k => updPower (fun p => { p with entering := some { target := stateOfCode k, ticket := t } }) (leaveDeviceStill d)

/-- Start of POWER_STATE: held targets queue it whole (R530); a later request replaces or cancels a queued one. -/
def startPowerState (t : Ticket) (c : Cmd) (d : Dev) : Dev :=
  let mine := fun (q : Queued) => q.op == .powerState
  let sleeps := decide (2 ≤ c.u8 24) && c.u8 24 != 0xFF
  let old := d.sec.queued.find? mine
  let d := if c.u8 24 = 0xFF then d else updSec (fun s => { s with queued := s.queued.filter (!mine ·) }) d
  let d := match old with
    | some q => if sleeps || c.u8 24 = 0xFF then d else deferredDone 2 (q.cmd.u8 24) true d
    | none => d
  let held := if sleeps then stateHeld d (stateOfCode (c.u8 24)) else []
  if held.isEmpty then runPowerState (some t) c d
  else
    let q : Queued := { op := .powerState, cmd := c, domains := maskOf ((held.filter (!·.1)).map (·.2)),
                        islands := maskOf ((held.filter (·.1)).map (·.2)) }
    finish t .secureHeld 0 [] (queueOff q held d)

/-- Whether a harvest channel runs or a rake job is queued (R545). -/
def sleepRefused (d : Dev) : Bool := d.harvest.any (·.running) || d.cv.any fun u => !u.jobs.isEmpty

def specPowerState : OpSpec where
  len := 3
  fields := fun x =>
    let set := x.c.u8 26 == 1
    let f := fun off lo hi => if set then fRange off 2 lo hi else fAny off 2
    [fIf 24 1 (fun v => decide (4 < v) && v != 0xFF) .badParam, fAny 25 1, fBits 26 1, fAny 28 8, f 36 1000 2000,
     f 38 650 900, f 40 650 900]
  multi := fun x => failIf (x.c.u8 26 == 1 && decide (x.c.u16 40 < x.c.u16 38)) .outOfRange 38
  step10 := fun d c => failIf (decide (2 ≤ c.u8 24) && c.u8 24 != 0xFF && sleepRefused d) .notPermitted 0
  start := startPowerState

/-- HOLD_WRITE (R529 to R531): the secure world sets its holds; bit 2 of HOLD_DOMAINS is ignored. What is newly held is
switched on; what is released lets its queued switch-off happen at once. -/
def execHoldWrite (islands : Bool) (value : U32) (s : State) : Host.Outcome State Fault Refusal :=
  onDev (fun _ d =>
    if !secUp d then d else
    let n := if islands then 13 else 12
    let old := fun i => heldBy d islands i
    let d' := updSec (fun s => if islands then { s with holdIslands := BitVec.ofNat 13 value.toNat }
      else { s with holdDomains := BitVec.ofNat 12 value.toNat &&& 0xFFB }) d
    let d' := (List.range n).foldl (fun d i => if heldBy d islands i && !old i then beginOn islands i d else d) d'
    let d' := (List.range n).foldl (fun d i =>
      if heldBy d islands i || !old i then d else
      match d.sec.queued.find? (queuedFor islands i) with
      | none => d
      | some _ =>
        let d := updSec (fun s => { s with queued := s.queued.filter fun q => !queuedFor islands i q }) d
        deferredDone (b2n islands) i false (if targetOn d islands i then switchOff islands i d else d)) d'
    match d'.sec.queued.find? (·.op == .powerState) with
    | none => d'
    | some q =>
      if !(stateHeld d' (stateOfCode (q.cmd.u8 24))).isEmpty then d' else
      let d' := updSec (fun s => { s with queued := s.queued.filter (·.op != .powerState) }) d'
      deferredDone 2 (q.cmd.u8 24) false (runPowerState none q.cmd d')) s

/-! ### Waking (R546, R547) -/

/-- A flight that shows the store as it stands: nothing to compose. -/
def quietFlight (o : Nat) (m : Mode) (n : U32) (d : Dev) : Flight :=
  { frame := n, mode := m, layers := frameLayers d o, storeLut := (outOf d o).storeLut, start := d.tide.now,
    guard := (outOf d o).guard, composing := true, damaged := 0, ready := 0, taken := 0, written := 0, stale := 0,
    quietAway := 0, dropped := [], late := 0, harvest := [], minSlack := none, badTiles := [], arrived := [], kept := [], retired := true }

/-- An enabled output starts its frames again (R547). -/
def wakeOutput (o : Nat) (zeroed : Bool) (d : Dev) : Dev :=
  let x := outOf d o
  match x.mode with
  | none => d
  | some m =>
    if !x.enabled then d else
    let n := x.frame + 1
    let d := if zeroed then updOut o (fun x => { x with
          frame := n, opening := true, cutDone := false, zeroed := false, allNext := true, carry := 0, flights := [] }) d
      else if x.opening then d
      else updOut o (fun x => { x with cutDone := true, composed := n, flights := [quietFlight o m n d] }) d
    let d := updOut o (fun x => { x with scanning := false, line := 0, nextLine := 0 }) d
    if x.link.hpd && !x.link.heldDown then trainOutput o d else d

/-- WAKE_CAUSE as events carry it: the bit of WAKE_MASK. -/
def wakeDevice (cause : Nat) (d : Dev) : Dev :=
  let was := d.power.state
  if (was != .standby && was != .dormant) || !d.power.wakeMask.getLsbD cause then d else
  let d := updPower (fun p => { p with
    domains := 0xFFF &&& ~~~p.domainsOffBy, wakeCause := maskBit 8 cause, woken := true, wokenFrom := was,
    wakeInstant := if cause = 6 then 0 else p.wakeInstant }) d
  let d := setDevState .run (2 ^ cause) d
  let d := if memOn d then memWake d else d
  let d := if domainOn d 10 then resumeTouch (resumeHaptics d) else d
  let d := (List.range 8).foldl (fun d o => wakeOutput o (was == .dormant) d) d
  owedCaps d

/-- A pending launch instant, or the wake instant, is near enough to wake for (R546). -/
def instantNear (d : Dev) : Bool :=
  let lead := if d.power.state == .dormant then 3000000 else 2000000
  let near := fun (i : Nat) => decide (i ≤ nowNs d + lead)
  d.launches.any (fun l => near l.instant) || d.txns.any (fun t => t.wait.any near) ||
    (d.power.wakeInstant != 0 && near d.power.wakeInstant)

/-- WAKE_EVENT (R546): causes 0 port A, 1 port B, 2 touch, 3 HAP_TRIG, 4 HPD, 5 supervisory, 6 instant, 7 secure world. -/
def execWakeEvent (cause : Nat) (s : State) : Host.Outcome State Fault Refusal :=
  onDev (fun _ d =>
    if 7 < cause || d.power.boot != .running || (cause = 6 && !instantNear d) then d else wakeDevice cause d) s

/-! ## Pace and voltage (R561 to R564) -/

/-- Whether VCORE stands at its ceiling. -/
def ceiled (p : Power) : Bool := decide (min p.vmax p.vceil ≤ p.vcore)

/-- Tmax in 1/8 °C (R567): sensors 0 to 10. -/
def tmax (p : Power) : Int := (p.temps.take 11).foldl max (p.temps.headD 0)

/-- PACE_SAMPLE (R561, R563). -/
def execPaceSample (rate : Nat) (s : State) : Host.Outcome State Fault Refusal :=
  onDev (fun _ d =>
    if d.power.boot != .running then d else
    let d := updPower (fun p =>
      let hist := (min 65535 rate :: p.paceHist).take 100
      let low := hist.foldl min (min 65535 rate)
      { p with paceNow := min 65535 rate, paceHist := hist, paceMin := low,
               paceAvs := some (min (p.paceAvs.getD rate) rate),
               paceLowFor := if low < 1000 && ceiled p then p.paceLowFor + 1 else 0 }) d
    let p := d.power
    if p.paceLowFor < 100 || p.paceLowAt.any (fun t => decide (nowNs d < t + 1000000000)) then d
    else raise 0x0D02 0 (le16 p.paceMin ++ le16 p.vcore ++ le16 (unsigned 16 (tmax p))) [512] true
      (updPower (fun p => { p with paceLows := p.paceLows + 1, paceLowAt := some (nowNs d) }) d)) s

/-- AVS_FAULT. -/
def avsEvent (on : Bool) (d : Dev) : Dev :=
  raise 0x0D03 d.power.cfg.rail (le8 (b2n on) ++ [0] ++ le16 d.power.vcore) [512] true d

/-- AVS_STEP (R562, R564): `clean` says that the write and the read-back were. -/
def execAvsStep (clean : Bool) (s : State) : Host.Outcome State Fault Refusal :=
  onDev (fun _ d =>
    if d.power.boot != .running || d.power.avsFault then d
    else if !clean then
      let d := updPower (fun p => { p with avsErrors := p.avsErrors + 1, avsBad := p.avsBad + 1 }) d
      if d.power.avsBad < 3 then d else avsEvent true (updPower (fun p => { p with avsFault := true }) d)
    else updPower (fun p =>
      let p := { p with avsBad := 0 }
      match p.paceAvs with
      | none => p
      | some v =>
        let high := if 104 * p.target < 100 * v then min 10 (p.paceHigh + 1) else 0
        let core := if v < 1000 then p.vcore + 20 else if v < p.target then p.vcore + 5
          else if high = 10 then p.vcore - 5 else p.vcore
        { p with paceHigh := high, paceAvs := none, vcore := clampCore p core }) d) s

/-- AVS_RETRY (R564): every 10 ms while AVS_FAULT is set. -/
def execAvsRetry (clean : Bool) (s : State) : Host.Outcome State Fault Refusal :=
  onDev (fun _ d =>
    if !d.power.avsFault then d
    else if clean then avsEvent false (updPower (fun p => { p with avsFault := false, avsBad := 0 }) d)
    else updPower (fun p => { p with avsErrors := p.avsErrors + 1 }) d) s

/-! ## Temperature (R567, R568) -/

/-- Thresholds of the thermal levels, 1/8 °C. -/
def thermalThreshold : Nat → Int
  | 0 => -1000000 | 1 => 840 | 2 => 880 | _ => 1000

/-- The level at a Tmax, which falls only 3 °C below its threshold. -/
def thermalLevel (old : Nat) (t : Int) : Nat :=
  let holds := fun (l : Nat) => decide (thermalThreshold l ≤ t) || (decide (l ≤ old) && decide (thermalThreshold l - 24 < t))
  if holds 3 then 3 else if holds 2 then 2 else if holds 1 then 1 else 0

/-- The thermal ceiling in mV: 900 − 12 × (Tmax − 110 °C) at level 2, and 720 at level 3. -/
def thermalCeiling (level : Nat) (t : Int) : Nat :=
  if level = 3 then 720 else if level = 2 then min 900 (900 - 3 * (t - 880) / 2).toNat else 900

/-- THERMAL_SAMPLE (R567, R568): twelve readings in 1/8 °C. -/
def execThermalSample (temps : List Int) (s : State) : Host.Outcome State Fault Refusal :=
  onDev (fun _ d =>
    if d.power.boot == .dark || temps.length ≠ 12 then d else
    let temps := temps.map (clampInt (-32768) 32767)
    let cool := temps.all fun t => decide (t ≤ 800)
    let d := updPower (fun p =>
      let p := { p with temps := temps, coolSince := if cool then some (p.coolSince.getD (nowNs d)) else none }
      let t := tmax p
      { p with hottest := ((List.range 11).find? fun i => temps[i]? == some t).getD 0, maxSeen := max p.maxSeen t }) d
    let t := tmax d.power
    let l := thermalLevel d.power.level t
    let changed := l != d.power.level
    let d := updPower (fun p =>
      let p := { p with level := l, vceil := thermalCeiling l t }
      { p with vcore := if (min p.vmax p.vceil) < p.vcore then clampCore p p.vcore else p.vcore }) d
    if changed && d.power.boot == .running then
      raise 0x0D04 d.power.hottest (le8 l ++ [0] ++ le16 (unsigned 16 t)) [512] true d
    else d) s

/-! ## Stalls (R27, R565, R566) -/

def updUnit (u : Nat) (f : UnitRec → UnitRec) : Dev → Dev :=
  updPower fun p => { p with units := tput .zero p.units u (f (tget .zero p.units u)) }

/-- Unit indexes of each hall (R609). -/
def hallUnits : List (Nat × Nat) → List Nat := fun l => l.flatMap fun r => rangeFrom r.1 r.2

/-- Populated unit identifiers (R609). -/
def populated : List Nat :=
  hallUnits [(0x000, 9), (0x010, 2), (0x020, 16), (0x100, 2), (0x200, 7), (0x210, 16), (0x220, 8), (0x230, 32),
    (0x301, 7), (0x310, 8), (0x400, 4), (0x410, 8)] ++
  hallUnits [(0x500, 2), (0x503, 1), (0x510, 64), (0x601, 3), (0x700, 8), (0x800, 4), (0x900, 5)]

/-- Stalls of a unit within the last second. -/
def recentStalls (d : Dev) (r : UnitRec) : List Nat := r.recent.filter fun t => decide (nowNs d < t + 1000000000)

/-- Whether the domain of a unit, or its island, is off or in retention (R539, R542, R609). AON units never are. -/
def unitOff (d : Dev) (u : Nat) : Bool :=
  let off := fun i => !domainServes d i
  let hall := u / 256
  if hall = 0 then off (if u < 3 then 0 else 1)
  else if hall = 2 then off 3
  else if u = 0x306 then off 4
  else if u = 0x307 then off 5
  else if hall = 3 then
    (if 0x310 ≤ u then off (if u % 16 < 4 then 6 else 7) || !islandOn d (u % 16) else off 6 && off 7)
  else if hall = 4 then off 8 || !islandOn d 8
  else if hall = 5 then off 9
  else if hall = 6 then off 10
  else if hall = 7 then u != 0x703 && off 2
  else if hall = 8 then off 11 || !islandOn d 10
  else false

/-- What a fetch unit held is lost (R227): the layers whose data it had not completed are late at their next deadline. -/
def loseFetched (u : Nat) (d : Dev) : Dev :=
  let have_ := fun (c : Claim) (n : Nat) =>
    ((flightOf d c.output c.frame).map fun f => f.arrived.any fun e => e.1 == n && decide (c.band ≤ e.2)).getD false
  let keeps := fun (c : Claim) (s : Staged) => Config.fetchUnit c.output c.band s.layer % 16 != u || have_ c s.layer
  { d with staging := d.staging.map fun c => { c with data := c.data.filter (keeps c) } }

/-- What waits for a unit that stalls ends (R27, R227, R566): rake jobs and the AUX transaction in progress with STALLED, a
fetch unit's data, and the band of a blend pipe, which no other pipe takes (log 153). -/
def stallOps (unit : Nat) (d : Dev) : Dev :=
  let d := stallRakes unit d
  let d := if 0x210 ≤ unit && unit < 0x220 then loseFetched (unit - 0x210) d else d
  let d := if 0x220 ≤ unit && unit < 0x228 then
      leaveScalers (unit - 0x220) { d with pipes := modifyAt (fun _ => none) (unit - 0x220) d.pipes } else d
  if 0x310 ≤ unit && unit < 0x318 then
    match auxJob d (unit - 0x310) with
    | some j => endAux j .stalled unit [] d
    | none => d
  else d

/-- STALL_SENTINEL_EXPIRY (R27, R309, R566): the unit closes; the third stall within a second isolates it. A DP island
restarts instead. -/
def execStallSentinelExpiry (unit handshake : Nat) (s : State) : Host.Outcome State Fault Refusal :=
  onDev (fun _ d =>
    let r := unitOf d unit
    if d.power.boot != .running || !populated.contains unit || unitOff d unit || r.isolated || r.recovering then d else
    let d := stallOps unit d
    let dp := decide (0x310 ≤ unit) && decide (unit ≤ 0x317)
    let recent := nowNs d :: recentStalls d r
    let isolates := !dp && decide (3 ≤ recent.length)
    let d := updUnit unit (fun r => { r with recovering := !isolates, isolated := isolates, recent := recent,
                                             total := min 0xFFFFFFFF (r.total + 1), lastStall := now32 d }) d
    let d := { d with sup := { d.sup with stalls := min 65535 (d.sup.stalls + 1), lastUnit := unit } }
    let d := logFault unit (b2n isolates) handshake d
    let d := if isolates then raise 0x0D07 unit ([0, 0, 0, 0] ++ le32 (now32 d).toNat) [512] true d
      else raise 0x0D06 unit (le8 handshake ++ le8 recent.length) [512] true d
    if dp then dpStalled (unit - 0x310) d else d) s

/-- UNIT_RECOVERED (R566): the unit is reset, restored and reopened. -/
def execUnitRecovered (unit : Nat) (s : State) : Host.Outcome State Fault Refusal :=
  onDev (fun _ d => if (unitOf d unit).recovering then updUnit unit (fun r => { r with recovering := false }) d else d) s

def specSentinelSet : OpSpec where
  len := 1
  fields := fun x => [fRange 24 1 0 9, fRange 26 2 (if x.c.u8 24 = 4 then 80 else 10) 10000]
  step10 := fun _ c => failIf (c.u8 24 == 7) .notPermitted 0
  land := fun _ ch d => updPower (fun p => { p with sentinels := modifyAt (fun _ => ch.cmd.u16 26) (ch.cmd.u8 24) p.sentinels }) d

/-! ## Registers and reads (R569, R570) -/

/-- Code of a reset's cause (R569). -/
def causeCode : ResetKind → Nat
  | .powerOn => 0 | .resetN => 1 | .watchdog => 2 | .deviceReset => 3 | .thermal => 4

/-- Words of a Power hall unit; `normal` hides the Security hall's sentinel from the manager. -/
def powerWords (f : Fuses) (d : Dev) (normal : Bool) (unit : Nat) : List U32 :=
  let p := d.power
  match unit with
  | 0 => [word32 [(3, devCode p.state), (1, b2n p.stillOk), (1, b2n (d.sec.queued.any (·.op == .powerState))), (15, 0),
            (12, p.domains.toNat)], BitVec.ofNat 32 (islandsRunning d), p.wakeMask.setWidth 32, p.wakeCause.setWidth 32, p.stateT]
  | 1 => [word32 [(16, p.paceNow), (16, p.paceMin)],
          word32 [(1, b2n p.avsFault), (1, b2n (ceiled p)), (4, p.cfg.rail), (10, p.vcore), (6, 0), (10, p.vceil)],
          word32 [(6, 0), (10, p.vmax), (6, 0), (10, p.vmin)], word32 [(16, 0), (16, p.target)], p.paceLows, p.avsErrors]
  | 2 => p.temps.map (fun t => BitVec.ofNat 32 (unsigned 16 t)) ++
          [word32 [(4, p.hottest), (2, p.level), (10, 0), (16, unsigned 16 p.maxSeen)]]
  | _ => [word32 [(4, causeCode p.cause), (1, b2n p.thermalTrip), (7, f.rollback), (4, p.source), (8, p.bootFail),
            (8, p.version)], word32 [(16, p.deviceResets), (8, p.perstA), (8, p.perstB)], 0, 0, p.bootLen, 0,
          BitVec.ofNat 32 p.bootStatus, 0] ++
          p.sentinels.zipIdx.map fun e => if normal && e.2 == 7 then 0 else BitVec.ofNat 32 e.1

def specPowerStatus : OpSpec where
  len := 1
  fields := fun _ => [fRange 24 1 0 3, fAny 26 2]
  read := fun f d c => (d, .ok (fourWords (powerWords f d true (c.u8 24)) (c.u16 26)))

def specPaceRead : OpSpec where
  read := fun _ d _ =>
    let p := d.power
    (d, .ok (le16 p.paceNow ++ le16 p.paceMin ++ le16 p.vcore ++ le16 p.target ++ le16 (unsigned 16 (tmax p)) ++ le8 p.level))

end Sys2Proof.Machine
end

