-- ==== Sys2Proof/Machine/Boot.lean ====
section
/-! DEFINITION. Device-level resets, the boot ROM, the splash and thermal shutdown (R549 to R560, R568, R600, R601). -/

namespace Sys2Proof.Machine

/-! ## Device-level resets (R549, R550, R553) -/

/-- Device address of a unit's byte under a map: what decodeAddr takes apart (R435, R451). -/
def encodeAddr (m : Dram) (x : DramAddr) (low : Nat) : Nat :=
  let r := b2n m.ranks2
  let q := rowBits m
  let full := match m.map with
    | 0 => x.group <<< 14 + x.bank <<< 16 + x.rank <<< 18 + x.row <<< (18 + r) + (x.column / 4) <<< 11 + (x.column % 4) <<< 6
    | 1 => x.group <<< 9 + x.bank <<< 16 + x.rank <<< 18 + x.row <<< (18 + r) + x.column <<< 11
    | 2 => x.group <<< (16 + r + q) + x.bank <<< 14 + x.rank <<< 16 + x.row <<< (16 + r) + x.column <<< 9
    | _ => x.group <<< 16 + x.bank <<< 14 + x.rank <<< 18 + x.row <<< (18 + r) + x.column <<< 6
  let b := channelBit m.map
  let chs := mapChannels m
  ((full / 2 ^ (b + 3)) * max 1 chs.length + (chs.findIdx? (· == x.channel)).getD 0) * 2 ^ b + (full + low) % 2 ^ b

/-- DRAM contents after a reset that keeps the cells of some channels (R553): the cells keep their place in the dies, and
the map in force from now on gives their addresses (R434). -/
def keepCells (old new : Dram) (kept : Nat → Bool) (cells : List Host.Cell) : List Host.Cell :=
  let cells := cells.filter fun c => kept (decodeAddr old c.1).channel
  if old.map = new.map ∧ old.working = new.working then cells
  else cells.foldl (fun m c => memPut m (encodeAddr new (decodeAddr old c.1) (c.1 % 64)) c.2) []

/-- What the controller keeps in AON across a reset that is not a power-on reset: its trained settings, its working
channels and the map that MAP_NEXT names (R434, R444, R553). A fence ends with the reset, after which no address leads to
the fenced channel (R450; log 123). Before training it keeps nothing. -/
def keepDram (m : Dram) : Dram :=
  if !m.trained then { Dram.zero with window := m.window } else
  { Dram.zero with
    window := m.window, map := mapInForce m.density m.mapNext, mapNext := m.mapNext, bootMap := m.bootMap,
    fallback := m.mapNext == 2 && m.density == 1, ranks2 := m.ranks2, density := m.density, working := workingMask m,
    rate := m.rate, trained := true,
    channels := m.channels.map fun x => { Channel.zero with state := if x.state == .fenced then .fenced else .selfRefresh } }

/-- A device-level reset that is not a power-on reset (R549, R553). `kept` says which channels' contents survive. The
device then waits for its boot ROM: row RESET_N_RELEASE. -/
def resetDevice (kind : ResetKind) (kept : Nat → Bool) (d : Dev) : Dev :=
  let p := d.power
  let dram := keepDram d.dram
  { Dev.zero with
    tide := { Tide.zero with now := d.tide.now },
    lifecycle := d.lifecycle, free := d.free, out := d.out, dram := dram,
    sec := { Secure.zero with gateBlock := d.sec.gateBlock },
    dramMem := if d.dram.trained then keepCells d.dram dram kept d.dramMem else [],
    power := { Power.zero with
      boot := .inReset, cause := kind, thermalTrip := p.thermalTrip, deviceResets := min 65535 (p.deviceResets + 1),
      cfg := { BootCfg.zero with split := p.cfg.split, portB := p.cfg.portB }, linkFixed := p.linkFixed,
      temps := p.temps, hottest := p.hottest, maxSeen := p.maxSeen, gateFails := p.gateFails, wdExpired := p.wdExpired,
      wdSrDone := p.wdSrDone, wdSrMask := p.wdSrMask, wdCount := p.wdCount, wdLast := p.wdLast, perst := p.perst,
      resetLow := p.resetLow },
    sup := { Sup.zero with
      sets := d.sup.sets,
      faults := match kind with
        | .watchdog => 1 | .deviceReset => 1 | .thermal => 1 | _ => 0 } }

/-- A reset before which every working channel enters self-refresh (R550, R568). -/
def sleepReset (kind : ResetKind) (d : Dev) : Dev := resetDevice kind (fun c => !isFenced d.dram c) d

/-- Whether power is applied and its hold has ended. -/
def powered (d : Dev) : Bool := d.power.boot != .dark && d.power.boot != .supplyHold

/-- POWER_ON_RESET (R549): VAON rises through its threshold. Everything takes its reset value; a lifecycle change takes
effect (R534). -/
def execPowerOnReset (s : State) : Host.Outcome State Fault Refusal :=
  onDev (fun f d => { Dev.zero with lifecycle := lifecycleOf f, free := d.free, out := d.out }) s

/-- VAON_DROP (R600): the device is off until VAON rises again. -/
def execVaonDrop (s : State) : Host.Outcome State Fault Refusal :=
  onDev (fun _ d => { Dev.zero with power := { Power.zero with boot := .dark }, free := d.free, out := d.out }) s

/-- RESET_HOLD_END (R601): the supply hold ends, and RESET_N alone holds the device. -/
def execResetHoldEnd (s : State) : Host.Outcome State Fault Refusal :=
  onDev (fun _ d => if d.power.boot == .supplyHold then updPower (fun p => { p with boot := .inReset }) d else d) s

/-- RESET_N_ASSERT (R549, R550): the filtered falling edge of RESET_N. -/
def execResetNAssert (s : State) : Host.Outcome State Fault Refusal :=
  onDev (fun _ d =>
    if d.power.boot == .dark then d
    else if d.power.boot == .supplyHold then updPower (fun p => { p with resetLow := true }) d
    else updPower (fun p => { p with resetLow := true }) (sleepReset .resetN d)) s

/-- SUPPLY_UNDERVOLTAGE (R601): a RESET_N reset, and the hold until the supplies have been up for 1 ms. -/
def execSupplyUndervoltage (s : State) : Host.Outcome State Fault Refusal :=
  onDev (fun _ d =>
    if !powered d then d else updPower (fun p => { p with boot := .supplyHold }) (sleepReset .resetN d)) s

/-- WATCHDOG_EXPIRY (R533): `slept` names the channels that entered self-refresh within 2 µs. -/
def execWatchdogExpiry (slept : Nat) (s : State) : Host.Outcome State Fault Refusal :=
  onDev (fun _ d =>
    if !d.sec.wdRun || nowNs d < d.sec.wdLeft || (d.power.boot != .running && d.power.boot != .shutdown) then d else
    let working := workingMask d.dram
    let ok := slept &&& working
    let d := updPower (fun p => { p with
      wdExpired := true, wdSrDone := ok == working, wdSrMask := ok, wdCount := min 65535 (p.wdCount + 1),
      wdLast := now32 d }) d
    resetDevice .watchdog ok.testBit d) s

/-- THERMAL_SHUTDOWN (R568): Tmax has been at 130 °C or more for 100 µs. -/
def execThermalShutdown (s : State) : Host.Outcome State Fault Refusal :=
  onDev (fun _ d =>
    if !powered d || d.power.boot == .shutdown || tmax d.power < 1040 then d else
    let run := d.sec.wdRun
    let d := (stateOff .off).foldl (fun d i => domainSleeps i d) (memSleep d)
    updSec (fun s => { s with wdRun := run })
      (updPower (fun p => { p with boot := .shutdown, domains := 0, thermalTrip := true, entering := none }) d)) s

/-- THERMAL_RESTART (R568): every sensor has read 100 °C or less for 1 s. -/
def execThermalRestart (s : State) : Host.Outcome State Fault Refusal :=
  onDev (fun _ d =>
    if d.power.boot == .shutdown && d.power.coolSince.any (fun t => decide (t + 1000000000 ≤ nowNs d))
    then sleepReset .thermal d else d) s

/-- DEVICE_RESET (R550): no reply is written (R105). -/
def specDeviceReset : OpSpec where
  len := 1
  fields := fun _ => [fIf 24 4 (· != 0x5AA55AA5) .badParam]
  start := fun _ _ d => sleepReset .deviceReset d

/-! ## The image (R555 to R557) -/

/-- A field of an image. -/
def imgField (img : List Byte) (off n : Nat) : Nat := leNat ((img.drop off).take n)

/-- A section entry of the manifest: type, offset, length, SHA-384. -/
structure Section where
  kind : Nat
  off : Nat
  len : Nat
  hash : List Byte
  deriving DecidableEq, Repr

/-- The sections that the manifest names. -/
def sectionsOf (img : List Byte) : List Section :=
  ((List.range 4).map fun k =>
    let b := 144 + 64 * k
    ({ kind := imgField img b 4, off := imgField img (b + 4) 4, len := imgField img (b + 8) 4,
       hash := (img.drop (b + 16)).take 48 } : Section)).filter (·.kind != 0)

def sectionBytes (img : List Byte) (x : Section) : List Byte := (img.drop x.off).take x.len

/-- The boot configuration of an image (R557). -/
def bootCfgOf (img : List Byte) : BootCfg :=
  { density := imgField img 16 1, ranks := imgField img 17 1, rate := imgField img 18 2, map := imgField img 20 1,
    split := imgField img 21 1 == 1, portB := imgField img 22 2, vcore := imgField img 24 2,
    paceTarget := imgField img 26 2, rail := imgField img 28 1, splash := imgField img 29 1 }

/-- The outputs of the splash mask. -/
def splashOutputs (c : BootCfg) : List Nat := bitsSet 8 c.splash

/-- The OUTPUT_MODE that the k-th output of the splash mask takes (R557). -/
def splashMode (img : List Byte) (k o : Nat) : Cmd :=
  { issuer := .manager, urgent := false,
    pkt := { flags := 0, len := 4, tag := 0, handle := 0, rsvd := 0, instant := 0,
             params := BitVec.ofNat 320 (o + 256 * imgField img (32 + 24 * min k 3) 24) } }

/-- A command's own checks of fields and of rules over several fields. -/
def fieldsPass (sp : OpSpec) (c : Cmd) (d : Dev) : Bool :=
  let x : Ctx := { d := d, view := d, c := c, txn := none }
  (fieldsCheck x (sp.fields x) (24 + 8 * sp.len) 320 24).isNone && (sp.multi x).isNone

/-- Whether the boot configuration is good: every field in range, every reserved byte 0 (R557). -/
def cfgGood (img : List Byte) (d : Dev) : Bool :=
  let c := bootCfgOf img
  decide (c.density ≤ 2) && decide (1 ≤ c.ranks) && decide (c.ranks ≤ 2) && ((nextBin c.rate).isSome || c.rate == 3200) &&
    decide (c.map ≤ 3) && decide (imgField img 21 1 ≤ 1) && decide (c.portB ≤ 512) && c.portB % 8 == 0 &&
    decide (750 ≤ c.vcore) && decide (c.vcore ≤ 900) && decide (1000 ≤ c.paceTarget) && decide (c.paceTarget ≤ 2000) &&
    decide (c.rail ≤ 15) && imgField img 30 2 == 0 && imgField img 128 16 == 0 &&
    (splashOutputs c).zipIdx.all fun e => fieldsPass specOutputMode (splashMode img e.2 e.1) d

/-- Why an image fails (R556, R560); none where it passes. BLANK checks the magic number and the section lengths, beside
the configuration that the boot takes. -/
def imageFails (f : Fuses) (img : List Byte) (d : Dev) : Option Nat :=
  let blank := d.lifecycle == 0
  let key := (img.drop 400).take 96
  let secs := sectionsOf img
  if img.length < 4096 || imgField img 0 4 != 0x4D544C47 then some 1
  else if !blank && f.ownerKey != some (Config.sha384 key) then some 3
  else if !blank && !Config.ecdsaVerify key (Config.sha384 (img.take 4000)) ((img.drop 4000).take 96) then some 2
  else if d.lifecycle == 2 && decide (imgField img 8 4 < f.rollback) then some 4
  else if !cfgGood img d then some 6
  else if secs.any (fun x => decide (img.length < x.off + x.len)) then some 5
  else if !blank && secs.any (fun x => x.hash != Config.sha384 (sectionBytes img x)) then some 5
  else none

/-! ## What a good image sets up (R555, R558) -/

/-- Geometry of a splash section: width, height, pitch; none where the section does not hold it. -/
def splashSize (b : List Byte) : Option (Nat × Nat × Nat) :=
  let w := imgField b 0 2
  let h := imgField b 2 2
  let pitch := (w + 63) / 64 * 64
  if 1 ≤ w ∧ w ≤ 1920 ∧ 1 ≤ h ∧ h ≤ 1080 ∧ 1088 + pitch * h ≤ b.length then some (w, h, pitch) else none

/-- Guard plane 0 of a splash output: the splash, centred in the active area (R558). -/
def splashPlane (size : Nat × Nat × Nat) (m : Mode) (base pages : Nat) : GuardPlane :=
  let (w, h, pitch) := size
  let r : GuardRec := { GuardRec.zero with
    enable := true, indexed := true, x := (m.hActive - w) / 2, y := (m.vActive - h) / 2, w := w, h := h, base := 1088,
    pitch := pitch, palette := 64 }
  { shadow := r, live := r, base := base, size := pages, faultFrame := none }

/-- A splash output is enabled in its splash mode (R558, R294). -/
def splashOn (img : List Byte) (k o : Nat) (d : Dev) : Dev :=
  let c := splashMode img k o
  let on : Cmd := { c with pkt := { c.pkt with len := 1, params := BitVec.ofNat 320 (o + 256) } }
  let pages := ((freePages d o).take (pagesNeeded (modeOf c))).map (BitVec.ofNat 8)
  let d := landOutputMode { act := .cmd .outputMode, cmd := c, table := [], obj := 0, outs := [o] } d
  landOutputEnable { act := .cmd .outputEnable, cmd := on, table := pages, obj := 0, outs := [o] } d

/-- The splash (R558). The section lies in the last pages of the partition, which grows downward by its size; the spec
does not say where in the partition. -/
def bootSplash (img : List Byte) (d : Dev) : Dev :=
  let outs := splashOutputs (bootCfgOf img)
  let d := outs.zipIdx.foldl (fun d e => splashOn img e.2 e.1 d) d
  match (sectionsOf img).find? (·.kind == 3) with
  | none => d
  | some x =>
    let b := sectionBytes img x
    let n := ceilDiv b.length 4096
    if 8176 < n then d else
    let base := 8192 - n
    let d := updSec (fun s => { s with first := 8176 - n, count := 16 + n }) d
    let d := { d with panMem := memWrite d.panMem (base * 4096) b, guardBase := base, guardSize := min 3072 n }
    match splashSize b with
    | none => d
    | some size => outs.foldl (fun d o => match (outOf d o).mode with
        | some m => updOut o (fun y => { y with guards := modifyAt (fun _ => splashPlane size m base (min 3072 n)) 0 y.guards }) d
        | none => d) d

/-- The firmware of an accepted image runs (R532, R534, R555): the configuration is in force, DRAM trains or wakes, the
splash shows, and the watchdog runs in PROVISIONED and FIELD. `pushed` says that port A brought the image. -/
def bootRun (img : List Byte) (source : Nat) (pushed : Bool) (d : Dev) : Dev :=
  let c := bootCfgOf img
  let old := d.power.cfg
  let c := if d.power.linkFixed then { c with split := old.split, portB := old.portB }
    else if pushed then { c with split := d.power.straps == 3 } else c
  let d := updPower (fun p => { p with
    boot := .running, cfg := c, linkFixed := true, source := source, bootFail := 0, version := imgField img 8 4,
    bootStatus := if pushed then 2 else p.bootStatus, vcore := c.vcore, target := c.paceTarget }) d
  let first := portBFirst d
  let d := { d with
    delegFirst := if c.split then first else 0, delegCount := 512 - first, free := d.free + 1,
    dram := if d.dram.trained then { d.dram with channels := d.dram.channels.map fun x =>
        if x.state == .selfRefresh then { x with state := .serving } else x } else configureDram c false d.dram }
  let watched := d.lifecycle == 1 || d.lifecycle == 2
  let d := updSec (fun s => { s with
    running := true, wdKey := Config.freeByte (d.free - 1), wdRun := watched, wdPeriod := 1000, wdForce := 1000,
    wdLeft := nowNs d + 1000000000 }) d
  bootSplash img d

/-- What the boot ROM does first (R534, R555): straps are sampled, and debug opens as the lifecycle state says. -/
def bootStart (straps : Nat) (d : Dev) : Dev :=
  let open_ := d.lifecycle != 2
  updSec (fun s => { s with debugNormal := open_, debugSecure := open_, scanOpen := open_ })
    (updPower (fun p => { p with straps := straps % 4, resetLow := false, bootFail := 0, bootStatus := 0 }) d)

/-- The flash slots fail (R555, R560): a push is awaited where the straps allow one. -/
def bootNone (reason : Nat) (d : Dev) : Dev :=
  updPower (fun p => { p with boot := if p.straps = 0 then .failed else .awaitPush, bootFail := reason }) d

/-- RESET_N_RELEASE (R555): the boot ROM runs. It stands for the start of the ROM after every device-level reset. -/
def execResetNRelease (straps : Nat) (slot0 slot1 : List Byte) (s : State) : Host.Outcome State Fault Refusal :=
  onDev (fun f d =>
    if d.power.boot != .inReset then d else
    let d := bootStart straps d
    if 2 ≤ straps % 4 then updPower (fun p => { p with boot := .awaitPush }) d else
    match imageFails f slot0 d with
    | none => bootRun slot0 0 false d
    | some _ =>
      match imageFails f slot1 d with
      | none => bootRun slot1 1 false d
      | some e => bootNone e d) s

/-- BOOT_GO_WRITE (R555, R560): a pushed image is verified; a failed push may be repeated. -/
def execBootGoWrite (value : U32) (s : State) : Host.Outcome State Fault Refusal :=
  onDev (fun f d =>
    if d.power.boot != .awaitPush || !value.getLsbD 0 then d else
    let img := memRead d.panMem 0 (min 16777216 d.power.bootLen.toNat)
    match imageFails f img d with
    | none => bootRun img 2 true d
    | some e => updPower (fun p => { p with bootFail := e, bootStatus := 128 + e }) d) s

/-- Whether FAULT_N is driven low (R584). -/
def faultN (d : Dev) : Bool :=
  d.power.boot == .shutdown || d.power.bootFail != 0 || (d.dram.trained && decide (fencedMask d.dram ≠ 0)) ||
    d.power.units.any (·.2.isolated) || d.power.avsFault || (d.power.cause == .watchdog && !d.sec.running) || d.sec.forceFault

end Sys2Proof.Machine
end

