-- ==== Sys2Proof/Machine/Diag.lean ====
section
/-! DEFINITION. Family 0x0F: counters with baselines, the fault log and the states of units (R106, R107). -/

namespace Sys2Proof.Machine

/-- The index a DIAG command names; an instance reads block 2 only for itself (R107). -/
def diagIndex (c : Cmd) : Nat :=
  match c.issuer with
  | .inst n => if c.u8 24 = 2 then n else c.u16 26
  | _ => c.u16 26

/-- The record of a block and index: words, with those that count (R107, R247, R482, R512). -/
def diagWords (f : Fuses) (d : Dev) (block idx : Nat) : List (U32 × Bool) :=
  let mark := fun (ws : List U32) (counts : List Nat) => ws.zipIdx.map fun e => (e.1, counts.contains e.2)
  match block with
  | 0 => mark (composerRecord d idx) [0, 1, 2]
  | 1 => mark (panBankRecord f d idx) [1, 2, 3, 4, 5, 6, 7]
  | _ => mark (instRecord d idx) [3, 4, 5]

/-- The index field: output 0–7, bank 0–63 or instance 0–511; ignored where an instance reads itself. -/
def fDiagIndex : Field :=
  ⟨26, 2, fun x v =>
    let own := x.c.u8 24 == 2 && (match x.c.issuer with
      | .inst _ => true
      | _ => false)
    if own || v < nthD 0 (x.c.u8 24) [8, 64, 512] then none else some .outOfRange⟩

/-- Step 8 (R104, R107). -/
def ownDiag (x : Ctx) : Chk :=
  let i := x.c.u16 26
  match x.c.issuer with
  | .manager => none
  | .delegate => failIf (!(x.c.u8 24 == 2 && inRange x.d i)) .notOwner 0
  | .inst n => failIf (match x.c.u8 24 with
      | 0 => !holdsViewport x.view x.c.issuer i
      | 1 => !((instOf x.d n).pan.any fun e => (e.2.map fun p => p.1 % 64) == some i)
      | _ => false) .notOwner 0

def specDiagCounters : OpSpec where
  len := 1
  fields := fun _ => [fRange 24 1 0 2, fRange 25 1 0 1, fDiagIndex, fBits 28 1]
  own := ownDiag
  read := fun f d c =>
    let ws := diagWords f d (c.u8 24) (diagIndex c)
    let base := (d.baselines.find? fun b => b.issuer == c.issuer && b.block == c.u8 24 && b.index == diagIndex c).map (·.words)
    let ws := ws.zipIdx.map fun e =>
      if c.bit 28 0 && e.1.2 then e.1.1 - nthD 0 e.2 (base.getD []) else e.1.1
    (d, .ok (fourWords ws (4 * c.u8 25)))

/-- DIAG_COUNTER_CLEAR's landing, given the fuses that a bank record shows. -/
def landDiagClear (f : Fuses) (ch : Change) (d : Dev) : Dev :=
  let c := ch.cmd
  let b : Baseline := { issuer := c.issuer, block := c.u8 24, index := diagIndex c,
                        words := (diagWords f d (c.u8 24) (diagIndex c)).map (·.1) }
  { d with baselines := d.baselines.filter (fun x => !(x.issuer == b.issuer && x.block == b.block && x.index == b.index)) ++ [b] }

/-- The counter words of a bank record do not depend on the fuses, so the landing takes none. -/
def specDiagCounterClear : OpSpec where
  len := 1
  fields := fun _ => [fRange 24 1 0 2, fDiagIndex]
  own := ownDiag
  land := fun _ ch d => landDiagClear Fuses.zero ch d

def specDiagFaultLog : OpSpec where
  len := 1
  fields := fun _ => [fRange 24 2 0 255]
  read := fun _ d c => (d, .ok (match d.power.faultLog[c.u16 24]? with
    | none => []
    | some e => le16 e.unit_ ++ le8 e.kind ++ le8 e.handshake ++ le64 e.stamp ++ le32 e.seq))

def specDiagUnitState : OpSpec where
  len := 1
  fields := fun _ => [fIf 24 2 (fun v => decide (4095 < v)) .badParam]
  multi := fun x => failIf (!populated.contains (x.c.u16 24)) .outOfRange 24
  read := fun _ d c =>
    let u := c.u16 24
    let r := unitOf d u
    (d, .ok (le8 (if r.isolated then 2 else if r.recovering then 1 else if unitOff d u then 3 else 0) ++
      le8 (min 255 (recentStalls d r).length) ++ [0, 0] ++ le32 r.total ++ le32 r.lastStall.toNat))

end Sys2Proof.Machine
end

