-- ==== Sys2Proof/Machine/OpTable.lean ====
section
/-! DEFINITION. The opcode table as the engines use it: what each opcode's family says of it, and the fields of the
transaction opcodes (R104, R106, R122). -/

namespace Sys2Proof.Machine

/-- NOP (R106). -/
def specNop : OpSpec where

/-- FENCE, BEGIN, COMMIT and ROLLBACK carry no parameters (R106, R122). -/
def specBare : OpSpec where

/-- PREPARE (R122, R141): only the manager sets a ballot. -/
def specPrepare : OpSpec where
  len := 1
  permit := fun x => x.c.issuer == .manager || x.c.u32 24 == 0
  fields := fun _ => [fAny 24 4, fIf 28 2 (fun v => decide (16383 < v)) .badParam]

/-- TXN_STATUS (R122). -/
def specTxnStatus : OpSpec where
  len := 1
  fields := fun x => match x.c.u8 24 with
    | 0 => [fCode 24 2, fRange 25 1 0 7]
    | 1 => [fCode 24 2, fAny 28 4]
    | _ => [fCode 24 2, fAny 25 1]

/-- What each opcode's home chapter says of it. -/
def opSpec : Op → OpSpec
  | .nop => specNop
  | .fence => specBare
  | .instanceInfo => specInstanceInfo
  | .viewportList => specViewportList
  | .queueStats => specQueueStats
  | .beginTxn => specBare
  | .prepare => specPrepare
  | .commit => specBare
  | .rollback => specBare
  | .txnStatus => specTxnStatus
  | .layerCreate => specLayerCreate
  | .layerDestroy => specLayerDestroy
  | .layerSource => specLayerSource
  | .layerPlace => specLayerPlace
  | .layerBlend => specLayerBlend
  | .layerEnable => specLayerEnable
  | .layerRate => specLayerRate
  | .layerPalette => specLayerPalette
  | .layerClick => specLayerClick
  | .layerQuery => specLayerQuery
  | .scalerBind => specScalerBind
  | .scalerRelease => specScalerRelease
  | .scalerCoeff => specScalerCoeff
  | .lutLoad => specLutLoad
  | .matrixSet => specMatrixSet
  | .chromaSet => specChromaSet
  | .outputMode => specOutputMode
  | .outputEnable => specOutputEnable
  | .outputLead => specOutputLead
  | .outputStill => specOutputStill
  | .outputPolicy => specOutputPolicy
  | .outputGuard => specOutputGuard
  | .outputStatus => specOutputStatus
  | .outputAux => specOutputAux
  | .outputTrain => specOutputTrain
  | .harvestSetup => specHarvestSetup
  | .harvestRun => specHarvestRun
  | .harvestStatus => specHarvestStatus
  | .cvConfig => specCvConfig
  | .rakeJob => specRakeJob
  | .cvRead => specCvRead
  | .monitorSet => specMonitorSet
  | .monitorRead => specMonitorRead
  | .monitorCapture => specMonitorCapture
  | .touchPort => specTouchPort
  | .touchCalib => specTouchCalib
  | .touchSieve => specTouchSieve
  | .touchCancel => specTouchCancel
  | .touchStatus => specTouchStatus
  | .hapticChannel => specHapticChannel
  | .hapticPlay => specHapticPlay
  | .hapticStop => specHapticStop
  | .hapticTrigger => specHapticTrigger
  | .hapticBudget => specHapticBudget
  | .hapticStatus => specHapticStatus
  | .audioStream => specAudioStream
  | .audioRoute => specAudioRoute
  | .audioUnroute => specAudioUnroute
  | .audioBus => specAudioBus
  | .audioPort => specAudioPort
  | .audioMeter => specAudioMeter
  | .audioTone => specAudioTone
  | .audioSidetone => specAudioSidetone
  | .audioStatus => specAudioStatus
  | .tideRead => specTideRead
  | .tideSource => specTideSource
  | .oxPort => specOxPort
  | .domainSet => specDomainSet
  | .lockGroup => specLockGroup
  | .eventSend => specEventSend
  | .eventSubscribe => specEventSubscribe
  | .streamExport => specStreamExport
  | .streamImport => specStreamImport
  | .wakeMargin => specWakeMargin
  | .memMapInfo => specMemMapInfo
  | .slotTable => specSlotTable
  | .memRemap => specMemRemap
  | .memPagePolicy => specMemPagePolicy
  | .memRefresh => specMemRefresh
  | .memDisturb => specMemDisturb
  | .memSelfRefresh => specMemSelfRefresh
  | .memStatus => specMemStatus
  | .powerDomain => specPowerDomain
  | .powerIsland => specPowerIsland
  | .powerState => specPowerState
  | .powerStatus => specPowerStatus
  | .paceRead => specPaceRead
  | .sentinelSet => specSentinelSet
  | .instanceCreate => specInstanceCreate
  | .instanceDestroy => specInstanceDestroy
  | .instanceQuiesce => specInstanceQuiesce
  | .instanceReset => specInstanceReset
  | .instanceShare => specInstanceShare
  | .instanceWindow => specInstanceWindow
  | .instanceViewport => specInstanceViewport
  | .delegateRange => specDelegateRange
  | .deviceReset => specDeviceReset
  | .instanceStatus => specInstanceStatus
  | .diagCounters => specDiagCounters
  | .diagCounterClear => specDiagCounterClear
  | .diagFaultLog => specDiagFaultLog
  | .diagUnitState => specDiagUnitState
  | .securePromptOpen => specPromptOpen
  | .securePromptClose => specPromptClose
  | .watchRequest => specWatchRequest
  | .watchRelease => specWatchRelease
  | .secureMessage => specSecureMessage

end Sys2Proof.Machine
end

