-- ==== Sys2Proof/Machine/Transactions.lean ====
section
/-! DEFINITION. Transactions: what a landing does, the configuration as it will stand, PREPARE's checks, the sequencer,
cuts and invalidation (chapter 4). -/

namespace Sys2Proof.Machine

/-! ## Landing (R134, R135) -/

/-- Layers of an instance on an output become invisible, and class P (R504, R167). -/
def hideOn (n o : Nat) (d : Dev) : Dev :=
  (layersOn d o).foldl (fun d e =>
    if e.2.owner != .inst n then d else
    let d := loseW e.1 2 (nextFrame d o) d
    if e.2.visible then changeLayer e.1 (fun l => { l with visible := false }) d else d) d

/-- What an instance holds on an output is destroyed, without BUFFER_RELEASE (R508): layers, monitors and harvest
channels, with their scaler bindings. -/
def destroyOn (n o : Nat) (d : Dev) : Dev :=
  let d := (layersOn d o).foldl (fun d e =>
    if e.2.owner != .inst n then d
    else destroyLayer e.1 (loseW e.1 3 (nextFrame d o) d)) d
  let d := { d with uses := d.uses.filter fun u => !(u.owner == .inst n && u.output == o) }
  let d := (List.range 16).foldl (fun d m => if (monOf d o m).owner == some (.inst n) then updMon o m freeMonitor d else d) d
  (List.range 8).foldl (fun d k =>
    let h := harvestOf d k
    if h.owner == some (.inst n) && h.output == o then
      updHarvest k (fun h => { Harvest.zero with lastFrame := h.lastFrame, skipped := h.skipped, incomplete := h.incomplete })
        (stopHarvest k 6 0 d)
    else d) d

/-- The viewports of an instance on an output go (R500). -/
def unviewOn (n o : Nat) (d : Dev) : Dev := (List.range 8).foldl (fun d s => setViewport n o s .zero d) d

/-- The secure world sets or releases class W on a layer (R525). -/
def landWatch (n : Nat) (on : Bool) (d : Dev) : Dev :=
  match layerOf d n with
  | none => d
  | some l =>
    if l.classW == on then d else
    raise 0x0311 n (le8 (b2n on) ++ le8 (b2n !on) ++ [0, 0] ++ le32 (nextFrame d l.output).toNat)
      (ownerPages l.owner) true (putLayer n (some { l with classW := on }) d)

/-- What one change does when it lands. -/
def landChange (id : Nat) (ch : Change) (d : Dev) : Dev :=
  let o := ch.outs.headD 0
  match ch.act with
  | .cmd op => (opSpec op).land id ch d
  | .hide n => hideOn n o d
  | .destroy n => destroyOn n o d
  | .unview n => unviewOn n o d
  | .watch layer on => landWatch layer on d
  | .secMonitor => landMonitorSet .secure ch d
  | .gang kind obj =>
    match bindingOf d kind obj with
    | some b => setBinding kind obj (some { b with scaler := ch.obj, gang := true }) d
    | none => d
  | .nothing => d

/-- Transactions in the order in which they were sequenced (R131). -/
def bySeq (l : List Txn) : List Txn :=
  l.foldl (fun acc t => (acc.takeWhile fun u => decide (u.seqNo ≤ t.seqNo)) ++ t :: acc.dropWhile fun u => decide (u.seqNo ≤ t.seqNo)) []

/-- The changes of a transaction that wait for an output's cut. -/
def waitsFor (t : Txn) (o : Nat) : Bool := t.state == .sequenced && t.landings.any fun l => l.output == o && l.pending

def pendingOn (t : Txn) (o : Nat) : List Change := if waitsFor t o then t.resolved.filter (·.outs.head? == some o) else []

/-- The device as it will stand once every SEQUENCED transaction has landed (R94 step 8, R125), every audio change that
waits for its block included. -/
def viewOf (d : Dev) : Dev :=
  audioView ((bySeq d.txns).foldl (fun v t =>
    (t.resolved.filter fun ch => ch.outs.head?.any (waitsFor t)).foldl (fun v ch => landChange t.id ch v) v) d)

/-! ## PREPARE (R121, R125, R126, R236, R251) -/

/-- A failed check: its place in R125's order (ten times the step, 65 for step 10 of R94), the staged index, the
status and the detail that a single command's reply gives. -/
structure Fail where
  step : Nat
  idx : Nat
  status : Status
  detail : Nat
  deriving DecidableEq, Repr

/-- The first failure: the lowest step, then the lowest staged index. -/
def firstFailure (l : List Fail) : Option Fail :=
  l.foldl (fun (best : Option Fail) f => match best with
    | none => some f
    | some b => if f.step < b.step || (f.step == b.step && decide (f.idx < b.idx)) then some f else some b) none

/-- Whether a staged change claims an object by naming 0xFF (R121). -/
def isClaim (ch : Change) : Bool :=
  match ch.act with
  | .cmd .scalerBind => ch.cmd.u8 27 == 0xFF
  | .cmd .layerCreate => false
  | .cmd .instanceCreate => false
  | .cmd op => (opSpec op).creates ch.cmd
  | _ => false

/-- Whether a staged change counts as a create: it creates an object, or claims one by naming 0xFF (R121). -/
def isCreate (ch : Change) : Bool := isClaim ch || ch.act == .cmd .layerCreate || ch.act == .cmd .instanceCreate

/-- Whether a change gives up a check-value unit, a monitor, or an audio object. -/
def isRelease (ch : Change) : Bool :=
  match ch.act with
  | .cmd .cvConfig => ch.cmd.bit 25 0
  | .cmd .monitorSet => ch.cmd.bit 26 4
  | .cmd .audioStream => ch.cmd.u8 25 == 1
  | .cmd .audioBus => ch.cmd.bit 25 0
  | .cmd .audioTone => ch.cmd.bit 25 0
  | _ => false

/-- Whether a change takes something that a reservation keeps from others (R126), in the device before it. -/
def reserving (d : Dev) (ch : Change) : Bool :=
  let c := ch.cmd
  match ch.act with
  | .gang _ _ => true
  | .cmd op => match op with
    | .layerCreate => true
    | .scalerBind => true
    | .outputMode => true
    | .instanceCreate => true
    | .layerSource => true
    | .outputEnable => c.bit 25 0
    | .cvConfig => !c.bit 25 0
    | .monitorSet => !c.bit 26 4
    | .audioStream => c.u8 25 == 0
    | .audioBus => !c.bit 25 0
    | .audioTone => !c.bit 25 0
    | .harvestSetup => c.u8 26 != 2
    | .layerRate => ((layerOf d (c.u16 24)).map fun l => decide (l.rate < c.u32 28)).getD false
    | .layerEnable => c.bit 26 0
    | .instanceViewport => c.u16 32 != 0 && c.u16 34 != 0
    | .instanceWindow => c.u8 27 != 2
    | _ => false
  | _ => false

/-- Objects a change names. -/
def changeObjs (d : Dev) (ch : Change) : List (Nat × Nat) :=
  match ch.act with
  | .cmd op => (opSpec op).objs d ch
  | .gang kind obj => [(if kind = 0 then 0 else 2, obj), (1, ch.obj), (1, ch.obj + 1)]
  | _ => []

/-- PREPARED and ARMED transactions other than one. -/
def heldTxns (d : Dev) (id : Nat) : List Txn := d.txns.filter fun t => t.id != id && (t.state == .prepared || t.state == .armed)

/-- Applies the reservations of other transactions, but for changes that name an object of one's own. -/
def withReserved (others : List Change) (mine : List (Nat × Nat)) (d : Dev) : Dev :=
  others.foldl (fun s ch =>
    if reserving s ch && !(changeObjs s ch).any mine.contains then landChange 0 ch s else s) d

/-- One staged change in its place: the device before it, the change with its object assigned, the device after it. -/
structure Placed where
  before : Dev
  ch : Change
  after : Dev

/-- Layer numbers whose destroy is sequenced and has not landed (R147). -/
def heldLayers (d view : Dev) : List Nat := (List.range 128).filter fun n => (layerOf d n).isSome && (layerOf view n).isNone

/-- Scalers whose release is sequenced and has not landed (R186). -/
def heldScalers (d view : Dev) : List Nat :=
  let now := (bindings view).flatMap fun b => b.2.2.members
  ((bindings d).flatMap fun b => b.2.2.members).filter (!now.contains ·)

/-- The object PREPARE assigns (R121, R147, R187): the lowest free in a state. -/
def allocFor (d view s : Dev) (op : Op) (c : Cmd) : Option Nat :=
  match op with
  | .layerCreate => (List.range 128).find? fun n => (layerOf s n).isNone && !(heldLayers d view).contains n
  | .scalerBind => pickScaler (scalersHeld s (c.u8 26) (c.u16 24) ++ heldScalers d view) c
  | _ => (opSpec op).alloc s c

/-- Provisional numbers replaced by the numbers assigned so far (R121). -/
def withNumbers (op : Op) (done : List Placed) (c : Cmd) : Cmd :=
  (opSpec op).prov.foldl (fun c off =>
    let v := c.u16 off
    if v < 0x8000 then c else match done[v - 0x8000]? with
      | some p => c.withU16 off p.ch.obj
      | none => c) c

/-- Places one staged change after those already placed. `claims` gives the objects of the claims by staged index; with none
the claims are passed over. -/
def placeOne (d view : Dev) (others : List Change) (lead : Change → Bool) (claims : Option (List (Nat × Option Nat)))
    (id : Nat) (done : List Placed) (s : Dev) (ch : Change) : Placed × Option Fail :=
  match ch.act with
  | .cmd op =>
    let sp := opSpec op
    let ch := { ch with cmd := withNumbers op done ch.cmd }
    let claim := isClaim ch
    let taken := isRelease ch && (sp.objs s ch).any fun x => done.any fun p =>
      isClaim p.ch && (changeObjs p.before p.ch).contains x
    let got : Option Nat :=
      if claim then (claims.bind (·.lookup done.length)).join
      else if op == .scalerBind then some (ch.cmd.u8 27 + 256 * b2n (ch.cmd.bit 28 1))
      else if sp.creates ch.cmd then allocFor d view (withReserved others [] s) op ch.cmd
      else some (if op == .outputMode && lead ch then 1 else ch.obj)
    let ch := { ch with act := if taken then .nothing else ch.act, obj := got.getD 0xFFFF }
    let ch := { ch with outs := (sp.outs s ch).take 1 }
    ({ before := s, ch := ch, after := if claim && got.isNone then s else landChange id ch s },
      if got.isNone && op != .instanceCreate && (!claim || claims.isSome) then some ⟨40, done.length, .noResource, 0⟩ else none)
  | _ => ({ before := s, ch := ch, after := landChange id ch s }, none)

/-- Places every staged change in order. -/
def placeAll (d view : Dev) (others : List Change) (lead : Change → Bool) (claims : Option (List (Nat × Option Nat)))
    (id : Nat) : List Change → List Placed → Dev → List Placed × List Fail
  | [], done, _ => (done, [])
  | ch :: r, done, s =>
    let p := placeOne d view others lead claims id done s ch
    let q := placeAll d view others lead claims id r (done ++ [p.1]) p.1.after
    (q.1, p.2.toList ++ q.2)

/-- The state after the last placed change. -/
def lastOf (view : Dev) (placed : List Placed) : Dev := (placed.getLast?.map (·.after)).getD view

/-- The objects of the claims, in staging order: each the lowest that is free in the result of every other change (R121).
`base` is that result. A release that freed one of them is left out by `placeOne` (log 166). -/
def assignClaims (d view : Dev) (others : List Change) (id : Nat) (base : Dev) (placed : List Placed) : List (Nat × Option Nat) :=
  (placed.zipIdx.foldl (fun (acc : Dev × List (Nat × Option Nat)) e =>
    match e.1.ch.act with
    | .cmd op =>
      if !isClaim e.1.ch then acc else
      match allocFor d view (withReserved others [] acc.1) op e.1.ch.cmd with
      | some n => (landChange id { e.1.ch with obj := n } acc.1, acc.2 ++ [(e.2, some n)])
      | none => (acc.1, acc.2 ++ [(e.2, none)])
    | _ => acc) (base, [])).2

/-- Places a transaction's changes: first without its claims, which says what is free in its result, then with them. -/
def placeTxn (d view : Dev) (others : List Change) (lead : Change → Bool) (t : Txn) : List Placed × List Fail :=
  let first := (placeAll d view others lead none t.id t.changes [] view).1
  if !first.any (fun p => isClaim p.ch) then placeAll d view others lead none t.id t.changes [] view
  else placeAll d view others lead (some (assignClaims d view others t.id (lastOf view first) first)) t.id t.changes [] view

/-- Outputs that need new pages in a result (R251). -/
def newPages (view result : Dev) (placed : List Placed) : List Nat :=
  (List.range 8).filter fun o =>
    let a := outOf view o
    let b := outOf result o
    let shape := fun (x : Output) => x.mode.map fun m => (m.hActive, m.vActive, m.compact)
    b.enabled && (!a.enabled || shape a != shape b || placed.any fun p =>
      p.ch.act == .cmd .outputEnable && p.ch.cmd.u8 24 == o && p.ch.cmd.bit 25 0 && !(outOf p.before o).enabled)

/-- The change that carries an output's pages: its last enable that takes effect, else its last mode. -/
def pageCarrier (placed : List Placed) (o : Nat) : Option Nat :=
  let at_ := fun (ok : Placed → Bool) => (placed.zipIdx.filter fun e => ok e.1).getLast?.map (·.2)
  (at_ fun p => p.ch.act == .cmd .outputEnable && p.ch.cmd.u8 24 == o && p.ch.cmd.bit 25 0 && !(outOf p.before o).enabled).or
    (at_ fun p => p.ch.act == .cmd .outputMode && p.ch.cmd.u8 24 == o)

/-- Pages of an output that a result gives out: lowest free pages of the home die (R251). -/
def assignPages (result : Dev) (fresh : List Nat) : List (Nat × Option (List Nat)) :=
  (fresh.foldl (fun (acc : Dev × List (Nat × Option (List Nat))) o =>
    let x := outOf acc.1 o
    match x.mode with
    | none => acc
    | some m =>
      let free := freePages acc.1 o
      let n := pagesNeeded m
      if free.length < n then (acc.1, acc.2 ++ [(o, none)])
      else (updOut o (fun x => { x with pages := free.take n }) acc.1, acc.2 ++ [(o, some (free.take n))]))
    (fresh.foldl (fun d o => updOut o (fun x => { x with pages := [] }) d) result, [])).2

/-- The scaler pairs that step 5 takes for bindings with AUTO_GANG, or the objects it fails on (R199). -/
def gangAll (result : Dev) : List (Nat × Nat × Option Nat) :=
  ((bindings result).foldl (fun (acc : Dev × List (Nat × Nat × Option Nat)) e =>
    let b := e.2.2
    if (scaledSizes acc.1 e.1 e.2.1).1.1 ≤ lineBuf b then acc
    else if b.gang || !b.autoGang then (acc.1, acc.2 ++ [(e.1, e.2.1, none)])
    else match autoGang acc.1 e.1 e.2.1 b with
      | some s => (setBinding e.1 e.2.1 (some { b with scaler := s, gang := true }) acc.1, acc.2 ++ [(e.1, e.2.1, some s)])
      | none => (acc.1, acc.2 ++ [(e.1, e.2.1, none)])) (result, [])).2

/-- The staged change that set an object's crop or made its binding, latest first. -/
def cropIndex (placed : List Placed) (kind obj : Nat) : Option Nat :=
  (placed.zipIdx.filter fun e =>
    let c := e.1.ch.cmd
    match e.1.ch.act with
    | .cmd .layerPlace => kind == 0 && c.u16 24 == obj
    | .cmd .scalerBind => c.u8 26 == kind && c.u16 24 == obj
    | .cmd .harvestSetup => kind == 1 && c.u8 24 == obj
    | .cmd .outputMode => kind == 1 && c.u8 24 == (harvestOf e.1.after obj).output
    | _ => false).getLast?.map (·.2)

/-- Outputs whose layers, mode or enable a change concerns (R236), with whether it touches a layer. -/
def bandActs (p : Placed) : List (Nat × Bool) :=
  match p.ch.act with
  | .cmd op =>
    let fam := opCode op / 256
    if fam = 3 || (fam = 4 && (p.ch.cmd.u8 26 = 0 || op == .matrixSet || op == .chromaSet)) then
      ((p.ch.outs.map fun o => (o, true)))
    else if op == .outputMode || op == .outputEnable then p.ch.outs.map fun o => (o, false)
    else []
  | _ => []

/-- Step 6 of R125 for declared rates (R236). `before` and `result` both hold what other transactions have reserved. -/
def bandFails (before result : Dev) (placed : List Placed) : List Fail :=
  let acts := placed.zipIdx.flatMap fun e => (bandActs e.1).map fun a => (a.1, a.2, e.2)
  match (List.range 8).find? fun o =>
      acts.any (·.1 == o) && bandwidthShort result o &&
        (!bandwidthShort before o || decide (declaredRate before o < declaredRate result o)) with
  | none => []
  | some o => [⟨60, ((acts.find? fun a => a.1 == o && a.2.1).map (·.2.2)).getD 0, .bandwidth, 0⟩]

/-- The layer limits of step 4 (R146): the detail names the first create that does not fit. -/
def layerLimits (result : Dev) (placed : List Placed) : List Fail :=
  let creates := placed.zipIdx.filter fun e => e.1.ch.act == .cmd .layerCreate
  let excess := fun (count limit : Nat) (l : List (Placed × Nat)) =>
    if count ≤ limit then []
    else [(⟨40, ((l[l.length - (count - limit)]?).map (·.2)).getD 0, .noResource, 0⟩ : Fail)]
  if creates.isEmpty then [] else
  excess (layersAll result).length 128 creates ++ (List.range 8).flatMap fun o =>
    let mine := creates.filter fun e => e.1.ch.cmd.u8 24 == o
    if mine.isEmpty then [] else excess (layersOn result o).length 32 mine

/-- Whether a bind's scalers are held by another object in a result (R187). -/
def bindHeld (last : Dev) (ch : Change) : Bool :=
  let kind := ch.cmd.u8 26
  let obj := ch.cmd.u16 24
  ch.act == .cmd .scalerBind && (match bindingOf last kind obj with
    | some b => b.scaler == ch.obj % 256 && b.members.any (scalersHeld last kind obj).contains
    | none => false)

/-- Objects of the claims' kinds that an issuer may be given: free ones, and its own. -/
def objFree (s : Dev) (i : Issuer) (x : Nat × Nat) : Bool :=
  let ok := fun (ow : Option Owner) => ow.all (· == ownerOf i)
  let a := (audioView s).audio
  match x.1 with
  | 5 => ok (tget Monitor.zero s.monitors x.2).owner
  | 6 => ok (cvOf s x.2).owner
  | 7 => ok (streamOf a (x.2 / 256 == 1) (x.2 % 256)).owner
  | 8 => ok (nthD Bus.zero x.2 a.buses).owner
  | 9 => ok (nthD Tone.zero x.2 a.tones).owner
  | _ => true

/-- Whether what PREPARE assigned to a change is still free in the state before it (step 4 of R125, at a re-check). -/
def stillFree (s : Dev) (ch : Change) : Bool :=
  match ch.act with
  | .gang kind obj => let held := scalersHeld s kind obj
                      !held.contains ch.obj && !held.contains (ch.obj + 1)
  | .cmd .layerCreate => (layerOf s ch.obj).isNone
  | .cmd .instanceCreate => !(instOf s ch.obj).exists_
  | .cmd .outputMode => ch.table.all fun p => (freePages s (ch.cmd.u8 24)).contains p.toNat
  | .cmd .outputEnable => ch.table.all fun p => (freePages s (ch.cmd.u8 24)).contains p.toNat
  | .cmd _ => !isClaim ch || (changeObjs s ch).all (objFree s ch.cmd.issuer)
  | _ => true

/-- The checks of R125 over placed changes. `last` is the state after them; `before` and `result` are the states before and
after them with the others' reservations. -/
def checkPlaced (before last result : Dev) (reserved : List (Nat × Nat)) (placed : List Placed) : List Fail :=
  (placed.zipIdx.flatMap fun e =>
    let p := e.1
    match p.ch.act with
    | .cmd op =>
      let sp := opSpec op
      (if sp.stillOwned p.before p.ch then [] else [(⟨10, e.2, .notOwner, 0⟩ : Fail)]) ++
      (if bindHeld last p.ch then [⟨40, e.2, .noResource, 0⟩] else []) ++
      (sp.prep p.before p.after result p.ch).map (fun f => ⟨10 * f.1, e.2, f.2, 0⟩) ++
      (if opKind op == .n then ((sp.step10 p.before p.ch.cmd).toList.map fun f => ⟨65, e.2, f.1, f.2⟩) else []) ++
      (if (changeObjs p.before p.ch).any reserved.contains then [⟨70, e.2, .txnConflict, 0⟩] else [])
    | _ => []) ++ layerLimits result placed ++ bandFails before result placed

/-- What PREPARE answers: the changes to land, or the first failure. -/
abbrev Prepared := Except Fail (List Change)

/-- Whether another transaction's reservations bind an issuer: the manager passes over those of instances (R128). -/
def binds (i : Issuer) (u : Txn) : Bool :=
  match i, u.issuer with
  | .manager, .inst _ => false
  | _, _ => true

/-- A bind whose object step 5 ganged takes the pair at once, and its reply names the even member (R199, R214). -/
def withGang (gangs : List (Nat × Nat × Option Nat)) (ch : Change) : Change :=
  if ch.act != .cmd .scalerBind then ch else
  match gangs.find? fun g => g.1 == ch.cmd.u8 26 && g.2.1 == ch.cmd.u16 24 with
  | some (_, _, some s) => { ch with obj := s + 256 }
  | _ => ch

/-- Whether a transaction stages an OUTPUT_LEAD for a change's output (R130). -/
def stagesLead (t : Txn) (ch : Change) : Bool :=
  t.changes.any fun l => l.act == .cmd .outputLead && l.cmd.u8 24 == ch.cmd.u8 24

/-- Evaluates a transaction's staged changes (R125). -/
def prepareChanges (t : Txn) (d : Dev) : Prepared :=
  let view := viewOf d
  let held := heldTxns d t.id
  let others := held.flatMap (·.resolved)
  let reserved := (held.filter (binds t.issuer)).flatMap fun u => u.resolved.flatMap (changeObjs view)
  let (placed, fails) := placeTxn d view others (stagesLead t) t
  let last := lastOf view placed
  let mine := placed.flatMap fun p => changeObjs p.before p.ch
  let result := withReserved others mine last
  let pages := assignPages result (newPages view last placed)
  let pageFails := pages.filterMap fun e => match e.2 with
    | none => some (⟨40, (pageCarrier placed e.1).getD 0, .noResource, 0⟩ : Fail)
    | some _ => none
  let gangs := gangAll result
  let gangFails := gangs.filterMap fun g => match g.2.2, cropIndex placed g.1 g.2.1 with
    | none, some i => some (⟨50, i, .scalerShort, 0⟩ : Fail)
    | _, _ => none
  match firstFailure (fails ++ checkPlaced (withReserved others mine view) last result reserved placed ++ pageFails ++ gangFails) with
  | some f => .error f
  | none =>
    let chs := placed.zipIdx.map fun e =>
      match pages.find? fun g => pageCarrier placed g.1 == some e.2 with
      | some (_, some l) => { e.1.ch with table := l.map (BitVec.ofNat 8) }
      | _ => withGang gangs e.1.ch
    .ok (chs ++ gangs.filterMap fun g => match g.2.2, cropIndex placed g.1 g.2.1 with
      | some s, some _ => some { act := .gang g.1 g.2.1, cmd := (chs.head?.map (·.cmd)).getD (splashMode [] 0 0),
                                 table := [], obj := s, outs := (scaledOutput last g.1 g.2.1).take 1 }
      | _, _ => none)

/-- Evaluates a prepared transaction's changes again, with what was assigned to it (R128). -/
def recheckChanges (t : Txn) (d : Dev) : Option Fail :=
  let view := viewOf d
  let placed := (t.resolved.foldl (fun (acc : List Placed × Dev) ch =>
    let a := landChange t.id ch acc.2
    (acc.1 ++ [{ before := acc.2, ch := ch, after := a }], a)) ([], view)).1
  let last := lastOf view placed
  let others := (heldTxns d t.id).flatMap (·.resolved)
  let mine := placed.flatMap fun p => changeObjs p.before p.ch
  let result := withReserved others mine last
  let gone := placed.zipIdx.filterMap fun e => if stillFree e.1.before e.1.ch then none else
    some (⟨40, min e.2 (t.changes.length - 1), .noResource, 0⟩ : Fail)
  let short := (gangAll result).filterMap fun g => (cropIndex placed g.1 g.2.1).map fun i => (⟨50, i, .scalerShort, 0⟩ : Fail)
  firstFailure (gone ++ checkPlaced (withReserved others mine view) last result [] placed ++ short)

/-- PREPARE of a transaction (R123, R125): PREPARED with its reservations, or OPEN with none. -/
def prepareTxn (id : Nat) (d : Dev) : Option Fail × Dev :=
  match txnOf d id with
  | none => (none, d)
  | some t =>
    let d := updTxn id (fun t => { t with state := .openT, resolved := [] }) d
    match prepareChanges t d with
    | .error f => (some f, updTxn id (fun t => { t with lastStatus := f.status, failIndex := f.idx }) d)
    | .ok chs => (none, updTxn id (fun t => { t with state := .prepared, resolved := chs, lastStatus := .ok, failIndex := 0xFFFF }) d)

/-! ## Invalidation (R128) -/

/-- Drops an own transaction whose command fails, with its reply. -/
def dropOwn (id : Nat) (st : Status) (detail : Nat) (d : Dev) : Dev :=
  match txnOf d id with
  | none => d
  | some t =>
    let d := { d with txns := d.txns.filter (·.id != id) }
    match t.commit with
    | some c => finish c st detail [] d
    | none => d

/-- Re-checks one PREPARED or ARMED transaction: where it fails it returns to OPEN, its issuer hears of it, and a COMMIT
or single command that waits replies TXN_CONFLICT. -/
def recheckTxn (id : Nat) (d : Dev) : Dev :=
  match txnOf d id with
  | none => d
  | some t =>
    match recheckChanges t d with
    | none => d
    | some f =>
      if t.own then dropOwn id .txnConflict 0 d else
      let said := if t.commit.isSome then Status.txnConflict else f.status
      let d := updTxn id (fun t => { t with state := .openT, resolved := [], commit := none, wait := none, passed := false,
                                            lastStatus := said, failIndex := f.idx }) d
      let d := match t.commit with
        | some c => finish c .txnConflict 0 [] (sendBallot t.ballot t.coord (statusCode .txnConflict) true d)
        | none => d
      raise 0x0201 t.handle.toNat (le16 (statusCode f.status) ++ le16 f.idx ++ le8 (if t.state == .armed then 2 else 1))
        [pageKey t.issuer] false d

/-- Re-checks the PREPARED and ARMED transactions of instances and of the delegate. -/
def recheckAll (d : Dev) : Dev :=
  (d.txns.filter fun t => (t.state == .prepared || t.state == .armed) && t.issuer != .manager).foldl
    (fun d t => recheckTxn t.id d) d

/-- Re-checks every PREPARED and ARMED transaction, the manager's too: a context has been freed (R500; log 28). -/
def recheckEvery (d : Dev) : Dev :=
  (d.txns.filter fun t => t.state == .prepared || t.state == .armed).foldl (fun d t => recheckTxn t.id d) d

/-- Whether a change of the manager's calls for the re-check of R128. -/
def disturbs (ch : Change) : Bool :=
  match ch.act with
  | .cmd .instanceWindow => true
  | .cmd .instanceViewport => true
  | .cmd .slotTable => true
  | .cmd .outputMode => true
  | .cmd .hapticChannel => true
  | .cmd .audioPort => true
  | .cmd .layerDestroy => true
  | .cmd .scalerBind => true
  | .cmd .scalerRelease => true
  | .cmd .audioStream => true
  | .cmd .audioBus => true
  | .cmd .audioTone => true
  | .cmd .harvestSetup => true
  | .cmd .cvConfig => true
  | .cmd .monitorSet => true
  | .hide _ => false
  | .destroy _ => true
  | .unview _ => true
  | _ => false

/-! ## Cuts (R131 to R135, R178) -/

/-- Lands everything that waits for an output's cut, in sequence; answers the changes and the transactions. -/
def landPending (o : Nat) (d : Dev) : List Change × List Nat × Dev :=
  (bySeq d.txns).foldl (fun (acc : List Change × List Nat × Dev) t =>
    let chs := pendingOn t o
    if !waitsFor t o then acc
    else (acc.1 ++ chs, acc.2.1 ++ [t.id], withCause ((t.commit.map (·.no)).or t.cause)
      (fun d => chs.foldl (fun d ch => landChange t.id ch d) d) acc.2.2)) ([], [], d)

/-- Records that what waited for an output has landed for a frame, and completes what is whole. -/
def markLanded (o : Nat) (frame : U32) (ids : List Nat) (d : Dev) : Dev :=
  let d := ids.foldl (fun d id => updTxn id (fun t => { t with landings := t.landings.map fun l =>
    if l.output = o then { l with frame := frame, pending := false } else l }) d) d
  ids.foldl (fun d id => settleTxn id d) d

/-- The cut of an output: what is sequenced lands, and the next frame is opened. A switch that reallocates its partition
opens its frame only when that is zeroed (R292), and an output that has been disabled opens none. -/
def cutOutput (o : Nat) (wake : Bool) (d : Dev) : Dev :=
  let old := d
  let n := nextNumber d o
  let (landed, ids, d) := landPending o d
  let x := outOf d o
  let d := if !x.enabled then updOut o (fun x => { x with cutDone := true }) d
    else if !x.zeroed then
      let d := endUses o old landed d
      if x.opening then d else updOut o (fun x => { x with cutDone := true, composed := n }) d
    else openFrame o old landed wake d
  markLanded o n ids d

/-! ## The sequencer (R131 to R135) -/

/-- The frame to which a change of an output sequenced now applies (R131). -/
def landFrame (d : Dev) (o : Nat) : U32 :=
  let x := outOf d o
  if x.cutDone then x.composed + 1 else nextNumber d o

/-- Places a sequenced transaction against an output's cuts: a wake cut where it is in still refresh (R135), WAKE where
its group is (R75); else it waits for its next cut. -/
def placeCut (o : Nat) (d : Dev) : Dev :=
  let x := outOf d o
  match lockOf d o with
  | some (g, gr) =>
    if !x.still.active && !inStill gr then d else
    let (known, d) := if inStill gr then memberWake g o d else (true, d)
    if known then cutOutput o true d else d
  | none => if x.still.active then cutOutput o true d else d

/-- Lands at once what does not wait for a cut: kind N, and changes of a disabled output (R134). A single command's
results are taken as its change lands. -/
def landNow (t : Txn) (off : List Nat) (d : Dev) : Dev :=
  let now := t.resolved.filter fun ch => ch.outs.head?.all off.contains
  let d' := withCause ((t.commit.map (·.no)).or t.cause) (fun d => now.foldl (fun d ch =>
    let d := landChange t.id ch { d with result := [] }
    match ch.act with
    | .cmd op => if t.own then let r := (opSpec op).results d ch
                               updTxn t.id (fun t => { t with out := r }) d else d
    | _ => d) d) d
  off.foldl (fun e o => endUses o d (now.filter (·.outs.contains o)) e) d'

/-- Sequences a transaction (R127, R131, R134). -/
def sequenceTxn (id : Nat) (d : Dev) : Dev :=
  match txnOf d id with
  | none => d
  | some t =>
    let outs := (t.resolved.filterMap (·.outs.head?)).eraseDups
    let off := outs.filter fun o => !(outOf d o).enabled
    let on := outs.filter fun o => (outOf d o).enabled
    let grouped := fun o => ((lockOf d o).map (inStill ·.2)).getD false
    let how := fun o => if off.contains o then How.disabledOutput else if (outOf d o).still.active || grouped o then .wakeCut else .cut
    let d := { updTxn id (fun t => { t with
        state := .sequenced, seqNo := d.nextSeq, wait := none, passed := false,
        landings := outs.map fun o => { output := o, how := how o, pending := on.contains o,
                                        frame := if off.contains o || grouped o then 0 else landFrame d o } }) d with
      nextSeq := d.nextSeq + 1 }
    let first := t.resolved.head?
    let d := match t.own, first with
      | true, some ch => (match ch.act with
          | .cmd op => if ch.outs.isEmpty then d else
              let r := (opSpec op).results d ch
              updTxn id (fun t => { t with out := r }) d
          | _ => d)
      | _, _ => d
    let d := landNow t off d
    let d := on.foldl (fun d o => placeCut o d) d
    let d := settleTxn id d
    if t.issuer == .manager && t.resolved.any disturbs then recheckAll d else d

/-! ## Changes the GD8 makes by itself (R135) -/

/-- A transaction of one change that the GD8 makes at an output's next cut, sequenced now. -/
def makeChange (act : Act) (cmd : Cmd) (obj o : Nat) (d : Dev) : Dev :=
  let id := d.nextTxn
  let ch : Change := { act := act, cmd := cmd, table := [], obj := obj, outs := [o] }
  let t : Txn := {
    id := id, issuer := .manager, own := true, handle := 0, state := .prepared, changes := [ch], resolved := [ch],
    landings := [], lastStatus := .ok, failIndex := 0xFFFF, ballot := 0, coord := 0, commit := none, wait := none,
    passed := false, seqNo := 0, waits := 0, verdict := none, out := [], cause := d.cause }
  sequenceTxn id { d with nextTxn := id + 1, txns := d.txns ++ [t] }

/-- A command that stands for no packet. -/
def noCmd : Cmd :=
  { issuer := .manager, urgent := false,
    pkt := { flags := 0, len := 0, tag := 0, handle := 0, rsvd := 0, instant := 0, params := 0 } }

/-! ## The rows of outputs (R131, R253, R292, R294, R309) -/

/-- Whether a member's WAKE has named its index and changes wait for that frame (R75). -/
def wakeOwed (d : Dev) (o : Nat) : Bool :=
  let x := outOf d o
  (d.txns.any fun t => t.state == .sequenced && t.landings.any fun l => l.output == o && l.pending && l.how == .wakeCut) &&
    ((lockOf d o).map fun g => g.2.wakeIndex.any (decide <| gridNear g.2 x.frameStart < ·)).getD false

/-- Instant of the cut of the frame being scanned by a lock-group member, in 2^-16 ns (R138). -/
def groupCut (x : Output) (g : Group) : Nat := gridAt g (gridNear g x.frameStart) + g.cutOffset

/-- Whether the cut of the frame being scanned has come: the start of line (active height − LEAD) (R130), or a group's
common instant (R138). -/
def cutReached (d : Dev) (o : Nat) : Bool :=
  let x := outOf d o
  match lockOf d o with
  | some (_, g) => decide (groupCut x g ≤ d.tide.now)
  | none => decide (((x.scanMode.map (·.vActive)).getD 0) - x.lead ≤ x.nextLine)

/-- Whether an output's cut is still to come. -/
def cutAwaited (d : Dev) (o : Nat) : Bool :=
  let x := outOf d o
  x.enabled && x.scanning && !x.cutDone

/-- The outputs whose cut falls with an output's: the members of its group that scan the same grid frame (R138). -/
def cutMates (d : Dev) (o : Nat) : List Nat :=
  match lockOf d o with
  | none => [o]
  | some (i, g) => (groupOutputs d i).filter fun p =>
      cutAwaited d p && gridNear g (outOf d p).frameStart == gridNear g (outOf d o).frameStart

/-- Whether a COMMIT or a display command waits whose launch instant has come: it is placed before the cut (R132). -/
def commitDue (d : Dev) : Bool :=
  d.txns.any fun t => t.state == .armed && t.wait.any fun i => decide (i * 65536 ≤ d.tide.now)

/-- The cuts of groups that fell before a launch instant, in ns: what launches then is placed after them (R132, R139). -/
def cutsBefore (instant : Nat) (d : Dev) : Dev :=
  (List.range 8).foldl (fun d o =>
    match lockOf d o with
    | some (_, g) => if cutAwaited d o && decide (groupCut (outOf d o) g < instant * 65536) then cutOutput o false d else d
    | none => d) d

/-- OUTPUT_CUT (R130 to R132, R138): the cut of the frame being scanned, with that of every member of its group. -/
def execOutputCut (o : Nat) (s : State) : Host.Outcome State Fault Refusal :=
  onDev (fun _ d =>
    let x := outOf d o
    if x.enabled && x.scanning && wakeOwed d o then cutOutput o true d
    else if !cutAwaited d o || !cutReached d o || commitDue d then d
    else (cutMates d o).foldl (fun d p => cutOutput p false d) d) s

/-- Zeroes the bytes of an output's partition. -/
def zeroPartition (o : Nat) (d : Dev) : Dev :=
  let pages := (outOf d o).pages
  let clear := fun (m : List Host.Cell) => pages.foldl (fun m p => memZero m (p * 1048576) 1048576) m
  if o < 4 then { d with fsA := clear d.fsA } else { d with fsB := clear d.fsB }

/-- PARTITION_ZEROED (R253, R292, R294): the end of the zeroing opens frame 0, or the first frame of a switch. -/
def execPartitionZeroed (o : Nat) (s : State) : Host.Outcome State Fault Refusal :=
  onDev (fun _ d =>
    let x := outOf d o
    if !x.enabled || x.zeroed || x.pages.isEmpty || !activeDone x || !domainServes d (if o < 4 then 4 else 5) then d else
    let d := updOut o (fun x => { x with zeroed := true }) (zeroPartition o d)
    if x.cutDone then openFrame o d [] false d
    else if x.opening then cutOutput o false d
    else d) s

/-- DP_PLL_RELOCK (R309): the PLL has locked again; a new frame follows, one above the last, every band damaged, and the
link is retrained, unless OUTPUT_TRAIN holds it down (R307). -/
def execDpPllRelock (o : Nat) (s : State) : Host.Outcome State Fault Refusal :=
  onDev (fun _ d =>
    let x := outOf d o
    if !x.link.relocking then d else
    let d := updLink o (fun k => { k with relocking := false, relocks := 0, pllLock := true }) d
    if !x.enabled then d else
    match x.mode with
    | none => d
    | some m =>
      let d := if !x.zeroed then d
        else if !x.cutDone then cutOutput o false (damageAll o d)
        else updOut o (fun x => { x with flights := x.flights.map fun f =>
            if f.frame == x.composed && f.composing then
              { f with damaged := allBands m, retired := false, start := d.tide.now } else f }) d
      if x.link.heldDown then d else retrainOutput o (x.link.rate, x.link.lanes) d) s

end Sys2Proof.Machine
end

