-- ==== Sys2Proof/Machine/Lifecycle.lean ====
section
/-! DEFINITION. The life of an instance: quiesce, resume, reset, destruction and function-level resets, and the PCIe ports
(chapters 16 and 18). -/

namespace Sys2Proof.Machine

/-! ## Quiesce (R504 to R507, R509) -/

/-- Rolls back an issuer's OPEN, PREPARED and ARMED transactions; what waits for them replies QUIESCED (R129, R55). -/
def rollBackAll (i : Issuer) (d : Dev) : Dev :=
  let mine := d.txns.filter fun t => t.issuer == i && (t.state == .openT || t.state == .prepared || t.state == .armed)
  mine.foldl (fun d t =>
    if t.own then (if t.commit.isSome then dropOwn t.id .quiesced 0 d else d) else
    let d := updTxn t.id (fun t => { t with
      state := .rolledBack, resolved := [], commit := none, wait := none, passed := false,
      lastStatus := if t.commit.isSome then .quiesced else t.lastStatus }) d
    match t.commit with
    | some c => finish c .quiesced 0 [] (sendBallot t.ballot t.coord (statusCode .quiesced) true d)
    | none => d) d

/-- Discards an issuer's pending launches (R55). -/
def dropLaunches (i : Issuer) (d : Dev) : Dev :=
  let mine := d.launches.filter (·.ticket.issuer == i)
  finishAll (mine.map (·.ticket)) .quiesced 0 [] { d with launches := d.launches.filter (·.ticket.issuer != i) }

/-- Removes one job from a unit that keeps others, or as its last (R318). -/
def removeJob (u no : Nat) (d : Dev) : Dev :=
  match (cvOf d u).jobs.find? (·.ticket.no == no) with
  | none => d
  | some j => popJob u (updCv u (fun x => { x with jobs := j :: x.jobs.filter (·.ticket.no != no) }) d)

/-- Aborts an instance's rake jobs (R326). -/
def abortRakes (n : Nat) (d : Dev) : Dev :=
  (List.range 16).foldl (fun d u =>
    ((cvOf d u).jobs.filter (·.ticket.issuer == .inst n)).foldl (fun d j =>
      removeJob u j.ticket.no (finish j.ticket .quiesced 0 [] d)) d) d

/-- Stops an instance's harvest channels at the end of the frame in progress (R281). -/
def quiesceHarvest (n : Nat) (d : Dev) : Dev :=
  (List.range 8).foldl (fun d k =>
    let h := harvestOf d k
    if h.owner != some (.inst n) || !h.running then d
    else if harvestFilling d k then updHarvest k (fun h => { h with stopCause := some 3 }) d
    else stopHarvest k 3 0 d) d

/-- Outputs that carry layers of an instance, now or once what is sequenced has landed. -/
def layerOutputs (n : Nat) (d : Dev) : List Nat :=
  let v := viewOf d
  (List.range 8).filter fun o => (layersOn d o ++ layersOn v o).any fun e => e.2.owner == .inst n

/-- Hides an instance's layers at the next cut of each output (R504, R135). -/
def hideLayers (n : Nat) (d : Dev) : Dev :=
  let d := updInst n (fun x => { x with hide := true }) d
  (layerOutputs n d).foldl (fun d o => makeChange (.hide n) noCmd 0 o d) d

/-- Whether layers of an instance still wait to be hidden. -/
def hidePending (d : Dev) (n : Nat) : Bool :=
  d.txns.any fun t => t.state == .sequenced && t.resolved.any (·.act == .hide n)

/-- Starts a quiesce of an ACTIVE instance (R504); its events report the effect of the INSTANCE_QUIESCE that waits for it,
if one does (R102). -/
def startQuiesce (n : Nat) (hide : Bool) : Dev → Dev :=
  fun d => withCause ((instOf d n).waits.head?.map (·.no)) (fun d =>
  let d := setInstState n .quiescing (updInst n (fun x => { x with hide := hide }) d)
  let d := dropLaunches (.inst n) d
  let d := rollBackAll (.inst n) d
  let d := quiesceSecure n (abortRakes n d)
  let d := cancelOwner n (quiesceHaptics n (quiesceAudio n (quiesceHarvest n d)))
  if hide then hideLayers n d else d) d

/-- Whether something of a quiescing instance still winds down (R504). -/
def windingDown (d : Dev) (n : Nat) : Bool :=
  audioBusy d n || hapticsBusy d n || hidePending d n ||
    (List.range 8).any fun k => (harvestOf d k).running && (harvestOf d k).owner == some (.inst n)

/-! ## Reset and destruction (R500, R508) -/

/-- Outputs on which an instance holds something. -/
def holdings (n : Nat) (d : Dev) : List Nat :=
  let v := viewOf d
  let has := fun (s : Dev) (o : Nat) =>
    (layersOn s o).any (fun e => e.2.owner == .inst n) ||
    (List.range 16).any (fun m => (monOf s o m).owner == some (.inst n)) ||
    (List.range 8).any fun k => (harvestOf s k).output == o && (harvestOf s k).owner == some (.inst n)
  (List.range 8).filter fun o => has d o || has v o

/-- Releases a check-value unit once its last job has ended (R318). -/
def disownCv (n : Nat) (d : Dev) : Dev :=
  (List.range 16).foldl (fun d u =>
    let x := cvOf d u
    if x.owner != some (.inst n) then d
    else if x.jobs.isEmpty then updCv u (fun x => { x with owner := none, cfg := .zero, releasing := none, reclaimed := false }) d
    else updCv u (fun x => { x with releasing := some (x.releasing.getD 0), reclaimed := false }) d) d

/-- A queue after a reset of its page: the counts of QUEUE_STATS are no page register and run on (R84, R512). -/
def SubQueue.cleared (q : SubQueue) : SubQueue :=
  { SubQueue.zero with taken := q.taken, replied := q.replied, quiesced := q.quiesced }

/-- Resets a command page (R84): its registers, queues and MSI-X table; replies still owed are lost. -/
def resetPage (k : Nat) (d : Dev) : Dev :=
  let d := orphanTickets k 0 (orphanTickets k 1 d)
  updPage k (fun p => { Page.zero with msixOn := p.msixOn, q0 := p.q0.cleared, q1 := p.q1.cleared }) d

/-- The actions of a reset on a QUIESCED instance: its objects go at the next cuts, the rest at once (R508). -/
def releaseAll (n : Nat) (d : Dev) : Dev :=
  let d := (holdings n d).foldl (fun d o => makeChange (.destroy n) noCmd 0 o d) d
  let d := disownHaptics n (disownAudio n (disownCv n (cancelOwner n d)))
  let d := { d with baselines := d.baselines.filter (·.issuer != .inst n) }
  sendGone n (resetPage n d)

/-- Starts a reset: RESETTING, and the release of everything the instance holds (R508). -/
def startReset (n : Nat) (d : Dev) : Dev := releaseAll n (setInstState n .resetting d)

/-- Unmaps every window page of an instance (R500, R492). -/
def unmapAll (n : Nat) (d : Dev) : Dev :=
  let keys := fun (pan : Bool) (t : Tab (Option (Nat × Bool))) => (t.filter (·.2.isSome)).map fun e => (pan, e.1)
  updInst n (fun x => { x with draining := x.draining ++ keys false x.dram ++ keys true x.pan, dram := [], pan := [] }) d

/-- Removes every viewport of an instance at the next cut of its output (R500). -/
def unviewAll (n : Nat) (d : Dev) : Dev :=
  ((List.range 8).filter fun o => !(viewportsOf d n o).isEmpty).foldl (fun d o => makeChange (.unview n) noCmd 0 o d) d

/-- Whether an INSTANCE_DESTROY runs; the instance stays QUIESCED until its context is free (R500, table of R508). -/
def Instance.destroying (x : Instance) : Bool := x.resetBy.any (·.2)

/-- INSTANCE_FLR (R515): started or ended, to the manager, and to the delegate for its range. -/
def flrEvent (n : Nat) (ended : Bool) (d : Dev) : Dev :=
  let us := if ended then (nowNs d - (instOf d n).flrStart) / 1000 else 0
  raise 0x0E02 n (le8 (b2n ended) ++ [0, 0, 0] ++ le32 us) ([512] ++ if inRange d n then [513] else []) false d

/-- What follows a reset: ACTIVE, or for a destruction the free context. A quiesce taken during the reset starts now (R509). The
transaction records stay (DESIGN CHOICE, log 161). -/
def endReset (n : Nat) (d : Dev) : Dev :=
  let x := instOf d n
  let d := if x.flr then flrEvent n true d else d
  match x.resetBy with
  | some (t, true) =>
    let d := recheckEvery (updInst n (fun _ => .zero) d)
    finishAll x.waits .noContext 0 [] (finish t .ok 0 [] d)
  | r =>
    let d := setInstState n .active (updInst n (fun x => { x with flr := false, resetBy := none, after := .stop }) d)
    let d := match r with
      | some (t, _) => finish t .ok 0 [] d
      | none => d
    if x.waits.isEmpty then d else startQuiesce n x.hide d

/-- The instance is QUIESCED: the commands that waited complete, and a function-level reset goes on (R504, R509, R510). -/
def becomeQuiesced (n : Nat) (d : Dev) : Dev :=
  let x := instOf d n
  let d := setInstState n .quiesced (updInst n (fun x => { x with waits := [] }) d)
  let d := finishAll x.waits .ok 0 (le8 2) d
  if x.after == .flr then startReset n d else d

/-! ## The commands (R500, R504, R507 to R509) -/

def startInstanceQuiesce (t : Ticket) (c : Cmd) (d : Dev) : Dev :=
  let n := c.u16 24
  let hide := c.u8 26 == 1
  let x := instOf d n
  if c.u8 26 = 2 then finish t .ok 0 (le8 0) (setInstState n .active d)
  else match x.state with
    | .active => startQuiesce n hide (updInst n (fun x => { x with waits := x.waits ++ [t] }) d)
    | .quiescing =>
      let d := updInst n (fun x => { x with waits := x.waits ++ [t] }) d
      if hide && !x.hide then hideLayers n d else d
    | .quiesced =>
      let d := if hide && !x.hide && !x.destroying then hideLayers n d else d
      finish t .ok 0 (le8 2) d
    | .resetting => updInst n (fun x => { x with waits := x.waits ++ [t], hide := hide }) d

def startInstanceReset (t : Ticket) (c : Cmd) (d : Dev) : Dev :=
  startReset (c.u16 24) (updInst (c.u16 24) (fun x => { x with resetBy := some (t, false) }) d)

def startInstanceDestroy (t : Ticket) (c : Cmd) (d : Dev) : Dev :=
  let n := c.u16 24
  unviewAll n (unmapAll n (releaseAll n (updInst n (fun x => { x with resetBy := some (t, true) }) d)))

/-- QUIESCE_COMPLETE (R504): the last wind-down has ended. -/
def execQuiesceComplete (n : Nat) (s : State) : Host.Outcome State Fault Refusal :=
  onDev (fun _ d =>
    if (instOf d n).exists_ && (instOf d n).state == .quiescing && !windingDown d n then becomeQuiesced n d else d) s

/-- RESET_COMPLETE (R508): the reset has ended; a destruction waits for the accesses through its windows and for the cuts
that remove its viewports (R492, R500). -/
def execResetComplete (n : Nat) (s : State) : Host.Outcome State Fault Refusal :=
  onDev (fun _ d =>
    let x := instOf d n
    if !x.exists_ || !(x.state == .resetting || x.destroying) then d else
    if x.destroying && !(x.draining.isEmpty && (List.range 8).all fun o => (viewportsOf d n o).isEmpty) then d
    else endReset n d) s

/-! ## Function-level resets (R510, R511) -/

/-- VF_FLR (R510): MSI-X stops at once; a quiesce with HIDE, then a reset. -/
def execVfFlr (n : Nat) (s : State) : Host.Outcome State Fault Refusal :=
  onDev (fun _ d =>
    let d := updPage n (fun p => { p with msixOn := false }) d
    let x := instOf d n
    if !x.exists_ || x.flr then d else
    let d := flrEvent n false (updInst n (fun x => { x with flr := true, flrStart := nowNs d, after := .flr }) d)
    match x.state with
    | .active => startQuiesce n true d
    | .quiescing => if x.hide then d else hideLayers n d
    | .quiesced => if x.destroying then d else startReset n (if x.hide then d else hideLayers n d)
    | .resetting => d) s

/-- PF_FLR (R511): the command page, its queues and its transactions, and no instance. -/
def execPfFlr (portB : Bool) (s : State) : Host.Outcome State Fault Refusal :=
  onDev (fun _ d =>
    let i : Issuer := if portB then .delegate else .manager
    if portB && !d.power.cfg.split then d else
    rollBackAll i (updPage (pageKey i) (fun p => { p with msixOn := false }) (resetPage (pageKey i) d))) s

/-! ## The PCIe ports (R489, R551, R559) -/

/-- Page numbers of the functions behind a port. -/
def portPages (d : Dev) (port : Nat) : List Nat :=
  (tkeys d.pages).filter fun k => portOfIssuer d (issuerOfKey k) == port

/-- PERST_ASSERT (R551): nothing outside the port changes; no message is sent for its functions until the host enables
MSI-X again, and the BAR size control and VF Enable return to their defaults. PERST1_N is ignored in ×16 mode. -/
def execPerstAssert (port : Nat) (s : State) : Host.Outcome State Fault Refusal :=
  onDev (fun _ d =>
    if 2 ≤ port || (port = 1 && !d.power.cfg.split) || nthD false port d.power.perst then d else
    let d := (portPages d port).foldl (fun d k => updPage k (fun p => { p with msixOn := false }) d) d
    { d with
      bar2 := modifyAt (fun _ => 1024) port d.bar2, vfs := modifyAt (fun _ => false) port d.vfs
      power := { d.power with
        perst := modifyAt (fun _ => true) port d.power.perst,
        perstA := (d.power.perstA + b2n (port == 0)) % 256, perstB := (d.power.perstB + b2n (port == 1)) % 256 } }) s

/-- PERST_RELEASE (R559): the port's link trains again. -/
def execPerstRelease (port : Nat) (s : State) : Host.Outcome State Fault Refusal :=
  onDev (fun _ d => { d with power := { d.power with perst := modifyAt (fun _ => false) port d.power.perst } }) s

/-- Sizes the VF BAR2 control takes: powers of two within 256 MiB to 16 GiB (R489). -/
def barSizes : List Nat := [256, 512, 1024, 2048, 4096, 8192, 16384]

/-- PCIE_CONFIG_REQUEST (R489, R551, R559): answered with Retry Status until the engine firmware runs; the BAR size is set
before VF Enable. -/
def execPcieConfigRequest (port : Nat) (req : CfgReq) (s : State) : Host.Outcome State Fault Refusal :=
  onDev (fun _ d =>
    if 2 ≤ port || (port = 1 && !d.power.cfg.split) || nthD false port d.power.perst || !domainOn d 0 then d else
    let answer := fun (retry : Bool) (d : Dev) => { d with out := { d.out with cfg := some retry } }
    if d.power.boot != .running then answer true d else
    answer false (match req with
      | .read => d
      | .barSize mib =>
        if barSizes.contains mib && !nthD false port d.vfs then { d with bar2 := modifyAt (fun _ => mib) port d.bar2 } else d
      | .vfEnable on => { d with vfs := modifyAt (fun _ => on) port d.vfs }
      | .msixEnable i on =>
        if portOfIssuer d i == port then updPage (pageKey i) (fun p => { p with msixOn := on }) d else d)) s

end Sys2Proof.Machine
end

