-- ==== Sys2Proof/Machine/Engine.lean ====
section
/-! DEFINITION. The command engines: validation, staging, single commands, jobs, reads, transaction control, the launch
scheduler and the taking of entries (chapters 2, 3, 4 and 16). -/

namespace Sys2Proof.Machine

/-! ## Validation (R94, R95) -/

/-- A command's ticket: it counts as taken from its queue, its reply is promised (R92), and the events that follow report its
effect (R102). -/
def enlist (op : Op) (c : Cmd) (d : Dev) : Ticket × Dev :=
  let t : Ticket := { no := d.nextTicket, issuer := c.issuer, urgent := c.urgent, tag := c.pkt.tag, soon := c.urgentReply,
                      lateOk := c.lateOk, late := false, op := op, orphan := false }
  let d := updQueue (pageKey c.issuer) (b2n c.urgent) (fun q => { q with
    taken := q.taken + 1, promised := q.promised + b2n q.running }) d
  let d := match c.issuer with
    | .inst n => updInst n (fun x => { x with taken := x.taken + 1 }) d
    | _ => d
  (t, { d with nextTicket := d.nextTicket + 1, tickets := d.tickets ++ [t], cause := some t.no })

/-- Step 3: the issuer is permitted (R104). -/
def issuerOk (op : Op) (i : Issuer) : Bool :=
  match opIssuer op with
  | .any => true
  | .owner => true
  | .granted => true
  | .manager => i == .manager
  | .managerDelegate => i == .manager || i == .delegate

/-- Step 5: reserved flags, then flags not allowed together or with the kind, then bytes 12 to 15 (R95). -/
def flagsFail (op : Op) (c : Cmd) : Chk :=
  let k := opKind op
  (failIf (c.pkt.flags &&& 0xF0 != 0 || (c.launch && c.inTxn) || (c.inTxn && k != .d && k != .n) ||
      (c.launch && k != .d && k != .n && k != .j && op != .commit)) .badParam 2).or
    (failIf (c.pkt.rsvd != 0) .badParam 12)

/-- The kept transaction that a handle names for its issuer (R117, R120). -/
def namedTxn (d : Dev) (c : Cmd) : Option Txn :=
  d.txns.find? fun t => !t.own && t.issuer == c.issuer && t.handle == c.pkt.handle

/-- Whether a command uses its handle. -/
def usesHandle (op : Op) (c : Cmd) : Bool :=
  c.inTxn || op == .prepare || op == .commit || op == .rollback || (op == .txnStatus && (c.u8 24 == 0 || c.u8 24 == 2))

/-- Whether a waiting launch's instant is still ahead. -/
def stillAhead (d : Dev) (t : Txn) : Bool := !t.passed && t.wait.any fun i => decide (nowNs d < i)

/-- Step 6: the handle and the transaction's state (R123, R140, R142). -/
def handleFail (d : Dev) (op : Op) (c : Cmd) : Chk :=
  if !usesHandle op c then none else
  match namedTxn d c with
  | none => some (.txnUnknown, 0)
  | some t =>
    if c.inTxn then
      (failIf (t.state != .openT) .txnState 0).or (failIf (decide (256 ≤ t.changes.length)) .txnLimit 0)
    else match op with
      | .prepare => failIf (t.state != .openT && t.state != .prepared) .txnState 0
      | .commit =>
        (failIf (t.ballot != 0 && !c.launch) .badParam 2).or
          (failIf (t.state != .prepared && !(t.state == .openT && t.ballot == 0)) .txnState 0)
      | .rollback => failIf (t.state != .openT && t.state != .prepared && !(t.state == .armed && stillAhead d t)) .txnState 0
      | _ => none

/-- Step 9: the launch instant (R52, R53). -/
def launchFail (d : Dev) (c : Cmd) : Chk :=
  let i := c.pkt.instant.toNat
  if !c.launch then none else
  firstFail [failIf (decide (d.tide.now + 86400 * 1000000000 * 65536 < i * 65536)) .outOfRange 16,
    failIf ((i = 0 || i * 65536 < d.tide.now) && !c.lateOk) .txnLate 0,
    failIf (decide (4096 ≤ d.launches.length + (d.txns.filter (·.state == .armed)).length)) .noResource 0]

/-- Whether a command's instant has passed as it reaches the launch scheduler. -/
def instantPassed (d : Dev) (c : Cmd) : Bool :=
  c.launch && (c.pkt.instant.toNat = 0 || c.pkt.instant.toNat * 65536 < d.tide.now)

/-- Steps 3 to 8, with the table that the command copies. -/
def validate (op : Op) (c : Cmd) (d : Dev) : Dev × Except (Status × Nat) (List Byte) :=
  let sp := opSpec op
  let x : Ctx := { d := d, view := viewOf d, c := c, txn := if c.inTxn then namedTxn d c else none }
  let early := firstFail [failIf (!issuerOk op c.issuer || !sp.permit x) .notPermitted 0,
    failIf (c.pkt.len.toNat != sp.len) .badLength 0, flagsFail op c, handleFail d op c,
    fieldsCheck x (sp.fields x) (24 + 8 * sp.len) 320 24, sp.multi x]
  match early with
  | some e => (d, .error e)
  | none =>
    let r : Dev × Except (Status × Nat) (List Byte) := match sp.copy with
      | none => (d, .ok [])
      | some f => f x
    match r.2 with
    | .error e => (r.1, .error e)
    | .ok b => (r.1, match sp.own x with
      | some e => .error e
      | none => .ok b)

/-! ## What follows validation -/

/-- A command launches late: its OK reply becomes LATE_APPLIED (R53). -/
def markLate (t : Ticket) (d : Dev) : Ticket × Dev :=
  ({ t with late := true }, { d with tickets := d.tickets.map fun u => if u.no == t.no then { u with late := true } else u })

/-- Results of a staged command: the provisional number of a create, 0xFF where the tables of R214 and R336 say so (R121). -/
def stagedResults (op : Op) (idx : Nat) (ch : Change) : List Byte :=
  if op == .layerCreate || op == .instanceCreate then le16 (0x8000 + idx)
  else if isCreate ch || [Op.cvConfig, .monitorSet, .scalerBind].contains op then [0xFF] else []

/-- Stages a command in its transaction (R96, R119). -/
def stageCmd (op : Op) (t : Ticket) (c : Cmd) (table : List Byte) (d : Dev) : Dev :=
  match namedTxn d c with
  | none => finish t .txnUnknown 0 [] d
  | some x =>
    let ch : Change := { act := .cmd op, cmd := c, table := table, obj := 0xFFFF, outs := [] }
    let idx := x.changes.length
    finish t .ok idx (stagedResults op idx ch) (updTxn x.id (fun x => { x with changes := x.changes ++ [ch] }) d)

/-- Runs a command of kind D or N as a transaction of its own (R99). -/
def singleCmd (op : Op) (t : Ticket) (c : Cmd) (table : List Byte) (d : Dev) : Dev :=
  match launchFail d c with
  | some (st, det) => finish t st det [] d
  | none =>
    let late := instantPassed d c
    let (t, d) := if late then markLate t d else (t, d)
    let id := d.nextTxn
    let ch : Change := { act := .cmd op, cmd := c, table := table, obj := 0xFFFF, outs := [] }
    let x : Txn := {
      id := id, issuer := c.issuer, own := true, handle := 0, state := .openT, changes := [ch], resolved := [],
      landings := [], lastStatus := .ok, failIndex := 0xFFFF, ballot := 0, coord := 0, commit := some t, wait := none,
      passed := false, seqNo := 0, waits := 0, verdict := none, out := [], cause := none }
    let (f, d) := prepareTxn id { d with nextTxn := id + 1, txns := d.txns ++ [x] }
    match f with
    | some f => dropOwn id f.status f.detail d
    | none =>
      if c.launch && !late then updTxn id (fun x => { x with state := .armed, wait := some c.pkt.instant.toNat }) d
      else sequenceTxn id d

/-- A job starts. `cfg` is the configuration a RAKE_JOB copied when it was taken (R318). -/
def startJob (op : Op) (cfg : CvCfg) (t : Ticket) (c : Cmd) (d : Dev) : Dev :=
  match (opSpec op).step10 d c with
  | some (st, det) => finish t st det [] d
  | none =>
    match op with
    | .instanceQuiesce => startInstanceQuiesce t c d
    | .instanceReset => startInstanceReset t c d
    | .instanceDestroy => startInstanceDestroy t c d
    | .rakeJob => startRake cfg t c d
    | _ => (opSpec op).start t c d

/-- Runs a command of kind J: at once, or held for its instant (R98, R52). -/
def jobCmd (op : Op) (t : Ticket) (c : Cmd) (d : Dev) : Dev :=
  match launchFail d c with
  | some (st, det) => finish t st det [] d
  | none =>
    let cfg := if op == .rakeJob then (cvOf d (c.u8 24)).cfg else .zero
    if c.launch && !instantPassed d c then
      match (opSpec op).step10 d c with
      | some (st, det) => finish t st det [] d
      | none => { d with launches := d.launches ++ [{ instant := c.pkt.instant.toNat, passed := false, ticket := t, cmd := c, cfg := cfg }] }
    else
      let (t, d) := if instantPassed d c then markLate t d else (t, d)
      startJob op cfg t c d

/-- Runs a command of kind R. -/
def readCmd (fuses : Fuses) (op : Op) (t : Ticket) (c : Cmd) (d : Dev) : Dev :=
  match (opSpec op).step10 d c with
  | some (st, det) => finish t st det [] d
  | none =>
    match (opSpec op).read fuses d c with
    | (d, .ok res) => finish t .ok 0 res d
    | (d, .error (st, det)) => finish t st det [] d

/-! ## Transaction control and FENCE (R111, R117 to R124, R140 to R144) -/

/-- FENCE (R111): it waits for every command its issuer's engine took before it. -/
def fenceCmd (t : Ticket) (d : Dev) : Dev :=
  let older := (d.tickets.filter fun u => u.issuer == t.issuer && u.no != t.no).map (·.no)
  if older.isEmpty then finish t .ok 0 (le32 0) d
  else { d with fences := d.fences ++ [{ ticket := t, waits := older, count := older.length }] }

def isOpen (t : Txn) : Bool :=
  t.state == .openT || t.state == .prepared || t.state == .armed || t.state == .sequenced

/-- A handle that is not 0 and names no kept transaction (R117): the free value where it is one. -/
def freshHandle (d : Dev) : U32 :=
  let used := (d.txns.filter (!·.own)).map (·.handle)
  let h := Config.freeHandle d.free
  if h != 0 && !used.contains h then h
  else (((List.range (used.length + 1)).map fun k => BitVec.ofNat 32 (k + 1)).find? (!used.contains ·)).getD 1

/-- BEGIN (R117, R118, R120). -/
def beginCmd (t : Ticket) (d : Dev) : Dev :=
  let mine := d.txns.filter fun x => !x.own && x.issuer == t.issuer
  if 4 ≤ (mine.filter isOpen).length then finish t .txnLimit 0 [] d else
  let h := freshHandle d
  let ended := mine.filter (!isOpen ·)
  let gone := if mine.length < 4 then none else
    ended.foldl (fun (b : Option Nat) x => match b with
      | none => some x.id
      | some i => some (min i x.id)) none
  let x : Txn := {
    id := d.nextTxn, issuer := t.issuer, own := false, handle := h, state := .openT, changes := [], resolved := [],
    landings := [], lastStatus := .ok, failIndex := 0xFFFF, ballot := 0, coord := 0, commit := none, wait := none,
    passed := false, seqNo := 0, waits := 0, verdict := none, out := [], cause := none }
  finish t .ok 0 (le32 h.toNat) { d with
    free := d.free + 1, nextTxn := d.nextTxn + 1, txns := d.txns.filter (fun x => some x.id != gone) ++ [x] }

/-- Outputs that changes affect. -/
def outputsOf (chs : List Change) : Nat := maskOf (chs.filterMap (·.outs.head?)).eraseDups

/-- Outputs that a transaction affects, as far as its changes say. -/
def affected (t : Txn) (d : Dev) : Nat :=
  match t.state with
  | .sequenced => maskOf (t.landings.map (·.output))
  | .landed => maskOf (t.landings.map (·.output))
  | .prepared => outputsOf t.resolved
  | .armed => outputsOf t.resolved
  | _ => outputsOf ((placeTxn d (viewOf d) [] (fun _ => false) t).1.map (·.ch))

/-- The vote of a PREPARE, whatever its result (R141): from the manager, to a node that can be (log 32). -/
def sendVote (c : Cmd) (st : Status) (d : Dev) : Dev :=
  if c.issuer == .manager && c.u16 28 < 16384 then sendBallot (BitVec.ofNat 32 (c.u32 24)) (c.u16 28) (statusCode st) false d else d

/-- PREPARE (R122, R141). Its ballot and coordinator replace those of an earlier one (DESIGN CHOICE, log 157). -/
def prepareCmd (t : Ticket) (c : Cmd) (d : Dev) : Dev :=
  match namedTxn d c with
  | none => finish t .txnUnknown 0 [] (sendVote c .txnUnknown d)
  | some x =>
    let b := BitVec.ofNat 32 (c.u32 24)
    let (f, d) := prepareTxn x.id (updTxn x.id (fun x => { x with ballot := b, coord := c.u16 28 }) d)
    let d := sendVote c ((f.map (·.status)).getD .ok) d
    match f with
    | some f => finish t f.status f.idx [] d
    | none =>
      finish t .ok 0 (le8 (((txnOf d x.id).map fun x => affected x d).getD 0) ++ [0] ++ le16 x.changes.length) d

/-- A PREPARE or COMMIT that fails before its checks run is the last one of an open transaction (R122); a failed COMMIT
of a balloted transaction is a result for its coordinator (R143). -/
def commitFails (op : Op) (c : Cmd) (st : Status) (d : Dev) : Dev :=
  if op != .commit && op != .prepare then d else
  match namedTxn d c with
  | some x =>
    let d := updTxn x.id (fun x =>
      if x.state == .openT || x.state == .prepared then { x with lastStatus := st, failIndex := 0xFFFF } else x) d
    if op == .commit then sendBallot x.ballot x.coord (statusCode st) true d else d
  | none => d

/-- COMMIT (R123, R124, R142). -/
def commitCmd (t : Ticket) (c : Cmd) (d : Dev) : Dev :=
  match namedTxn d c with
  | none => finish t .txnUnknown 0 [] d
  | some x =>
    match launchFail d c with
    | some (st, det) => finish t st det [] (commitFails .commit c st d)
    | none =>
      let (f, d) := if x.state == .openT then prepareTxn x.id d else (none, d)
      match f with
      | some f => finish t f.status f.idx [] d
      | none =>
        let late := instantPassed d c
        let (t, d) := if late then markLate t d else (t, d)
        if c.launch && !late then
          updTxn x.id (fun x => { x with state := .armed, wait := some c.pkt.instant.toNat, commit := some t }) d
        else sequenceTxn x.id (updTxn x.id (fun x => { x with commit := some t }) d)

/-- ROLLBACK (R123, R140, R143). -/
def rollbackCmd (t : Ticket) (c : Cmd) (d : Dev) : Dev :=
  match namedTxn d c with
  | none => finish t .txnUnknown 0 [] d
  | some x =>
    let d := updTxn x.id (fun x => { x with
      state := .rolledBack, resolved := [], commit := none, wait := none, passed := false,
      lastStatus := if x.commit.isSome then .txnUnknown else x.lastStatus }) d
    let d := match x.commit with
      | some k => finish k .txnUnknown 0 [] (sendBallot x.ballot x.coord (statusCode .txnUnknown) true d)
      | none => d
    finishOk t d

/-- Code of a transaction state (TXN_STATUS mode 0). -/
def txnCode : TxnState → Nat
  | .openT => 0 | .prepared => 1 | .armed => 2 | .sequenced => 3 | .landed => 4 | .rolledBack => 5

/-- Full landing frame of an output: as sequenced, or as a WAKE has named it (R75). -/
def landingFrame (d : Dev) (t : Txn) (o : Nat) : Nat :=
  match t.landings.find? (·.output == o) with
  | none => 0
  | some l =>
    if l.how == .disabledOutput then 0
    else if l.pending && l.how == .wakeCut then
      (match (lockOf d o).bind fun g => g.2.wakeIndex with
        | some k => k % 2 ^ 32
        | none => l.frame.toNat)
    else l.frame.toNat

/-- Real numbers of the creates staged at an index or above (TXN_STATUS mode 2). -/
def createdNumbers (t : Txn) (first : Nat) : List Nat :=
  let l := t.changes.zipIdx.filterMap fun e =>
    if isCreate e.1 && decide (first ≤ e.2) then
      some (match t.resolved[e.2]? with
        | some ch => if ch.act == .cmd .scalerBind then ch.obj % 256 else ch.obj
        | none => 0xFFFF)
    else none
  (l ++ List.replicate 8 0xFFFF).take 8

/-- TXN_STATUS (R122, R144). -/
def statusCmd (t : Ticket) (c : Cmd) (d : Dev) : Dev :=
  if c.u8 24 = 1 then
    match d.tallies.find? (·.ballot.toNat == c.u32 28) with
    | some b => finish t .ok 0 (tallyBytes b) d
    | none => finish t .txnUnknown 0 [] d
  else match namedTxn d c with
    | none => finish t .txnUnknown 0 [] d
    | some x =>
      if c.u8 24 = 0 then
        finish t .ok 0 (le8 (txnCode x.state) ++ le8 (affected x d) ++ le16 x.changes.length ++
          le32 (landingFrame d x (c.u8 25)) ++ le16 (statusCode x.lastStatus) ++ le16 x.failIndex ++ le32 x.ballot.toNat) d
      else finish t .ok 0 ((createdNumbers x (c.u8 25)).flatMap le16) d

/-- Runs a command of kind X. -/
def controlCmd (op : Op) (t : Ticket) (c : Cmd) (d : Dev) : Dev :=
  match op with
  | .fence => fenceCmd t d
  | .beginTxn => beginCmd t d
  | .prepare => prepareCmd t c d
  | .commit => commitCmd t c d
  | .rollback => rollbackCmd t c d
  | _ => statusCmd t c d

/-! ## One command through an engine -/

/-- What an engine does with a command it has taken (R94, R96, R98, R99). -/
def engineRun (fuses : Fuses) (op : Op) (c : Cmd) (d : Dev) : Dev :=
  let (t, d) := enlist op c d
  if pageState d c.issuer != .active then
    finish t .quiesced 0 [] (updQueue (pageKey c.issuer) (b2n c.urgent) (fun q => { q with quiesced := q.quiesced + 1 }) d)
  else
    let (d, r) := validate op c d
    match r with
    | .error (st, det) =>
      let d := if (handleFail d op c).all (·.1 != .txnUnknown) then commitFails op c st d else d
      finish t st det [] (if op == .prepare then sendVote c st d else d)
    | .ok table =>
      if c.inTxn then stageCmd op t c table d
      else match opKind op with
        | .d => singleCmd op t c table d
        | .n => singleCmd op t c table d
        | .j => jobCmd op t c d
        | .r => readCmd fuses op t c d
        | .x => controlCmd op t c d

/-- Whether the engines take commands: they run, and no POWER_STATE entry is in progress. -/
def enginesRun (d : Dev) : Bool := alive d && d.power.entering.isNone

/-- A queue command, as its engine has just taken it. -/
def queueCommand (op : Op) (c : Cmd) (s : State) : Host.Outcome State Fault Refusal :=
  onDev (fun fuses d => if enginesRun d then engineRun fuses op c d else d) s

/-! ## Taking entries (R92, R109, R116, R501, R503) -/

/-- The packet in 64 bytes (R93). -/
def packetOf (b : List Byte) : Packet :=
  let f := fun (off n : Nat) => leNat ((b.drop off).take n)
  { flags := BitVec.ofNat 8 (f 2 1), len := BitVec.ofNat 8 (f 3 1), tag := BitVec.ofNat 32 (f 4 4),
    handle := BitVec.ofNat 32 (f 8 4), rsvd := BitVec.ofNat 32 (f 12 4), instant := BitVec.ofNat 64 (f 16 8),
    params := BitVec.ofNat 320 (f 24 40) }

/-- Whether an engine serves a page now: the command pages always, an ACTIVE instance when it runs in this round, and one
that is not ACTIVE without an engine (R116, R501). -/
def served (d : Dev) (i : Issuer) : Bool :=
  match i with
  | .inst n => (instOf d n).exists_ && ((instOf d n).state != .active || d.running.contains n)
  | _ => true

/-- R503: an engine whose instance has no entry left, or that runs none (DEDUCED, log 26), takes the ready instance furthest
below its fraction for the rest of the round. -/
def swapIn (n : Nat) (d : Dev) : Dev :=
  let ready := readyInsts d
  let others := ready.filter (!d.running.contains ·)
  if furthestBelow d others != some n then d else
  let left := 250000 - nowNs d % 250000
  let joined := fun run =>
    { updInst n (fun x => { x with share := x.share - (65536 * left / 250000 : Nat), rounds := x.rounds + 1 }) d with
      running := run }
  if d.running.length < 16 then joined (d.running ++ [n]) else
  match d.running.find? (!ready.contains ·) with
  | some r => joined (d.running.map fun m => if m = r then n else m)
  | none => d

/-- ENGINE_TAKE_ENTRY (R92, R109): one entry of a queue; a normal one only while no urgent one waits. It is read
as memory stands now, rewritten or not (R91; DESIGN CHOICE, log 160). -/
def execEngineTakeEntry (i : Issuer) (urgent : Bool) (s : State) : Host.Outcome State Fault Refusal :=
  onDev (fun fuses d =>
    if !enginesRun d then d else
    let d := match i with
      | .inst n => if served d i then d else swapIn n d
      | _ => d
    let k := pageKey i
    let p := pageOf d k
    let q := queueOf p (b2n urgent)
    if !served d i || !mayTake q || (!urgent && mayTake p.q1) then d else
    match readLoc 4 i q.loc (q.sqBase.toNat + q.sqHead * 64) 64 d with
    | (d, .error why) => stopQueue k (b2n urgent) why d
    | (d, .ok b) =>
      let d := updQueue k (b2n urgent) (fun q => { q with sqHead := (q.sqHead + 1) % q.depth }) d
      let c : Cmd := { issuer := i, urgent := urgent, pkt := packetOf b }
      match opOfCode (leNat (b.take 2)) with
      | some op => engineRun fuses op c d
      | none =>
        let (t, d) := enlist .nop c d
        if pageState d i != .active then
          finish t .quiesced 0 [] (updQueue k (b2n urgent) (fun q => { q with quiesced := q.quiesced + 1 }) d)
        else finish t .badOpcode 0 [] d) s

/-! ## The launch scheduler (R50 to R54) -/

/-- A held launch: its ticket, its kind and its instant. -/
structure Held where
  ticket : Ticket
  kind : Kind
  instant : Nat
  passed : Bool
  deriving DecidableEq, Repr

def heldLaunches (d : Dev) : List Held :=
  (d.launches.map fun l => { ticket := l.ticket, kind := opKind l.ticket.op, instant := l.instant, passed := l.passed }) ++
    d.txns.filterMap fun t => match t.state, t.commit, t.wait with
      | .armed, some k, some i => some { ticket := k, kind := opKind k.op, instant := i, passed := t.passed }
      | _, _, _ => none

/-- Whether a held launch must go before another of its queue: it has an earlier instant, or the same one and came
first (R54, R110). -/
def goesBefore (a b : Held) : Bool :=
  a.ticket.issuer == b.ticket.issuer && a.ticket.urgent == b.ticket.urgent &&
    (decide (a.instant < b.instant) || (a.instant == b.instant && decide (a.ticket.no < b.ticket.no)))

/-- A launch whose instant a step has passed, with late-ok clear (R50, R53): the command fails, and a transaction keeps its
state. -/
def launchTooLate (no : Nat) (d : Dev) : Dev :=
  match d.launches.find? (·.ticket.no == no), d.txns.find? (fun t => t.commit.any (·.no == no)) with
  | some l, _ => finish l.ticket .txnLate 0 [] { d with launches := d.launches.filter (·.ticket.no != no) }
  | none, some t =>
    if t.own then dropOwn t.id .txnLate 0 d else
    let d := updTxn t.id (fun t => { t with state := .prepared, commit := none, wait := none, passed := false, lastStatus := .txnLate }) d
    match t.commit with
    | some k => finish k .txnLate 0 [] (sendBallot t.ballot t.coord (statusCode .txnLate) true d)
    | none => d
  | none, none => d

/-- A launch goes to its unit or to the sequencer. -/
def launchNow (no : Nat) (d : Dev) : Dev :=
  match d.launches.find? (·.ticket.no == no), d.txns.find? (fun t => t.commit.any (·.no == no)) with
  | some l, _ =>
    let t := (d.tickets.find? (·.no == no)).getD l.ticket
    startJob l.ticket.op l.cfg t l.cmd { d with launches := d.launches.filter (·.ticket.no != no) }
  | none, some t => sequenceTxn t.id d
  | none, none => d

/-- LAUNCH_INSTANT_REACHED (R50, R53, R54, R132): the group cuts that fell before the instant go first. -/
def execLaunchInstantReached (ticket : Nat) (s : State) : Host.Outcome State Fault Refusal :=
  onDev (fun _ d =>
    let l := heldLaunches d
    match l.find? (·.ticket.no == ticket) with
    | none => d
    | some h =>
      if !alive d || !(h.passed || h.instant ≤ nowNs d) || l.any (goesBefore · h) then d
      else if h.passed && !h.ticket.lateOk then launchTooLate ticket d
      else if h.passed then
        let (k, d) := markLate h.ticket d
        launchNow ticket { d with txns := d.txns.map fun t => if t.commit.any (·.no == ticket) then { t with commit := some k } else t }
      else launchNow ticket (cutsBefore h.instant d)) s

/-! ## The memory map and the slot table (R237, R432, R449, R453) -/

/-- RETRAIN_END (R449). -/
def execRetrainEnd (ch : Nat) (pass : Bool) (s : State) : Host.Outcome State Fault Refusal :=
  onDev (fun _ d => endRetrain ch pass d) s

/-- MEM_REMAPPED (R453): the new map is in force; instance transactions are re-checked (R237). -/
def execMemRemapped (trained scrubUs : Nat) (s : State) : Host.Outcome State Fault Refusal :=
  onDev (fun _ d => if d.dram.remapping.isNone then d else recheckAll (endRemap trained scrubUs d)) s

/-- WHEEL_WRAP (R432): the shadow table becomes live; instance transactions are re-checked (R237). -/
def execWheelWrap (s : State) : Host.Outcome State Fault Refusal :=
  onDev (fun _ d => if d.dram.shadow.isNone then swapTable d else recheckAll (swapTable d)) s

/-! ## The secure controller's changes to layers and monitors (R316, R330, R525) -/

/-- SECURE_CLASS_CHANGE (R525, R166): class W on or off at the layer output's next cut. -/
def execSecureClassChange (layer : Nat) (setW : Bool) (s : State) : Host.Outcome State Fault Refusal :=
  onDev (fun _ d =>
    if !secUp d then d else
    let v := viewOf d
    match layerOf v layer with
    | none => secAnswer .notOwner d
    | some l =>
      if setW && coveredW v layer l then secAnswer .classViolation d
      else secAnswer .ok (makeChange (.watch layer setW) noCmd 0 l.output d)) s

/-- SECURE_MONITOR_SET (R330): the secure world claims, configures or releases a monitor, inside the active area (R329); it
lands at the output's next cut. -/
def execSecureMonitorSet (params : BitVec 320) (s : State) : Host.Outcome State Fault Refusal :=
  onDev (fun _ d =>
    if !secUp d then d else
    let c := secCmd params
    let v := viewOf d
    let x : Ctx := { d := d, view := v, c := c, txn := none }
    match fieldsCheck x (specMonitorSet.fields x) 64 320 24 with
    | some (st, _) => secAnswer st d
    | none =>
      let o := c.u8 24
      let claim := !c.bit 26 4
      match if c.u8 25 = 0xFF then (if claim then specMonitorSet.alloc v c else none) else some (c.u8 25) with
      | none => secAnswer (if claim then .noResource else .notOwner) d
      | some m =>
        let ow := (monOf v o m).owner
        if !(ow == some .secure || (ow.isNone && claim)) then secAnswer .notOwner d
        else if claim && !coveredBy (monRect c) [activeOf v o] then secAnswer .outOfRange d
        else secAnswer .ok (makeChange .secMonitor c m o d)) s

end Sys2Proof.Machine
end

