-- ==== Sys2Proof/Machine/Commands.lean ====
section
/-! DEFINITION. The 107 queue commands of R104: each is what its engine does with it, by its own entry of the opcode table. -/

namespace Sys2Proof.Machine

/-! ## Self-service (chapter 3) -/

/-- NOP (R106). -/
def execNop (c : Cmd) (s : State) : Host.Outcome State Fault Refusal := queueCommand .nop c s

/-- FENCE (R111). -/
def execFence (c : Cmd) (s : State) : Host.Outcome State Fault Refusal := queueCommand .fence c s

/-- INSTANCE_INFO (R513). -/
def execInstanceInfo (c : Cmd) (s : State) : Host.Outcome State Fault Refusal := queueCommand .instanceInfo c s

/-- VIEWPORT_LIST (R513). -/
def execViewportList (c : Cmd) (s : State) : Host.Outcome State Fault Refusal := queueCommand .viewportList c s

/-- QUEUE_STATS (R513). -/
def execQueueStats (c : Cmd) (s : State) : Host.Outcome State Fault Refusal := queueCommand .queueStats c s

/-! ## Transaction control (chapter 4) -/

/-- BEGIN (R117). -/
def execBeginTxn (c : Cmd) (s : State) : Host.Outcome State Fault Refusal := queueCommand .beginTxn c s

/-- PREPARE (R125). -/
def execPrepare (c : Cmd) (s : State) : Host.Outcome State Fault Refusal := queueCommand .prepare c s

/-- COMMIT (R123). -/
def execCommit (c : Cmd) (s : State) : Host.Outcome State Fault Refusal := queueCommand .commit c s

/-- ROLLBACK (R123). -/
def execRollback (c : Cmd) (s : State) : Host.Outcome State Fault Refusal := queueCommand .rollback c s

/-- TXN_STATUS (R122). -/
def execTxnStatus (c : Cmd) (s : State) : Host.Outcome State Fault Refusal := queueCommand .txnStatus c s

/-! ## Layers (chapter 5) -/

/-- LAYER_CREATE (R145). -/
def execLayerCreate (c : Cmd) (s : State) : Host.Outcome State Fault Refusal := queueCommand .layerCreate c s

/-- LAYER_DESTROY (R147). -/
def execLayerDestroy (c : Cmd) (s : State) : Host.Outcome State Fault Refusal := queueCommand .layerDestroy c s

/-- LAYER_SOURCE (R150). -/
def execLayerSource (c : Cmd) (s : State) : Host.Outcome State Fault Refusal := queueCommand .layerSource c s

/-- LAYER_PLACE (R150). -/
def execLayerPlace (c : Cmd) (s : State) : Host.Outcome State Fault Refusal := queueCommand .layerPlace c s

/-- LAYER_BLEND (R169). -/
def execLayerBlend (c : Cmd) (s : State) : Host.Outcome State Fault Refusal := queueCommand .layerBlend c s

/-- LAYER_ENABLE (R150). -/
def execLayerEnable (c : Cmd) (s : State) : Host.Outcome State Fault Refusal := queueCommand .layerEnable c s

/-- LAYER_RATE (R234). -/
def execLayerRate (c : Cmd) (s : State) : Host.Outcome State Fault Refusal := queueCommand .layerRate c s

/-- LAYER_PALETTE (R152). -/
def execLayerPalette (c : Cmd) (s : State) : Host.Outcome State Fault Refusal := queueCommand .layerPalette c s

/-- LAYER_CLICK (R357). -/
def execLayerClick (c : Cmd) (s : State) : Host.Outcome State Fault Refusal := queueCommand .layerClick c s

/-- LAYER_QUERY (R149). -/
def execLayerQuery (c : Cmd) (s : State) : Host.Outcome State Fault Refusal := queueCommand .layerQuery c s

/-! ## Scalers and colour (chapter 6) -/

/-- SCALER_BIND (R186). -/
def execScalerBind (c : Cmd) (s : State) : Host.Outcome State Fault Refusal := queueCommand .scalerBind c s

/-- SCALER_RELEASE (R186). -/
def execScalerRelease (c : Cmd) (s : State) : Host.Outcome State Fault Refusal := queueCommand .scalerRelease c s

/-- SCALER_COEFF (R197). -/
def execScalerCoeff (c : Cmd) (s : State) : Host.Outcome State Fault Refusal := queueCommand .scalerCoeff c s

/-- LUT_LOAD (R209). -/
def execLutLoad (c : Cmd) (s : State) : Host.Outcome State Fault Refusal := queueCommand .lutLoad c s

/-- MATRIX_SET (R205). -/
def execMatrixSet (c : Cmd) (s : State) : Host.Outcome State Fault Refusal := queueCommand .matrixSet c s

/-- CHROMA_SET (R202). -/
def execChromaSet (c : Cmd) (s : State) : Host.Outcome State Fault Refusal := queueCommand .chromaSet c s

/-! ## Outputs (chapters 8 and 9) -/

/-- OUTPUT_MODE (R291). -/
def execOutputMode (c : Cmd) (s : State) : Host.Outcome State Fault Refusal := queueCommand .outputMode c s

/-- OUTPUT_ENABLE (R294). -/
def execOutputEnable (c : Cmd) (s : State) : Host.Outcome State Fault Refusal := queueCommand .outputEnable c s

/-- OUTPUT_LEAD (R179). -/
def execOutputLead (c : Cmd) (s : State) : Host.Outcome State Fault Refusal := queueCommand .outputLead c s

/-- OUTPUT_STILL (R184). -/
def execOutputStill (c : Cmd) (s : State) : Host.Outcome State Fault Refusal := queueCommand .outputStill c s

/-- OUTPUT_POLICY (R246). -/
def execOutputPolicy (c : Cmd) (s : State) : Host.Outcome State Fault Refusal := queueCommand .outputPolicy c s

/-- OUTPUT_GUARD (R266). -/
def execOutputGuard (c : Cmd) (s : State) : Host.Outcome State Fault Refusal := queueCommand .outputGuard c s

/-- OUTPUT_STATUS (R307). -/
def execOutputStatus (c : Cmd) (s : State) : Host.Outcome State Fault Refusal := queueCommand .outputStatus c s

/-- OUTPUT_AUX (R305). -/
def execOutputAux (c : Cmd) (s : State) : Host.Outcome State Fault Refusal := queueCommand .outputAux c s

/-- OUTPUT_TRAIN (R307). -/
def execOutputTrain (c : Cmd) (s : State) : Host.Outcome State Fault Refusal := queueCommand .outputTrain c s

/-! ## Harvest (chapter 8) -/

/-- HARVEST_SETUP (R273). -/
def execHarvestSetup (c : Cmd) (s : State) : Host.Outcome State Fault Refusal := queueCommand .harvestSetup c s

/-- HARVEST_RUN (R280). -/
def execHarvestRun (c : Cmd) (s : State) : Host.Outcome State Fault Refusal := queueCommand .harvestRun c s

/-- HARVEST_STATUS (R282). -/
def execHarvestStatus (c : Cmd) (s : State) : Host.Outcome State Fault Refusal := queueCommand .harvestStatus c s

/-! ## Check values and monitors (chapter 10) -/

/-- CV_CONFIG (R316). -/
def execCvConfig (c : Cmd) (s : State) : Host.Outcome State Fault Refusal := queueCommand .cvConfig c s

/-- RAKE_JOB (R320). -/
def execRakeJob (c : Cmd) (s : State) : Host.Outcome State Fault Refusal := queueCommand .rakeJob c s

/-- CV_READ (R336). -/
def execCvRead (c : Cmd) (s : State) : Host.Outcome State Fault Refusal := queueCommand .cvRead c s

/-- MONITOR_SET (R330). -/
def execMonitorSet (c : Cmd) (s : State) : Host.Outcome State Fault Refusal := queueCommand .monitorSet c s

/-- MONITOR_READ (R336). -/
def execMonitorRead (c : Cmd) (s : State) : Host.Outcome State Fault Refusal := queueCommand .monitorRead c s

/-- MONITOR_CAPTURE (R334). -/
def execMonitorCapture (c : Cmd) (s : State) : Host.Outcome State Fault Refusal := queueCommand .monitorCapture c s

/-! ## Touch (chapter 11) -/

/-- TOUCH_PORT (R340). -/
def execTouchPort (c : Cmd) (s : State) : Host.Outcome State Fault Refusal := queueCommand .touchPort c s

/-- TOUCH_CALIB (R349). -/
def execTouchCalib (c : Cmd) (s : State) : Host.Outcome State Fault Refusal := queueCommand .touchCalib c s

/-- TOUCH_SIEVE (R358). -/
def execTouchSieve (c : Cmd) (s : State) : Host.Outcome State Fault Refusal := queueCommand .touchSieve c s

/-- TOUCH_CANCEL (R358). -/
def execTouchCancel (c : Cmd) (s : State) : Host.Outcome State Fault Refusal := queueCommand .touchCancel c s

/-- TOUCH_STATUS (R358). -/
def execTouchStatus (c : Cmd) (s : State) : Host.Outcome State Fault Refusal := queueCommand .touchStatus c s

/-! ## Haptics (chapter 12) -/

/-- HAPTIC_CHANNEL (R363). -/
def execHapticChannel (c : Cmd) (s : State) : Host.Outcome State Fault Refusal := queueCommand .hapticChannel c s

/-- HAPTIC_PLAY (R370). -/
def execHapticPlay (c : Cmd) (s : State) : Host.Outcome State Fault Refusal := queueCommand .hapticPlay c s

/-- HAPTIC_STOP (R373). -/
def execHapticStop (c : Cmd) (s : State) : Host.Outcome State Fault Refusal := queueCommand .hapticStop c s

/-- HAPTIC_TRIGGER (R371). -/
def execHapticTrigger (c : Cmd) (s : State) : Host.Outcome State Fault Refusal := queueCommand .hapticTrigger c s

/-- HAPTIC_BUDGET (R380). -/
def execHapticBudget (c : Cmd) (s : State) : Host.Outcome State Fault Refusal := queueCommand .hapticBudget c s

/-- HAPTIC_STATUS (R383). -/
def execHapticStatus (c : Cmd) (s : State) : Host.Outcome State Fault Refusal := queueCommand .hapticStatus c s

/-! ## Audio (chapter 13) -/

/-- AUDIO_STREAM (R410). -/
def execAudioStream (c : Cmd) (s : State) : Host.Outcome State Fault Refusal := queueCommand .audioStream c s

/-- AUDIO_ROUTE (R390). -/
def execAudioRoute (c : Cmd) (s : State) : Host.Outcome State Fault Refusal := queueCommand .audioRoute c s

/-- AUDIO_UNROUTE (R399). -/
def execAudioUnroute (c : Cmd) (s : State) : Host.Outcome State Fault Refusal := queueCommand .audioUnroute c s

/-- AUDIO_BUS (R392). -/
def execAudioBus (c : Cmd) (s : State) : Host.Outcome State Fault Refusal := queueCommand .audioBus c s

/-- AUDIO_PORT (R420). -/
def execAudioPort (c : Cmd) (s : State) : Host.Outcome State Fault Refusal := queueCommand .audioPort c s

/-- AUDIO_METER (R416). -/
def execAudioMeter (c : Cmd) (s : State) : Host.Outcome State Fault Refusal := queueCommand .audioMeter c s

/-- AUDIO_TONE (R420). -/
def execAudioTone (c : Cmd) (s : State) : Host.Outcome State Fault Refusal := queueCommand .audioTone c s

/-- AUDIO_SIDETONE (R403). -/
def execAudioSidetone (c : Cmd) (s : State) : Host.Outcome State Fault Refusal := queueCommand .audioSidetone c s

/-- AUDIO_STATUS (R420). -/
def execAudioStatus (c : Cmd) (s : State) : Host.Outcome State Fault Refusal := queueCommand .audioStatus c s

/-! ## Tide and Oxtas (chapter 2) -/

/-- TIDE_READ (R82). -/
def execTideRead (c : Cmd) (s : State) : Host.Outcome State Fault Refusal := queueCommand .tideRead c s

/-- TIDE_SOURCE (R49). -/
def execTideSource (c : Cmd) (s : State) : Host.Outcome State Fault Refusal := queueCommand .tideSource c s

/-- OX_PORT (R58). -/
def execOxPort (c : Cmd) (s : State) : Host.Outcome State Fault Refusal := queueCommand .oxPort c s

/-- DOMAIN_SET (R61). -/
def execDomainSet (c : Cmd) (s : State) : Host.Outcome State Fault Refusal := queueCommand .domainSet c s

/-- LOCK_GROUP (R71). -/
def execLockGroup (c : Cmd) (s : State) : Host.Outcome State Fault Refusal := queueCommand .lockGroup c s

/-- EVENT_SEND sent by the secure controller (R82): its fields are checked, and it is sent at once (log 156). -/
def secureEventSend (c : Cmd) (d : Dev) : Dev :=
  if !secUp d then d else
  let x : Ctx := { d := d, view := d, c := c, txn := none }
  match (fieldsCheck x (specEventSend.fields x) 48 24 24).or (specEventSend.multi x) with
  | some (st, _) => secAnswer st d
  | none => secAnswer .ok (specEventSend.land 0 { act := .cmd .eventSend, cmd := c, table := [], obj := 0, outs := [] } d)

/-- EVENT_SEND (R76), by a queue or by the secure controller. -/
def execEventSend (e : EventCmd) (s : State) : Host.Outcome State Fault Refusal :=
  match e with
  | .queued c => queueCommand .eventSend c s
  | .secure c => onDev (fun _ d => secureEventSend c d) s

/-- EVENT_SUBSCRIBE (R77). -/
def execEventSubscribe (c : Cmd) (s : State) : Host.Outcome State Fault Refusal := queueCommand .eventSubscribe c s

/-- STREAM_EXPORT (R79). -/
def execStreamExport (c : Cmd) (s : State) : Host.Outcome State Fault Refusal := queueCommand .streamExport c s

/-- STREAM_IMPORT (R80). -/
def execStreamImport (c : Cmd) (s : State) : Host.Outcome State Fault Refusal := queueCommand .streamImport c s

/-- WAKE_MARGIN (R75). -/
def execWakeMargin (c : Cmd) (s : State) : Host.Outcome State Fault Refusal := queueCommand .wakeMargin c s

/-! ## Memory (chapter 14) -/

/-- MEM_MAP_INFO (R457). -/
def execMemMapInfo (c : Cmd) (s : State) : Host.Outcome State Fault Refusal := queueCommand .memMapInfo c s

/-- SLOT_TABLE (R432). -/
def execSlotTable (c : Cmd) (s : State) : Host.Outcome State Fault Refusal := queueCommand .slotTable c s

/-- MEM_REMAP (R453). -/
def execMemRemap (c : Cmd) (s : State) : Host.Outcome State Fault Refusal := queueCommand .memRemap c s

/-- MEM_PAGE_POLICY (R438). -/
def execMemPagePolicy (c : Cmd) (s : State) : Host.Outcome State Fault Refusal := queueCommand .memPagePolicy c s

/-- MEM_REFRESH (R439). -/
def execMemRefresh (c : Cmd) (s : State) : Host.Outcome State Fault Refusal := queueCommand .memRefresh c s

/-- MEM_DISTURB (R445). -/
def execMemDisturb (c : Cmd) (s : State) : Host.Outcome State Fault Refusal := queueCommand .memDisturb c s

/-- MEM_SELF_REFRESH (R442). -/
def execMemSelfRefresh (c : Cmd) (s : State) : Host.Outcome State Fault Refusal := queueCommand .memSelfRefresh c s

/-- MEM_STATUS (R457). -/
def execMemStatus (c : Cmd) (s : State) : Host.Outcome State Fault Refusal := queueCommand .memStatus c s

/-! ## Power (chapter 18) -/

/-- POWER_DOMAIN (R539). -/
def execPowerDomain (c : Cmd) (s : State) : Host.Outcome State Fault Refusal := queueCommand .powerDomain c s

/-- POWER_ISLAND (R542). -/
def execPowerIsland (c : Cmd) (s : State) : Host.Outcome State Fault Refusal := queueCommand .powerIsland c s

/-- POWER_STATE (R545). -/
def execPowerState (c : Cmd) (s : State) : Host.Outcome State Fault Refusal := queueCommand .powerState c s

/-- POWER_STATUS (R570). -/
def execPowerStatus (c : Cmd) (s : State) : Host.Outcome State Fault Refusal := queueCommand .powerStatus c s

/-- PACE_READ (R570). -/
def execPaceRead (c : Cmd) (s : State) : Host.Outcome State Fault Refusal := queueCommand .paceRead c s

/-- SENTINEL_SET (R565). -/
def execSentinelSet (c : Cmd) (s : State) : Host.Outcome State Fault Refusal := queueCommand .sentinelSet c s

/-! ## Instances (chapter 16) -/

/-- INSTANCE_CREATE (R498). -/
def execInstanceCreate (c : Cmd) (s : State) : Host.Outcome State Fault Refusal := queueCommand .instanceCreate c s

/-- INSTANCE_DESTROY (R500). -/
def execInstanceDestroy (c : Cmd) (s : State) : Host.Outcome State Fault Refusal := queueCommand .instanceDestroy c s

/-- INSTANCE_QUIESCE (R504). -/
def execInstanceQuiesce (c : Cmd) (s : State) : Host.Outcome State Fault Refusal := queueCommand .instanceQuiesce c s

/-- INSTANCE_RESET (R508). -/
def execInstanceReset (c : Cmd) (s : State) : Host.Outcome State Fault Refusal := queueCommand .instanceReset c s

/-- INSTANCE_SHARE (R114). -/
def execInstanceShare (c : Cmd) (s : State) : Host.Outcome State Fault Refusal := queueCommand .instanceShare c s

/-- INSTANCE_WINDOW (R491). -/
def execInstanceWindow (c : Cmd) (s : State) : Host.Outcome State Fault Refusal := queueCommand .instanceWindow c s

/-- INSTANCE_VIEWPORT (R496). -/
def execInstanceViewport (c : Cmd) (s : State) : Host.Outcome State Fault Refusal := queueCommand .instanceViewport c s

/-- DELEGATE_RANGE (R485). -/
def execDelegateRange (c : Cmd) (s : State) : Host.Outcome State Fault Refusal := queueCommand .delegateRange c s

/-- DEVICE_RESET (R550). -/
def execDeviceReset (c : Cmd) (s : State) : Host.Outcome State Fault Refusal := queueCommand .deviceReset c s

/-- INSTANCE_STATUS (R513). -/
def execInstanceStatus (c : Cmd) (s : State) : Host.Outcome State Fault Refusal := queueCommand .instanceStatus c s

/-! ## Diagnostics (chapter 3) -/

/-- DIAG_COUNTERS (R107). -/
def execDiagCounters (c : Cmd) (s : State) : Host.Outcome State Fault Refusal := queueCommand .diagCounters c s

/-- DIAG_COUNTER_CLEAR (R107). -/
def execDiagCounterClear (c : Cmd) (s : State) : Host.Outcome State Fault Refusal := queueCommand .diagCounterClear c s

/-- DIAG_FAULT_LOG (R106). -/
def execDiagFaultLog (c : Cmd) (s : State) : Host.Outcome State Fault Refusal := queueCommand .diagFaultLog c s

/-- DIAG_UNIT_STATE (R106). -/
def execDiagUnitState (c : Cmd) (s : State) : Host.Outcome State Fault Refusal := queueCommand .diagUnitState c s

/-! ## Secure services (chapter 17) -/

/-- SECURE_PROMPT_OPEN (R523). -/
def execSecurePromptOpen (c : Cmd) (s : State) : Host.Outcome State Fault Refusal := queueCommand .securePromptOpen c s

/-- SECURE_PROMPT_CLOSE (R522). -/
def execSecurePromptClose (c : Cmd) (s : State) : Host.Outcome State Fault Refusal := queueCommand .securePromptClose c s

/-- WATCH_REQUEST (R523). -/
def execWatchRequest (c : Cmd) (s : State) : Host.Outcome State Fault Refusal := queueCommand .watchRequest c s

/-- WATCH_RELEASE (R525). -/
def execWatchRelease (c : Cmd) (s : State) : Host.Outcome State Fault Refusal := queueCommand .watchRelease c s

/-- SECURE_MESSAGE (R522). -/
def execSecureMessage (c : Cmd) (s : State) : Host.Outcome State Fault Refusal := queueCommand .secureMessage c s

end Sys2Proof.Machine
end

