-- ==== Sys2Proof/Machine/RegRead.lean ====
section
/-! DEFINITION. What registers read as (R13 to R16): the command pages, the units of the manager's BAR0 as the manager and as
the secure controller see them, and the supervisory windows. -/

namespace Sys2Proof.Machine

def lo32 (v : U64) : U32 := BitVec.ofNat 32 v.toNat
def hi32 (v : U64) : U32 := BitVec.ofNat 32 (v.toNat / 2 ^ 32)

/-! ## Command pages (R83 to R89) -/

/-- Word of a submission queue's block. -/
def queueWord (q : SubQueue) (off : Nat) : U32 :=
  match off with
  | 0x00 => lo32 q.sqBase
  | 0x04 => hi32 q.sqBase
  | 0x08 => lo32 q.rqBase
  | 0x0C => hi32 q.rqBase
  | 0x10 => word32 [(1, b2n q.enable), (1, b2n q.loc), (1, b2n q.rloc), (16, 0), (13, q.depth)]
  | 0x14 => word32 [(1, b2n q.running), (1, b2n q.draining), (14, 0), (16, q.lastStatus)]
  | _ => 0

/-- Word of the event queue's block. -/
def eventWord (q : EventQueue) (off : Nat) : U32 :=
  match off with
  | 0x00 => lo32 q.base
  | 0x04 => hi32 q.base
  | 0x10 => word32 [(1, b2n q.enable), (1, b2n q.loc), (17, 0), (13, q.depth)]
  | 0x14 => word32 [(1, b2n q.running), (15, 0), (16, q.lastStatus)]
  | _ => 0

/-- INST_ID. -/
def instId (d : Dev) : Issuer → U32
  | .inst n => word32 [(22, 0), (1, portOfIssuer d (.inst n)), (9, n)]
  | .manager => 0x800001FF
  | .delegate => 0x800003FF

/-- FRAMEn: the frame an enabled output scans. -/
def frameWord (d : Dev) (o : Nat) : U32 := if (outOf d o).enabled then (outOf d o).frame else 0

/-- Doorbells and status window. -/
def pageIndex (p : Page) (off : Nat) : Nat :=
  match off with
  | 0x1000 => if p.q0.running then p.q0.sqTail else 0
  | 0x1004 => if p.q1.running then p.q1.sqTail else 0
  | 0x1008 => if p.q0.running then p.q0.rqHead else 0
  | 0x100C => if p.q1.running then p.q1.rqHead else 0
  | 0x1010 => if p.eq.running then p.eq.head else 0
  | 0x2000 => p.q0.sqHead
  | 0x2004 => p.q1.sqHead
  | 0x2008 => p.q0.rqTail
  | 0x200C => p.q1.rqTail
  | _ => p.eq.tail

/-- What a read of a page returns, for reads that latch nothing. -/
def pageRead (d : Dev) (i : Issuer) (off : Nat) : U32 :=
  let p := pageOf d (pageKey i)
  if off % 4 ≠ 0 then 0
  else if off = 0x0000 then instId d i
  else if off = 0x0004 then p.err.setWidth 32
  else if off = 0x0008 then p.eventMask
  else if off = 0x000C then BitVec.ofNat 32 p.irqMod
  else if 0x0100 ≤ off ∧ off < 0x0140 then queueWord p.q0 (off - 0x0100)
  else if 0x0140 ≤ off ∧ off < 0x0180 then queueWord p.q1 (off - 0x0140)
  else if 0x0180 ≤ off ∧ off < 0x01C0 then eventWord p.eq (off - 0x0180)
  else if 0x1000 ≤ off ∧ off ≤ 0x1010 then BitVec.ofNat 32 (pageIndex p off)
  else if 0x2000 ≤ off ∧ off ≤ 0x2010 then BitVec.ofNat 32 (pageIndex p off)
  else if off = 0x2014 then p.eq.lost
  else if off = 0x2018 then BitVec.ofNat 32 (instCode (pageState d i))
  else if off = 0x2020 then now32 d
  else if off = 0x2024 then p.tideHi
  else if off = 0x2028 then p.tideFrac.setWidth 32
  else if 0x2030 ≤ off ∧ off ≤ 0x204C then frameWord d ((off - 0x2030) / 4)
  else if 0x8000 ≤ off ∧ off < 0x8040 then
    let v := vecOf p ((off - 0x8000) / 16)
    match off % 16 with
    | 0 => lo32 v.addr
    | 4 => hi32 v.addr
    | 8 => v.data
    | _ => BitVec.ofNat 32 (b2n v.masked)
  else if off = 0x9000 then
    BitVec.ofNat 32 (b2n p.v0.pending + 2 * b2n p.v1.pending + 4 * b2n p.v2.pending + 8 * b2n p.v3.pending)
  else 0

/-! ## The halls (R12 to R14, R22, R609) -/

/-- A word of a table of records of `size` bytes from offset 0. -/
def tableWord (recs : Nat → List U32) (size count off : Nat) : U32 :=
  if size * count ≤ off then 0 else nthD 0 (off % size / 4) (recs (off / size))

/-- Guard plane record (R261): the shadow copy. -/
def guardRecord (r : GuardRec) : List U32 :=
  [word32 [(1, b2n r.enable), (1, b2n r.input), (1, b2n r.silent), (1, b2n r.indexed), (4, 0), (8, r.alpha), (16, 0)],
   word32 [(16, r.y), (16, r.x)], word32 [(16, r.h), (16, r.w)], BitVec.ofNat 32 r.base, BitVec.ofNat 32 r.pitch,
   BitVec.ofNat 32 r.palette, r.fail,
   word32 [(1, b2n r.click), (4, 0), (3, r.channel), (1, 0), (7, r.effect), (8, r.amplitude), (8, 0)]]

/-- The guard-plane table as the secure controller reads it. -/
def guardTable (d : Dev) (off : Nat) : U32 :=
  if off < 0x400 then
    tableWord (fun k => guardRecord (nthD GuardPlane.zero (k % 4) (outOf d (k / 4)).guards).shadow) 32 32 off
  else if off < 0x420 then
    let x := outOf d ((off - 0x400) / 4)
    word32 [(1, 0), (1, b2n x.guardPending), (6, 0), (4, x.guardRefused), (4, 0), (16, x.guardLatches.toNat)]
  else if off = 0x420 then word32 [(1, b2n d.regionRefused), (6, 0), (13, d.guardBase), (12, 0)]
  else if off = 0x424 then BitVec.ofNat 32 d.guardSize
  else 0

/-- The tide registers (R43). -/
def tideWords (t : Tide) : List U32 :=
  [BitVec.ofNat 32 (t.now / 65536), t.latchHi, t.latchFrac.setWidth 32, 0, tideStatus t,
   BitVec.ofNat 32 (unsigned 32 (clampInt (-(2 ^ 31 - 1)) (2 ^ 31 - 1) t.slew)), BitVec.ofNat 32 (unsigned 32 t.rate)]

/-- The audio unit (R419). -/
def audioWord (a : Audio) (off : Nat) : U32 :=
  if off < 0x800 then tableWord (streamRecord a false) 32 64 off
  else if off < 0xA00 then tableWord (streamRecord a true) 32 16 (off - 0x800)
  else if off < 0xC00 then tableWord (busRecord a) 16 32 (off - 0xA00)
  else if off < 0xC40 then tableWord (tdmRecord a) 16 4 (off - 0xC00)
  else if 0xD00 ≤ off then tableWord (fun m => meterRecord (nthD .zero m a.meters)) 16 8 (off - 0xD00)
  else 0

/-! ## The supervisory port (R579 to R586) -/

/-- FAULT_SUMMARY bits whose condition lasts (R580). -/
def levelBits (d : Dev) : U32 :=
  word32 [(8, if d.dram.trained then fencedMask d.dram else 0), (16, 0), (1, b2n (d.power.units.any (·.2.isolated))), (2, 0),
    (1, b2n d.power.avsFault), (4, 0)]

def faultSummary (d : Dev) : U32 := d.sup.faults ||| levelBits d

/-- SUP_ALERT_N is driven low (R583). -/
def supAlert (d : Dev) : Bool :=
  (faultSummary d &&& d.sup.alertMask) != 0 || (d.sup.msgAlert && d.sup.outSeq != d.sup.outAck)

/-- Published monitors, by output and monitor number (R582). -/
def published (d : Dev) : List (Nat × Nat) :=
  (List.range 8).flatMap fun o => ((List.range 16).filter fun m => (monOf d o m).publish).map fun m => (o, m)

/-- Words of one published slot (R582). -/
def slotWords (d : Dev) (k : Nat) : List U32 :=
  match (published d)[k]? with
  | none => [0, 0, 0, 0]
  | some (o, m) =>
    let x := monOf d o m
    let r := nthD MonResult.zero 0 x.history
    [lo32 r.value, hi32 r.value, r.frame,
     word32 [(1, b2n r.valid), (1, b2n r.covered), (1, b2n r.linkDown), (1, b2n r.stale), (1, b2n r.guardFault),
       (1, b2n r.held), (1, b2n (x.owner == some .secure)), (3, o), (4, m), (2, 0), (8, r.gen), (8, r.depth)]]

/-- The open window (R579). -/
def openWindow (d : Dev) : List U32 :=
  let s := d.sup
  let mask := fun (f : Output → Bool) => maskOf ((List.range 8).filter fun o => f (outOf d o))
  [0x0512B101,
   word32 [(1, b2n s.safeHold), (1, b2n d.sec.debugSecure), (1, b2n d.sec.debugNormal), (1, b2n d.sec.running),
     (1, b2n (windowBound d)), (2, d.lifecycle), (3, devCode d.power.state), (2, d.power.level), (1, b2n (faultN d)), (3, 0),
     (8, mask (·.enabled)), (8, mask (·.link.up))],
   faultSummary d, word32 [(8, s.stalls), (12, 0), (12, s.lastUnit)], now32 d, s.hbSecure, s.hbSched, s.hbCompose] ++
  (List.range 8).map (frameWord d) ++
  [word32 [(16, d.power.paceNow), (16, d.power.paceMin)], word32 [(16, unsigned 16 (tmax d.power)), (6, 0), (10, d.power.vcore)],
   word32 [(16, 0), (15, s.sets), (1, b2n s.safeHold)], 0, s.alertMask, BitVec.ofNat 32 (b2n s.msgAlert),
   BitVec.ofNat 32 (min 255 ((published d).length - 8)), word32 [(16, s.errors), (16, s.rejects)]] ++
  List.replicate 8 0 ++ (List.range 8).flatMap (slotWords d)

/-- The secure window (R585), as the port reads it. -/
def secureWindow (d : Dev) : List U32 :=
  let s := d.sup
  [word32 [(1, b2n (windowBound d)), (1, b2n d.sec.running), (30, 0)], s.inSeq, s.inAck, s.outSeq, s.outAck] ++
    List.replicate 11 0 ++ (List.range 16).map (fun k => nthD 0 k s.inMsg) ++
    (List.range 16).map (fun k => nthD 0 k s.outMsg) ++ List.replicate 16 0

/-- Glitch filters and the mirror of the open window (R579, R587). -/
def filterUnit (d : Dev) (off : Nat) : U32 :=
  if 0x800 ≤ off ∧ off < 0x900 then nthD 0 ((off - 0x800) / 4) (openWindow d)
  else match d.power.filters[off / 4]? with
    | some f => word32 [(16, f.glitches), (6, 0), (10, f.time)]
    | none => 0

/-- A word of a populated unit of BAR0 by its identifier; `secure` for the secure controller (R260, R517). -/
def unitWord (f : Fuses) (d : Dev) (secure : Bool) (unit off : Nat) : U32 :=
  let at_ := fun (l : List U32) => nthD 0 (off / 4) l
  match unit with
  | 0x010 => tableWord (instRecord d) 32 512 off
  | 0x011 => at_ (schedWords d)
  | 0x100 => at_ (tideWords d.tide)
  | 0x201 => tableWord (layerRecord d) 64 128 off
  | 0x202 => tableWord (scalerRecord d) 16 32 off
  | 0x203 => tableWord (composerRecord d) 32 8 off
  | 0x204 => tableWord (harvestRecord d) 32 8 off
  | 0x206 => tableWord (cvRecord d secure) 64 16 off
  | 0x301 => if off < 0x80 then partitionMap d (off / 64) (off % 64 / 4) else 0
  | 0x302 => tableWord (scanRecord d) 32 8 off
  | 0x303 => if secure then guardTable d off else 0
  | 0x304 => tableWord (linkRecord d) 32 8 off
  | 0x305 => tableWord (fun k => monRecord d secure (k / 16) (k % 16)) 128 128 off
  | 0x400 => at_ (memUnit d 0)
  | 0x401 => at_ (memUnit d 1)
  | 0x402 => at_ (memUnit d 2)
  | 0x500 => at_ (panInfoWords d)
  | 0x501 => tableWord (panBankRecord f d) 32 64 off
  | 0x601 => tableWord (fun p => portRecord (portOf d p) (portOf d p).contacts.length) 64 8 off
  | 0x602 => if off < 0x200 then tableWord (hapRecord d) 64 8 off else if off = 0x200 then budgetReg d
      else if off < 0x240 then 0 else ((d.haptic.pins[(off - 0x240) / 4]?).map pinReg).getD 0
  | 0x603 => audioWord d.audio off
  | 0x700 => at_ (worldWords d)
  | 0x701 => if secure then at_ (worldControl d) else 0
  | 0x702 => if secure then at_ (holdWords d) else 0
  | 0x703 => if secure then at_ (wdWords d) else 0
  | 0x704 => if secure then at_ (canvasWords d) else 0
  | 0x900 => at_ (powerWords f d (!secure) 0)
  | 0x901 => at_ (powerWords f d (!secure) 1)
  | 0x902 => at_ (powerWords f d (!secure) 2)
  | 0x903 => at_ (powerWords f d (!secure) 3)
  | 0x904 => filterUnit d off
  | _ => 0

/-- What a read of the manager's BAR0 returns, for a read of `width` bytes that latches nothing (R12 to R14). -/
def bar0Read (f : Fuses) (d : Dev) (secure : Bool) (addr width : Nat) : U32 :=
  if width ≠ 4 || addr % 4 ≠ 0 || 2 ^ 26 ≤ addr then 0
  else if 0x10000 ≤ addr ∧ addr < 0x20000 then pageRead d .manager (addr - 0x10000)
  else unitWord f d secure (addr / 2 ^ 22 * 256 + addr / 2 ^ 14 % 256) (addr % 2 ^ 14)

end Sys2Proof.Machine
end

