-- ==== Sys2Proof/Machine/Registers.lean ====
section
/-! DEFINITION. Register writes, queue enables and doorbells, interrupt moderation, and the rows of the supervisory port and
of the glitch filters (chapters 3, 8, 17 and 19). -/

namespace Sys2Proof.Machine

/-- Field hi..lo of a word replaced by bits of another: the low or high half of a 64-bit register. -/
def withLo (x : U64) (v : U32) : U64 := BitVec.ofNat 64 (x.toNat / 2 ^ 32 * 2 ^ 32 + v.toNat)
def withHi (x : U64) (v : U32) : U64 := BitVec.ofNat 64 (v.toNat * 2 ^ 32 + x.toNat % 2 ^ 32)

/-- A BASE_LO value: bits 5 to 0 are reserved. -/
def baseLo (x : U64) (v : U32) : U64 := withLo x (v &&& 0xFFFFFFC0)

/-- Whether an access to a command page reaches it: through its port, with the Control hall's command domain on. -/
def pageReached (d : Dev) (i : Issuer) : Bool :=
  d.power.boot == .running && hostReaches d (portOfIssuer d i) && domainOn d 1

/-! ## Queue configuration (R85, R86) -/

/-- A write to a submission queue's base registers or Q_CFG fields, which take effect only while it is off (R86). -/
def writeQueue (off : Nat) (v : U32) (q : SubQueue) : SubQueue :=
  if q.enable || q.draining then q else
  match off with
  | 0x00 => { q with sqBase := baseLo q.sqBase v }
  | 0x04 => { q with sqBase := withHi q.sqBase v }
  | 0x08 => { q with rqBase := baseLo q.rqBase v }
  | 0x0C => { q with rqBase := withHi q.rqBase v }
  | 0x10 => if v.getLsbD 31 then q else { q with loc := v.getLsbD 30, rloc := v.getLsbD 29, depth := v.toNat % 8192 }
  | _ => q

/-- The same for the event queue. -/
def writeEventQueue (off : Nat) (v : U32) (q : EventQueue) : EventQueue :=
  if q.enable then q else
  match off with
  | 0x00 => { q with base := baseLo q.base v }
  | 0x04 => { q with base := withHi q.base v }
  | 0x10 => if v.getLsbD 31 then q else { q with loc := v.getLsbD 30, depth := v.toNat % 8192 }
  | _ => q

/-- Why an enable is refused (R85, R499, R508): the code that LAST_STATUS takes, 0 for none. `rings` gives each ring's
location, base, bytes and whether the GD8 writes it. -/
def enableFails (d : Dev) (i : Issuer) (depth most : Nat) (rings : List (Bool × Nat × Nat × Bool)) : Status :=
  let gone : Bool := match i with
    | .inst n => !(instOf d n).exists_
    | _ => false
  if gone then .noContext
  else if pageState d i == .resetting then .quiesced
  else if depth < 16 || most < depth then .outOfRange
  else if rings.all fun r => locMapped d i r.1 r.2.2.2 r.2.1 r.2.2.1 then .ok
  else .memFault

/-- Enables a submission queue, or refuses it (R85). -/
def enableQueue (i : Issuer) (q : Nat) (v : U32) (d : Dev) : Dev :=
  let k := pageKey i
  let x := queueOf (pageOf d k) q
  if x.enable || x.draining then d else
  let x := { x with loc := v.getLsbD 30, rloc := v.getLsbD 29, depth := v.toNat % 8192 }
  let st := enableFails d i x.depth 1024
    [(x.loc, x.sqBase.toNat, x.depth * 64, false), (x.rloc, x.rqBase.toNat, x.depth * 32, true)]
  updQueue k q (fun _ =>
    if st == .ok then { x with
      enable := true, running := true, lastStatus := 0, sqTail := 0, sqHead := 0, rqHead := 0, rqTail := 0, promised := 0 }
    else { x with enable := false, lastStatus := statusCode st }) d

/-- Enables the event queue, or refuses it (R85). -/
def enableEvents (i : Issuer) (v : U32) (d : Dev) : Dev :=
  let k := pageKey i
  let x := (pageOf d k).eq
  if x.enable then d else
  let x := { x with loc := v.getLsbD 30, depth := v.toNat % 8192 }
  let st := enableFails d i x.depth 4096 [(x.loc, x.base.toNat, x.depth * 32, true)]
  updPage k (fun p => { p with eq :=
    if st == .ok then { x with enable := true, running := true, lastStatus := 0, head := 0, tail := 0 }
    else { x with enable := false, lastStatus := statusCode st } }) d

/-- QUEUE_ENABLE (R85): queues 0 and 1, and 2 the event queue. A value with ENABLE clear is no enable. -/
def execQueueEnable (i : Issuer) (q : Nat) (value : U32) (s : State) : Host.Outcome State Fault Refusal :=
  onDev (fun _ d =>
    if !pageReached d i || 2 < q || !value.getLsbD 31 then d
    else if q = 2 then enableEvents i value d else enableQueue i q value d) s

/-- QUEUE_DISABLE (R86): no further entries are taken, and the drain begins. The event queue stops at once. -/
def execQueueDisable (i : Issuer) (q : Nat) (s : State) : Host.Outcome State Fault Refusal :=
  onDev (fun _ d =>
    let k := pageKey i
    if !pageReached d i || 2 < q then d
    else if q = 2 then updPage k (fun p => { p with eq := { p.eq with enable := false, running := false } }) d
    else updQueue k q (fun x => if x.enable then { x with enable := false, draining := true } else x) d) s

/-- QUEUE_DRAIN_END (R86): every reply owed is written. -/
def execQueueDrainEnd (i : Issuer) (q : Nat) (s : State) : Host.Outcome State Fault Refusal :=
  onDev (fun _ d =>
    if 1 < q then d else
    updQueue (pageKey i) q (fun x =>
      if x.draining && x.promised = 0 then { x with draining := false, running := false } else x) d) s

/-! ## Doorbells (R89) -/

/-- How far an index moves forward around a ring, from `a` to `b`. -/
def ringSteps (depth a b : Nat) : Nat := (b + depth - a) % depth

/-- Whether a doorbell may move an index to a value: below DEPTH, and forward by no more than is available. -/
def doorbellOk (depth current avail v : Nat) : Bool := decide (v < depth) && decide (ringSteps depth current v ≤ avail)

/-- DB_RANGE: the error bit, vector 3 and QUEUE_ERROR. -/
def dbRange (i : Issuer) (q : Nat) (v : U32) (d : Dev) : Dev :=
  let k := pageKey i
  let d := updPage k (fun p => signalVec 3 { p with err := p.err ||| 1 }) d
  raise 0x0101 q (le16 (statusCode .badParam) ++ le16 (v.toNat % 65536)) [k] false d

/-- SQ_TAIL_DOORBELL (R89): the tail advances by at most the free slots. -/
def execSqTailDoorbell (i : Issuer) (q : Nat) (value : U32) (s : State) : Host.Outcome State Fault Refusal :=
  onDev (fun _ d =>
    let x := queueOf (pageOf d (pageKey i)) q
    if !pageReached d i || 1 < q || !x.running then d
    else if doorbellOk x.depth x.sqTail (x.depth - 1 - ringSteps x.depth x.sqHead x.sqTail) value.toNat then
      updQueue (pageKey i) q (fun x => { x with sqTail := value.toNat }) d
    else dbRange i q value d) s

/-- RQ_HEAD_DOORBELL (R89): the head advances by at most the replies written. -/
def execRqHeadDoorbell (i : Issuer) (q : Nat) (value : U32) (s : State) : Host.Outcome State Fault Refusal :=
  onDev (fun _ d =>
    let x := queueOf (pageOf d (pageKey i)) q
    if !pageReached d i || 1 < q || !x.running then d
    else if doorbellOk x.depth x.rqHead (ringSteps x.depth x.rqHead x.rqTail) value.toNat then
      updQueue (pageKey i) q (fun x => { x with rqHead := value.toNat }) d
    else dbRange i q value d) s

/-- EQ_HEAD_DOORBELL (R89): the head advances by at most the events written. -/
def execEqHeadDoorbell (i : Issuer) (value : U32) (s : State) : Host.Outcome State Fault Refusal :=
  onDev (fun _ d =>
    let x := (pageOf d (pageKey i)).eq
    if !pageReached d i || !x.running then d
    else if doorbellOk x.depth x.head (ringSteps x.depth x.head x.tail) value.toNat then
      updPage (pageKey i) (fun p => { p with eq := { p.eq with head := value.toNat } }) d
    else dbRange i 2 value d) s

/-- IRQ_MOD_INTERVAL_END (R103): one message covers what was written during the interval, and starts the next. -/
def execIrqModIntervalEnd (i : Issuer) (vector : Nat) (s : State) : Host.Outcome State Fault Refusal :=
  onDev (fun _ d =>
    if vector != 0 && vector != 2 then d else
    updPage (pageKey i) (updVec vector fun x =>
      if !x.moderated then x
      else if x.owed then { fireVec x with owed := false } else { x with moderated := false }) d) s

/-! ## Register writes (R13 to R17, R83, R260, R261, R517, R537, R569, R579, R585) -/

/-- A write to an MSI-X table entry: unmasking a pending vector sends its message. -/
def writeVector (on : Bool) (off : Nat) (v : U32) (x : Vector4) : Vector4 :=
  match off with
  | 0 => { x with addr := withLo x.addr (v &&& 0xFFFFFFFC) }
  | 4 => { x with addr := withHi x.addr v }
  | 8 => { x with data := v }
  | _ =>
    if !v.getLsbD 0 && x.pending && on then { x with masked := false, pending := false, sent := x.sent + 1 }
    else { x with masked := v.getLsbD 0 }

/-- A write to a command page. -/
def pageWrite (i : Issuer) (off : Nat) (v : U32) (d : Dev) : Dev :=
  updPage (pageKey i) (fun p =>
    if off = 0x0004 then { p with err := p.err &&& ~~~(v.setWidth 4) }
    else if off = 0x0008 then { p with eventMask := (v &&& 0x0001FFFE) ||| 2 }
    else if off = 0x000C then { p with irqMod := min 1000 (v.toNat % 1024) }
    else if 0x0100 ≤ off ∧ off < 0x0140 then { p with q0 := writeQueue (off - 0x0100) v p.q0 }
    else if 0x0140 ≤ off ∧ off < 0x0180 then { p with q1 := writeQueue (off - 0x0140) v p.q1 }
    else if 0x0180 ≤ off ∧ off < 0x01C0 then { p with eq := writeEventQueue (off - 0x0180) v p.eq }
    else if 0x8000 ≤ off ∧ off < 0x8040 then updVec ((off - 0x8000) / 16) (writeVector p.msixOn (off % 16) v) p
    else p) d

/-- A write to a word of a guard plane's shadow record (R261, R263). -/
def writeGuard (w : Nat) (v : U32) (r : GuardRec) : GuardRec :=
  let n := v.toNat
  match w with
  | 0 => { r with enable := n.testBit 31, input := n.testBit 30, silent := n.testBit 29, indexed := n.testBit 28,
                  alpha := bitsOf n 23 16 }
  | 1 => { r with x := n % 65536, y := n / 65536 }
  | 2 => { r with w := n % 65536, h := n / 65536 }
  | 3 => { r with base := n % 2 ^ 24 }
  | 4 => { r with pitch := n % 2 ^ 14 }
  | 5 => { r with palette := n % 2 ^ 24 }
  | 6 => { r with fail := v }
  | _ => { r with click := n.testBit 31, channel := bitsOf n 26 24, effect := bitsOf n 22 16, amplitude := bitsOf n 15 8 }

/-- The secure controller acknowledges the message in IN: what it took is a free value where the module wrote IN again
before (R586). -/
def takeIn (v : U32) (d : Dev) : Dev :=
  let words := if d.sup.inTorn then (rangeFrom d.free 16).map fun k => BitVec.ofNat 32 (Config.freeNat k) else d.sup.inMsg
  { d with
    free := d.free + 16, sup := { d.sup with inAck := v, inTorn := false }, out := { d.out with inMsg := words } }

/-- A write to BAR0 by the manager (`secure` false) or by the secure controller, to a field with no row of its own. The
secure window's own words stand at 0x2410900 for the secure controller, which the spec gives no address (DESIGN CHOICE,
log 24), and the Security hall's sentinel at 0x240C03C is its own (DESIGN CHOICE, log 155). -/
def bar0Write (secure : Bool) (addr : Nat) (v : U32) (d : Dev) : Dev :=
  let n := v.toNat
  if !secure then
    if 0x10000 ≤ addr ∧ addr < 0x20000 then (if pageReached d .manager then pageWrite .manager (addr - 0x10000) v d else d)
    else if addr = 0x0400010 then
      { d with tide := { d.tide with
          stepSeen := d.tide.stepSeen && !n.testBit 9, ppsReject := d.tide.ppsReject && !n.testBit 8 } }
    else if addr = 0x240C010 ∧ d.power.boot = .awaitPush then { d with power := { d.power with bootLen := v } }
    else d
  else if 0x0C0C000 ≤ addr ∧ addr < 0x0C0C400 then
    let k := (addr - 0x0C0C000) / 32
    updOut (k / 4) (fun x => { x with
      guards := modifyAt (fun p => { p with shadow := writeGuard (addr % 32 / 4) v p.shadow }) (k % 4) x.guards }) d
  else if addr = 0x1C04008 then updSec (fun s => { s with intStatus := s.intStatus &&& ~~~(v.setWidth 4) }) d
  else if addr = 0x1C0400C then updSec (fun s => { s with intEnable := v.setWidth 4 }) d
  else if addr = 0x1C04010 then updSec (fun s => { s with seqBase := v }) d
  else if addr = 0x1C04024 then updSec (fun s => { s with forceFault := n.testBit 0 }) d
  else if addr = 0x1C08010 then updSec (fun s => { s with lutLock := v.setWidth 8 }) d
  else if addr = 0x1C0C00C then { d with power := { d.power with wdExpired := d.power.wdExpired && !n.testBit 31 } }
  else if addr = 0x1C10000 then updSec (fun s => { s with cvList := v }) d
  else if addr = 0x1C10008 then updSec (fun s => { s with cvError := s.cvError && !n.testBit 30 }) d
  else if addr = 0x240C03C ∧ 10 ≤ n % 16384 ∧ n % 16384 ≤ 10000 then
    { d with power := { d.power with sentinels := modifyAt (fun _ => n % 16384) 7 d.power.sentinels } }
  else if 0x2410000 ≤ addr ∧ addr < 0x2410070 ∧ 1 ≤ n % 1024 ∧ n % 1024 ≤ 1000 then
    { d with power := { d.power with
        filters := modifyAt (fun f => { f with time := n % 1024 }) ((addr - 0x2410000) / 4) d.power.filters } }
  else if addr = 0x2410908 then takeIn v d
  else if addr = 0x241090C then { d with sup := { d.sup with outSeq := v } }
  else if 0x2410980 ≤ addr ∧ addr < 0x24109C0 then
    { d with sup := { d.sup with outMsg := modifyAt (fun _ => v) ((addr - 0x2410980) / 4) d.sup.outMsg } }
  else d

/-- Whether the supervisory port answers: its AON logic is powered (R573, R600). -/
def supAlive (d : Dev) : Bool := d.power.boot != .dark && d.power.boot != .supplyHold

/-- Counts a transaction in SUP_ERRORS. -/
def supError (d : Dev) : Dev := { d with sup := { d.sup with errors := min 65535 (d.sup.errors + 1) } }

/-- A write through the open window to a register with no row of its own. A SAFE_HOLD_CTRL value that is neither pattern is
refused (R581). -/
def openWrite (addr : Nat) (v : U32) (d : Dev) : Dev :=
  match addr / 4 * 4 % 256 with
  | 0x08 => { d with sup := { d.sup with faults := d.sup.faults &&& ~~~(v &&& ~~~levelBits d) } }
  | 0x48 => if v == 0x5AFE0001 || v == 0x5AFE0000 then d
      else { d with sup := { d.sup with rejects := min 65535 (d.sup.rejects + 1) } }
  | 0x50 => { d with sup := { d.sup with alertMask := v } }
  | 0x54 => { d with sup := { d.sup with msgAlert := v.getLsbD 0 } }
  | _ => d

/-- A write through the secure window, by the module (R585). -/
def secureWrite (addr : Nat) (v : U32) (d : Dev) : Dev :=
  if !windowBound d then supError d else
  let a := addr / 4 * 4 % 256
  if a = 0x10 then { d with sup := { d.sup with outAck := v } }
  else if 0x40 ≤ a ∧ a < 0x80 then
    { d with sup := { d.sup with
        inMsg := modifyAt (fun _ => v) ((a - 0x40) / 4) d.sup.inMsg, inTorn := d.sup.inTorn || d.sup.inSeq != d.sup.inAck } }
  else d

/-- Whether an access to BAR0 is a naturally aligned 32-bit one: no other has an effect (R13). -/
def wordAccess (addr width : Nat) : Bool := width == 4 && addr % 4 == 0

/-- REGISTER_WRITE (R13, R15), `width` bytes wide: a field with no behaviour of its own takes the value its access code gives
it; every other offset ignores the write. The supervisory port writes words. -/
def execRegisterWrite (a : Agent) (r : RegAccess) (value : U32) (s : State) : Host.Outcome State Fault Refusal :=
  onDev (fun _ d =>
    let addr := r.addr
    if !(a == .supOpen || a == .supSecure) && !wordAccess addr r.width then d else
    match a with
    | .page i => if pageReached d i then pageWrite i addr value d else d
    | .bar0 => if hostReaches d 0 then bar0Write false addr value d else d
    | .secureCtl => if secUp d then bar0Write true addr value d else d
    | .supOpen => if supAlive d then openWrite addr value d else d
    | .supSecure => if supAlive d then secureWrite addr value d else d) s

/-! ## The supervisory port (R574 to R586) -/

/-- SUP_READ (R574 to R576, R585): `words` words of one snapshot, from the address on, wrapping in the window. A command byte
with bits 4 to 0 set ends the transaction, and one with RD clear is no read. -/
def execSupRead (cmd addr : Byte) (words : Nat) (s : State) : Host.Outcome State Fault Refusal :=
  onDev (fun _ d =>
    if !supAlive d || !cmd.getLsbD 7 then d
    else if cmd &&& 0x1F != 0 then { supError d with out := { d.out with sup := [] } }
    else
      let show_ := fun (w : List U32) => (List.range words).map fun k => nthD 0 ((addr.toNat / 4 + k) % 64) w
      if !cmd.getLsbD 5 then { d with out := { d.out with sup := show_ (openWindow d) } }
      else if windowBound d then { d with out := { d.out with sup := show_ (secureWindow d) } }
      else { supError d with out := { d.out with sup := List.replicate words 0 } }) s

/-- Outputs that SAFE_HOLD affects: the enabled ones. -/
def heldOutputs (d : Dev) : List Nat := (List.range 8).filter fun o => (outOf d o).enabled

/-- SAFE_HOLD_STATE. -/
def safeHoldEvent (on : Bool) (d : Dev) : Dev :=
  raise 0x0511 0 (le8 (b2n on) ++ le8 (maskOf (heldOutputs d)) ++ [0, 0] ++ le32 (outOf d 0).frame.toNat) [512] true d

/-- SAFE_HOLD_SET (R271, R581): every enabled output stops composing, and harvest channels stop (R281). -/
def execSafeHoldSet (s : State) : Host.Outcome State Fault Refusal :=
  onDev (fun _ d =>
    if !supAlive d || d.sup.safeHold then d else
    let d := { d with sup := { d.sup with safeHold := true, sets := min 32767 (d.sup.sets + 1) } }
    safeHoldEvent true ((heldOutputs d).foldl (fun d o => stopHarvestOn o 4 (stopComposing o d)) d)) s

/-- SAFE_HOLD_CLEAR (R272, R581): composition resumes at each output's next cut with every band damaged. -/
def execSafeHoldClear (s : State) : Host.Outcome State Fault Refusal :=
  onDev (fun _ d =>
    if !supAlive d || !d.sup.safeHold then d else
    let d := { d with sup := { d.sup with safeHold := false } }
    safeHoldEvent false ((heldOutputs d).foldl (fun d o => damageAll o d) d)) s

/-- SUP_WAKE_WRITE (R546, R579): any write is a wake event. -/
def execSupWakeWrite (_value : U32) (s : State) : Host.Outcome State Fault Refusal :=
  onDev (fun _ d => if d.power.boot == .running then wakeDevice 5 d else d) s

/-- IN_SEQ_WRITE (R585, R586): the secure controller is interrupted. -/
def execInSeqWrite (value : U32) (s : State) : Host.Outcome State Fault Refusal :=
  onDev (fun _ d =>
    if !supAlive d then d
    else if !windowBound d then supError d
    else updSec (fun s => { s with intStatus := s.intStatus ||| 8 }) { d with sup := { d.sup with inSeq := value } }) s

/-- SUP_CS_TIMEOUT (R578): the transaction ends, and its partial word is counted. -/
def execSupCsTimeout (s : State) : Host.Outcome State Fault Refusal := onDev (fun _ d => if supAlive d then supError d else d) s

/-- PIN_GLITCH_DISCARD (R587). -/
def execPinGlitchDiscard (group : Nat) (s : State) : Host.Outcome State Fault Refusal :=
  onDev (fun _ d => { d with power := { d.power with
    filters := modifyAt (fun f => { f with glitches := min 65535 (f.glitches + 1) }) group d.power.filters } }) s

end Sys2Proof.Machine
end

