-- ==== Sys2Proof/Machine/Dispatch.lean ====
section
/-! DEFINITION. One arm for each row of the opcode table: the direct call of that row's meaning. -/

namespace Sys2Proof.Machine

/-- The effect of one command on everything but the queue of waiting commands. -/
def exec (i : Instr) (s : State) : Host.Outcome State Fault Refusal :=
  match i with
  | .nop c => Sys2Proof.Machine.execNop c s
  | .fence c => Sys2Proof.Machine.execFence c s
  | .instanceInfo c => Sys2Proof.Machine.execInstanceInfo c s
  | .viewportList c => Sys2Proof.Machine.execViewportList c s
  | .queueStats c => Sys2Proof.Machine.execQueueStats c s
  | .beginTxn c => Sys2Proof.Machine.execBeginTxn c s
  | .prepare c => Sys2Proof.Machine.execPrepare c s
  | .commit c => Sys2Proof.Machine.execCommit c s
  | .rollback c => Sys2Proof.Machine.execRollback c s
  | .txnStatus c => Sys2Proof.Machine.execTxnStatus c s
  | .layerCreate c => Sys2Proof.Machine.execLayerCreate c s
  | .layerDestroy c => Sys2Proof.Machine.execLayerDestroy c s
  | .layerSource c => Sys2Proof.Machine.execLayerSource c s
  | .layerPlace c => Sys2Proof.Machine.execLayerPlace c s
  | .layerBlend c => Sys2Proof.Machine.execLayerBlend c s
  | .layerEnable c => Sys2Proof.Machine.execLayerEnable c s
  | .layerRate c => Sys2Proof.Machine.execLayerRate c s
  | .layerPalette c => Sys2Proof.Machine.execLayerPalette c s
  | .layerClick c => Sys2Proof.Machine.execLayerClick c s
  | .layerQuery c => Sys2Proof.Machine.execLayerQuery c s
  | .scalerBind c => Sys2Proof.Machine.execScalerBind c s
  | .scalerRelease c => Sys2Proof.Machine.execScalerRelease c s
  | .scalerCoeff c => Sys2Proof.Machine.execScalerCoeff c s
  | .lutLoad c => Sys2Proof.Machine.execLutLoad c s
  | .matrixSet c => Sys2Proof.Machine.execMatrixSet c s
  | .chromaSet c => Sys2Proof.Machine.execChromaSet c s
  | .outputMode c => Sys2Proof.Machine.execOutputMode c s
  | .outputEnable c => Sys2Proof.Machine.execOutputEnable c s
  | .outputLead c => Sys2Proof.Machine.execOutputLead c s
  | .outputStill c => Sys2Proof.Machine.execOutputStill c s
  | .outputPolicy c => Sys2Proof.Machine.execOutputPolicy c s
  | .outputGuard c => Sys2Proof.Machine.execOutputGuard c s
  | .outputStatus c => Sys2Proof.Machine.execOutputStatus c s
  | .outputAux c => Sys2Proof.Machine.execOutputAux c s
  | .outputTrain c => Sys2Proof.Machine.execOutputTrain c s
  | .harvestSetup c => Sys2Proof.Machine.execHarvestSetup c s
  | .harvestRun c => Sys2Proof.Machine.execHarvestRun c s
  | .harvestStatus c => Sys2Proof.Machine.execHarvestStatus c s
  | .cvConfig c => Sys2Proof.Machine.execCvConfig c s
  | .rakeJob c => Sys2Proof.Machine.execRakeJob c s
  | .cvRead c => Sys2Proof.Machine.execCvRead c s
  | .monitorSet c => Sys2Proof.Machine.execMonitorSet c s
  | .monitorRead c => Sys2Proof.Machine.execMonitorRead c s
  | .monitorCapture c => Sys2Proof.Machine.execMonitorCapture c s
  | .touchPort c => Sys2Proof.Machine.execTouchPort c s
  | .touchCalib c => Sys2Proof.Machine.execTouchCalib c s
  | .touchSieve c => Sys2Proof.Machine.execTouchSieve c s
  | .touchCancel c => Sys2Proof.Machine.execTouchCancel c s
  | .touchStatus c => Sys2Proof.Machine.execTouchStatus c s
  | .hapticChannel c => Sys2Proof.Machine.execHapticChannel c s
  | .hapticPlay c => Sys2Proof.Machine.execHapticPlay c s
  | .hapticStop c => Sys2Proof.Machine.execHapticStop c s
  | .hapticTrigger c => Sys2Proof.Machine.execHapticTrigger c s
  | .hapticBudget c => Sys2Proof.Machine.execHapticBudget c s
  | .hapticStatus c => Sys2Proof.Machine.execHapticStatus c s
  | .audioStream c => Sys2Proof.Machine.execAudioStream c s
  | .audioRoute c => Sys2Proof.Machine.execAudioRoute c s
  | .audioUnroute c => Sys2Proof.Machine.execAudioUnroute c s
  | .audioBus c => Sys2Proof.Machine.execAudioBus c s
  | .audioPort c => Sys2Proof.Machine.execAudioPort c s
  | .audioMeter c => Sys2Proof.Machine.execAudioMeter c s
  | .audioTone c => Sys2Proof.Machine.execAudioTone c s
  | .audioSidetone c => Sys2Proof.Machine.execAudioSidetone c s
  | .audioStatus c => Sys2Proof.Machine.execAudioStatus c s
  | .tideRead c => Sys2Proof.Machine.execTideRead c s
  | .tideSource c => Sys2Proof.Machine.execTideSource c s
  | .oxPort c => Sys2Proof.Machine.execOxPort c s
  | .domainSet c => Sys2Proof.Machine.execDomainSet c s
  | .lockGroup c => Sys2Proof.Machine.execLockGroup c s
  | .eventSend c => Sys2Proof.Machine.execEventSend c s
  | .eventSubscribe c => Sys2Proof.Machine.execEventSubscribe c s
  | .streamExport c => Sys2Proof.Machine.execStreamExport c s
  | .streamImport c => Sys2Proof.Machine.execStreamImport c s
  | .wakeMargin c => Sys2Proof.Machine.execWakeMargin c s
  | .memMapInfo c => Sys2Proof.Machine.execMemMapInfo c s
  | .slotTable c => Sys2Proof.Machine.execSlotTable c s
  | .memRemap c => Sys2Proof.Machine.execMemRemap c s
  | .memPagePolicy c => Sys2Proof.Machine.execMemPagePolicy c s
  | .memRefresh c => Sys2Proof.Machine.execMemRefresh c s
  | .memDisturb c => Sys2Proof.Machine.execMemDisturb c s
  | .memSelfRefresh c => Sys2Proof.Machine.execMemSelfRefresh c s
  | .memStatus c => Sys2Proof.Machine.execMemStatus c s
  | .powerDomain c => Sys2Proof.Machine.execPowerDomain c s
  | .powerIsland c => Sys2Proof.Machine.execPowerIsland c s
  | .powerState c => Sys2Proof.Machine.execPowerState c s
  | .powerStatus c => Sys2Proof.Machine.execPowerStatus c s
  | .paceRead c => Sys2Proof.Machine.execPaceRead c s
  | .sentinelSet c => Sys2Proof.Machine.execSentinelSet c s
  | .instanceCreate c => Sys2Proof.Machine.execInstanceCreate c s
  | .instanceDestroy c => Sys2Proof.Machine.execInstanceDestroy c s
  | .instanceQuiesce c => Sys2Proof.Machine.execInstanceQuiesce c s
  | .instanceReset c => Sys2Proof.Machine.execInstanceReset c s
  | .instanceShare c => Sys2Proof.Machine.execInstanceShare c s
  | .instanceWindow c => Sys2Proof.Machine.execInstanceWindow c s
  | .instanceViewport c => Sys2Proof.Machine.execInstanceViewport c s
  | .delegateRange c => Sys2Proof.Machine.execDelegateRange c s
  | .deviceReset c => Sys2Proof.Machine.execDeviceReset c s
  | .instanceStatus c => Sys2Proof.Machine.execInstanceStatus c s
  | .diagCounters c => Sys2Proof.Machine.execDiagCounters c s
  | .diagCounterClear c => Sys2Proof.Machine.execDiagCounterClear c s
  | .diagFaultLog c => Sys2Proof.Machine.execDiagFaultLog c s
  | .diagUnitState c => Sys2Proof.Machine.execDiagUnitState c s
  | .securePromptOpen c => Sys2Proof.Machine.execSecurePromptOpen c s
  | .securePromptClose c => Sys2Proof.Machine.execSecurePromptClose c s
  | .watchRequest c => Sys2Proof.Machine.execWatchRequest c s
  | .watchRelease c => Sys2Proof.Machine.execWatchRelease c s
  | .secureMessage c => Sys2Proof.Machine.execSecureMessage c s
  | .secureClassChange layer setW => Sys2Proof.Machine.execSecureClassChange layer setW s
  | .secureHapticPlay channel effect scale duration => Sys2Proof.Machine.execSecureHapticPlay channel effect scale duration s
  | .audioSeize sink seize => Sys2Proof.Machine.execAudioSeize sink seize s
  | .panTestControl a => Sys2Proof.Machine.execPanTestControl a s
  | .registerWrite a addr value => Sys2Proof.Machine.execRegisterWrite a addr value s
  | .tideLoRead iss => Sys2Proof.Machine.execTideLoRead iss s
  | .resultLoRead unit => Sys2Proof.Machine.execResultLoRead unit s
  | .valueLoRead o m entry => Sys2Proof.Machine.execValueLoRead o m entry s
  | .hwPosLoRead capture stream => Sys2Proof.Machine.execHwPosLoRead capture stream s
  | .queueEnable iss q value => Sys2Proof.Machine.execQueueEnable iss q value s
  | .queueDisable iss q => Sys2Proof.Machine.execQueueDisable iss q s
  | .sqTailDoorbell iss q value => Sys2Proof.Machine.execSqTailDoorbell iss q value s
  | .rqHeadDoorbell iss q value => Sys2Proof.Machine.execRqHeadDoorbell iss q value s
  | .eqHeadDoorbell iss value => Sys2Proof.Machine.execEqHeadDoorbell iss value s
  | .guardCommitWrite o => Sys2Proof.Machine.execGuardCommitWrite o s
  | .guardRegionWrite size value => Sys2Proof.Machine.execGuardRegionWrite size value s
  | .secPartitionWrite value => Sys2Proof.Machine.execSecPartitionWrite value s
  | .s2nDoorbellWrite value stores => Sys2Proof.Machine.execS2nDoorbellWrite value stores s
  | .seqDepthWrite value => Sys2Proof.Machine.execSeqDepthWrite value s
  | .seqHeadWrite value => Sys2Proof.Machine.execSeqHeadWrite value s
  | .cvCountWrite value stores => Sys2Proof.Machine.execCvCountWrite value stores s
  | .wdKick key => Sys2Proof.Machine.execWdKick key s
  | .wdRunWrite value => Sys2Proof.Machine.execWdRunWrite value s
  | .holdWrite islands value => Sys2Proof.Machine.execHoldWrite islands value s
  | .bootGoWrite value => Sys2Proof.Machine.execBootGoWrite value s
  | .supRead cmd addr words => Sys2Proof.Machine.execSupRead cmd addr words s
  | .supWakeWrite value => Sys2Proof.Machine.execSupWakeWrite value s
  | .inSeqWrite value => Sys2Proof.Machine.execInSeqWrite value s
  | .gateResponse scope r sig => Sys2Proof.Machine.execGateResponse scope r sig s
  | .gatePassword password => Sys2Proof.Machine.execGatePassword password s
  | .hostWindowAccess iss pan off len write meet => Sys2Proof.Machine.execHostWindowAccess iss pan off len write meet s
  | .resetNRelease straps slot0 slot1 => Sys2Proof.Machine.execResetNRelease straps slot0 slot1 s
  | .perstAssert port => Sys2Proof.Machine.execPerstAssert port s
  | .vfFlr n => Sys2Proof.Machine.execVfFlr n s
  | .pfFlr portB => Sys2Proof.Machine.execPfFlr portB s
  | .pinGlitchDiscard group => Sys2Proof.Machine.execPinGlitchDiscard group s
  | .tidePpsEdge ago => Sys2Proof.Machine.execTidePpsEdge ago s
  | .launchInstantReached ticket => Sys2Proof.Machine.execLaunchInstantReached ticket s
  | .engineTakeEntry iss urgent => Sys2Proof.Machine.execEngineTakeEntry iss urgent s
  | .queueDrainEnd iss q => Sys2Proof.Machine.execQueueDrainEnd iss q s
  | .irqModIntervalEnd iss vector => Sys2Proof.Machine.execIrqModIntervalEnd iss vector s
  | .outputCut o => Sys2Proof.Machine.execOutputCut o s
  | .outputFrameStart o => Sys2Proof.Machine.execOutputFrameStart o s
  | .guardLatch o => Sys2Proof.Machine.execGuardLatch o s
  | .scanoutLineStart o late => Sys2Proof.Machine.execScanoutLineStart o late s
  | .monitorResultComplete o m => Sys2Proof.Machine.execMonitorResultComplete o m s
  | .bandReady o band => Sys2Proof.Machine.execBandReady o band s
  | .bandFetchStart o frame band => Sys2Proof.Machine.execBandFetchStart o frame band s
  | .pipeTakesBand pipe => Sys2Proof.Machine.execPipeTakesBand pipe s
  | .bandDeadline o frame band complete => Sys2Proof.Machine.execBandDeadline o frame band complete s
  | .layerFetchFault o frame layer band run => Sys2Proof.Machine.execLayerFetchFault o frame layer band run s
  | .bandComplete pipe => Sys2Proof.Machine.execBandComplete pipe s
  | .bandWriteCutoff o frame band => Sys2Proof.Machine.execBandWriteCutoff o frame band s
  | .configRetire o => Sys2Proof.Machine.execConfigRetire o s
  | .partitionZeroed o => Sys2Proof.Machine.execPartitionZeroed o s
  | .dpPllLocked o => Sys2Proof.Machine.execDpPllLocked o s
  | .hpdRise o => Sys2Proof.Machine.execHpdRise o s
  | .hpdLowEnd o lowNs dpcd loss vector => Sys2Proof.Machine.execHpdLowEnd o lowNs dpcd loss vector s
  | .hpdUnplug o => Sys2Proof.Machine.execHpdUnplug o s
  | .capabilityReadDone o caps => Sys2Proof.Machine.execCapabilityReadDone o caps s
  | .auxTransactionEnd o reply => Sys2Proof.Machine.execAuxTransactionEnd o reply s
  | .auxReplyTimeout o => Sys2Proof.Machine.execAuxReplyTimeout o s
  | .trainPhaseEnd o e => Sys2Proof.Machine.execTrainPhaseEnd o e s
  | .trainSequenceTimeout o => Sys2Proof.Machine.execTrainSequenceTimeout o s
  | .dpPllRelock o => Sys2Proof.Machine.execDpPllRelock o s
  | .tpIrqAssert p => Sys2Proof.Machine.execTpIrqAssert p s
  | .touchReportArrival p report => Sys2Proof.Machine.execTouchReportArrival p report s
  | .touchTransferTimeout p => Sys2Proof.Machine.execTouchTransferTimeout p s
  | .touchBringupStepDone p res => Sys2Proof.Machine.execTouchBringupStepDone p res s
  | .touchResetTimeout p => Sys2Proof.Machine.execTouchResetTimeout p s
  | .touchStuckTimeout p slot => Sys2Proof.Machine.execTouchStuckTimeout p slot s
  | .hapTrigEdge pin rising => Sys2Proof.Machine.execHapTrigEdge pin rising s
  | .hapticEffectStart ch hvdd => Sys2Proof.Machine.execHapticEffectStart ch hvdd s
  | .hapticHalfCycle ch m => Sys2Proof.Machine.execHapticHalfCycle ch m s
  | .hapticSegmentEnd ch => Sys2Proof.Machine.execHapticSegmentEnd ch s
  | .hapticOvercurrent ch => Sys2Proof.Machine.execHapticOvercurrent ch s
  | .hapticHardCurrent ch => Sys2Proof.Machine.execHapticHardCurrent ch s
  | .hvddLow k => Sys2Proof.Machine.execHvddLow k s
  | .hapticSupplyRecover k => Sys2Proof.Machine.execHapticSupplyRecover k s
  | .hapticLimit ch duty => Sys2Proof.Machine.execHapticLimit ch duty s
  | .hapticRestEnd ch => Sys2Proof.Machine.execHapticRestEnd ch s
  | .audioBlockBoundary inputs => Sys2Proof.Machine.execAudioBlockBoundary inputs s
  | .audioStreamFault capture stream why => Sys2Proof.Machine.execAudioStreamFault capture stream why s
  | .silenceHoldExpiry endpoint => Sys2Proof.Machine.execSilenceHoldExpiry endpoint s
  | .tdmPortOff p => Sys2Proof.Machine.execTdmPortOff p s
  | .dpAudioOff o => Sys2Proof.Machine.execDpAudioOff o s
  | .tdmClockLost p => Sys2Proof.Machine.execTdmClockLost p s
  | .tdmClockRestored p => Sys2Proof.Machine.execTdmClockRestored p s
  | .dramSlotArbitration reqs => Sys2Proof.Machine.execDramSlotArbitration reqs s
  | .refreshDue ch rank busy => Sys2Proof.Machine.execRefreshDue ch rank busy s
  | .mr4Read codes => Sys2Proof.Machine.execMr4Read codes s
  | .dramTrackingDue ch temp => Sys2Proof.Machine.execDramTrackingDue ch temp s
  | .trackingPassEnd ch moved pass => Sys2Proof.Machine.execTrackingPassEnd ch moved pass s
  | .linkEccFail ch => Sys2Proof.Machine.execLinkEccFail ch s
  | .retrainEnd ch pass => Sys2Proof.Machine.execRetrainEnd ch pass s
  | .selfRefreshIdle ch => Sys2Proof.Machine.execSelfRefreshIdle ch s
  | .selfRefreshExit ch => Sys2Proof.Machine.execSelfRefreshExit ch s
  | .dramTrainingDone trained => Sys2Proof.Machine.execDramTrainingDone trained s
  | .memRemapped trained scrubUs => Sys2Proof.Machine.execMemRemapped trained scrubUs s
  | .windowUnmapDrained n => Sys2Proof.Machine.execWindowUnmapDrained n s
  | .panBorrowRelease fails => Sys2Proof.Machine.execPanBorrowRelease fails s
  | .rakeJobEnd unit pieces => Sys2Proof.Machine.execRakeJobEnd unit pieces s
  | .quiesceComplete n => Sys2Proof.Machine.execQuiesceComplete n s
  | .resetComplete n => Sys2Proof.Machine.execResetComplete n s
  | .secureAnswerTimeout mail => Sys2Proof.Machine.execSecureAnswerTimeout mail s
  | .watchdogExpiry slept => Sys2Proof.Machine.execWatchdogExpiry slept s
  | .wakeEvent cause => Sys2Proof.Machine.execWakeEvent cause s
  | .domainSwitchedOn island idx => Sys2Proof.Machine.execDomainSwitchedOn island idx s
  | .thermalSample temps => Sys2Proof.Machine.execThermalSample temps s
  | .paceSample rate => Sys2Proof.Machine.execPaceSample rate s
  | .avsStep clean => Sys2Proof.Machine.execAvsStep clean s
  | .avsRetry clean => Sys2Proof.Machine.execAvsRetry clean s
  | .stallSentinelExpiry unit handshake => Sys2Proof.Machine.execStallSentinelExpiry unit handshake s
  | .unitRecovered unit => Sys2Proof.Machine.execUnitRecovered unit s
  | .oxSignalDetect p => Sys2Proof.Machine.execOxSignalDetect p s
  | .oxBringupStageDone p node domain priority => Sys2Proof.Machine.execOxBringupStageDone p node domain priority s
  | .oxBringupLimit p => Sys2Proof.Machine.execOxBringupLimit p s
  | .oxLinkDown p lost => Sys2Proof.Machine.execOxLinkDown p lost s
  | .oxDelayMeasure p t1 t2 t3 t4 => Sys2Proof.Machine.execOxDelayMeasure p t1 t2 t3 t4 s
  | .oxSyncReceived p node priority hops ahead => Sys2Proof.Machine.execOxSyncReceived p node priority hops ahead s
  | .oxAnnounceReceived p node priority hops => Sys2Proof.Machine.execOxAnnounceReceived p node priority hops s
  | .oxEventReceived p sender dest stamp channel payload => Sys2Proof.Machine.execOxEventReceived p sender dest stamp channel payload s
  | .oxCommitReceived p m => Sys2Proof.Machine.execOxCommitReceived p m s
  | .oxLockReceived p group m => Sys2Proof.Machine.execOxLockReceived p group m s
  | .oxStreamFrameReceived p slot w h frame bytes => Sys2Proof.Machine.execOxStreamFrameReceived p slot w h frame bytes s
  | .streamLost imported slot => Sys2Proof.Machine.execStreamLost imported slot s
  | .pllRelockTimeout o => Sys2Proof.Machine.execPllRelockTimeout o s
  | .oxDownHoldEnd p => Sys2Proof.Machine.execOxDownHoldEnd p s
  | .perstRelease port => Sys2Proof.Machine.execPerstRelease port s
  | .pcieConfigRequest port req => Sys2Proof.Machine.execPcieConfigRequest port req s
  | .n2sHeadWrite value => Sys2Proof.Machine.execN2sHeadWrite value s
  | .secureMonitorSet params => Sys2Proof.Machine.execSecureMonitorSet params s
  | .secureCvConfig params => Sys2Proof.Machine.execSecureCvConfig params s
  | .secureAudioControl a => Sys2Proof.Machine.execSecureAudioControl a s
  | .secureMeterAssign params => Sys2Proof.Machine.execSecureMeterAssign params s
  | .lifecycleAdvance a => Sys2Proof.Machine.execLifecycleAdvance a s
  | .antiRollbackAdvance => Sys2Proof.Machine.execAntiRollbackAdvance s
  | .tideNowLoRead => Sys2Proof.Machine.execTideNowLoRead s
  | .safeHoldSet => Sys2Proof.Machine.execSafeHoldSet s
  | .safeHoldClear => Sys2Proof.Machine.execSafeHoldClear s
  | .supCsTimeout => Sys2Proof.Machine.execSupCsTimeout s
  | .gateChallenge => Sys2Proof.Machine.execGateChallenge s
  | .panBusyRetry => Sys2Proof.Machine.execPanBusyRetry s
  | .powerOnReset => Sys2Proof.Machine.execPowerOnReset s
  | .resetHoldEnd => Sys2Proof.Machine.execResetHoldEnd s
  | .resetNAssert => Sys2Proof.Machine.execResetNAssert s
  | .supplyUndervoltage => Sys2Proof.Machine.execSupplyUndervoltage s
  | .vaonDrop => Sys2Proof.Machine.execVaonDrop s
  | .tideRefFail => Sys2Proof.Machine.execTideRefFail s
  | .tideRefRecover => Sys2Proof.Machine.execTideRefRecover s
  | .tidePpsOutSecond => Sys2Proof.Machine.execTidePpsOutSecond s
  | .tidePpsOutEnd => Sys2Proof.Machine.execTidePpsOutEnd s
  | .schedRoundStart => Sys2Proof.Machine.execSchedRoundStart s
  | .feedbackOvertemp => Sys2Proof.Machine.execFeedbackOvertemp s
  | .wheelWrap => Sys2Proof.Machine.execWheelWrap s
  | .disturbWindowEnd => Sys2Proof.Machine.execDisturbWindowEnd s
  | .panBorrowStart => Sys2Proof.Machine.execPanBorrowStart s
  | .panBorrowAbandon => Sys2Proof.Machine.execPanBorrowAbandon s
  | .canvasListEnd => Sys2Proof.Machine.execCanvasListEnd s
  | .powerStateSwitch => Sys2Proof.Machine.execPowerStateSwitch s
  | .thermalShutdown => Sys2Proof.Machine.execThermalShutdown s
  | .thermalRestart => Sys2Proof.Machine.execThermalRestart s
  | .oxSyncSend => Sys2Proof.Machine.execOxSyncSend s
  | .oxAnnounceSend => Sys2Proof.Machine.execOxAnnounceSend s
  | .masterLost => Sys2Proof.Machine.execMasterLost s
  | .oxElectionEnd => Sys2Proof.Machine.execOxElectionEnd s

end Sys2Proof.Machine
end

