-- ==== Sys2Proof/Machine/Tick.lean ====
section
/-! DEFINITION. What passes with time while no command waits: tide time, the Oxtas ports, the rake's reading and the pan
memory's bank ports. -/

namespace Sys2Proof.Machine

/-- Tide that has been slewed back to its reference leaves holdover (R45). -/
def endReturn (d : Dev) : Dev :=
  if d.tide.returning && d.tide.slew == 0 then recheckHoldover (updTide (fun t => { t with returning := false }) d) else d

/-- One reference cycle passes (DESIGN CHOICE, log 2): tide time and the Oxtas ports (R46, R57), each running rake job's next
piece (log 152), and a waiting request at each pan bank port (log 154). -/
def tickDev (d : Dev) : Dev := flushEvents (servePorts (tickRakes (endReturn (updTide tideTick d))))

end Sys2Proof.Machine
end

