-- ==== Sys2Proof/WellFormed.lean ====
section
/-! DEFINITION. Which terms of `Instr` can reach the block: numbers the hardware has, byte strings of the length the
spec gives them. The step needs none of these checks; statements about an arbitrary command may assume them. -/

namespace Sys2Proof

/-- A command page that exists: instances 0 to 511, the manager, the delegate (R83). -/
def Issuer.wf : Issuer → Bool
  | .inst n => decide (n < 512)
  | .manager => true
  | .delegate => true

/-- A queue command's sender exists (R83). -/
def Cmd.wf (c : Cmd) : Bool := c.issuer.wf

/-- A register access comes from a page that exists (R83). -/
def Agent.wf : Agent → Bool
  | .page i => i.wf
  | .bar0 => true
  | .secureCtl => true
  | .supOpen => true
  | .supSecure => true

/-- One of the eight outputs (R1). -/
def okOutput (o : Nat) : Bool := decide (o < 8)

/-- A width that a bus access has, in bytes (R13). -/
def okWidth (n : Nat) : Bool := n == 1 || n == 2 || n == 4 || n == 8

/-- A requester of a pan memory port (R463, R483). -/
def okRequester (r : Nat) : Bool := decide (r < 7) || (decide (128 ≤ r) && decide (r < 135))

/-- A date as long as tide time: under 2^80 units of 2^-16 ns (R40). -/
def okTide (v : Int) : Bool := decide (v.natAbs < 2 ^ 80)

/-- Stores into the secure window: offsets within 32 MiB of pan memory (R519). -/
def okStores (l : List (Nat × List Byte)) : Bool := l.all fun e => decide (e.1 + e.2.length ≤ 33554432)

/-- An Oxtas node number (R11). -/
def okNode (n : Nat) : Bool := decide (n < 16384)

/-- A 48-byte digest (R534, R554). -/
def okDigest (b : List Byte) : Bool := b.length == 48

/-- Whether a term is one the outside can send. -/
def Instr.wf : Instr → Bool
  | .nop c => c.wf
  | .fence c => c.wf
  | .instanceInfo c => c.wf
  | .viewportList c => c.wf
  | .queueStats c => c.wf
  | .beginTxn c => c.wf
  | .prepare c => c.wf
  | .commit c => c.wf
  | .rollback c => c.wf
  | .txnStatus c => c.wf
  | .layerCreate c => c.wf
  | .layerDestroy c => c.wf
  | .layerSource c => c.wf
  | .layerPlace c => c.wf
  | .layerBlend c => c.wf
  | .layerEnable c => c.wf
  | .layerRate c => c.wf
  | .layerPalette c => c.wf
  | .layerClick c => c.wf
  | .layerQuery c => c.wf
  | .scalerBind c => c.wf
  | .scalerRelease c => c.wf
  | .scalerCoeff c => c.wf
  | .lutLoad c => c.wf
  | .matrixSet c => c.wf
  | .chromaSet c => c.wf
  | .outputMode c => c.wf
  | .outputEnable c => c.wf
  | .outputLead c => c.wf
  | .outputStill c => c.wf
  | .outputPolicy c => c.wf
  | .outputGuard c => c.wf
  | .outputStatus c => c.wf
  | .outputAux c => c.wf
  | .outputTrain c => c.wf
  | .harvestSetup c => c.wf
  | .harvestRun c => c.wf
  | .harvestStatus c => c.wf
  | .cvConfig c => c.wf
  | .rakeJob c => c.wf
  | .cvRead c => c.wf
  | .monitorSet c => c.wf
  | .monitorRead c => c.wf
  | .monitorCapture c => c.wf
  | .touchPort c => c.wf
  | .touchCalib c => c.wf
  | .touchSieve c => c.wf
  | .touchCancel c => c.wf
  | .touchStatus c => c.wf
  | .hapticChannel c => c.wf
  | .hapticPlay c => c.wf
  | .hapticStop c => c.wf
  | .hapticTrigger c => c.wf
  | .hapticBudget c => c.wf
  | .hapticStatus c => c.wf
  | .audioStream c => c.wf
  | .audioRoute c => c.wf
  | .audioUnroute c => c.wf
  | .audioBus c => c.wf
  | .audioPort c => c.wf
  | .audioMeter c => c.wf
  | .audioTone c => c.wf
  | .audioSidetone c => c.wf
  | .audioStatus c => c.wf
  | .tideRead c => c.wf
  | .tideSource c => c.wf
  | .oxPort c => c.wf
  | .domainSet c => c.wf
  | .lockGroup c => c.wf
  | .eventSend c => (match c with
      | .queued c => c.wf
      | .secure c => c.wf)
  | .eventSubscribe c => c.wf
  | .streamExport c => c.wf
  | .streamImport c => c.wf
  | .wakeMargin c => c.wf
  | .memMapInfo c => c.wf
  | .slotTable c => c.wf
  | .memRemap c => c.wf
  | .memPagePolicy c => c.wf
  | .memRefresh c => c.wf
  | .memDisturb c => c.wf
  | .memSelfRefresh c => c.wf
  | .memStatus c => c.wf
  | .powerDomain c => c.wf
  | .powerIsland c => c.wf
  | .powerState c => c.wf
  | .powerStatus c => c.wf
  | .paceRead c => c.wf
  | .sentinelSet c => c.wf
  | .instanceCreate c => c.wf
  | .instanceDestroy c => c.wf
  | .instanceQuiesce c => c.wf
  | .instanceReset c => c.wf
  | .instanceShare c => c.wf
  | .instanceWindow c => c.wf
  | .instanceViewport c => c.wf
  | .delegateRange c => c.wf
  | .deviceReset c => c.wf
  | .instanceStatus c => c.wf
  | .diagCounters c => c.wf
  | .diagCounterClear c => c.wf
  | .diagFaultLog c => c.wf
  | .diagUnitState c => c.wf
  | .securePromptOpen c => c.wf
  | .securePromptClose c => c.wf
  | .watchRequest c => c.wf
  | .watchRelease c => c.wf
  | .secureMessage c => c.wf
  | .secureClassChange layer _ => decide (layer < 128)
  | .secureHapticPlay channel effect scale duration =>
    decide (channel < 8) && decide (effect < 256) && decide (scale < 256) && decide (duration < 65536)
  | .audioSeize sink _ => decide (sink < 65536)
  | .panTestControl a => (match a with
      | .start f l sp => decide (f < 8192) && decide (l < 8192) && decide (sp < 2 ^ 32)
      | .pace sp => decide (sp < 2 ^ 32)
      | .stop => true)
  | .registerWrite a r _ => a.wf && okWidth r.width
  | .tideLoRead i => i.wf
  | .resultLoRead r => decide (r.index < 16)
  | .valueLoRead o m r => okOutput o && decide (m < 16) && decide (r.index < 4)
  | .hwPosLoRead capture stream => decide (stream < (if capture then 16 else 64))
  | .queueEnable i q _ => i.wf && decide (q < 3)
  | .queueDisable i q => i.wf && decide (q < 3)
  | .sqTailDoorbell i q _ => i.wf && decide (q < 2)
  | .rqHeadDoorbell i q _ => i.wf && decide (q < 2)
  | .eqHeadDoorbell i _ => i.wf
  | .guardCommitWrite o => okOutput o
  | .guardRegionWrite _ _ => true
  | .secPartitionWrite _ => true
  | .s2nDoorbellWrite _ stores => okStores stores
  | .seqDepthWrite _ => true
  | .seqHeadWrite _ => true
  | .cvCountWrite _ stores => okStores stores
  | .wdKick _ => true
  | .wdRunWrite _ => true
  | .holdWrite _ _ => true
  | .bootGoWrite _ => true
  | .supRead _ _ words => decide (1 ≤ words) && decide (words ≤ 64)
  | .supWakeWrite _ => true
  | .inSeqWrite _ => true
  | .gateResponse _ r sig => okDigest r && okDigest sig
  | .gatePassword p => decide (8 ≤ p.length) && decide (p.length ≤ 64)
  | .hostWindowAccess i _ _ len write meet => i.wf && decide (1 ≤ len) && decide (len ≤ 4096) && meet.rivals.all okRequester &&
      (match write with
        | some b => b.length == len
        | none => true)
  | .resetNRelease straps _ _ => decide (straps < 4)
  | .perstAssert port => decide (port < 2)
  | .vfFlr n => decide (n < 512)
  | .pfFlr _ => true
  | .pinGlitchDiscard g => decide (g < 28)
  | .tidePpsEdge ago => decide (ago < 10 ^ 9)
  | .launchInstantReached _ => true
  | .engineTakeEntry i _ => i.wf
  | .queueDrainEnd i q => i.wf && decide (q < 2)
  | .irqModIntervalEnd i v => i.wf && (v == 0 || v == 2)
  | .outputCut o => okOutput o
  | .outputFrameStart o => okOutput o
  | .guardLatch o => okOutput o
  | .scanoutLineStart o meet => okOutput o && (meet.late.all fun n => decide (n < 128)) &&
      meet.rivals.all fun r => decide (r.1 < 64) && okRequester r.2
  | .monitorResultComplete o m => okOutput o && decide (m < 16)
  | .bandReady o _ => okOutput o
  | .bandFetchStart o _ _ => okOutput o
  | .pipeTakesBand p => decide (p < 8)
  | .bandDeadline o _ _ complete => okOutput o && complete.all fun n => decide (n < 128)
  | .layerFetchFault o _ layer _ _ => okOutput o && decide (layer < 128)
  | .bandComplete p => decide (p < 8)
  | .bandWriteCutoff o _ _ => okOutput o
  | .configRetire o => okOutput o
  | .partitionZeroed o => okOutput o
  | .dpPllLocked o => okOutput o
  | .hpdRise o => okOutput o
  | .hpdLowEnd o _ dpcd _ _ => okOutput o && decide (dpcd.length ≤ 16)
  | .hpdUnplug o => okOutput o
  | .capabilityReadDone o _ => okOutput o
  | .auxTransactionEnd o r => okOutput o && (match r with
      | .ack n d => decide (n ≤ 16) && decide (d.length ≤ 16)
      | .defer => true
      | .nack => true)
  | .auxReplyTimeout o => okOutput o
  | .trainPhaseEnd o e => okOutput o && decide (e.phase < 2)
  | .trainSequenceTimeout o => okOutput o
  | .dpPllRelock o => okOutput o
  | .tpIrqAssert p => decide (p < 8)
  | .touchReportArrival p _ => decide (p < 8)
  | .touchTransferTimeout p => decide (p < 8)
  | .touchBringupStepDone p _ => decide (p < 8)
  | .touchResetTimeout p => decide (p < 8)
  | .touchStuckTimeout p slot => decide (p < 8) && decide (slot < 32)
  | .hapTrigEdge pin _ => decide (pin < 8)
  | .hapticEffectStart ch _ => decide (ch < 8)
  | .hapticHalfCycle ch _ => decide (ch < 8)
  | .hapticSegmentEnd ch => decide (ch < 8)
  | .hapticOvercurrent ch => decide (ch < 8)
  | .hapticHardCurrent ch => decide (ch < 8)
  | .hvddLow k => decide (k < 4)
  | .hapticSupplyRecover k => k.all fun k => decide (k < 4)
  | .hapticLimit ch _ => decide (ch < 8)
  | .hapticRestEnd ch => decide (ch < 8)
  | .audioBlockBoundary _ => true
  | .audioStreamFault capture stream _ => decide (stream < (if capture then 16 else 64))
  | .silenceHoldExpiry e => decide (e < 65536)
  | .tdmPortOff p => decide (p < 4)
  | .dpAudioOff o => okOutput o
  | .tdmClockLost p => decide (p < 4)
  | .tdmClockRestored p => decide (p < 4)
  | .dramSlotArbitration reqs => reqs.all fun r => okOutput r.output && decide (r.layer < 128)
  | .refreshDue ch rank _ => decide (ch < 8) && decide (rank < 2)
  | .mr4Read codes => decide (codes.length ≤ 8) && codes.all fun c => decide (c < 32)
  | .dramTrackingDue ch _ => decide (ch < 8)
  | .trackingPassEnd ch _ _ => decide (ch < 8)
  | .linkEccFail ch => decide (ch < 8)
  | .retrainEnd ch _ => decide (ch < 8)
  | .selfRefreshIdle ch => decide (ch < 8)
  | .selfRefreshExit ch => decide (ch < 8)
  | .dramTrainingDone trained => decide (trained < 256)
  | .memRemapped trained _ => decide (trained < 256)
  | .windowUnmapDrained n => decide (n < 512)
  | .panBorrowRelease fails => fails.all fun f => decide (f.word < 512) && decide (f.bit < 72)
  | .rakeJobEnd unit _ => decide (unit < 16)
  | .quiesceComplete n => decide (n < 512)
  | .resetComplete n => decide (n < 512)
  | .secureAnswerTimeout _ => true
  | .watchdogExpiry _ => true
  | .wakeEvent _ => true
  | .domainSwitchedOn island idx => decide (idx < (if island then 13 else 12))
  | .thermalSample temps => decide (temps.length ≤ 12)
  | .paceSample _ => true
  | .avsStep _ => true
  | .avsRetry _ => true
  | .stallSentinelExpiry _ h => decide (h < 65536)
  | .unitRecovered _ => true
  | .oxSignalDetect p => decide (p < 4)
  | .oxBringupStageDone p n dom pr => decide (p.port < 4) && okNode n && decide (dom < 65536) && decide (pr < 256)
  | .oxBringupLimit p => decide (p < 4)
  | .oxLinkDown p _ => decide (p < 4)
  | .oxDelayMeasure p a b c d => decide (p < 4) && okTide a && okTide b && okTide c && okTide d
  | .oxSyncReceived p n pr h _ => decide (p < 4) && okNode n && decide (pr < 256) && decide (h < 256)
  | .oxAnnounceReceived p n pr h => decide (p < 4) && okNode n && decide (pr < 256) && decide (h.hops < 256)
  | .oxEventReceived p snd dst _ ch pl => decide (p < 4) && okNode snd && decide (dst < 65536) && decide (ch < 256) &&
      decide (pl.length ≤ 32)
  | .oxCommitReceived p _ => decide (p < 4)
  | .oxLockReceived p g _ => decide (p < 4) && decide (g < 256)
  | .oxStreamFrameReceived p slot _ _ _ _ => decide (p < 4) && decide (slot < 16)
  | .streamLost _ slot => decide (slot < 16)
  | .pllRelockTimeout o => okOutput o
  | .oxDownHoldEnd p => decide (p < 4)
  | .perstRelease port => decide (port < 2)
  | .pcieConfigRequest port req => decide (port < 2) && (match req with
      | .read => true
      | .barSize _ => true
      | .vfEnable _ => true
      | .msixEnable i _ => i.wf)
  | .n2sHeadWrite _ => true
  | .secureMonitorSet _ => true
  | .secureCvConfig _ => true
  | .secureAudioControl a => (match a with
      | .stream _ => true
      | .bus _ => true
      | .tone _ => true
      | .route _ => true
      | .unroute _ => true
      | .hold e _ => decide (e < 65536))
  | .secureMeterAssign _ => true
  | .lifecycleAdvance a => (match a with
      | .ownerKey h => okDigest h
      | .field => true)
  | .antiRollbackAdvance => true
  | .tideNowLoRead => true
  | .safeHoldSet => true
  | .safeHoldClear => true
  | .supCsTimeout => true
  | .gateChallenge => true
  | .panBusyRetry => true
  | .powerOnReset => true
  | .resetHoldEnd => true
  | .resetNAssert => true
  | .supplyUndervoltage => true
  | .vaonDrop => true
  | .tideRefFail => true
  | .tideRefRecover => true
  | .tidePpsOutSecond => true
  | .tidePpsOutEnd => true
  | .schedRoundStart => true
  | .feedbackOvertemp => true
  | .wheelWrap => true
  | .disturbWindowEnd => true
  | .panBorrowStart => true
  | .panBorrowAbandon => true
  | .canvasListEnd => true
  | .powerStateSwitch => true
  | .thermalShutdown => true
  | .thermalRestart => true
  | .oxSyncSend => true
  | .oxAnnounceSend => true
  | .masterLost => true
  | .oxElectionEnd => true

end Sys2Proof
end

