-- ==== Sys2Proof/Safety.lean ====
section
/-! DEFINITION. The words in which claims speak: the invariants a run keeps, the command a queue entry spells, when a
command is accepted, and a device apart from its replies and events. -/

namespace Sys2Proof.Machine

/-! ## Invariants -/

/-- The four memories are in their one form. -/
def Dev.MemoriesWf (d : Dev) : Prop :=
  Memory.wf d.dramMem ∧ Memory.wf d.panMem ∧ Memory.wf d.fsA ∧ Memory.wf d.fsB

/-- Fuses only gain (R534, R556): a key stays what it is, a field or return fuse stays burned, a version fuse stays
counted, and what the foundry wrote stays. -/
structure Fuses.Gain (f g : Fuses) : Prop where
  key : f.ownerKey.isSome → g.ownerKey = f.ownerKey
  field : f.fieldSet = true → g.fieldSet = true
  returned : f.returned = true → g.returned = true
  rollback : f.rollback ≤ g.rollback
  foundry : g.deviceId = f.deviceId ∧ g.salt = f.salt ∧ g.passHash = f.passHash ∧ g.spares = f.spares

/-- Fuses that a part can hold (R534, R535, R556): at most 64 version fuses, a key hash of 48 bytes, and no field or
return fuse without a key. -/
structure Fuses.Legal (f : Fuses) : Prop where
  rollback : f.rollback ≤ 64
  key : ∀ h, f.ownerKey = some h → h.length = 48
  field : f.fieldSet = true → f.ownerKey.isSome
  returned : f.returned = true → f.ownerKey.isSome

/-! ## Queue commands -/

/-- The row of a queue command: its opcode and its packet. -/
def instrOf (op : Op) (c : Cmd) : Instr :=
  match op with
  | .nop => .nop c
  | .fence => .fence c
  | .instanceInfo => .instanceInfo c
  | .viewportList => .viewportList c
  | .queueStats => .queueStats c
  | .beginTxn => .beginTxn c
  | .prepare => .prepare c
  | .commit => .commit c
  | .rollback => .rollback c
  | .txnStatus => .txnStatus c
  | .layerCreate => .layerCreate c
  | .layerDestroy => .layerDestroy c
  | .layerSource => .layerSource c
  | .layerPlace => .layerPlace c
  | .layerBlend => .layerBlend c
  | .layerEnable => .layerEnable c
  | .layerRate => .layerRate c
  | .layerPalette => .layerPalette c
  | .layerClick => .layerClick c
  | .layerQuery => .layerQuery c
  | .scalerBind => .scalerBind c
  | .scalerRelease => .scalerRelease c
  | .scalerCoeff => .scalerCoeff c
  | .lutLoad => .lutLoad c
  | .matrixSet => .matrixSet c
  | .chromaSet => .chromaSet c
  | .outputMode => .outputMode c
  | .outputEnable => .outputEnable c
  | .outputLead => .outputLead c
  | .outputStill => .outputStill c
  | .outputPolicy => .outputPolicy c
  | .outputGuard => .outputGuard c
  | .outputStatus => .outputStatus c
  | .outputAux => .outputAux c
  | .outputTrain => .outputTrain c
  | .harvestSetup => .harvestSetup c
  | .harvestRun => .harvestRun c
  | .harvestStatus => .harvestStatus c
  | .cvConfig => .cvConfig c
  | .rakeJob => .rakeJob c
  | .cvRead => .cvRead c
  | .monitorSet => .monitorSet c
  | .monitorRead => .monitorRead c
  | .monitorCapture => .monitorCapture c
  | .touchPort => .touchPort c
  | .touchCalib => .touchCalib c
  | .touchSieve => .touchSieve c
  | .touchCancel => .touchCancel c
  | .touchStatus => .touchStatus c
  | .hapticChannel => .hapticChannel c
  | .hapticPlay => .hapticPlay c
  | .hapticStop => .hapticStop c
  | .hapticTrigger => .hapticTrigger c
  | .hapticBudget => .hapticBudget c
  | .hapticStatus => .hapticStatus c
  | .audioStream => .audioStream c
  | .audioRoute => .audioRoute c
  | .audioUnroute => .audioUnroute c
  | .audioBus => .audioBus c
  | .audioPort => .audioPort c
  | .audioMeter => .audioMeter c
  | .audioTone => .audioTone c
  | .audioSidetone => .audioSidetone c
  | .audioStatus => .audioStatus c
  | .tideRead => .tideRead c
  | .tideSource => .tideSource c
  | .oxPort => .oxPort c
  | .domainSet => .domainSet c
  | .lockGroup => .lockGroup c
  | .eventSend => .eventSend (.queued c)
  | .eventSubscribe => .eventSubscribe c
  | .streamExport => .streamExport c
  | .streamImport => .streamImport c
  | .wakeMargin => .wakeMargin c
  | .memMapInfo => .memMapInfo c
  | .slotTable => .slotTable c
  | .memRemap => .memRemap c
  | .memPagePolicy => .memPagePolicy c
  | .memRefresh => .memRefresh c
  | .memDisturb => .memDisturb c
  | .memSelfRefresh => .memSelfRefresh c
  | .memStatus => .memStatus c
  | .powerDomain => .powerDomain c
  | .powerIsland => .powerIsland c
  | .powerState => .powerState c
  | .powerStatus => .powerStatus c
  | .paceRead => .paceRead c
  | .sentinelSet => .sentinelSet c
  | .instanceCreate => .instanceCreate c
  | .instanceDestroy => .instanceDestroy c
  | .instanceQuiesce => .instanceQuiesce c
  | .instanceReset => .instanceReset c
  | .instanceShare => .instanceShare c
  | .instanceWindow => .instanceWindow c
  | .instanceViewport => .instanceViewport c
  | .delegateRange => .delegateRange c
  | .deviceReset => .deviceReset c
  | .instanceStatus => .instanceStatus c
  | .diagCounters => .diagCounters c
  | .diagCounterClear => .diagCounterClear c
  | .diagFaultLog => .diagFaultLog c
  | .diagUnitState => .diagUnitState c
  | .securePromptOpen => .securePromptOpen c
  | .securePromptClose => .securePromptClose c
  | .watchRequest => .watchRequest c
  | .watchRelease => .watchRelease c
  | .secureMessage => .secureMessage c

/-- The ticket of a command that an engine takes now. -/
def ticketOf (op : Op) (c : Cmd) (s : State) : Ticket := (enlist op c s.dev).1

/-- The device once the engine has taken the command: the ticket, the counts of its queue and its issuer (R92). -/
def takenDev (op : Op) (c : Cmd) (s : State) : Dev := (enlist op c s.dev).2

/-- A command that its engine takes and that passes every check of R94 up to step 8: the engines run, its page is active,
it belongs to no transaction and asks for no launch. `b` is the table it copied and `d` the device then. -/
structure Accepted (op : Op) (c : Cmd) (s : State) (d : Dev) (b : List Byte) : Prop where
  runs : enginesRun s.dev = true
  active : pageState (takenDev op c s) c.issuer = .active
  valid : validate op c (takenDev op c s) = (d, .ok b)
  alone : c.inTxn = false
  now : c.launch = false

/-- The command's own transaction (R99), before PREPARE. -/
def ownTxn (op : Op) (c : Cmd) (s : State) (d : Dev) (b : List Byte) : Txn :=
  { id := d.nextTxn, issuer := c.issuer, own := true, handle := 0, state := .openT,
    changes := [{ act := .cmd op, cmd := c, table := b, obj := 0xFFFF, outs := [] }], resolved := [], landings := [],
    lastStatus := .ok, failIndex := 0xFFFF, ballot := 0, coord := 0, commit := some (ticketOf op c s), wait := none,
    passed := false, seqNo := 0, waits := 0, verdict := none, out := [], cause := none }

/-- A command of kind D or N whose change lands at once: it is accepted, no transaction is open, PREPARE's checks (R125)
pass with `ch` as its change, and the output it concerns, if any, is disabled (R134). -/
structure Lands (op : Op) (c : Cmd) (s : State) (d : Dev) (b : List Byte) (ch : Change) : Prop where
  acc : Accepted op c s d b
  free : d.txns = []
  ready : prepareChanges (ownTxn op c s d b) { d with nextTxn := d.nextTxn + 1, txns := [ownTxn op c s d b] } = .ok [ch]
  off : ∀ o ∈ ch.outs, (outOf d o).enabled = false

/-- The same transaction, sequenced (R131) and waiting for one thing that is not a cut: a block boundary, the end of a
braking, a first drive. `out` is what it will answer. -/
def waitingTxn (op : Op) (c : Cmd) (s : State) (d : Dev) (b : List Byte) (ch : Change) (out : List Byte) : Txn :=
  { ownTxn op c s d b with state := .sequenced, resolved := [ch], seqNo := d.nextSeq, waits := 1, out := out }

/-- A device that has given out one transaction number and one place in sequence (R131). -/
def Dev.opened (d : Dev) : Dev := { d with nextTxn := d.nextTxn + 1, nextSeq := d.nextSeq + 1, result := [] }

/-- The machine after a row's effect on the device: the step's events are written last (R102). -/
def State.after (s : State) (d : Dev) : State := { s with dev := flushEvents d }

/-- A device apart from what replies and events write: rings and their registers, memory, the tickets and fences that
a reply settles, the arbiters and ECC counts of the pan words a reply overwrote, the secure event queue, FAULT_SUMMARY, and
the command whose effect events name. -/
def Dev.quiet (d : Dev) : Dev :=
  { d with
    pages := [], tickets := [], fences := [], raised := [], cause := none, out := .zero, dramMem := [], panMem := [],
    pan := { d.pan with
      ports := [], borrowed := none, abandons := [], retry := [], banks := [], single := [], double := [], uncorrAll := 0 },
    sec := { d.sec with seqTail := 0, seqLost := 0, seqLostPending := false, intStatus := 0 },
    sup := { d.sup with faults := 0 } }

/-- A device apart from the buffers that a frame still reads, from the events the step has not written yet, and from the
command whose effect events name: what a landing may add to when it replaces a buffer (R238 to R240). -/
def Dev.apart (d : Dev) : Dev := { d with uses := [], raised := [], cause := none }

/-- A command replies OK (or LATE_APPLIED) with `res`, and the device it leaves, before that reply and the step's events
are written, is `L` apart from released buffers. -/
def Does (i : Instr) (t : Ticket) (s : State) (res : List Byte) (L : Dev) : Prop :=
  ∃ E : Dev, exec i s = .next (s.after (finish t .ok 0 res E)) ∧ E.apart = L.apart

end Sys2Proof.Machine
end

