-- ==== Sys2Proof/Certificates/Slice0/Obligations.lean ====
section
/-! DEFINITION. The statements about this model. A queue command's statements speak of one that its engine accepts
(`Accepted`), or whose change lands at once (`Lands`); `State.after` writes the step's events last (R102). -/

open Sys2Proof Sys2Proof.Machine

/-- Layer commands set the fields their rows name, damage what shows, and reply OK -/
def Obligations.LayerCommandsLand : Prop :=
  (∀ c s d b ch, Lands .layerCreate c s d b ch →
    Does (.layerCreate c) (ticketOf .layerCreate c s) s (le16 ch.obj)
      (putLayer ch.obj (some {
        output := c.u8 24, z := c.u16 26, owner := ownerOf c.issuer, src := none, crop := .zero, dst := .zero, visible := false,
        input := false, mode := 1, alpha := 0xFF, classW := false, rate := 0, palette := [], click := none, binding := none,
        chroma := { matrix := 1, full := false, hInter := false, vInter := true, replicate := false }, matrixOn := false,
        matrix := List.replicate 12 0, lut := .of .srgb }) d.opened)) ∧
  (∀ c s d b ch l, Lands .layerDestroy c s d b ch → layerOf d (c.u16 24) = some l →
    Does (.layerDestroy c) (ticketOf .layerDestroy c s) s []
      (putLayer (c.u16 24) none
        (if l.visible then damageRects l.output (visibleRects d l) d.opened else d.opened))) ∧
  (∀ c s d b ch, Lands .layerPlace c s d b ch →
    Does (.layerPlace c) (ticketOf .layerPlace c s) s []
      (changeLayer (c.u16 24) (fun l => { l with
        z := c.u16 26, crop := { x := c.u16 28, y := c.u16 30, w := c.u16 32, h := c.u16 34 },
        dst := { x := c.u16 36, y := c.u16 38, w := c.u16 40, h := c.u16 42 } }) d.opened)) ∧
  (∀ c s d b ch, Lands .layerBlend c s d b ch →
    Does (.layerBlend c) (ticketOf .layerBlend c s) s []
      (changeLayer (c.u16 24) (fun l => { l with mode := c.u8 26, alpha := c.u8 27 }) d.opened)) ∧
  (∀ c s d b ch l, Lands .layerEnable c s d b ch → layerOf d (c.u16 24) = some l →
    Does (.layerEnable c) (ticketOf .layerEnable c s) s []
      (if l.visible = c.bit 26 0 then updLayer (c.u16 24) (fun l => { l with input := c.bit 26 1 }) d.opened
        else changeLayer (c.u16 24) (fun l => { l with visible := c.bit 26 0, input := c.bit 26 1 }) d.opened)) ∧
  (∀ c s d b ch, Lands .layerRate c s d b ch →
    Does (.layerRate c) (ticketOf .layerRate c s) s []
      (updLayer (c.u16 24) (fun l => { l with rate := c.u32 28 }) d.opened)) ∧
  (∀ c s d b ch l, Lands .layerPalette c s d b ch → layerOf d (c.u16 24) = some l →
    Does (.layerPalette c) (ticketOf .layerPalette c s) s []
      ((if (l.src.map (·.format)) = some 0x20 then changeLayer else updLayer) (c.u16 24) (fun l => { l with
        palette := (List.range (c.u16 30)).foldl (fun p k =>
          tput 0 p (c.u16 28 + k) (leNat ((ch.table.drop (4 * k)).take 4))) l.palette }) d.opened)) ∧
  (∀ c s d b ch, Lands .layerClick c s d b ch →
    Does (.layerClick c) (ticketOf .layerClick c s) s []
      (updLayer (c.u16 24) (fun l => { l with
        click := if c.u8 27 = 0 then none
          else some { channel := c.u8 26, effect := c.u8 27, amplitude := c.u8 28, duration := c.u16 30 } }) d.opened))

/-- LAYER_SOURCE sets the source; a damage rectangle limits what is damaged; LAYER_QUERY answers the record -/
def Obligations.LayerSourceLands : Prop :=
  (∀ c s d b ch, Lands .layerSource c s d b ch → c.bit 27 4 = false →
    Does (.layerSource c) (ticketOf .layerSource c s) s []
      (changeLayer (c.u16 24) (fun l => { l with src := some (sourceOf d c) }) d.opened)) ∧
  (∀ c s d b ch l, Lands .layerSource c s d b ch → c.bit 27 4 = true → layerOf d (c.u16 24) = some l →
    Does (.layerSource c) (ticketOf .layerSource c s) s []
      (
        let e := putLayer (c.u16 24) (some { l with src := some (sourceOf d c) }) d.opened
        if l.visible then damageRects l.output ((visibleRects e { l with src := some (sourceOf d c) }).map
          ((mapDamage { l with src := some (sourceOf d c) } { x := c.u16 52, y := c.u16 54, w := c.u16 56, h := c.u16 58 }).meet ·)) e
        else e)) ∧
  (∀ c s d b, Accepted .layerQuery c s d b →
    exec (.layerQuery c) s = .next (s.after (finish (ticketOf .layerQuery c s) .ok 0
      (fourWords (layerRecord d (c.u16 24)) (4 * c.u8 26)) d)))

/-- Scaler, LUT, matrix and chroma commands change the binding or colour stage their rows name -/
def Obligations.ScalerAndColourLand : Prop :=
  (∀ c s d b ch, Lands .scalerBind c s d b ch →
    Does (.scalerBind c) (ticketOf .scalerBind c s) s (le8 (ch.obj % 256))
      (setBinding (c.u8 26) (c.u16 24) (some {
        scaler := ch.obj % 256, gang := decide (256 ≤ ch.obj), autoGang := c.bit 28 0, hset := .builtin 1, vset := .builtin 1 }) d.opened)) ∧
  (∀ c s d b ch, Lands .scalerRelease c s d b ch →
    Does (.scalerRelease c) (ticketOf .scalerRelease c s) s []
      (setBinding (c.u8 26) (c.u16 24) none d.opened)) ∧
  (∀ c s d b ch k, Lands .scalerCoeff c s d b ch → bindingOf d (c.u8 26) (c.u16 24) = some k →
    Does (.scalerCoeff c) (ticketOf .scalerCoeff c s) s []
      (setBinding (c.u8 26) (c.u16 24) (some { k with
        hset := if c.bit 27 0 then (if c.u8 28 = 0 then .loaded ((tableInts ch.table).take 512) else .builtin (c.u8 28)) else k.hset,
        vset := if c.bit 27 1 then (if c.u8 28 = 0 then .loaded ((tableInts ch.table).drop (if c.bit 27 0 then 512 else 0))
          else .builtin (c.u8 28)) else k.vset }) d.opened)) ∧
  (∀ c s d b ch, Lands .lutLoad c s d b ch → c.u8 26 = 0 →
    Does (.lutLoad c) (ticketOf .lutLoad c s) s []
      (changeLayer (c.u16 24) (fun l => { l with lut := loadLut c ch.table l.lut }) d.opened)) ∧
  (∀ c s d b ch, Lands .lutLoad c s d b ch → c.u8 26 = 1 →
    Does (.lutLoad c) (ticketOf .lutLoad c s) s []
      (damageAll (c.u16 24) (updOut (c.u16 24) (fun o => { o with storeLut := loadLut c ch.table o.storeLut }) d.opened))) ∧
  (∀ c s d b ch, Lands .lutLoad c s d b ch → c.u8 26 = 2 →
    Does (.lutLoad c) (ticketOf .lutLoad c s) s []
      (updOut (c.u16 24) (fun o => { o with panelLut := loadLut c ch.table o.panelLut }) d.opened)) ∧
  (∀ c s d b ch, Lands .matrixSet c s d b ch →
    Does (.matrixSet c) (ticketOf .matrixSet c s) s []
      (changeLayer (c.u16 24) (fun l => { l with
        matrixOn := c.bit 26 0, matrix := (List.range 12).map fun k => signed 16 (c.u16 (28 + 2 * k)) }) d.opened)) ∧
  (∀ c s d b ch, Lands .chromaSet c s d b ch →
    Does (.chromaSet c) (ticketOf .chromaSet c s) s []
      (changeLayer (c.u16 24) (fun l => { l with
        chroma := { matrix := c.u8 26, full := c.u8 27 == 1, hInter := c.bit 28 0, vInter := c.bit 28 2,
                    replicate := c.bit 28 4 } }) d.opened))

/-- Output commands on a disabled output set mode, enable, LEAD, still refresh, policy and guard reporting -/
def Obligations.OutputCommandsLand : Prop :=
  (∀ c s d b ch, Lands .outputMode c s d b ch →
    Does (.outputMode c) (ticketOf .outputMode c s) s []
      (
        let o := c.u8 24
        let m := modeOf c
        let e := updOut o (fun x => { x with
          mode := some m,
          lead := if ((outOf d o).mode.map (·.vActive)) != some m.vActive && ch.obj != 1 then m.vActive / 4 else x.lead,
          pages := if ch.table.isEmpty then x.pages else ch.table.map (·.toNat),
          zeroed := x.zeroed && ch.table.isEmpty }) d.opened
        if ((outOf d o).mode.map fun a => (a.hActive, a.vActive)) != some (m.hActive, m.vActive) then
          clipMonitors o 1 (clipLayers o d.opened (clipViewports o e))
        else e)) ∧
  (∀ c s d b ch, Lands .outputEnable c s d b ch → c.bit 25 0 = true →
    Does (.outputEnable c) (ticketOf .outputEnable c s) s []
      (
        let o := c.u8 24
        let e := updOut o (fun x => { x with
          enabled := true, opening := true, scanning := false, frame := 0, line := 0, nextLine := 0, cutDone := false,
          zeroed := false, pages := ch.table.map (·.toNat), scanPages := [], allNext := true, carry := 0, flights := [],
          shown := none, held := false, still := { x.still with active := false, quiet := 0 }, locked := false,
          guards := x.guards.map fun p => { p with faultFrame := none }, switchPll := false, switchLink := false,
          link := { x.link with pllLock := false, up := false, trained := false, rate := 0, lanes := 0, relocks := 0,
                                relocking := false } }) d.opened
        if (outOf d o).link.hpd && !(outOf d o).link.heldDown then trainOutput o e else e)) ∧
  (∀ c s d b ch, Lands .outputEnable c s d b ch → c.bit 25 0 = false →
    Does (.outputEnable c) (ticketOf .outputEnable c s) s []
      (d.opened)) ∧
  (∀ c s d b ch, Lands .outputLead c s d b ch →
    Does (.outputLead c) (ticketOf .outputLead c s) s []
      (updOut (c.u8 24) (fun x => { x with lead := c.u16 26 }) d.opened)) ∧
  (∀ c s d b ch, Lands .outputStill c s d b ch →
    Does (.outputStill c) (ticketOf .outputStill c s) s []
      (
        let e := updOut (c.u8 24) (fun x => { x with still := { x.still with threshold := c.u8 25, idle := c.u32 28 } }) d.opened
        if c.u8 25 = 0 ∧ (outOf d (c.u8 24)).group = none then leaveStill (c.u8 24) 4 e else e)) ∧
  (∀ c s d b ch, Lands .outputPolicy c s d b ch →
    Does (.outputPolicy c) (ticketOf .outputPolicy c s) s []
      (updOut (c.u8 24) (fun x => { x with
        holdPolicy := c.u8 25 == 1, guard := if c.bit 26 1 then x.guard else c.u16 28,
        resume := x.resume || (c.bit 26 0 && x.held) }) d.opened)) ∧
  (∀ c s d b ch, Lands .outputGuard c s d b ch →
    Does (.outputGuard c) (ticketOf .outputGuard c s) s []
      (updOut (c.u8 24) (fun x => { x with report := c.bit 25 0 }) d.opened))

/-- OUTPUT_STATUS answers its record; OUTPUT_AUX queues a transaction; OUTPUT_TRAIN trains or holds the link down -/
def Obligations.OutputJobsStart : Prop :=
  (∀ c s d b, Accepted .outputStatus c s d b →
    exec (.outputStatus c) s = .next (s.after (finish (ticketOf .outputStatus c s) .ok 0
      (if c.u8 25 < 2 then fourWords (scanRecord d (c.u8 24)) (4 * c.u8 25)
        else fourWords (linkRecord d (c.u8 24)) (4 * (c.u8 25 - 2))) d))) ∧
  (∀ c s d b, Accepted .outputAux c s d b → islandOn d (c.u8 24) = true → domainOn d (if c.u8 24 < 4 then 6 else 7) = true →
    ¬ (c.u8 25 = 1 ∧ (outOf d (c.u8 24)).enabled = true ∧ c.u32 28 < 0x200 ∧ 0x100 < c.u32 28 + c.u8 26) →
    exec (.outputAux c) s = .next (s.after (if c.u8 25 % 2 = 0 ∧ (outOf d (c.u8 24)).link.hpd = false then finish (ticketOf .outputAux c s) .timeout 0 [] d
        else { d with aux := d.aux ++ [{ output := c.u8 24, ticket := ticketOf .outputAux c s, cmd := c, tries := 0, bytes := 0, read := [] }] }))) ∧
  (∀ c s d b, Accepted .outputTrain c s d b → c.u8 25 = 0 → (outOf d (c.u8 24)).enabled = true →
    exec (.outputTrain c) s = .next (s.after (trainOutput (c.u8 24) (updLink (c.u8 24) (fun k => { k with
        trainWaits := k.trainWaits ++ [ticketOf .outputTrain c s] }) d)))) ∧
  (∀ c s d b m, Accepted .outputTrain c s d b → c.u8 25 = 1 → (outOf d (c.u8 24)).enabled = true →
    (outOf d (c.u8 24)).mode = some m → carries m (c.u8 26, c.u8 27) = true →
    exec (.outputTrain c) s = .next (s.after (startTraining (c.u8 24) [(c.u8 26, c.u8 27)] (updLink (c.u8 24) (fun k => { k with
        trainWaits := k.trainWaits ++ [ticketOf .outputTrain c s] }) d)))) ∧
  (∀ c s d b, Accepted .outputTrain c s d b → c.u8 25 = 2 → (outOf d (c.u8 24)).enabled = true → (outOf d (c.u8 24)).link.training = false →
    exec (.outputTrain c) s = .next (s.after (finish (ticketOf .outputTrain c s) .ok 0 [0, 0, 0] (updLink (c.u8 24) (fun k => { k with
        up := false, trained := false, rate := 0, lanes := 0, heldDown := true, asyncActive := false, audioActive := false }) d))))

/-- HARVEST_SETUP claims or releases a channel, HARVEST_RUN returns buffers, starts and stops, HARVEST_STATUS reads -/
def Obligations.HarvestCommandsLand : Prop :=
  (∀ c s d b ch, Lands .harvestSetup c s d b ch → c.u8 26 = 2 →
    Does (.harvestSetup c) (ticketOf .harvestSetup c s) s []
      (updHarvest (c.u8 24) (fun h => { Harvest.zero with
        lastFrame := h.lastFrame, skipped := h.skipped, incomplete := h.incomplete }) (stopHarvest (c.u8 24) 6 0 d.opened))) ∧
  (∀ c s d b ch, Lands .harvestSetup c s d b ch → c.u8 26 ≠ 2 →
    Does (.harvestSetup c) (ticketOf .harvestSetup c s) s []
      (
        let a := activeOf d (c.u8 25)
        updHarvest (c.u8 24) (fun h => { h with
        owner := some (ownerOf c.issuer), target := c.u8 26, compact := c.bit 27 0, output := c.u8 25,
        dstW := if c.u16 28 = 0 then a.w else c.u16 28, dstH := if c.u16 30 = 0 then a.h else c.u16 30,
        buffers := c.u8 32, slot := c.u8 33, pitch := c.u32 36, offset := c.u64 40, stride := c.u64 48,
        bufState := List.replicate (c.u8 32) 0, running := false, remaining := 0 }) (stopHarvest (c.u8 24) 6 0 d.opened))) ∧
  (∀ c s d b ch, Lands .harvestRun c s d b ch →
    Does (.harvestRun c) (ticketOf .harvestRun c s) s []
      (
        let e := updHarvest (c.u8 24) (fun h => { h with
          bufState := h.bufState.zipIdx.map fun (v, i) => if v = 2 && (c.u8 25).testBit i then 0 else v }) d.opened
        if c.bit 26 0 then e
        else if c.u32 28 = 0 then
          if !(harvestOf e (c.u8 24)).running then e
          else if harvestFilling e (c.u8 24) then updHarvest (c.u8 24) (fun h => { h with remaining := 0, stopCause := some 1 }) e
          else stopHarvest (c.u8 24) 1 0 e
        else
          let e := updHarvest (c.u8 24) (fun h => { h with running := true, remaining := c.u32 28, stopCause := none }) e
          match lockOf e (harvestOf e (c.u8 24)).output with
          | some (g, x) => if inStill x then (memberWake g (harvestOf e (c.u8 24)).output e).2 else e
          | none => restart (harvestOf e (c.u8 24)).output true (leaveStill (harvestOf e (c.u8 24)).output 3 e))) ∧
  (∀ c s d b, Accepted .harvestStatus c s d b →
    exec (.harvestStatus c) s = .next (s.after (finish (ticketOf .harvestStatus c s) .ok 0
      (fourWords (harvestRecord d (c.u8 24)) (4 * c.u8 25)) d)))

/-- CV_CONFIG, MONITOR_SET and MONITOR_CAPTURE set their units; RAKE_JOB queues; CV_READ and MONITOR_READ answer -/
def Obligations.CheckCommandsLand : Prop :=
  (∀ c s d b ch, Lands .cvConfig c s d b ch → c.bit 25 0 = false →
    Does (.cvConfig c) (ticketOf .cvConfig c s) s (le8 (if c.u8 24 = 0xFF then ch.obj else c.u8 24))
      (updCv (if c.u8 24 = 0xFF then ch.obj else c.u8 24) (fun x => { x with
        owner := some (ownerOf c.issuer), cfg := cfgOf c 26 25 32, reclaimed := x.releasing.isSome }) d.opened)) ∧
  (∀ c s d b ch, Lands .cvConfig c s d b ch → c.bit 25 0 = true → c.u8 24 ≠ 0xFF → (cvOf d (c.u8 24)).jobs = [] →
    Does (.cvConfig c) (ticketOf .cvConfig c s) s (le8 (c.u8 24))
      (updCv (c.u8 24) (fun x => { x with owner := none, cfg := .zero }) d.opened)) ∧
  (∀ c s d b, Accepted .rakeJob c s d b → claimOk (cvOf d (c.u8 24)).owner c.issuer false = true → specRakeJob.step10 d c = none →
    exec (.rakeJob c) s = .next (s.after (leaveDeviceStill (updCv (c.u8 24) (fun x => { x with jobs := x.jobs ++ [{
        ticket := ticketOf .rakeJob c s, cfg := (cvOf d (c.u8 24)).cfg, memory := c.u8 25, output := c.u8 26,
        sequence := BitVec.ofNat 32 (c.u32 28), start := BitVec.ofNat 64 (c.u64 32), length := c.u64 40,
        tag := BitVec.ofNat 32 (c.u32 48), pieces := 0,
        reg := cvRun (cvOf d (c.u8 24)).cfg (cvOf d (c.u8 24)).cfg.init.toNat
          (rakeFold (BitVec.ofNat 64 (c.u64 32)) (BitVec.ofNat 32 (c.u32 28)) (BitVec.ofNat 32 (c.u32 48))) }] }) d)))) ∧
  (∀ c s d b, Accepted .cvRead c s d b →
    exec (.cvRead c) s = .next (s.after (finish (ticketOf .cvRead c s) .ok 0
      (rakeResults (cvOf d (c.u8 24)).result (cvOf d (c.u8 24)).done (cvOf d (c.u8 24)).zeroLength (cvOf d (c.u8 24)).part ++
        le8 (cvOf d (c.u8 24)).jobs.length) d))) ∧
  (∀ c s d b ch, Lands .monitorSet c s d b ch → c.bit 26 4 = false →
    Does (.monitorSet c) (ticketOf .monitorSet c s) s (le8 (if c.u8 25 = 0xFF then ch.obj else c.u8 25))
      (updMon (c.u8 24) (if c.u8 25 = 0xFF then ch.obj else c.u8 25) (fun x => { x with
        history := if x.owner = some (ownerOf c.issuer) then x.history else [],
        owner := some (ownerOf c.issuer), enable := c.bit 26 0, publish := c.bit 26 3, cfg := cfgOf c 27 26 36,
        rect := { x := c.u16 28, y := c.u16 30, w := c.u16 32, h := c.u16 34 }, gen := (x.gen + 1) % 256 }) d.opened)) ∧
  (∀ c s d b ch, Lands .monitorSet c s d b ch → c.bit 26 4 = true → c.u8 25 ≠ 0xFF →
    Does (.monitorSet c) (ticketOf .monitorSet c s) s (le8 (c.u8 25))
      (updMon (c.u8 24) (c.u8 25) (fun x => { Monitor.zero with
        gen := (x.gen + 1) % 256, latch := x.latch, live := x.live, reg := x.reg, linkDown := x.linkDown,
        guardFault := x.guardFault, covered := x.covered }) d.opened)) ∧
  (∀ c s d b ch, Lands .monitorCapture c s d b ch →
    Does (.monitorCapture c) (ticketOf .monitorCapture c s) s []
      (updMon (c.u8 24) (c.u8 25) (fun x => { x with armed := true, taking := false }) d.opened)) ∧
  (∀ c s d b, Accepted .monitorRead c s d b →
    exec (.monitorRead c) s = .next (s.after (finish (ticketOf .monitorRead c s) .ok 0
      (match (if c.u8 26 = 4 then (monOf d (c.u8 24) (c.u8 25)).capture else (monOf d (c.u8 24) (c.u8 25)).history[c.u8 26]?) with
        | none => []
        | some r => leBytes 8 r.value.toNat ++ le32 r.frame.toNat ++ le32 (monFlags r).toNat) d)))

/-- NOP and FENCE complete; INSTANCE_INFO, VIEWPORT_LIST and QUEUE_STATS answer what the issuer may know of itself -/
def Obligations.SelfServiceAnswers : Prop :=
  (∀ c s d b ch, Lands .nop c s d b ch →
    Does (.nop c) (ticketOf .nop c s) s []
      (d.opened)) ∧
  (∀ c s d b, Accepted .fence c s d b → (∀ u ∈ d.tickets, u.issuer = c.issuer → u.no = (ticketOf .fence c s).no) →
    exec (.fence c) s = .next (s.after (finish (ticketOf .fence c s) .ok 0 (le32 0) d))) ∧
  (∀ c s d b u, Accepted .fence c s d b → u ∈ d.tickets → u.issuer = c.issuer → u.no ≠ (ticketOf .fence c s).no →
    exec (.fence c) s = .next (s.after (
        let older := (d.tickets.filter fun u => u.issuer == c.issuer && u.no != (ticketOf .fence c s).no).map (·.no)
        { d with fences := d.fences ++ [{ ticket := ticketOf .fence c s, waits := older, count := older.length }] }))) ∧
  (∀ c s d b n, Accepted .instanceInfo c s d b → c.issuer = .inst n →
    exec (.instanceInfo c) s = .next (s.after (finish (ticketOf .instanceInfo c s) .ok 0
      (le16 n ++ le8 (instCode (instOf d n).state) ++ le8 (instOf d n).weight ++
        le16 (mappedCount (instOf d n).dram) ++ le16 (mappedCount (instOf d n).pan) ++
        le8 (vpOutputs d n) ++ [0, 0, 0] ++ le32 (nthD 1024 (portOfIssuer d c.issuer) d.bar2)) d))) ∧
  (∀ c s d b, Accepted .instanceInfo c s d b → c.issuer = .manager →
    exec (.instanceInfo c) s = .next (s.after (finish (ticketOf .instanceInfo c s) .ok 0
      (le16 0x1FF ++ [0, 0, 0, 0, 0, 0, 0, 0, 0, 0] ++ le32 65536) d))) ∧
  (∀ c s d b n, Accepted .viewportList c s d b → c.issuer = .inst n →
    exec (.viewportList c) s = .next (s.after (finish (ticketOf .viewportList c s) .ok 0
      ((List.range 2).flatMap fun k =>
        let r := tget Rect.zero (instOf d n).viewports (vpKey (c.u8 24) (c.u8 25 + k))
        le16 r.x ++ le16 r.y ++ le16 r.w ++ le16 r.h) d))) ∧
  (∀ c s d b, Accepted .queueStats c s d b →
    exec (.queueStats c) s = .next (s.after (finish (ticketOf .queueStats c s) .ok 0
      (
        let q := queueOf (pageOf d (pageKey c.issuer)) (c.u8 24)
        le32 q.taken.toNat ++ le32 q.replied.toNat ++ le32 q.quiesced.toNat) d)))

/-- BEGIN, PREPARE, COMMIT, ROLLBACK and TXN_STATUS move a transaction as the table of R123 says -/
def Obligations.TransactionControl : Prop :=
  (∀ c s d b, Accepted .beginTxn c s d b → (d.txns.filter fun x => !x.own && x.issuer == c.issuer).length < 4 →
    exec (.beginTxn c) s = .next (s.after (
        finish (ticketOf .beginTxn c s) .ok 0 (le32 (freshHandle d).toNat) { d with
          free := d.free + 1, nextTxn := d.nextTxn + 1, txns := d.txns ++ [{
            id := d.nextTxn, issuer := c.issuer, own := false, handle := freshHandle d, state := .openT, changes := [],
            resolved := [], landings := [], lastStatus := .ok, failIndex := 0xFFFF, ballot := 0, coord := 0, commit := none,
            wait := none, passed := false, seqNo := 0, waits := 0, verdict := none, out := [], cause := none }] }))) ∧
  (∀ c s d b e, Accepted .beginTxn c s d b → 4 ≤ (d.txns.filter fun x => !x.own && x.issuer == c.issuer).length →
    (d.txns.filter fun x => (!x.own && x.issuer == c.issuer) && isOpen x).length < 4 →
    e ∈ d.txns → e.own = false → e.issuer = c.issuer → isOpen e = false →
    (∀ x ∈ d.txns, x.own = false → x.issuer = c.issuer → isOpen x = false → e.id ≤ x.id) →
    exec (.beginTxn c) s = .next (s.after (finish (ticketOf .beginTxn c s) .ok 0 (le32 (freshHandle d).toNat) { d with
          free := d.free + 1, nextTxn := d.nextTxn + 1, txns := d.txns.filter (fun x => x.id != e.id) ++ [{
            id := d.nextTxn, issuer := c.issuer, own := false, handle := freshHandle d, state := .openT, changes := [],
            resolved := [], landings := [], lastStatus := .ok, failIndex := 0xFFFF, ballot := 0, coord := 0, commit := none,
            wait := none, passed := false, seqNo := 0, waits := 0, verdict := none, out := [], cause := none }] }))) ∧
  (∀ c s d b, Accepted .beginTxn c s d b → 4 ≤ (d.txns.filter fun x => (!x.own && x.issuer == c.issuer) && isOpen x).length →
    exec (.beginTxn c) s = .next (s.after (finish (ticketOf .beginTxn c s) .txnLimit 0 [] d))) ∧
  (∀ c s d b x, Accepted .prepare c s d b → namedTxn d c = some x → c.u32 24 = 0 →
    exec (.prepare c) s = .next (s.after (
        let r := prepareTxn x.id (updTxn x.id (fun x => { x with ballot := 0, coord := c.u16 28 }) d)
        match r.1 with
        | some f => finish (ticketOf .prepare c s) f.status f.idx [] r.2
        | none => finish (ticketOf .prepare c s) .ok 0
            (le8 (((txnOf r.2 x.id).map fun x => affected x r.2).getD 0) ++ [0] ++ le16 x.changes.length) r.2))) ∧
  (∀ c s d b x, Accepted .commit c s d b → namedTxn d c = some x → x.state = .prepared →
    exec (.commit c) s = .next (s.after (sequenceTxn x.id (updTxn x.id (fun x => { x with commit := some (ticketOf .commit c s) }) d)))) ∧
  (∀ c s d b x, Accepted .rollback c s d b → namedTxn d c = some x → x.commit = none →
    exec (.rollback c) s = .next (s.after (finish (ticketOf .rollback c s) .ok 0 [] (updTxn x.id (fun x => { x with
        state := .rolledBack, resolved := [], commit := none, wait := none, passed := false,
        lastStatus := if x.commit.isSome then .txnUnknown else x.lastStatus }) d)))) ∧
  (∀ c s d b x k, Accepted .rollback c s d b → namedTxn d c = some x → x.commit = some k →
    exec (.rollback c) s = .next (s.after (finish (ticketOf .rollback c s) .ok 0 [] (finish k .txnUnknown 0 [] (sendBallot x.ballot x.coord (statusCode .txnUnknown) true
        (updTxn x.id (fun x => { x with
        state := .rolledBack, resolved := [], commit := none, wait := none, passed := false,
        lastStatus := if x.commit.isSome then .txnUnknown else x.lastStatus }) d)))))) ∧
  (∀ c s d b x, Accepted .txnStatus c s d b → c.u8 24 = 0 → namedTxn d c = some x →
    exec (.txnStatus c) s = .next (s.after (finish (ticketOf .txnStatus c s) .ok 0
        (le8 (txnCode x.state) ++ le8 (affected x d) ++ le16 x.changes.length ++ le32 (landingFrame d x (c.u8 25)) ++
          le16 (statusCode x.lastStatus) ++ le16 x.failIndex ++ le32 x.ballot.toNat) d))) ∧
  (∀ c s d b t, Accepted .txnStatus c s d b → c.u8 24 = 1 → d.tallies.find? (·.ballot.toNat == c.u32 28) = some t →
    exec (.txnStatus c) s = .next (s.after (finish (ticketOf .txnStatus c s) .ok 0 (tallyBytes t) d))) ∧
  (∀ c s d b x, Accepted .txnStatus c s d b → c.u8 24 = 2 → namedTxn d c = some x →
    exec (.txnStatus c) s = .next (s.after (finish (ticketOf .txnStatus c s) .ok 0 ((createdNumbers x (c.u8 25)).flatMap le16) d)))

/-- Touch commands configure a port, its calibration and its sieve, and cancel the contacts they name -/
def Obligations.TouchCommandsLand : Prop :=
  (∀ c s d b ch, Lands .touchPort c s d b ch →
    Does (.touchPort c) (ticketOf .touchPort c s) s []
      (
        let p := c.u8 24
        let e := updPort p (fun x => { x with
          enabled := c.bit 25 0, spi := c.bit 25 1, orphans := c.bit 25 2, output := c.u8 26, i2cAddr := c.u8 27,
          descReg := c.u16 28, busRate := c.u16 30, spiMode := c.u8 32, failures := 0, ignored := [] })
          (cancelOn p 2 (fun _ => true) d.opened)
        if c.bit 25 0 && domainOn e 10 then updPort p (fun x => { x with
          state := .descriptor, step := 1, reading := false, emptyReads := 0, scan := 0, entries := 0 }) e
        else updPort p (fun x => { x with state := .off, step := 0, reading := false }) e)) ∧
  (∀ c s d b ch, Lands .touchCalib c s d b ch →
    Does (.touchCalib c) (ticketOf .touchCalib c s) s []
      (updPort (c.u8 24) (fun x => { x with
        calib := if c.bit 25 0 then defaultCalib d.opened x else (List.range 9).map fun k => signed 32 (c.u32 (28 + 4 * k)) }) d.opened)) ∧
  (∀ c s d b ch, Lands .touchSieve c s d b ch →
    Does (.touchSieve c) (ticketOf .touchSieve c s) s []
      (updPort (c.u8 24) (fun x => { refill (nowNs d) x with
        stuckS := c.u16 26, stuckPx := c.u16 28, rateLimit := c.u16 30 }) d.opened)) ∧
  (∀ c s d b ch, Lands .touchCancel c s d b ch →
    Does (.touchCancel c) (ticketOf .touchCancel c s) s (le8 ((portOf d (c.u8 24)).contacts.countP (cancelNames c.issuer c)))
      (cancelOn (c.u8 24) 3 (cancelNames c.issuer c)
        { d.opened with result := le8 ((portOf d (c.u8 24)).contacts.countP (cancelNames c.issuer c)) })) ∧
  (∀ c s d b, Accepted .touchStatus c s d b → c.issuer = .manager →
    exec (.touchStatus c) s = .next (s.after (finish (ticketOf .touchStatus c s) .ok 0
      (fourWords (portRecord (portOf d (c.u8 24)) (portOf d (c.u8 24)).contacts.length) (4 * c.u8 25)) d))) ∧
  (∀ c s d b, Accepted .touchStatus c s d b → c.issuer ≠ .manager →
    exec (.touchStatus c) s = .next (s.after (finish (ticketOf .touchStatus c s) .ok 0
      (fourWords ((portRecord (portOf d (c.u8 24))
        ((portOf d (c.u8 24)).contacts.countP fun t => t.owner == some (ownerOf c.issuer))).take 1) (4 * c.u8 25)) d)))

/-- Haptic commands configure channels and pins, play, stop and answer -/
def Obligations.HapticCommandsLand : Prop :=
  (∀ c s d b ch, Lands .hapticChannel c s d b ch → (hapOf d (c.u8 24)).setup = none → (hapOf d (c.u8 24)).run = none →
    Does (.hapticChannel c) (ticketOf .hapticChannel c s) s []
      (setChannel (c.u8 24) c d.opened)) ∧
  (∀ c s d b ch, Lands .hapticChannel c s d b ch → (hapOf d (c.u8 24)).setup = none → (hapOf (brakeEffect (c.u8 24) 1 d.opened) (c.u8 24)).run ≠ none →
    exec (.hapticChannel c) s = .next (s.after { (updHap (c.u8 24) (fun h => { h with setup := some (d.nextTxn, c) }) (brakeEffect (c.u8 24) 1 d.opened) : Dev) with
      txns := [waitingTxn .hapticChannel c s d b ch []] })) ∧
  (∀ c s d b ch, Lands .hapticPlay c s d b ch → triggerRefusal d (c.u8 24) 0 = none → (hapOf d (c.u8 24)).waiting = none → c.u8 25 ≠ 0 → c.u8 26 ≠ 0 →
    exec (.hapticPlay c) s = .next (s.after { (updHap (c.u8 24) (fun h => { h with
        waiting := some {
          effect := c.u8 25, scale := c.u8 26, duration := c.u16 28, txn := some d.nextTxn,
          source := { rank := 0, issuer := some c.issuer, notify := c.bit 27 0, serial := (Config.freeHandle d.free) } } })
          { d.opened with free := d.free + 1, result := le32 (Config.freeHandle d.free).toNat } : Dev) with
      txns := [waitingTxn .hapticPlay c s d b ch (le32 (Config.freeHandle d.free).toNat)] })) ∧
  (∀ c s d b ch, Lands .hapticPlay c s d b ch → triggerRefusal d (c.u8 24) 0 = none → c.u8 26 = 0 →
    Does (.hapticPlay c) (ticketOf .hapticPlay c s) s (le32 (Config.freeHandle d.free).toNat)
      ({ d.opened with free := d.free + 1, result := le32 (Config.freeHandle d.free).toNat })) ∧
  (∀ c s d b ch, Lands .hapticStop c s d b ch → (hapOf d (c.u8 24)).waiting = none → (hapOf d (c.u8 24)).run = none →
    Does (.hapticStop c) (ticketOf .hapticStop c s) s (le8 0)
      ({ d.opened with result := le8 0 })) ∧
  (∀ c s d b ch, Lands .hapticStop c s d b ch → c.bit 25 0 = false → (hapOf d (c.u8 24)).waiting = none → (hapOf d (c.u8 24)).setup = none →
    (hapOf d (c.u8 24)).run.isSome → (hapRank (hapOf d (c.u8 24))).all (fun r => decide (r ≤ stopRank c.issuer)) = true →
    Does (.hapticStop c) (ticketOf .hapticStop c s) s (le8 1)
      (brakeEffect (c.u8 24) 1 { d.opened with result := le8 1 })) ∧
  (∀ c s d b ch, Lands .hapticStop c s d b ch → c.bit 25 0 = true → (hapOf d (c.u8 24)).waiting = none → (hapOf d (c.u8 24)).setup = none →
    (hapOf d (c.u8 24)).run.isSome → (hapRank (hapOf d (c.u8 24))).all (fun r => decide (r ≤ stopRank c.issuer)) = true →
    Does (.hapticStop c) (ticketOf .hapticStop c s) s (le8 1)
      (releaseBridge (c.u8 24) 1 .idle { d.opened with result := le8 1 })) ∧
  (∀ c s d b ch, Lands .hapticTrigger c s d b ch →
    Does (.hapticTrigger c) (ticketOf .hapticTrigger c s) s []
      ({ d.opened with haptic := { d.haptic with pins := modifyAt (fun p => { p with
        enable := c.bit 25 0, edge := c.u8 25 / 2 % 4, channel := c.u8 26, effect := c.u8 27, amplitude := c.u8 28,
        guard := c.u16 30, duration := c.u16 32 }) (c.u8 24) d.haptic.pins } })) ∧
  (∀ c s d b ch, Lands .hapticBudget c s d b ch →
    Does (.hapticBudget c) (ticketOf .hapticBudget c s) s []
      ({ d.opened with haptic := { d.haptic with budget := c.u16 24 } })) ∧
  (∀ c s d b, Accepted .hapticStatus c s d b → c.u8 25 < 4 →
    exec (.hapticStatus c) s = .next (s.after (finish (ticketOf .hapticStatus c s) .ok 0
      (fourWords (hapRecord d (c.u8 24)) (4 * c.u8 25)) d))) ∧
  (∀ c s d b p, Accepted .hapticStatus c s d b → c.u8 25 = 4 → (d.haptic.pins.find? fun p => p.enable && p.channel == c.u8 24) = some p →
    exec (.hapticStatus c) s = .next (s.after (finish (ticketOf .hapticStatus c s) .ok 0
      (le32 (budgetReg d).toNat ++ le32 (pinReg p).toNat ++ le32 p.duration) d)))

/-- Every audio command without an instant is sequenced and waits for the next block boundary; AUDIO_STATUS answers -/
def Obligations.AudioCommandsWait : Prop :=
  (∀ c s d b ch, Lands .audioStream c s d b ch →
    exec (.audioStream c) s = .next (s.after { ({ d.opened with audio := { d.audio with waiting := d.audio.waiting ++ [{
        op := .audioStream, cmd := c, owner := ownerOf c.issuer, obj := ch.obj, txn := some d.nextTxn }] } } : Dev) with
      txns := [waitingTxn .audioStream c s d b ch []] })) ∧
  (∀ c s d b ch, Lands .audioRoute c s d b ch →
    exec (.audioRoute c) s = .next (s.after { ({ d.opened with audio := { d.audio with waiting := d.audio.waiting ++ [{
        op := .audioRoute, cmd := c, owner := ownerOf c.issuer, obj := ch.obj, txn := some d.nextTxn }] } } : Dev) with
      txns := [waitingTxn .audioRoute c s d b ch []] })) ∧
  (∀ c s d b ch, Lands .audioUnroute c s d b ch →
    exec (.audioUnroute c) s = .next (s.after { ({ d.opened with audio := { d.audio with waiting := d.audio.waiting ++ [{
        op := .audioUnroute, cmd := c, owner := ownerOf c.issuer, obj := ch.obj, txn := some d.nextTxn }] } } : Dev) with
      txns := [waitingTxn .audioUnroute c s d b ch []] })) ∧
  (∀ c s d b ch, Lands .audioBus c s d b ch →
    exec (.audioBus c) s = .next (s.after { ({ d.opened with audio := { d.audio with waiting := d.audio.waiting ++ [{
        op := .audioBus, cmd := c, owner := ownerOf c.issuer, obj := ch.obj, txn := some d.nextTxn }] } } : Dev) with
      txns := [waitingTxn .audioBus c s d b ch []] })) ∧
  (∀ c s d b ch, Lands .audioPort c s d b ch →
    exec (.audioPort c) s = .next (s.after { ({ d.opened with audio := { d.audio with waiting := d.audio.waiting ++ [{
        op := .audioPort, cmd := c, owner := ownerOf c.issuer, obj := ch.obj, txn := some d.nextTxn }] } } : Dev) with
      txns := [waitingTxn .audioPort c s d b ch []] })) ∧
  (∀ c s d b ch, Lands .audioMeter c s d b ch →
    exec (.audioMeter c) s = .next (s.after { ({ d.opened with audio := { d.audio with waiting := d.audio.waiting ++ [{
        op := .audioMeter, cmd := c, owner := ownerOf c.issuer, obj := ch.obj, txn := some d.nextTxn }] } } : Dev) with
      txns := [waitingTxn .audioMeter c s d b ch []] })) ∧
  (∀ c s d b ch, Lands .audioTone c s d b ch →
    exec (.audioTone c) s = .next (s.after { ({ d.opened with audio := { d.audio with waiting := d.audio.waiting ++ [{
        op := .audioTone, cmd := c, owner := ownerOf c.issuer, obj := ch.obj, txn := some d.nextTxn }] } } : Dev) with
      txns := [waitingTxn .audioTone c s d b ch []] })) ∧
  (∀ c s d b ch, Lands .audioSidetone c s d b ch →
    exec (.audioSidetone c) s = .next (s.after { ({ d.opened with audio := { d.audio with waiting := d.audio.waiting ++ [{
        op := .audioSidetone, cmd := c, owner := ownerOf c.issuer, obj := ch.obj, txn := some d.nextTxn }] } } : Dev) with
      txns := [waitingTxn .audioSidetone c s d b ch []] })) ∧
  (∀ c s d b, Accepted .audioStatus c s d b →
    exec (.audioStatus c) s = .next (s.after (finish (ticketOf .audioStatus c s) .ok 0
      (fourWords (match c.u8 24 with
        | 0 => streamRecord d.audio false (c.u8 25)
        | 1 => streamRecord d.audio true (c.u8 25)
        | 2 => busRecord d.audio (c.u8 25)
        | 3 => tdmRecord d.audio (c.u8 25)
        | _ => meterRecord (nthD .zero (c.u8 25) d.audio.meters)) (4 * c.u8 26)) d)))

/-- Tide and Oxbow commands set the source, ports, identity, groups, subscriptions and stream channels -/
def Obligations.TideCommandsLand : Prop :=
  (∀ c s d b, Accepted .tideRead c s d b →
    exec (.tideRead c) s = .next (s.after (finish (ticketOf .tideRead c s) .ok 0
      (le64 (nowNs d) ++ le16 (d.tide.now % 65536) ++ [0, 0] ++ le32 (tideStatus d.tide).toNat) d))) ∧
  (∀ c s d b ch, Lands .tideSource c s d b ch → c.u8 24 = d.tide.source →
    Does (.tideSource c) (ticketOf .tideSource c s) s []
      (updTide (fun t => { t with source := c.u8 24, stepPermit := c.u8 25 == 1 }) d.opened)) ∧
  (∀ c s d b ch, Lands .tideSource c s d b ch → c.u8 24 ≠ d.tide.source →
    Does (.tideSource c) (ticketOf .tideSource c s) s []
      (chooseMaster (recheckHoldover (updTide (fun t => { t with
        source := c.u8 24, stepPermit := c.u8 25 == 1, ppsSeen := false, locked := false, lockIn := 0, lockOut := 0,
        slew := if c.u8 24 = 0 then 0 else t.slew, rate := if c.u8 24 = 0 then 0 else t.rate,
        domainLost := t.domainLost && c.u8 24 == 2 }) d.opened)))) ∧
  (∀ c s d b ch, Lands .oxPort c s d b ch → c.u8 24 < d.tide.ports.length → c.u8 25 = 1 →
    Does (.oxPort c) (ticketOf .oxPort c s) s (le8 (oxCode (oxPortOf d (c.u8 24)).state))
      (updOx (c.u8 24) (fun x => { x with enable := true }) d.opened)) ∧
  (∀ c s d b ch, Lands .oxPort c s d b ch → c.u8 24 < d.tide.ports.length → c.u8 25 = 0 →
    Does (.oxPort c) (ticketOf .oxPort c s) s (le8 (oxCode .down))
      (leaveUp (c.u8 24) (fun x => { x.fallen false with enable := false }) d.opened)) ∧
  (∀ c s d b ch, Lands .domainSet c s d b ch →
    Does (.domainSet c) (ticketOf .domainSet c s) s []
      (chooseMaster (recheckPorts (updTide (fun t => { t with
        node := c.u16 24, domain := c.u16 26, priority := c.u8 28, joined := true }) d.opened)))) ∧
  (∀ c s d b ch, Lands .lockGroup c s d b ch → c.u8 26 = 1 →
    Does (.lockGroup c) (ticketOf .lockGroup c s) s []
      (restart (c.u8 24) false (leaveGroup (c.u8 24) d.opened))) ∧
  (∀ c s d b ch, Lands .lockGroup c s d b ch → c.u8 26 ≠ 1 → (outOf d (c.u8 24)).group = none → ((groupOf d (c.u8 25)).getD .zero).period = 0 →
    Does (.lockGroup c) (ticketOf .lockGroup c s) s []
      (
        let g := c.u8 25
        let x := { Group.zero with margin := ((groupOf d g).getD .zero).margin, t0 := c.u64 32, period := c.u64 40,
                                   leaderNode := c.u16 28, leaderOutput := c.u8 30 }
        restart (c.u8 24) false (distributeGroup g (updOut (c.u8 24) (fun y => { y with group := some g, locked := false })
          (updTide (fun t => { t with groups := tput none t.groups g (some x) }) d.opened))))) ∧
  (∀ c s d b ch, Lands .eventSend c s d b ch → c.u8 25 = 0 → c.u16 26 = d.tide.node →
    Does (.eventSend (.queued c)) (ticketOf .eventSend c s) s []
      (deliverMessage (c.u8 24) d.tide.node (nowNs d) (le64 (c.u64 32) ++ le64 (c.u64 40)) d.opened)) ∧
  (∀ c s d b ch, Lands .eventSend c s d b ch → c.u8 25 = 0 → c.u16 26 ≠ d.tide.node →
    Does (.eventSend (.queued c)) (ticketOf .eventSend c s) s []
      (sendOx 0x55 (eventMessage (c.u8 24) (c.u16 26) d.tide.node (nowNs d) (le64 (c.u64 32) ++ le64 (c.u64 40))) (treePorts d) d.opened)) ∧
  (∀ c s d b ch, Lands .eventSend c s d b ch → c.u8 25 = 1 →
    Does (.eventSend (.queued c)) (ticketOf .eventSend c s) s []
      (sendOx 0x55 (eventMessage (c.u8 24) 0x7FFF d.tide.node (nowNs d) (le64 (c.u64 32) ++ le64 (c.u64 40))) (treePorts d) d.opened)) ∧
  (∀ c s d b ch, Lands .eventSubscribe c s d b ch → c.u8 25 / 4 % 2 = 0 → c.u16 26 ≠ 0xFFFF →
    Does (.eventSubscribe c) (ticketOf .eventSubscribe c s) s []
      (updEvChan (c.u8 24) (fun x => { x with
        subs := x.subs.filter (· != .inst (c.u16 26)) ++ (if c.u8 25 % 2 == 1 then [.inst (c.u16 26)] else []),
        grants := x.grants.filter (· != c.u16 26) ++ (if c.u8 25 / 2 % 2 == 1 then [c.u16 26] else []) }) d.opened)) ∧
  (∀ c s d b ch, Lands .eventSubscribe c s d b ch → c.u8 25 / 4 % 2 = 0 → c.u16 26 = 0xFFFF →
    Does (.eventSubscribe c) (ticketOf .eventSubscribe c s) s []
      (updEvChan (c.u8 24) (fun x => { x with
        subs := x.subs.filter (· != .manager) ++ (if c.u8 25 % 2 == 1 then [.manager] else []) }) d.opened)) ∧
  (∀ c s d b ch, Lands .eventSubscribe c s d b ch → c.u8 25 / 4 % 2 = 1 →
    Does (.eventSubscribe c) (ticketOf .eventSubscribe c s) s []
      (updEvChan (c.u8 24) (fun x => { x with secure := c.u8 25 % 2 == 1 }) d.opened)) ∧
  (∀ c s d b ch, Lands .streamExport c s d b ch → c.u8 25 = 0 →
    Does (.streamExport c) (ticketOf .streamExport c s) s []
      (updExport (c.u8 24) (some {
        port := c.u8 26, channel := c.u8 27, compact := c.u8 28 == 1, node := c.u16 30, lastFrame := 0, lastSent := [],
        lost := false }) d.opened)) ∧
  (∀ c s d b ch, Lands .streamExport c s d b ch → c.u8 25 = 1 →
    Does (.streamExport c) (ticketOf .streamExport c s) s []
      (updExport (c.u8 24) none (loseStream false (c.u8 24) d.opened))) ∧
  (∀ c s d b ch, Lands .streamImport c s d b ch → c.u8 25 = 0 →
    Does (.streamImport c) (ticketOf .streamImport c s) s []
      (updImport (c.u8 24) (some {
        port := c.u8 26, compact := c.u8 27 == 1, owner := if c.u16 28 = 0xFFFF then .manager else .inst (c.u16 28),
        node := c.u16 30, buf0 := c.u64 32, buf1 := c.u64 40, buf2 := c.u64 48, size := c.u32 56,
        latest := none, frames := 0, sizes := [], lastFrame := 0, lost := false }) d.opened)) ∧
  (∀ c s d b ch, Lands .streamImport c s d b ch → c.u8 25 = 1 →
    Does (.streamImport c) (ticketOf .streamImport c s) s []
      (updImport (c.u8 24) none d.opened)) ∧
  (∀ c s d b ch g, Lands .wakeMargin c s d b ch → g = { (groupOf d (c.u8 24)).getD .zero with margin := c.u32 28 } →
    Does (.wakeMargin c) (ticketOf .wakeMargin c s) s []
      (updTide (fun t => { t with groups := tput none t.groups (c.u8 24) (if g = Group.zero then none else some g) }) d.opened))

/-- Memory commands set policy and refresh, bring the slot table to the next wheel wrap, and start a remap -/
def Obligations.MemoryCommandsLand : Prop :=
  (∀ c s d b, Accepted .memMapInfo c s d b →
    exec (.memMapInfo c) s = .next (s.after (finish (ticketOf .memMapInfo c s) .ok 0
      ((memInfoWords d.dram).flatMap fun w => le32 w.toNat) d))) ∧
  (∀ c s d b ch, Lands .slotTable c s d b ch →
    exec (.slotTable c) s = .next (s.after { (updDram (fun m => { m with shadow := some ch.table, shadowTxns := m.shadowTxns ++ [d.nextTxn] }) d.opened : Dev) with
      txns := [waitingTxn .slotTable c s d b ch []] })) ∧
  (∀ c s d b, Accepted .memRemap c s d b → c.u8 24 = 1 →
    exec (.memRemap c) s = .next (s.after (finish (ticketOf .memRemap c s) .ok 0
        (le8 (workingMask { d.dram with mapNext := c.u8 25 }) ++ [0, 0, 0] ++
          le32 (memCapacity { d.dram with mapNext := c.u8 25 }).toNat) { d with dram := { d.dram with mapNext := c.u8 25 } }))) ∧
  (∀ c s d b, Accepted .memRemap c s d b → c.u8 24 = 0 → specMemRemap.step10 d c = none →
    exec (.memRemap c) s = .next (s.after ({ d with dram := { d.dram with remapping := some (ticketOf .memRemap c s), remapMask := c.u8 25 } }))) ∧
  (∀ c s d b ch, Lands .memPagePolicy c s d b ch →
    Does (.memPagePolicy c) (ticketOf .memPagePolicy c s) s []
      ((bitsSet 8 (c.u8 24)).foldl (fun e k => (bitsSet 16 (c.u16 26)).foldl (fun e n =>
        [0, 1].foldl (fun e r => updBank (bankKey k r n) (fun b => { b with policy := c.u8 28 }) e) e) e) d.opened)) ∧
  (∀ c s d b ch, Lands .memRefresh c s d b ch →
    Does (.memRefresh c) (ticketOf .memRefresh c s) s []
      (updDram (fun m => { m with allBank := c.u8 24 == 1 }) d.opened)) ∧
  (∀ c s d b ch, Lands .memDisturb c s d b ch →
    Does (.memDisturb c) (ticketOf .memDisturb c s) s []
      (updDram (fun m => { m with disturbNext := c.u16 24 }) d.opened)) ∧
  (∀ c s d b ch, Lands .memSelfRefresh c s d b ch →
    Does (.memSelfRefresh c) (ticketOf .memSelfRefresh c s) s []
      (updDram (fun m => { m with srIdle := c.u32 24 }) d.opened)) ∧
  (∀ c s d b, Accepted .memStatus c s d b →
    exec (.memStatus c) s = .next (s.after (finish (ticketOf .memStatus c s) .ok 0
      (fourWords (memUnit d (c.u8 24)) (c.u16 26)) d)))

/-- Power commands switch domains and islands, change the device state, answer, and set sentinels -/
def Obligations.PowerCommandsLand : Prop :=
  (∀ c s d b ch, Lands .powerDomain c s d b ch → c.u8 25 = 1 → d.sec.queued = [] →
    Does (.powerDomain c) (ticketOf .powerDomain c s) s (le16 (beginOn false (c.u8 24) d.opened).power.domains.toNat)
      (beginOn false (c.u8 24) d.opened)) ∧
  (∀ c s d b ch, Lands .powerDomain c s d b ch → c.u8 25 = 0 → domainOn d (c.u8 24) = true → heldBy d false (c.u8 24) = false → d.audio.waiting = [] →
    (∀ h ∈ d.haptic.channels, h.waiting = none ∧ h.setup = none) →
    Does (.powerDomain c) (ticketOf .powerDomain c s) s (le16 (switchOff false (c.u8 24) d.opened).power.domains.toNat)
      (switchOff false (c.u8 24) d.opened)) ∧
  (∀ c s d b ch, Lands .powerIsland c s d b ch → c.u8 25 = 1 → d.sec.queued = [] →
    Does (.powerIsland c) (ticketOf .powerIsland c s) s (le16 (islandsRunning (beginOn true (c.u8 24) d.opened)))
      (beginOn true (c.u8 24) d.opened)) ∧
  (∀ c s d b ch, Lands .powerIsland c s d b ch → c.u8 25 = 0 → islandOn d (c.u8 24) = true → heldBy d true (c.u8 24) = false → d.audio.waiting = [] →
    (∀ h ∈ d.haptic.channels, h.waiting = none ∧ h.setup = none) →
    Does (.powerIsland c) (ticketOf .powerIsland c s) s (le16 (islandsRunning (switchOff true (c.u8 24) d.opened)))
      (switchOff true (c.u8 24) d.opened)) ∧
  (∀ c s d b, Accepted .powerState c s d b → c.u8 24 = 1 → d.sec.queued = [] →
    exec (.powerState c) s = .next (s.after (finish (ticketOf .powerState c s) .ok 0 (le8 (devCode d.power.state))
        (updPower (fun p => { p with stillOk := true }) (powerSettings c d))))) ∧
  (∀ c s d b, Accepted .powerState c s d b → c.u8 24 = 0xFF →
    exec (.powerState c) s = .next (s.after (finish (ticketOf .powerState c s) .ok 0 (le8 (devCode d.power.state)) (powerSettings c d)))) ∧
  (∀ c s d b, Accepted .powerState c s d b → c.u8 24 = 0 → d.sec.queued = [] →
    exec (.powerState c) s = .next (s.after (
        let e := leaveDeviceStill (updPower (fun p => { p with stillOk := false }) (powerSettings c d))
        finish (ticketOf .powerState c s) .ok 0 (le8 (devCode e.power.state)) e))) ∧
  (∀ c s d b, Accepted .powerState c s d b → 2 ≤ c.u8 24 → c.u8 24 ≤ 4 → d.sec.queued = [] → sleepRefused d = false → stateHeld d (stateOfCode (c.u8 24)) = [] →
    exec (.powerState c) s = .next (s.after (updPower (fun p => { p with
        entering := some { target := stateOfCode (c.u8 24), ticket := some (ticketOf .powerState c s) } })
        (leaveDeviceStill (powerSettings c d))))) ∧
  (∀ c s d b, Accepted .powerStatus c s d b →
    exec (.powerStatus c) s = .next (s.after (finish (ticketOf .powerStatus c s) .ok 0
      (fourWords (powerWords s.fuses d true (c.u8 24)) (c.u16 26)) d))) ∧
  (∀ c s d b, Accepted .paceRead c s d b →
    exec (.paceRead c) s = .next (s.after (finish (ticketOf .paceRead c s) .ok 0
      (le16 d.power.paceNow ++ le16 d.power.paceMin ++ le16 d.power.vcore ++ le16 d.power.target ++
        le16 (unsigned 16 (tmax d.power)) ++ le8 d.power.level) d))) ∧
  (∀ c s d b ch, Lands .sentinelSet c s d b ch →
    Does (.sentinelSet c) (ticketOf .sentinelSet c s) s []
      (updPower (fun p => { p with sentinels := modifyAt (fun _ => c.u16 26) (c.u8 24) p.sentinels }) d.opened))

/-- Instance commands create, share, quiesce, reset and destroy contexts, and set windows and viewports -/
def Obligations.InstanceCommandsLand : Prop :=
  (∀ c s d b ch n, Lands .instanceCreate c s d b ch → (if c.u16 24 = 0xFFFF then freeContext d c.issuer else some (c.u16 24)) = some n →
    Does (.instanceCreate c) (ticketOf .instanceCreate c s) s (le16 n)
      (updInst n (fun _ => { Instance.zero with
        exists_ := true, state := .active, weight := c.u8 26, inForce := c.u8 26, stateT := now32 d }) d.opened)) ∧
  (∀ c s d b ch, Lands .instanceShare c s d b ch →
    Does (.instanceShare c) (ticketOf .instanceShare c s) s []
      (updInst (c.u16 24) (fun x => { x with weight := c.u8 26 }) d.opened)) ∧
  (∀ c s d b, Accepted .instanceQuiesce c s d b → c.u8 26 ≠ 2 → (instOf d (c.u16 24)).state = .active →
    exec (.instanceQuiesce c) s = .next (s.after (startQuiesce (c.u16 24) (c.u8 26 == 1) (updInst (c.u16 24) (fun x => { x with
        waits := x.waits ++ [ticketOf .instanceQuiesce c s] }) d)))) ∧
  (∀ c s d b, Accepted .instanceQuiesce c s d b → c.u8 26 = 0 → (instOf d (c.u16 24)).state = .quiesced →
    exec (.instanceQuiesce c) s = .next (s.after (finish (ticketOf .instanceQuiesce c s) .ok 0 (le8 2) d))) ∧
  (∀ c s d b, Accepted .instanceQuiesce c s d b → c.u8 26 = 2 → idleQuiesced d (c.u16 24) = true →
    exec (.instanceQuiesce c) s = .next (s.after (finish (ticketOf .instanceQuiesce c s) .ok 0 (le8 0) (setInstState (c.u16 24) .active d)))) ∧
  (∀ c s d b, Accepted .instanceReset c s d b → idleQuiesced d (c.u16 24) = true →
    exec (.instanceReset c) s = .next (s.after (startReset (c.u16 24) (updInst (c.u16 24) (fun x => { x with resetBy := some (ticketOf .instanceReset c s, false) }) d)))) ∧
  (∀ c s d b, Accepted .instanceDestroy c s d b → idleQuiesced d (c.u16 24) = true →
    exec (.instanceDestroy c) s = .next (s.after (unviewAll (c.u16 24) (unmapAll (c.u16 24) (releaseAll (c.u16 24) (updInst (c.u16 24) (fun x => { x with
        resetBy := some (ticketOf .instanceDestroy c s, true) }) d)))))) ∧
  (∀ c s d b ch e, Lands .instanceWindow c s d b ch → c.u16 24 ≠ 0xFFFF → c.u8 27 ≠ 2 →
    e = updInst (c.u16 24) (fun x =>
      let put := fun (t : Tab (Option (Nat × Bool))) => (List.range (c.u32 32)).foldl (fun t k =>
        tput none t (c.u32 28 + k) (some (c.u32 36 + k, c.u8 27 == 1))) t
      if c.u8 26 = 1 then { x with pan := put x.pan } else { x with dram := put x.dram }) d.opened →
    Does (.instanceWindow c) (ticketOf .instanceWindow c s) s (le32 (poolLeft (windowLosesW (c.u16 24) (c.u8 26 == 1) (c.u32 28) (c.u32 32) e) (c.u8 26 == 1)))
      (windowLosesW (c.u16 24) (c.u8 26 == 1) (c.u32 28) (c.u32 32) e)) ∧
  (∀ c s d b ch r, Lands .instanceWindow c s d b ch → c.u16 24 = 0xFFFF →
    r = (let run := (rangeFrom (c.u32 36) (c.u32 32)).map fun p => (c.u8 26 == 1, p)
      if c.u8 27 = 2 then d.reserved.filter (!run.contains ·) else d.reserved ++ run) →
    Does (.instanceWindow c) (ticketOf .instanceWindow c s) s (le32 (poolLeft { d.opened with reserved := r } (c.u8 26 == 1)))
      ({ d.opened with reserved := r })) ∧
  (∀ c s d b ch e, Lands .instanceWindow c s d b ch → c.u16 24 ≠ 0xFFFF → c.u8 27 = 2 →
    e = updInst (c.u16 24) (fun x => { x with
        draining := x.draining ++ (rangeFrom (c.u32 28) (c.u32 32)).map fun p => (c.u8 26 == 1, p),
        unmapWaits := x.unmapWaits ++ [d.nextTxn] })
      (windowLosesW (c.u16 24) (c.u8 26 == 1) (c.u32 28) (c.u32 32) (updInst (c.u16 24) (fun x =>
        let cut := fun (t : Tab (Option (Nat × Bool))) => (List.range (c.u32 32)).foldl (fun t k =>
          tput none t (c.u32 28 + k) none) t
        if c.u8 26 = 1 then { x with pan := cut x.pan } else { x with dram := cut x.dram }) d.opened)) →
    exec (.instanceWindow c) s = .next (s.after { (e : Dev) with
      txns := [waitingTxn .instanceWindow c s d b ch (le32 (poolLeft e (c.u8 26 == 1)))] })) ∧
  (∀ c s d b ch, Lands .instanceViewport c s d b ch →
    Does (.instanceViewport c) (ticketOf .instanceViewport c s) s []
      (setViewport (c.u16 24) (c.u8 26) (c.u8 27)
        { x := c.u16 28, y := c.u16 30, w := c.u16 32, h := c.u16 34 } d.opened)) ∧
  (∀ c s d b ch, Lands .delegateRange c s d b ch →
    Does (.delegateRange c) (ticketOf .delegateRange c s) s []
      ({ d.opened with delegFirst := c.u16 24, delegCount := c.u16 26 })) ∧
  (∀ c s d b, Accepted .deviceReset c s d b →
    exec (.deviceReset c) s = .next (s.after (sleepReset .deviceReset d))) ∧
  (∀ c s d b, Accepted .instanceStatus c s d b →
    exec (.instanceStatus c) s = .next (s.after (finish (ticketOf .instanceStatus c s) .ok 0
      (fourWords (instRecord d (c.u16 24)) (4 * c.u8 26)) d)))

/-- DIAG commands answer counters, log entries and unit states; family 0x10 commands become mailbox requests -/
def Obligations.DiagnosticsAndRequests : Prop :=
  (∀ c s d b, Accepted .diagCounters c s d b →
    exec (.diagCounters c) s = .next (s.after (finish (ticketOf .diagCounters c s) .ok 0
      (fourWords ((diagWords s.fuses d (c.u8 24) (diagIndex c)).zipIdx.map fun e =>
        if c.bit 28 0 && e.1.2 then e.1.1 - nthD 0 e.2
          (((d.baselines.find? fun b => b.issuer == c.issuer && b.block == c.u8 24 && b.index == diagIndex c).map (·.words)).getD [])
        else e.1.1) (4 * c.u8 25)) d))) ∧
  (∀ c s d b ch, Lands .diagCounterClear c s d b ch →
    Does (.diagCounterClear c) (ticketOf .diagCounterClear c s) s []
      ({ d.opened with
        baselines := d.baselines.filter (fun x => !(x.issuer == c.issuer && x.block == c.u8 24 && x.index == diagIndex c)) ++
          [{ issuer := c.issuer, block := c.u8 24, index := diagIndex c,
             words := (diagWords Fuses.zero d.opened (c.u8 24) (diagIndex c)).map (·.1) }] })) ∧
  (∀ c s d b e, Accepted .diagFaultLog c s d b → d.power.faultLog[c.u16 24]? = some e →
    exec (.diagFaultLog c) s = .next (s.after (finish (ticketOf .diagFaultLog c s) .ok 0
      (le16 e.unit_ ++ le8 e.kind ++ le8 e.handshake ++ le64 e.stamp ++ le32 e.seq) d))) ∧
  (∀ c s d b, Accepted .diagFaultLog c s d b → d.power.faultLog[c.u16 24]? = none →
    exec (.diagFaultLog c) s = .next (s.after (finish (ticketOf .diagFaultLog c s) .ok 0
      ([]) d))) ∧
  (∀ c s d b, Accepted .diagUnitState c s d b →
    exec (.diagUnitState c) s = .next (s.after (finish (ticketOf .diagUnitState c s) .ok 0
      (le8 (if (unitOf d (c.u16 24)).isolated then 2 else if (unitOf d (c.u16 24)).recovering then 1
          else if unitOff d (c.u16 24) then 3 else 0) ++
        le8 (min 255 (recentStalls d (unitOf d (c.u16 24))).length) ++ [0, 0] ++ le32 (unitOf d (c.u16 24)).total ++
        le32 (unitOf d (c.u16 24)).lastStall.toNat) d))) ∧
  (∀ c s d b, Accepted .securePromptOpen c s d b → grantedViewport d c.issuer (c.u8 24) = true → secReady d = none →
    exec (.securePromptOpen c) s = .next (s.after (sendN2S (n2sMessage 1 d.sec.nextMail.toNat (mailIssuer c.issuer) (opCode .securePromptOpen) c.pkt.tag.toNat (nowNs d)
        (leBytes 40 c.pkt.params.toNat)) (updSec (fun v => { v with
          nextMail := if v.nextMail + 1 = 0 then 1 else v.nextMail + 1,
          waits := v.waits ++ [{ mail := v.nextMail, ticket := ticketOf .securePromptOpen c s, op := .securePromptOpen }] }) d)))) ∧
  (∀ c s d b, Accepted .securePromptClose c s d b → secReady d = none →
    exec (.securePromptClose c) s = .next (s.after (sendN2S (n2sMessage 1 d.sec.nextMail.toNat (mailIssuer c.issuer) (opCode .securePromptClose) c.pkt.tag.toNat (nowNs d)
        (leBytes 40 c.pkt.params.toNat)) (updSec (fun v => { v with
          nextMail := if v.nextMail + 1 = 0 then 1 else v.nextMail + 1,
          waits := v.waits ++ [{ mail := v.nextMail, ticket := ticketOf .securePromptClose c s, op := .securePromptClose }] }) d)))) ∧
  (∀ c s d b, Accepted .watchRequest c s d b → (layerOf d (c.u16 24)).map (·.owner) = some (ownerOf c.issuer) → secReady d = none →
    exec (.watchRequest c) s = .next (s.after (sendN2S (n2sMessage 1 d.sec.nextMail.toNat (mailIssuer c.issuer) (opCode .watchRequest) c.pkt.tag.toNat (nowNs d)
        (leBytes 40 c.pkt.params.toNat)) (updSec (fun v => { v with
          nextMail := if v.nextMail + 1 = 0 then 1 else v.nextMail + 1,
          waits := v.waits ++ [{ mail := v.nextMail, ticket := ticketOf .watchRequest c s, op := .watchRequest }] }) d)))) ∧
  (∀ c s d b, Accepted .watchRelease c s d b → secReady d = none →
    exec (.watchRelease c) s = .next (s.after (sendN2S (n2sMessage 1 d.sec.nextMail.toNat (mailIssuer c.issuer) (opCode .watchRelease) c.pkt.tag.toNat (nowNs d)
        (leBytes 40 c.pkt.params.toNat)) (updSec (fun v => { v with
          nextMail := if v.nextMail + 1 = 0 then 1 else v.nextMail + 1,
          waits := v.waits ++ [{ mail := v.nextMail, ticket := ticketOf .watchRelease c s, op := .watchRelease }] }) d)))) ∧
  (∀ c s d b, Accepted .secureMessage c s d b → secReady d = none →
    exec (.secureMessage c) s = .next (s.after (sendN2S (n2sMessage 1 d.sec.nextMail.toNat (mailIssuer c.issuer) (opCode .secureMessage) c.pkt.tag.toNat (nowNs d)
        (leBytes 40 c.pkt.params.toNat)) (updSec (fun v => { v with
          nextMail := if v.nextMail + 1 = 0 then 1 else v.nextMail + 1,
          waits := v.waits ++ [{ mail := v.nextMail, ticket := ticketOf .secureMessage c s, op := .secureMessage }] }) d))))

/-- Enabling, disabling and ringing a queue does what R85, R86 and R89 say -/
def Obligations.QueueRegisters : Prop :=
  (∀ (s : State) (d : Dev) i q v x, s.dev = d → pageReached d i = true → q < 2 → v.getLsbD 31 = true → (queueOf (pageOf d (pageKey i)) q).enable = false → (queueOf (pageOf d (pageKey i)) q).draining = false → x = { queueOf (pageOf d (pageKey i)) q with
      loc := v.getLsbD 30, rloc := v.getLsbD 29, depth := v.toNat % 8192 } → enableFails d i x.depth 1024 [(x.loc, x.sqBase.toNat, x.depth * 64, false), (x.rloc, x.rqBase.toNat, x.depth * 32, true)] = .ok →
    exec (.queueEnable i q v) s = .next (s.after (updQueue (pageKey i) q (fun _ => { x with
        enable := true, running := true, lastStatus := 0, sqTail := 0, sqHead := 0, rqHead := 0, rqTail := 0, promised := 0 }) d))) ∧
  (∀ (s : State) (d : Dev) i q v x st, s.dev = d → pageReached d i = true → q < 2 → v.getLsbD 31 = true → (queueOf (pageOf d (pageKey i)) q).enable = false → (queueOf (pageOf d (pageKey i)) q).draining = false → x = { queueOf (pageOf d (pageKey i)) q with
      loc := v.getLsbD 30, rloc := v.getLsbD 29, depth := v.toNat % 8192 } → enableFails d i x.depth 1024 [(x.loc, x.sqBase.toNat, x.depth * 64, false), (x.rloc, x.rqBase.toNat, x.depth * 32, true)] = st → st ≠ .ok →
    exec (.queueEnable i q v) s = .next (s.after (updQueue (pageKey i) q (fun _ => { x with enable := false, lastStatus := statusCode st }) d))) ∧
  (∀ (s : State) (d : Dev) i v x, s.dev = d → pageReached d i = true → v.getLsbD 31 = true → (pageOf d (pageKey i)).eq.enable = false → x = { (pageOf d (pageKey i)).eq with loc := v.getLsbD 30, depth := v.toNat % 8192 } → enableFails d i x.depth 4096 [(x.loc, x.base.toNat, x.depth * 32, true)] = .ok →
    exec (.queueEnable i 2 v) s = .next (s.after (updPage (pageKey i) (fun p => { p with eq := { x with enable := true, running := true, lastStatus := 0, head := 0, tail := 0 } }) d))) ∧
  (∀ (s : State) (d : Dev) i q, s.dev = d → pageReached d i = true → q < 2 → (queueOf (pageOf d (pageKey i)) q).enable = true →
    exec (.queueDisable i q) s = .next (s.after (updQueue (pageKey i) q (fun x => { x with enable := false, draining := true }) d))) ∧
  (∀ (s : State) (d : Dev) i, s.dev = d → pageReached d i = true →
    exec (.queueDisable i 2) s = .next (s.after (updPage (pageKey i) (fun p => { p with eq := { p.eq with enable := false, running := false } }) d))) ∧
  (∀ (s : State) (d : Dev) i q, s.dev = d → q < 2 → (queueOf (pageOf d (pageKey i)) q).draining = true → (queueOf (pageOf d (pageKey i)) q).promised = 0 →
    exec (.queueDrainEnd i q) s = .next (s.after (updQueue (pageKey i) q (fun x => { x with draining := false, running := false }) d))) ∧
  (∀ (s : State) (d : Dev) i q v x, s.dev = d → pageReached d i = true → q < 2 → x = queueOf (pageOf d (pageKey i)) q → x.running = true → v.toNat < x.depth → ringSteps x.depth x.sqTail v.toNat ≤ x.depth - 1 - ringSteps x.depth x.sqHead x.sqTail →
    exec (.sqTailDoorbell i q v) s = .next (s.after (updQueue (pageKey i) q (fun x => { x with sqTail := v.toNat }) d))) ∧
  (∀ (s : State) (d : Dev) i q v x, s.dev = d → pageReached d i = true → q < 2 → x = queueOf (pageOf d (pageKey i)) q → x.running = true → (v.toNat < x.depth → x.depth - 1 - ringSteps x.depth x.sqHead x.sqTail < ringSteps x.depth x.sqTail v.toNat) →
    exec (.sqTailDoorbell i q v) s = .next (s.after (dbRange i q v d))) ∧
  (∀ (s : State) (d : Dev) i q v x, s.dev = d → pageReached d i = true → q < 2 → x = queueOf (pageOf d (pageKey i)) q → x.running = true → v.toNat < x.depth → ringSteps x.depth x.rqHead v.toNat ≤ ringSteps x.depth x.rqHead x.rqTail →
    exec (.rqHeadDoorbell i q v) s = .next (s.after (updQueue (pageKey i) q (fun x => { x with rqHead := v.toNat }) d))) ∧
  (∀ (s : State) (d : Dev) i v x, s.dev = d → pageReached d i = true → x = (pageOf d (pageKey i)).eq → x.running = true → v.toNat < x.depth → ringSteps x.depth x.head v.toNat ≤ ringSteps x.depth x.head x.tail →
    exec (.eqHeadDoorbell i v) s = .next (s.after (updPage (pageKey i) (fun p => { p with eq := { p.eq with head := v.toNat } }) d))) ∧
  (∀ (s : State) (d : Dev) i v, s.dev = d → v = 0 ∨ v = 2 →
    exec (.irqModIntervalEnd i v) s = .next (s.after (updPage (pageKey i) (updVec v fun x => if !x.moderated then x
        else if x.owed then { fireVec x with owed := false } else { x with moderated := false }) d)))

/-- An engine takes the entry at a queue's head and runs the command it spells; rounds share the engines; launches go on time -/
def Obligations.EnginesTakeEntries : Prop :=
  (∀ (s : State) (d : Dev) i u q e b op, s.dev = d → enginesRun d = true → served d i = true → q = queueOf (pageOf d (pageKey i)) (b2n u) → mayTake q = true → u || !mayTake (pageOf d (pageKey i)).q1 → readLoc 4 i q.loc (q.sqBase.toNat + q.sqHead * 64) 64 d = (e, .ok b) → opOfCode (leNat (b.take 2)) = some op →
    exec (.engineTakeEntry i u) s = .next (s.after (engineRun s.fuses op { issuer := i, urgent := u, pkt := packetOf b } (updQueue (pageKey i) (b2n u) (fun q => { q with
        sqHead := (q.sqHead + 1) % q.depth }) e)))) ∧
  (∀ (s : State) (d : Dev) i u q e b, s.dev = d → enginesRun d = true → served d i = true → q = queueOf (pageOf d (pageKey i)) (b2n u) → mayTake q = true → u || !mayTake (pageOf d (pageKey i)).q1 → readLoc 4 i q.loc (q.sqBase.toNat + q.sqHead * 64) 64 d = (e, .ok b) → opOfCode (leNat (b.take 2)) = none → pageState (enlist .nop { issuer := i, urgent := u, pkt := packetOf b } (updQueue (pageKey i) (b2n u) (fun q => { q with
      sqHead := (q.sqHead + 1) % q.depth }) e)).2 i = .active →
    exec (.engineTakeEntry i u) s = .next (s.after (
        let r := enlist .nop { issuer := i, urgent := u, pkt := packetOf b } (updQueue (pageKey i) (b2n u) (fun q => { q with
          sqHead := (q.sqHead + 1) % q.depth }) e)
        finish r.1 .badOpcode 0 [] r.2))) ∧
  (∀ (s : State) (d : Dev) i u q e why, s.dev = d → enginesRun d = true → served d i = true → q = queueOf (pageOf d (pageKey i)) (b2n u) → mayTake q = true → u || !mayTake (pageOf d (pageKey i)).q1 → readLoc 4 i q.loc (q.sqBase.toNat + q.sqHead * 64) 64 d = (e, .error why) →
    exec (.engineTakeEntry i u) s = .next (s.after (stopQueue (pageKey i) (b2n u) why e))) ∧
  (∀ (s : State) (d : Dev) i, s.dev = d → enginesRun d = true → served d i = true → mayTake (pageOf d (pageKey i)).q1 = true →
    exec (.engineTakeEntry i false) s = .next (s.after (d))) ∧
  (∀ (s : State) (d : Dev), s.dev = d → alive d = true → d.insts = [] →
    exec .schedRoundStart s = .next (s.after ({ d with
        running := [], ready := 0, rounds := d.rounds + 1,
        sup := { d.sup with hbSched := d.sup.hbSched + 1 } }))) ∧
  (∀ (s : State) (d : Dev) n y, s.dev = d → alive d = true → d.insts = [(n, y)] → y.exists_ = true → y.state = .active → y.weight ≠ 0 → pageHasEntry (pageOf d n) = true →
    exec .schedRoundStart s = .next (s.after ({ updInst n (fun x => { x with share := x.share - 65536, rounds := x.rounds + 1 })
          (updInst n (fun x => { x with share := x.share + 65536 }) (updInst n (fun x => { x with inForce := x.weight }) d)) with
        running := [n], ready := 1, rounds := d.rounds + 1, sup := { d.sup with hbSched := d.sup.hbSched + 1 } }))) ∧
  (∀ (s : State) (d : Dev) k h, s.dev = d → alive d = true → h ∈ heldLaunches d → (heldLaunches d).find? (·.ticket.no == k) = some h → h.passed = false → h.instant ≤ nowNs d → (∀ x ∈ heldLaunches d, goesBefore x h = false) →
    exec (.launchInstantReached k) s = .next (s.after (launchNow k (cutsBefore h.instant d)))) ∧
  (∀ (s : State) (d : Dev) k h, s.dev = d → alive d = true → (heldLaunches d).find? (·.ticket.no == k) = some h → h.passed = true → h.ticket.lateOk = false → (∀ x ∈ heldLaunches d, goesBefore x h = false) →
    exec (.launchInstantReached k) s = .next (s.after (launchTooLate k d)))

/-- Register writes take effect on the fields R15 lets them write; low-word reads latch their partners; the supervisory port answers -/
def Obligations.RegisterAccesses : Prop :=
  (∀ (s : State) (d : Dev) i a v, s.dev = d → pageReached d i = true → a % 4 = 0 →
    exec (.registerWrite (.page i) ⟨a, 4⟩ v) s = .next (s.after (pageWrite i a v d))) ∧
  (∀ (s : State) (d : Dev) g a n v, s.dev = d → (g = .bar0 ∨ g = .secureCtl ∨ ∃ i, g = .page i) → n ≠ 4 ∨ a % 4 ≠ 0 →
    exec (.registerWrite g ⟨a, n⟩ v) s = .next (s.after (d))) ∧
  (∀ (s : State) (d : Dev) i v, s.dev = d → pageReached d i = true →
    exec (.registerWrite (.page i) ⟨0x0008, 4⟩ v) s = .next (s.after (updPage (pageKey i) (fun p => { p with eventMask := (v &&& 0x0001FFFE) ||| 2 }) d))) ∧
  (∀ (s : State) (d : Dev) i v, s.dev = d → pageReached d i = true →
    exec (.registerWrite (.page i) ⟨0x0004, 4⟩ v) s = .next (s.after (updPage (pageKey i) (fun p => { p with err := p.err &&& ~~~(v.setWidth 4) }) d))) ∧
  (∀ (s : State) (d : Dev) a v, s.dev = d → hostReaches d 0 = true → a % 4 = 0 →
    exec (.registerWrite .bar0 ⟨a, 4⟩ v) s = .next (s.after (bar0Write false a v d))) ∧
  (∀ (s : State) (d : Dev) a v, s.dev = d → secUp d = true → a % 4 = 0 →
    exec (.registerWrite .secureCtl ⟨a, 4⟩ v) s = .next (s.after (bar0Write true a v d))) ∧
  (∀ (s : State) (d : Dev) a n v, s.dev = d → supAlive d = true →
    exec (.registerWrite .supOpen ⟨a, n⟩ v) s = .next (s.after (openWrite a v d))) ∧
  (∀ (s : State) (d : Dev) a n v, s.dev = d → supAlive d = true →
    exec (.registerWrite .supSecure ⟨a, n⟩ v) s = .next (s.after (secureWrite a v d))) ∧
  (∀ (s : State) (d : Dev), s.dev = d →
    exec .tideNowLoRead s = .next (s.after ({ d with
        tide := { d.tide with latchHi := BitVec.ofNat 32 (nowNs d / 2 ^ 32), latchFrac := BitVec.ofNat 16 (d.tide.now % 65536) },
        out := { d.out with host := some (BitVec.ofNat 64 (nowNs d % 2 ^ 32)) } }))) ∧
  (∀ (s : State) (d : Dev) i, s.dev = d →
    exec (.tideLoRead i) s = .next (s.after ({ updPage (pageKey i) (fun p => { p with
          tideHi := BitVec.ofNat 32 (nowNs d / 2 ^ 32), tideFrac := BitVec.ofNat 16 (d.tide.now % 65536) }) d with
        out := { d.out with host := some (BitVec.ofNat 64 (nowNs d % 2 ^ 32)) } }))) ∧
  (∀ (s : State) (d : Dev) q u, s.dev = d → (if q = true then secUp d = true else (cvOf d u).owner ≠ some .secure) →
    exec (.resultLoRead ⟨q, u⟩) s = .next (s.after (updCv u (fun x => { x with
          latchHi := BitVec.ofNat 32 (x.result.toNat / 2 ^ 32), latchDoneLo := BitVec.ofNat 32 x.done,
          latchDoneHi := BitVec.ofNat 32 (x.done / 2 ^ 32) })
        { d with out := { d.out with host := some ((nthD 0 8 (cvRecord d q u)).setWidth 64) } }))) ∧
  (∀ (s : State) (d : Dev) u, s.dev = d → (cvOf d u).owner = some .secure →
    exec (.resultLoRead ⟨false, u⟩) s = .next (s.after ({ d with out := { d.out with host := some 0 } }))) ∧
  (∀ (s : State) (d : Dev) q o m e, s.dev = d → (if q = true then secUp d = true else (monOf d o m).owner ≠ some .secure) → e < 4 →
    exec (.valueLoRead o m ⟨q, e⟩) s = .next (s.after (updMon o m (fun x => { x with
          latch := modifyAt (fun _ =>
            (BitVec.ofNat 32 ((nthD .zero e x.history).value.toNat / 2 ^ 32), (nthD .zero e x.history).frame,
              monFlags (nthD .zero e x.history))) e (if x.latch.isEmpty then List.replicate 4 (0, 0, 0) else x.latch) })
        { d with out := { d.out with host := some ((nthD 0 (16 + 4 * e) (monRecord d q o m)).setWidth 64) } }))) ∧
  (∀ (s : State) (d : Dev) k n, s.dev = d → (streamOf d.audio k n).owner ≠ some .secure →
    exec (.hwPosLoRead k n) s = .next (s.after (updStream k n (fun x => { x with latchHi := BitVec.ofNat 32 ((streamOf d.audio k n).hwPos.toNat / 2 ^ 32) })
        { d with out := { d.out with host := some (BitVec.ofNat 64 ((streamOf d.audio k n).hwPos.toNat % 2 ^ 32)) } }))) ∧
  (∀ (s : State) (d : Dev) c a n, s.dev = d → supAlive d = true → c.getLsbD 7 = true → c &&& 0x1F = 0 → c.getLsbD 5 = false →
    exec (.supRead c a n) s = .next (s.after ({ d with out := { d.out with
        sup := (List.range n).map fun k => nthD 0 ((a.toNat / 4 + k) % 64) (openWindow d) } }))) ∧
  (∀ (s : State) (d : Dev) c a n, s.dev = d → supAlive d = true → c.getLsbD 7 = true → c &&& 0x1F = 0 → c.getLsbD 5 = true → windowBound d = true →
    exec (.supRead c a n) s = .next (s.after ({ d with out := { d.out with
        sup := (List.range n).map fun k => nthD 0 ((a.toNat / 4 + k) % 64) (secureWindow d) } }))) ∧
  (∀ (s : State) (d : Dev), s.dev = d → supAlive d = true →
    exec .supCsTimeout s = .next (s.after ({ d with sup := { d.sup with errors := min 65535 (d.sup.errors + 1) } }))) ∧
  (∀ (s : State) (d : Dev), s.dev = d → supAlive d = true → d.sup.safeHold = false →
    exec .safeHoldSet s = .next (s.after (
        let e := { d with sup := { d.sup with safeHold := true, sets := min 32767 (d.sup.sets + 1) } }
        safeHoldEvent true ((heldOutputs e).foldl (fun d o => stopHarvestOn o 4 (stopComposing o d)) e)))) ∧
  (∀ (s : State) (d : Dev), s.dev = d → supAlive d = true → d.sup.safeHold = true →
    exec .safeHoldClear s = .next (s.after (
        let e := { d with sup := { d.sup with safeHold := false } }
        safeHoldEvent false ((heldOutputs e).foldl (fun d o => damageAll o d) e)))) ∧
  (∀ (s : State) (d : Dev) v, s.dev = d → d.power.boot = .running →
    exec (.supWakeWrite v) s = .next (s.after (wakeDevice 5 d))) ∧
  (∀ (s : State) (d : Dev) v, s.dev = d → supAlive d = true → windowBound d = true →
    exec (.inSeqWrite v) s = .next (s.after ({ d with sup := { d.sup with inSeq := v }, sec := { d.sec with intStatus := d.sec.intStatus ||| 8 } }))) ∧
  (∀ (s : State) (d : Dev) g, s.dev = d →
    exec (.pinGlitchDiscard g) s = .next (s.after ({ d with power := { d.power with
        filters := modifyAt (fun f => { f with glitches := min 65535 (f.glitches + 1) }) g d.power.filters } })))

/-- The secure controller's registers: mailbox, partition, event queue, guard region, watchdog and holds -/
def Obligations.SecureWorldRegisters : Prop :=
  (∀ (s : State) (d : Dev) v l, s.dev = d → secUp d = true →
    exec (.s2nDoorbellWrite v l) s = .next (s.after (takeAllS2N 256 (secStores l d)))) ∧
  (∀ (s : State) (d : Dev) v, s.dev = d → secUp d = true → (partWrite 0x84 0x40 (le64 v.toNat) d).sec.heldMsgs = d.sec.heldMsgs →
    exec (.n2sHeadWrite v) s = .next (s.after (flushN2S d.sec.heldMsgs.length (partWrite 0x84 0x40 (le64 v.toNat) d)))) ∧
  (∀ (s : State) (d : Dev) m w, s.dev = d → d.sec.waits.find? (·.mail == m) = some w →
    exec (.secureAnswerTimeout m) s = .next (s.after (sendCancel w 0 (finish w.ticket .timeout 0 [] (updSec (fun v => { v with
        waits := v.waits.filter fun x => x.mail != m }) d))))) ∧
  (∀ (s : State) (d : Dev) v, s.dev = d → secUp d = true → v.toNat.testBit 31 = false → 16 ≤ bitsOf v.toNat 13 0 → bitsOf v.toNat 28 16 + bitsOf v.toNat 13 0 ≤ 8192 → bitsOf v.toNat 28 16 ≤ d.sec.first → d.sec.first + d.sec.count ≤ bitsOf v.toNat 28 16 + bitsOf v.toNat 13 0 → (∀ p ∈ rangeFrom (bitsOf v.toNat 28 16) (bitsOf v.toNat 13 0), securePage d p = true ∨ panPageFree d p = true) →
    exec (.secPartitionWrite v) s = .next (s.after (updSec (fun q => { q with first := bitsOf v.toNat 28 16, count := bitsOf v.toNat 13 0 }) d))) ∧
  (∀ (s : State) (d : Dev) v, s.dev = d → secUp d = true → v.toNat.testBit 31 = false → bitsOf v.toNat 13 0 < 16 →
    exec (.secPartitionWrite v) s = .next (s.after (updSec (fun q => { q with partRefused := true }) d))) ∧
  (∀ (s : State) (d : Dev) v, s.dev = d → secUp d = true →
    exec (.seqDepthWrite v) s = .next (s.after (updSec (fun q => { q with
        seqDepth := if 16 ≤ v.toNat % 8192 ∧ v.toNat % 8192 ≤ 4096 then v.toNat % 8192 else 0,
        seqBaseLive := q.seqBase, seqTail := 0, seqHead := 0 }) d))) ∧
  (∀ (s : State) (d : Dev) v, s.dev = d → secUp d = true → v.toNat % 4096 < d.sec.seqDepth → ringSteps d.sec.seqDepth d.sec.seqHead (v.toNat % 4096) ≤ ringSteps d.sec.seqDepth d.sec.seqHead d.sec.seqTail →
    exec (.seqHeadWrite v) s = .next (s.after (updSec (fun q => { q with seqHead := v.toNat % 4096 }) d))) ∧
  (∀ (s : State) (d : Dev) o, s.dev = d → secUp d = true →
    exec (.guardCommitWrite o) s = .next (s.after (updOut o (fun x => { x with guardPending := true }) d))) ∧
  (∀ (s : State) (d : Dev) v, s.dev = d → secUp d = true → guardRegionOk d d.guardBase (min 3072 (bitsOf v.toNat 11 0)) = true →
    exec (.guardRegionWrite true v) s = .next (s.after ({ d with guardSize := min 3072 (bitsOf v.toNat 11 0) }))) ∧
  (∀ (s : State) (d : Dev) v, s.dev = d → secUp d = true → guardRegionOk d d.guardBase (min 3072 (bitsOf v.toNat 11 0)) = false →
    exec (.guardRegionWrite true v) s = .next (s.after ({ d with regionRefused := true }))) ∧
  (∀ (s : State) (d : Dev) v, s.dev = d → secUp d = true → v.toNat.testBit 31 = false → guardRegionOk d (bitsOf v.toNat 24 12) d.guardSize = true →
    exec (.guardRegionWrite false v) s = .next (s.after ({ d with guardBase := bitsOf v.toNat 24 12 }))) ∧
  (∀ (s : State) (d : Dev) v, s.dev = d → secUp d = true → v.toNat.testBit 31 = false →
    exec (.wdRunWrite v) s = .next (s.after (updSec (fun q => { q with wdPeriod := wdClamp (v.toNat % 65536) }) d))) ∧
  (∀ (s : State) (d : Dev) v, s.dev = d → secUp d = true → v.toNat.testBit 31 = true → d.sec.wdRun = false →
    exec (.wdRunWrite v) s = .next (s.after (updSec (fun q => wdRestart { q with wdPeriod := wdClamp (v.toNat % 65536) } (nowNs d)) d))) ∧
  (∀ (s : State) (d : Dev) k, s.dev = d → secUp d = true → d.sec.wdRun = true → k = d.sec.wdKey →
    exec (.wdKick k) s = .next (s.after ({ updSec (fun q => { wdRestart q (nowNs d) with wdKey := Config.freeByte d.free }) d with
        free := d.free + 1, sup := { d.sup with hbSecure := d.sup.hbSecure + 1 } }))) ∧
  (∀ (s : State) (d : Dev) k, s.dev = d → k ≠ d.sec.wdKey →
    exec (.wdKick k) s = .next (s.after (d))) ∧
  (∀ (s : State) (d : Dev) v, s.dev = d → secUp d = true → d.sec.queued = [] → (∀ i, i < 12 → i ≠ 2 → v.toNat.testBit i = true → domainOn d i = true) →
    exec (.holdWrite false v) s = .next (s.after (updSec (fun q => { q with holdDomains := BitVec.ofNat 12 v.toNat &&& 0xFFB }) d))) ∧
  (∀ (s : State) (d : Dev) v, s.dev = d → secUp d = true → d.sec.queued = [] → (∀ i, i < 13 → v.toNat.testBit i = true → islandOn d i = true) →
    exec (.holdWrite true v) s = .next (s.after (updSec (fun q => { q with holdIslands := BitVec.ofNat 13 v.toNat }) d)))

/-- Requests of the secure controller on layers, monitors, check units, haptics, audio, meters, the march and the canvas -/
def Obligations.SecureControllerRequests : Prop :=
  (∀ (s : State) (d : Dev) n w l, s.dev = d → secUp d = true → layerOf (viewOf d) n = some l → (w = true → coveredW (viewOf d) n l = false) →
    exec (.secureClassChange n w) s = .next (s.after (secAnswer .ok (makeChange (.watch n w) noCmd 0 l.output d)))) ∧
  (∀ (s : State) (d : Dev) n l, s.dev = d → secUp d = true → layerOf (viewOf d) n = some l → coveredW (viewOf d) n l = true →
    exec (.secureClassChange n true) s = .next (s.after (secAnswer .classViolation d))) ∧
  (∀ (s : State) (d : Dev) n w, s.dev = d → secUp d = true → layerOf (viewOf d) n = none →
    exec (.secureClassChange n w) s = .next (s.after (secAnswer .notOwner d))) ∧
  (∀ (s : State) (d : Dev) p c, s.dev = d → secUp d = true → c = secCmd p → fieldsCheck { d := d, view := viewOf d, c := c, txn := none } (specMonitorSet.fields { d := d, view := viewOf d, c := c, txn := none }) 64 320 24 = none → c.bit 26 4 = false → c.u8 25 ≠ 0xFF → (monOf (viewOf d) (c.u8 24) (c.u8 25)).owner = none → coveredBy (monRect c) [activeOf (viewOf d) (c.u8 24)] = true →
    exec (.secureMonitorSet p) s = .next (s.after (secAnswer .ok (makeChange .secMonitor c ((secCmd p).u8 25) (c.u8 24) d)))) ∧
  (∀ (s : State) (d : Dev) p c, s.dev = d → secUp d = true → c = secCmd p → fieldsCheck { d := d, view := d, c := c, txn := none } (specCvConfig.fields { d := d, view := d, c := c, txn := none }) 56 320 24 = none → c.bit 25 0 = false → c.u8 24 ≠ 0xFF → cvReserved d (c.u8 24) = false → ((cvOf d (c.u8 24)).owner = none ∨ (cvOf d (c.u8 24)).owner = some .secure) →
    exec (.secureCvConfig p) s = .next (s.after (secAnswer .ok (updCv (c.u8 24) (fun x => { x with
        owner := some .secure, cfg := cfgOf c 26 25 32, reclaimed := x.releasing.isSome }) d)))) ∧
  (∀ (s : State) (d : Dev) k e a n, s.dev = d → secUp d = true → triggerRefusal d k 2 = none →
    exec (.secureHapticPlay k e a n) s = .next (s.after ((acceptTrigger k e a n { rank := 2, issuer := none, notify := false, serial := 0 } none d).2))) ∧
  (∀ (s : State) (d : Dev) k e a n v, s.dev = d → secUp d = true → triggerRefusal d k 2 = some v →
    exec (.secureHapticPlay k e a n) s = .next (s.after (updHap k (fun h => { h with refused := h.refused + 1 }) d))) ∧
  (∀ (s : State) (d : Dev) t, s.dev = d → secUp d = true → isDest t = true → t / 4096 ≠ 5 → t % 4096 < endCount (t / 4096) → d.audio.seized.contains t = false →
    exec (.audioSeize t true) s = .next (s.after (
        let k := sampleNow d
        updAudio (fun a => { a with
          seized := t :: a.seized,
          routes := a.routes.map fun r =>
            if r.dst == t && r.owner != .secure && r.fadeOut.isNone then { r with seized := true, fadeOut := ramp0 k } else r })
          (seizedEvents t true d)))) ∧
  (∀ (s : State) (d : Dev) p, s.dev = d → secUp d = true → secFields specAudioRoute (secCmd p) d = true → secRouteOk (audioView d).audio ((secCmd p).u16 24) ((secCmd p).u16 26) = true → routeRoom (audioView d).audio ((secCmd p).u16 24) ((secCmd p).u16 26) = true → (secCmd p).u16 26 / 4096 ≠ 6 →
    exec (.secureAudioControl (.route p)) s = .next (s.after (secWait .audioRoute (secCmd p) 0 d))) ∧
  (∀ (s : State) (d : Dev) e, s.dev = d → secUp d = true → isHardware e = true → e % 4096 < endCount (e / 4096) →
    exec (.secureAudioControl (.hold e true)) s = .next (s.after (updAudio (fun a => { a with secureHeld := e :: a.secureHeld.filter (· != e) }) d))) ∧
  (∀ (s : State) (d : Dev) p, s.dev = d → secUp d = true → (secCmd p).u8 24 < 8 → (secCmd p).bit 25 0 = true ∨ ((secCmd p).u16 26 % 4096 < endCount ((secCmd p).u16 26 / 4096) ∧ (secCmd p).u16 28 ≤ 10000) →
    exec (.secureMeterAssign p) s = .next (s.after (landMeter .secure (secCmd p) d))) ∧
  (∀ (s : State) (d : Dev) a b n, s.dev = d → secUp d = true → a ≤ b → b ≤ 8191 → 10000 ≤ n → n ≤ 1000000000 →
    exec (.panTestControl (.start a b n)) s = .next (s.after (updPan (fun p => { p with
        testRunning := true, testFirst := a, testLast := b, testSpacing := n, testPage := a, pass := p.pass + 1,
        abandons := [], retry := [] }) d))) ∧
  (∀ (s : State) (d : Dev) n, s.dev = d → secUp d = true → 10000 ≤ n → n ≤ 1000000000 →
    exec (.panTestControl (.pace n)) s = .next (s.after (updPan (fun p => { p with testSpacing := n }) d))) ∧
  (∀ (s : State) (d : Dev), s.dev = d → secUp d = true →
    exec (.panTestControl .stop) s = .next (s.after (updPan (fun p => { p with testRunning := false }) d))) ∧
  (∀ (s : State) (d : Dev) v l, s.dev = d → secUp d = true → (secStores l d).sec.cvBusy = false → 1 ≤ v.toNat % 8192 → v.toNat % 8192 ≤ 4096 →
    exec (.cvCountWrite v l) s = .next (s.after (updSec (fun q => { q with cvBusy := true, cvCount := v.toNat % 8192, cvError := false, cvErrorKind := 0 }) (secStores l d)))) ∧
  (∀ (s : State) (d : Dev), s.dev = d → d.sec.cvBusy = true → domainOn d 2 = true →
    exec .canvasListEnd s = .next (s.after (updSec (fun q => { q with cvBusy := false, cvLists := q.cvLists + 1, intStatus := q.intStatus ||| 1 })
        (canvasList d.sec.cvCount d.sec.cvCount d))))

/-- Lifecycle and version fuses burn one step; the debug gate answers, opens its scope on a good response, and blocks on a bad one -/
def Obligations.LifecycleAndGate : Prop :=
  (∀ (s : State) (d : Dev) h, s.dev = d → secUp d = true → lifecycleOf s.fuses = 0 → h.length = 48 →
    exec (.lifecycleAdvance (.ownerKey h)) s = .next { s.after (d) with fuses := { s.fuses with ownerKey := some h } }) ∧
  (∀ (s : State) (d : Dev), s.dev = d → secUp d = true → lifecycleOf s.fuses = 1 →
    exec (.lifecycleAdvance .field) s = .next { s.after (d) with fuses := { s.fuses with fieldSet := true } }) ∧
  (∀ (s : State) (d : Dev), s.dev = d → lifecycleOf s.fuses ≠ 1 →
    exec (.lifecycleAdvance .field) s = .next (s.after (d))) ∧
  (∀ (s : State) (d : Dev), s.dev = d → secUp d = true → s.fuses.rollback < 64 →
    exec .antiRollbackAdvance s = .next { s.after (d) with fuses := { s.fuses with rollback := s.fuses.rollback + 1 } }) ∧
  (∀ (s : State) (d : Dev), s.dev = d → gateOpen d = true →
    exec .gateChallenge s = .next (s.after ({ updSec (fun q => { q with challenge := some ((rangeFrom d.free 48).map Config.freeByte, nowNs d) }) d with
        free := d.free + 48,
        out := { d.out with gate := (rangeFrom d.free 48).map Config.freeByte ++ (s.fuses.deviceId ++ List.replicate 16 0).take 16 } }))) ∧
  (∀ (s : State) (d : Dev) w r g b n, s.dev = d → gateOpen d = true → d.sec.challenge = some (b, n) → nowNs d ≤ n + 60000000000 → gateVerifies s.fuses b w (r ++ g) = true →
    exec (.gateResponse w r g) s = .next { s.after (updSec (fun q => { q with
        challenge := none, debugNormal := q.debugNormal || w.getLsbD 0, debugSecure := q.debugSecure || w.getLsbD 1,
        scanOpen := q.scanOpen || w.getLsbD 2 }) d) with fuses := (if w.getLsbD 3 then { s.fuses with returned := true } else s.fuses) }) ∧
  (∀ (s : State) (d : Dev) w r g b n, s.dev = d → gateOpen d = true → d.sec.challenge = some (b, n) → n + 60000000000 < nowNs d ∨ gateVerifies s.fuses b w (r ++ g) = false →
    exec (.gateResponse w r g) s = .next (s.after (gateFail (updSec (fun q => { q with challenge := none }) d)))) ∧
  (∀ (s : State) (d : Dev) w r g, s.dev = d → gateOpen d = true → d.sec.challenge = none →
    exec (.gateResponse w r g) s = .next (s.after (gateFail d))) ∧
  (∀ (s : State) (d : Dev) p, s.dev = d → gateOpen d = true → 8 ≤ p.length → p.length ≤ 64 → Config.sha384 ((s.fuses.salt ++ List.replicate 16 0).take 16 ++ p) = s.fuses.passHash →
    exec (.gatePassword p) s = .next (s.after (updSec (fun q => { q with debugNormal := true }) d))) ∧
  (∀ (s : State) (d : Dev) p, s.dev = d → gateOpen d = true → p.length < 8 ∨ 64 < p.length →
    exec (.gatePassword p) s = .next (s.after (gateFail d)))

/-- Resets give every field its reset value but what R549 to R553 keep, and a good image boots -/
def Obligations.ResetsAndBoot : Prop :=
  (∀ (s : State) (d : Dev), s.dev = d →
    exec .powerOnReset s = .next (s.after ({ Dev.zero with lifecycle := lifecycleOf s.fuses, free := d.free, out := d.out }))) ∧
  (∀ (s : State) (d : Dev), s.dev = d →
    exec .vaonDrop s = .next (s.after ({ Dev.zero with power := { Power.zero with boot := .dark }, free := d.free, out := d.out }))) ∧
  (∀ (s : State) (d : Dev), s.dev = d → d.power.boot = .supplyHold →
    exec .resetHoldEnd s = .next (s.after (updPower (fun p => { p with boot := .inReset }) d))) ∧
  (∀ (s : State) (d : Dev), s.dev = d → powered d = true →
    exec .resetNAssert s = .next (s.after (updPower (fun p => { p with resetLow := true }) (sleepReset .resetN d)))) ∧
  (∀ (s : State) (d : Dev), s.dev = d → powered d = true →
    exec .supplyUndervoltage s = .next (s.after (updPower (fun p => { p with boot := .supplyHold }) (sleepReset .resetN d)))) ∧
  (∀ (s : State) (d : Dev) n, s.dev = d → d.sec.wdRun = true → d.sec.wdLeft ≤ nowNs d → d.power.boot = .running ∨ d.power.boot = .shutdown →
    exec (.watchdogExpiry n) s = .next (s.after (resetDevice .watchdog (n &&& workingMask d.dram).testBit (updPower (fun p => { p with
        wdExpired := true, wdSrDone := n &&& workingMask d.dram == workingMask d.dram, wdSrMask := n &&& workingMask d.dram,
        wdCount := min 65535 (p.wdCount + 1), wdLast := now32 d }) d)))) ∧
  (∀ (s : State) (d : Dev), s.dev = d → powered d = true → d.power.boot ≠ .shutdown → 1040 ≤ tmax d.power →
    exec .thermalShutdown s = .next (s.after (updSec (fun q => { q with wdRun := d.sec.wdRun }) (updPower (fun p => { p with
        boot := .shutdown, domains := 0, thermalTrip := true, entering := none })
          ((stateOff .off).foldl (fun d i => domainSleeps i d) (memSleep d)))))) ∧
  (∀ (s : State) (d : Dev) t, s.dev = d → d.power.boot = .shutdown → d.power.coolSince = some t → t + 1000000000 ≤ nowNs d →
    exec .thermalRestart s = .next (s.after (sleepReset .thermal d))) ∧
  (∀ (s : State) (d : Dev) k a b, s.dev = d → d.power.boot = .inReset → k % 4 < 2 → imageFails s.fuses a (bootStart k d) = none →
    exec (.resetNRelease k a b) s = .next (s.after (bootRun a 0 false (bootStart k d)))) ∧
  (∀ (s : State) (d : Dev) k a b e, s.dev = d → d.power.boot = .inReset → k % 4 < 2 → imageFails s.fuses a (bootStart k d) = some e → imageFails s.fuses b (bootStart k d) = none →
    exec (.resetNRelease k a b) s = .next (s.after (bootRun b 1 false (bootStart k d)))) ∧
  (∀ (s : State) (d : Dev) k a b e, s.dev = d → d.power.boot = .inReset → k % 4 < 2 → imageFails s.fuses a (bootStart k d) ≠ none → imageFails s.fuses b (bootStart k d) = some e →
    exec (.resetNRelease k a b) s = .next (s.after (bootNone e (bootStart k d)))) ∧
  (∀ (s : State) (d : Dev) k a b, s.dev = d → d.power.boot = .inReset → 2 ≤ k % 4 →
    exec (.resetNRelease k a b) s = .next (s.after (updPower (fun p => { p with boot := .awaitPush }) (bootStart k d)))) ∧
  (∀ (s : State) (d : Dev) v i, s.dev = d → d.power.boot = .awaitPush → v.getLsbD 0 = true → i = memRead d.panMem 0 (min 16777216 d.power.bootLen.toNat) → imageFails s.fuses i d = none →
    exec (.bootGoWrite v) s = .next (s.after (bootRun i 2 true d))) ∧
  (∀ (s : State) (d : Dev) v i e, s.dev = d → d.power.boot = .awaitPush → v.getLsbD 0 = true → i = memRead d.panMem 0 (min 16777216 d.power.bootLen.toNat) → imageFails s.fuses i d = some e →
    exec (.bootGoWrite v) s = .next (s.after (updPower (fun p => { p with bootFail := e, bootStatus := 128 + e }) d)))

/-- A band becomes ready, claims staging, enters a pipe, is written, or misses its deadline or its cut-off -/
def Obligations.BandsFlow : Prop :=
  (∀ (s : State) (d : Dev) o b f, s.dev = d → (outOf d o).flights.find? (fun f => !f.retired && bandOpen f b && !f.ready.testBit b && bandRead (outOf d o) (lineNow d o) f b) = some f →
    exec (.bandReady o b) s = .next (s.after (leaveDeviceStill (updFlight o f.frame (fun f => { f with ready := f.ready ||| 2 ^ b }) d)))) ∧
  (∀ (s : State) (d : Dev) o f b m n, s.dev = d → firstBand d (fun o f b => (claimOf d o f.frame b).isNone) = some (o, f, b) → claimPart 8388608 ((d.staging.map (·.dram)).foldl (· + ·) 0) (((fetchOrder f b).filter (inPan · == false)).map fun fl => (fl.number, bandNeed f fl b)) = some m → claimPart 2097152 ((d.staging.map (·.pan)).foldl (· + ·) 0) (((fetchOrder f b).filter (inPan · == true)).map fun fl => (fl.number, bandNeed f fl b)) = some n →
    exec (.bandFetchStart o f.frame b) s = .next (s.after (((fetchOrder f b).filter fun fl => !(m.2 ++ n.2).contains fl.number).foldl (fun d fl => fetchLayer o f.frame b fl d)
        { d with staging := d.staging ++ [{
          output := o, frame := f.frame, band := b, dram := m.1, pan := n.1, left := m.2 ++ n.2, data := [] }] }))) ∧
  (∀ (s : State) (d : Dev) p o f b, s.dev = d → d.pipes[p]? = some none → unitClosed d (0x220 + p) = false → firstBand d (fun _ f b => !f.taken.testBit b) = some (o, f, b) →
    exec (.pipeTakesBand p) s = .next (s.after (askScaler p (updFlight o f.frame (fun f => { f with taken := f.taken ||| 2 ^ b })
        { d with pipes := modifyAt (fun _ => some (o, f.frame, b)) p d.pipes,
                 pipeNeeds := modifyAt (fun _ => bandGangs f b) p d.pipeNeeds })))) ∧
  (∀ (s : State) (d : Dev) o n b l f c, s.dev = d → flightOf d o n = some f → bandOpen f b = true → f.late.testBit b = false → bandDeadline d o f b ≤ d.tide.now → (List.range b).any (fun k => bandOpen f k && !f.late.testBit k) = false → claimOf d o n b = some c → (∀ fl ∈ fetchOrder f b, fl.number ∈ l ∧ c.data.any (·.layer == fl.number) = true ∧ earlierHave d o f fl b = true) →
    exec (.bandDeadline o n b l) s = .next (s.after (markArrived o n b ((fetchOrder f b).map (·.number)) (updFlight o n (fun f => { f with late := f.late ||| 2 ^ b }) d)))) ∧
  (∀ (s : State) (d : Dev) o n b l f fl, s.dev = d → flightOf d o n = some f → flightOf (updFlight o n (fun f => { f with late := f.late ||| 2 ^ b }) d) o n = some { f with late := f.late ||| 2 ^ b } → bandOpen f b = true → f.late.testBit b = false → bandDeadline d o f b ≤ d.tide.now → (List.range b).any (fun k => bandOpen f k && !f.late.testBit k) = false → claimOf d o n b = none → d.power.paceNow < 1000 → fetchOrder f b = [fl] →
    exec (.bandDeadline o n b l) s = .next (s.after (dropLayer o { f with late := f.late ||| 2 ^ b } fl 0 0 (some b) (bandDeadline d o f b / 65536)
        (updFlight o n (fun f => { f with late := f.late ||| 2 ^ b }) d)))) ∧
  (∀ (s : State) (d : Dev) p o n b f, s.dev = d → d.pipes[p]? = some (some (o, n, b)) → flightOf d o n = some f → bandOpen f b = true → unitClosed d (0x220 + p) = false → mayComplete d o f b = true → nthD [] p d.pipeNeeds = [] → f.harvest = [] →
    ∃ e : Dev, exec (.bandComplete p) s = .next (s.after e) ∧ e.staging = d.staging.filter (fun c => !(c.output == o && c.frame == n && c.band == b)) ∧ e.pipes = d.pipes.map (fun q => if q.any (· == (o, n, b)) then none else q) ∧ e.fsA = (storeWrite o (flightPages (outOf d o) f) (8 * b * f.mode.hActive * storeBytes f.mode) (bandBytes (((claimOf d o n b).map (·.data)).getD []) f b) d).fsA ∧ e.fsB = (storeWrite o (flightPages (outOf d o) f) (8 * b * f.mode.hActive * storeBytes f.mode) (bandBytes (((claimOf d o n b).map (·.data)).getD []) f b) d).fsB) ∧
  (∀ (s : State) (d : Dev) p o n b f, s.dev = d → d.pipes[p]? = some (some (o, n, b)) → flightOf d o n = some f → bandOpen f b = false →
    exec (.bandComplete p) s = .next (s.after (freeBand o n b d))) ∧
  (∀ (s : State) (d : Dev) o n b f, s.dev = d → flightOf d o n = some f → bandOpen f b = true → f.late.testBit b = true → bandCutoff d o f b ≤ d.tide.now → f.harvest = [] →
    exec (.bandWriteCutoff o n b) s = .next (s.after (oweDamage o f (2 ^ b) (freeBand o n b (updOut o (fun x => { x with
        stale := x.stale + 1, scanStale := if x.frame == n then x.scanStale ||| 2 ^ b else x.scanStale })
          (updFlight o n (fun f => { f with stale := f.stale ||| 2 ^ b }) d))))))

/-- A cut opens a frame, its scan-out starts, and its configuration retires; faults drop layers or hold the output -/
def Obligations.FramesOpenStartRetire : Prop :=
  (∀ (s : State) (d : Dev) o, s.dev = d → (outOf d o).enabled = true → (outOf d o).scanning = true → wakeOwed d o = true →
    exec (.outputCut o) s = .next (s.after (cutOutput o true d))) ∧
  (∀ (s : State) (d : Dev) o, s.dev = d → (outOf d o).enabled = true → (outOf d o).scanning = true → wakeOwed d o = false → (outOf d o).cutDone = false → cutReached d o = true → commitDue d = false →
    exec (.outputCut o) s = .next (s.after ((cutMates d o).foldl (fun d p => cutOutput p false d) d))) ∧
  (∀ (s : State) (d : Dev) o, s.dev = d → wakeOwed d o = false → ((outOf d o).cutDone = true ∨ cutReached d o = false ∨ commitDue d = true) →
    exec (.outputCut o) s = .next (s.after (d))) ∧
  (∀ (s : State) (d : Dev) o, s.dev = d → o < d.outputs.length → (outOf d o).enabled = true → (outOf d o).zeroed = false → (outOf d o).pages ≠ [] → activeDone (outOf d o) = true → domainServes d (if o < 4 then 4 else 5) = true → (outOf d o).cutDone = false → (outOf d o).opening = true →
    exec (.partitionZeroed o) s = .next (s.after (cutOutput o false (updOut o (fun x => { x with zeroed := true }) (zeroPartition o d))))) ∧
  (∀ (s : State) (d : Dev) o m, s.dev = d → o < d.outputs.length → (outOf d o).mode = some m → frameMayStart d o = true → lockOf d o = none →
    ∃ e : Dev, exec (.outputFrameStart o) s = .next (s.after e) ∧ (outOf e o).frame = (outOf d o).composed ∧ (outOf e o).scanning = true ∧ (outOf e o).nextLine = 0 ∧ (outOf e o).line = 0 ∧ (outOf e o).frameStart = d.tide.now ∧ (outOf e o).scanPages = (outOf d o).pages ∧ (outOf e o).scanMode = some m ∧ (outOf e o).panelLive = (outOf d o).panelLut ∧ (outOf e o).cutDone = false ∧ (outOf e o).link.up = (outOf d o).link.trained ∧ e.layers = d.layers ∧ e.fsA = d.fsA ∧ e.fsB = d.fsB) ∧
  (∀ (s : State) (d : Dev) o m k g, s.dev = d → o < d.outputs.length → (outOf d o).mode = some m → frameMayStart d o = true → lockOf d o = some (k, g) →
    ∃ e : Dev, exec (.outputFrameStart o) s = .next (s.after e) ∧ (outOf e o).frame = BitVec.ofNat 32 (phaseOf d g).1 ∧ (outOf e o).frameStart = d.tide.now ∧ e.layers = d.layers ∧ e.fsA = d.fsA ∧ e.fsB = d.fsB) ∧
  (∀ (s : State) (d : Dev) o n k b r f fl e, s.dev = d → flightOf d o n = some f → f.layers.find? (·.number == k) = some fl → f.composing = true → isDropped f k = false → fl.layer.visible = true → fetchFails d o f fl b r = some e → (e = .fault ∨ (outOf d o).holdPolicy = false) →
    exec (.layerFetchFault o n k b r) s = .next (s.after (dropLayer o f fl (if e = .fenced then 2 else 1) (statusCode (if e = .fenced then .memFenced else .memFault)) none (nowNs d) d))) ∧
  (∀ (s : State) (d : Dev) o n k b r f fl, s.dev = d → flightOf d o n = some f → f.layers.find? (·.number == k) = some fl → f.composing = true → isDropped f k = false → fl.layer.visible = true → fetchFails d o f fl b r = some .fenced → (outOf d o).holdPolicy = true →
    exec (.layerFetchFault o n k b r) s = .next (s.after (holdOutput o f (statusCode .memFenced) d))) ∧
  (∀ (s : State) (d : Dev) o n k b r f fl, s.dev = d → flightOf d o n = some f → f.layers.find? (·.number == k) = some fl → fetchFails d o f fl b r = none →
    exec (.layerFetchFault o n k b r) s = .next (s.after (d))) ∧
  (∀ (s : State) (d : Dev) o f, s.dev = d → (outOf d o).flights.find? (!·.retired) = some f → allSettled f = true →
    exec (.configRetire o) s = .next (s.after (retireFlight o f d))) ∧
  (∀ (s : State) (d : Dev) o f, s.dev = d → (outOf d o).flights.find? (!·.retired) = some f → allSettled f = false →
    exec (.configRetire o) s = .next (s.after (d))) ∧
  (∀ (s : State) (d : Dev) o late rivals m, s.dev = d → o < d.outputs.length → (outOf d o).scanMode = some m → (outOf d o).scanning = true → (outOf d o).nextLine + 1 < m.vActive →
    ∃ e : Dev, exec (.scanoutLineStart o ⟨late, rivals⟩) s = .next (s.after e) ∧ (outOf e o).line = (outOf d o).nextLine ∧ (outOf e o).nextLine = (outOf d o).nextLine + 1 ∧ e.layers = d.layers ∧ e.fsA = d.fsA ∧ e.fsB = d.fsB ∧ e.dramMem = d.dramMem) ∧
  (∀ (s : State) (d : Dev) o m l md, s.dev = d → (monOf d o m).live = some l → (outOf d o).scanMode = some md → (outOf d o).scanning = true → l.rect.y + l.rect.h ≤ (outOf d o).nextLine → (monOf d o m).owner = l.owner → (monOf d o m).taking = false →
    exec (.monitorResultComplete o m) s = .next (s.after (
        let r : MonResult := {
          value := if (monOf d o m).covered then 0 else cvEnd l.cfg (monOf d o m).reg.toNat, frame := (outOf d o).frame, valid := true,
          covered := (monOf d o m).covered, linkDown := (monOf d o m).linkDown,
          stale := (outOf d o).scanStale &&& maskOf (rangeFrom (l.rect.y / 8) ((l.rect.y + l.rect.h - 1) / 8 - l.rect.y / 8 + 1)) != 0,
          guardFault := (monOf d o m).guardFault, held := (outOf d o).held || d.sup.safeHold, gen := l.gen, depth := if md.bpc10 then 10 else 8 }
        updMon o m (fun y => { y with
          live := none, history := (r :: y.history).take 4,
          capture := if y.taking then some r else y.capture, armed := y.armed && !y.taking, taking := false }) d))) ∧
  (∀ (s : State) (d : Dev) o, s.dev = d → (outOf d o).enabled = true → (outOf d o).guardPending = true → (outOf d o).report = false → (∀ g, g < (outOf d o).guards.length → guardOk (nthD GuardPlane.zero g (outOf d o).guards).shadow (d.guardSize * 4096) = true) →
    exec (.guardLatch o) s = .next (s.after (updOut o (fun x => { x with
        guards := x.guards.zipIdx.map fun p => { p.1 with live := p.1.shadow, base := d.guardBase, size := d.guardSize },
        guardRefused := 0, guardLatches := x.guardLatches + 1, guardPending := false }) d)))

/-- Hot-plug, capability reads, AUX answers and training end as chapter 9 says -/
def Obligations.LinkEvents : Prop :=
  (∀ (s : State) (d : Dev) o, s.dev = d → (outOf d o).link.hpd = false →
    exec (.hpdRise o) s = .next (s.after (updLink o (fun k => { k with
        hpd := true, capsRead := false, heldDown := false, capsBusy := dpOn d o, capsOwed := !dpOn d o }) d))) ∧
  (∀ (s : State) (d : Dev) o n p l v, s.dev = d → n < 250000 ∨ 2000000 ≤ n →
    exec (.hpdLowEnd o n p l v) s = .next (s.after (d))) ∧
  (∀ (s : State) (d : Dev) o n p v, s.dev = d → (outOf d o).link.hpd = true → 250000 ≤ n → n < 2000000 → dpOn d o = true → (outOf d o).link.capsBusy = false → (outOf d o).link.failed = false →
    exec (.hpdLowEnd o n p false v) s = .next (s.after ((if v = 0 then d else raise 0x0506 o [v] [512] false d)))) ∧
  (∀ (s : State) (d : Dev) o n p v, s.dev = d → o < d.outputs.length → (outOf d o).link.hpd = true → 250000 ≤ n → n < 2000000 → dpOn d o = true → (outOf d o).link.capsBusy = false → (outOf d o).link.trained = true →
    ∃ e : Dev, exec (.hpdLowEnd o n p true v) s = .next (s.after e) ∧ (outOf e o).link.losses = (outOf d o).link.losses + 1) ∧
  (∀ (s : State) (d : Dev) o, s.dev = d → (outOf d o).link.hpd = true → (outOf d o).link.up = false → (outOf d o).link.training = false → o < d.outputs.length →
    exec (.hpdUnplug o) s = .next (s.after (raise 0x0502 o ([0, 0, 0, 0] ++ le32 (outOf d o).frame.toNat) (holdPages d o) false (updLink o (fun k => { k with
        hpd := false, up := false, trained := false, rate := 0, lanes := 0, asyncActive := false, audioActive := false, capsRead := false,
        capsBusy := false, capsOwed := false, irqOwed := none, sink128 := false, sinkAudio := false, sinkAsync := false, sink10 := false,
        sinkRate := 0, sinkLanes := 0, asyncMax := 0, asyncMin := 0 }) d)))) ∧
  (∀ (s : State) (d : Dev) o c, s.dev = d → (outOf d o).link.capsBusy = true → dpOn d o = true → (outOf d o).link.irqOwed = none → (outOf d o).enabled = false → o < d.outputs.length →
    exec (.capabilityReadDone o (some c)) s = .next (s.after (
        let e := updLink o (fun k => { k with
          capsBusy := false, capsRead := true, irqOwed := none, sink128 := c.k128, sinkAudio := c.audio,
          sinkAsync := (sinkRange c).isSome, sink10 := c.bpc10, sinkRate := c.rate % 8, sinkLanes := c.lanes % 16,
          asyncMax := ((sinkRange c).getD (0, 0)).1 % 65536, asyncMin := ((sinkRange c).getD (0, 0)).2 % 65536 }) d
        raise 0x0501 o (le32 (nthD 0 4 (linkRecord e o)).toNat ++ le32 (nthD 0 5 (linkRecord e o)).toNat) [512] false e))) ∧
  (∀ (s : State) (d : Dev) o n b j, s.dev = d → auxJob d o = some j → j.cmd.u8 25 % 2 = 0 → j.cmd.u8 26 ≤ j.bytes + n →
    exec (.auxTransactionEnd o (.ack n b)) s = .next (s.after (endAux j .ok 0 ((j.read ++ (b ++ List.replicate n 0).take n).take (j.cmd.u8 26)) d))) ∧
  (∀ (s : State) (d : Dev) o n b j, s.dev = d → auxJob d o = some j → j.cmd.u8 25 % 2 = 1 → j.cmd.u8 26 ≤ j.bytes + n →
    exec (.auxTransactionEnd o (.ack n b)) s = .next (s.after (endAux j .ok 0 [] d))) ∧
  (∀ (s : State) (d : Dev) o j, s.dev = d → auxJob d o = some j → j.tries < 7 →
    exec (.auxTransactionEnd o .defer) s = .next (s.after ({ d with aux := d.aux.map fun a => if a.ticket.no == j.ticket.no then { a with tries := a.tries + 1 } else a }))) ∧
  (∀ (s : State) (d : Dev) o j, s.dev = d → auxJob d o = some j →
    exec (.auxTransactionEnd o .nack) s = .next (s.after (endAux j .timeout 0xFFFF [] d))) ∧
  (∀ (s : State) (d : Dev) o j, s.dev = d → auxJob d o = some j → 7 ≤ j.tries →
    exec (.auxReplyTimeout o) s = .next (s.after (endAux j .timeout j.bytes [] d))) ∧
  (∀ (s : State) (d : Dev) o j, s.dev = d → auxJob d o = some j → j.tries < 7 →
    exec (.auxReplyTimeout o) s = .next (s.after ({ d with aux := d.aux.map fun a => if a.ticket.no == j.ticket.no then { a with tries := a.tries + 1 } else a }))) ∧
  (∀ (s : State) (d : Dev) o x r l q, s.dev = d → o < d.outputs.length → dpOn d o = true → (outOf d o).link.training = true → (outOf d o).link.candidates = (r, l) :: q → x.pass = true → x.phase ≠ 0 →
    ∃ e : Dev, exec (.trainPhaseEnd o x) s = .next (s.after e) ∧ (outOf e o).link.trained = true ∧ (outOf e o).link.rate = r ∧ (outOf e o).link.lanes = l ∧ (outOf e o).link.failed = false) ∧
  (∀ (s : State) (d : Dev) o x r l c q, s.dev = d → dpOn d o = true → (outOf d o).link.training = true → (outOf d o).link.candidates = (r, l) :: c :: q → x.pass = false →
    exec (.trainPhaseEnd o x) s = .next (s.after (updLink o (fun k => { k with lastPhase := min 1 x.phase, candidates := c :: q })
        (updLink o (fun k => { k with attempts := min 255 (k.attempts + 1) }) d)))) ∧
  (∀ (s : State) (d : Dev) o x r l q, s.dev = d → dpOn d o = true → (outOf d o).link.training = true → (outOf d o).link.candidates = (r, l) :: q → x.pass = true → x.phase = 0 →
    exec (.trainPhaseEnd o x) s = .next (s.after (d))) ∧
  (∀ (s : State) (d : Dev) o, s.dev = d → (outOf d o).link.training = true →
    exec (.trainSequenceTimeout o) s = .next (s.after (failTraining o 2 (updLink o (fun k => { k with attempts := min 255 (k.attempts + 1) }) d)))) ∧
  (∀ (s : State) (d : Dev) o, s.dev = d → (outOf d o).enabled = true → dpOn d o = true → (outOf d o).link.relocking = false → (outOf d o).link.dead = false →
    exec (.dpPllLocked o) s = .next (s.after (updLink o (fun k => { k with pllLock := true, ssc := ((outOf d o).mode.map (·.ssc)).getD false }) d))) ∧
  (∀ (s : State) (d : Dev) o, s.dev = d → (outOf d o).link.relocking = true → (outOf d o).enabled = false →
    exec (.dpPllRelock o) s = .next (s.after (updLink o (fun k => { k with relocking := false, relocks := 0, pllLock := true }) d))) ∧
  (∀ (s : State) (d : Dev) o m, s.dev = d → o < d.outputs.length → (outOf d o).link.relocking = true → (outOf d o).enabled = true → (outOf d o).mode = some m → (outOf d o).zeroed = true → (outOf d o).cutDone = false → (outOf d o).link.heldDown = true →
    exec (.dpPllRelock o) s = .next (s.after (cutOutput o false (damageAll o (updLink o (fun k => { k with relocking := false, relocks := 0, pllLock := true }) d))))) ∧
  (∀ (s : State) (d : Dev) o, s.dev = d → o < d.outputs.length → (outOf d o).link.relocking = true → (outOf d o).link.relocks < 2 →
    exec (.pllRelockTimeout o) s = .next (s.after (updLink o (fun k => { k with relocks := k.relocks + 1 }) d))) ∧
  (∀ (s : State) (d : Dev) o, s.dev = d → o < d.outputs.length → (outOf d o).link.relocking = true → (outOf d o).link.relocks = 2 →
    exec (.pllRelockTimeout o) s = .next (s.after (pllUnlockEvent o true (updLink o (fun k => { k with relocks := k.relocks + 1, relocking := false }) d))))

/-- Bring-up, recovery, stuck contacts and reports of a touch port follow chapter 11 -/
def Obligations.TouchEvents : Prop :=
  (∀ (s : State) (d : Dev) p n, s.dev = d → (portOf d p).step = n → n = 1 ∨ n = 3 →
    exec (.touchBringupStepDone p .done) s = .next (s.after (updPort p (fun x => { x with step := n + 1 }) d))) ∧
  (∀ (s : State) (d : Dev) p, s.dev = d → (portOf d p).step = 4 →
    exec (.touchBringupStepDone p .done) s = .next (s.after (updPort p (fun x => { x with step := 0, state := .running, failures := 0 }) d))) ∧
  (∀ (s : State) (d : Dev) p a b x y, s.dev = d → (portOf d p).step = 2 → (∀ v ∈ [a, b, x, y], 0 ≤ v ∧ v ≤ 65535) →
    exec (.touchBringupStepDone p (.ranges a b x y)) s = .next (s.after (
        let e := updPort p (fun q => { q with
          xMin := a.toNat, xMax := b.toNat, yMin := x.toNat, yMax := y.toNat, step := 3, state := .reset }) d
        updPort p (fun q => { q with calib := defaultCalib e q }) e))) ∧
  (∀ (s : State) (d : Dev) p, s.dev = d → (portOf d p).step = 1 ∨ (portOf d p).step = 2 →
    exec (.touchBringupStepDone p .rejected) s = .next (s.after (touchFault p 0 .badParam (updPort p (fun x => { x with state := .failed, step := 0 }) d)))) ∧
  (∀ (s : State) (d : Dev) p, s.dev = d → (portOf d p).step = 3 →
    exec (.touchResetTimeout p) s = .next (s.after (recoverPort p 1 .timeout ((portOf d p).state == .recovering) d))) ∧
  (∀ (s : State) (d : Dev) p, s.dev = d → (portOf d p).reading = true ∨ (portOf d p).step ≠ 0 →
    exec (.touchTransferTimeout p) s = .next (s.after (recoverPort p 2 .timeout ((portOf d p).state == .recovering) (updPort p (fun x => { x with timeouts := x.timeouts + 1 }) d)))) ∧
  (∀ (s : State) (d : Dev) p, s.dev = d →
    exec (.tpIrqAssert p) s = .next (s.after (updPort p (fun x => { x with reading := x.reading || x.state == .running }) d))) ∧
  (∀ (s : State) (d : Dev) p k c, s.dev = d → (portOf d p).contacts.find? (·.slot == k) = some c → (portOf d p).stuckS ≠ 0 → c.since + (portOf d p).stuckS * 1000000000 ≤ nowNs d →
    exec (.touchStuckTimeout p k) s = .next (s.after (cancelContact p 0 c (updPort p (fun x => { x with stuck := x.stuck + 1 }) d)))) ∧
  (∀ (s : State) (d : Dev) p k, s.dev = d → (portOf d p).stuckS = 0 →
    exec (.touchStuckTimeout p k) s = .next (s.after (d))) ∧
  (∀ (s : State) (d : Dev) p r, s.dev = d → p < d.touch.length → (portOf d p).state = .running → r.empty = false → r.lengthOk = false → (portOf d p).scan ≠ 2 →
    ∃ e : Dev, exec (.touchReportArrival p r) s = .next (s.after e) ∧ (portOf e p).length = (portOf d p).length + 1 ∧ (portOf e p).contacts = (portOf d p).contacts ∧ (portOf e p).reading = false) ∧
  (∀ (s : State) (d : Dev) p r, s.dev = d → p < d.touch.length → (portOf d p).state = .running → r.empty = false → r.lengthOk = true → (portOf d p).scan = 0 → (refill (nowNs d) (portOf d p)).tokens < 1000000000 →
    ∃ e : Dev, exec (.touchReportArrival p r) s = .next (s.after e) ∧ (portOf e p).rate = (portOf d p).rate + 1 ∧ (portOf e p).contacts = (portOf d p).contacts ∧ (portOf e p).scans = (portOf d p).scans) ∧
  (∀ (s : State) (d : Dev) p r c t, s.dev = d → p < d.touch.length → (portOf d p).state = .running → r.empty = false → r.lengthOk = true → (portOf d p).scan = 0 → 1000000000 ≤ (refill (nowNs d) (portOf d p)).tokens → r.hybrid = false → (portOf d p).contacts = [c] → (portOf d p).ignored = [] → r.points = [t] → t.ident = c.ident → t.tip = false →
    ∃ e : Dev, exec (.touchReportArrival p r) s = .next (s.after e) ∧ (portOf e p).scans = (portOf d p).scans + 1 ∧ (portOf e p).tokens = (refill (nowNs d) (portOf d p)).tokens - 1000000000 ∧ (portOf e p).contacts = [] ∧ (portOf e p).scan = 0) ∧
  (∀ (s : State) (d : Dev) p r, s.dev = d → p < d.touch.length → (portOf d p).state = .running → r.empty = true → 2 ≤ (portOf d p).emptyReads →
    exec (.touchReportArrival p r) s = .next (s.after (recoverPort p 3 .timeout true (updPort p (fun x => { x with reading := false, emptyReads := x.emptyReads + 1 }) d))))

/-- A haptic channel drives, brakes, pauses, rests and faults as chapter 12 says -/
def Obligations.HapticEvents : Prop :=
  (∀ (s : State) (d : Dev) k v w, s.dev = d → (hapOf d k).waiting = some w → (hapOf d k).state = .idle ∨ (hapOf d k).state = .pause ∨ (hapOf d k).state = .drive →
    exec (.hapticEffectStart k v) s = .next (s.after (startEffect k (updHap k (fun h => { h with hvdd := v }) (accountHalf k d))))) ∧
  (∀ (s : State) (d : Dev) k v, s.dev = d → (hapOf d k).waiting = none ∨ (hapOf d k).state = .brake →
    exec (.hapticEffectStart k v) s = .next (s.after (d))) ∧
  (∀ (s : State) (d : Dev) k m r, s.dev = d → k < d.haptic.channels.length → (hapOf d k).run = some r → (hapOf d k).state = .drive → (r.segments.head?.map (·.halfCycles)).getD 0 = 0 → 20 < m.bemf → m.freq = none →
    ∃ e : Dev, exec (.hapticHalfCycle k m) s = .next (s.after e) ∧ (hapOf e k).hvdd = m.hvdd ∧ (hapOf e k).noBemf = (hapOf d k).noBemf ∧ (hapOf e k).run.map (fun x => x.hcDone) = some (r.hcDone + 1) ∧ (hapOf e k).run.map (fun x => x.driveNs) = some (r.driveNs + m.length) ∧ (hapOf e k).state = .drive) ∧
  (∀ (s : State) (d : Dev) k r g q, s.dev = d → (hapOf d k).run = some r → r.segments = g :: q → r.segStart + g.time ≤ nowNs d → (hapOf d k).state = .drive → g.drive = true → g.halfCycles = 0 →
    exec (.hapticSegmentEnd k) s = .next (s.after (planHalf k (updHap k (fun h => { h with
        state := .brake, run := h.run.map fun e => { e with brakes := 0 } }) (accountHalf k d))))) ∧
  (∀ (s : State) (d : Dev) k r g, s.dev = d → (hapOf d k).run = some r → r.segments = [g] → r.segStart + g.time ≤ nowNs d → (hapOf d k).state = .pause → g.drive = false →
    exec (.hapticSegmentEnd k) s = .next (s.after (releaseBridge k 0 .idle d))) ∧
  (∀ (s : State) (d : Dev) k, s.dev = d → (hapOf d k).state = .drive ∨ (hapOf d k).state = .brake → (hapOf d k).tripped = false → (hapOf d k).trips < 3 →
    exec (.hapticOvercurrent k) s = .next (s.after (updHap k (fun h => { h with
        tripped := true, trips := h.trips + 1, ocTrips := h.ocTrips + 1, squares := trimSquares (nowNs d) h.squares }) d))) ∧
  (∀ (s : State) (d : Dev) k, s.dev = d → (hapOf d k).state = .drive ∨ (hapOf d k).state = .brake → (hapOf d k).tripped = false → 3 ≤ (hapOf d k).trips →
    exec (.hapticOvercurrent k) s = .next (s.after (faultChannel k 0 (updHap k (fun h => { h with
        tripped := true, trips := h.trips + 1, ocTrips := h.ocTrips + 1, squares := trimSquares (nowNs d) h.squares }) d)))) ∧
  (∀ (s : State) (d : Dev) k, s.dev = d → (hapOf d k).state = .drive ∨ (hapOf d k).state = .brake →
    exec (.hapticHardCurrent k) s = .next (s.after (faultChannel k 1 d))) ∧
  (∀ (s : State) (d : Dev) k, s.dev = d → d.haptic.lowSupply.testBit k = false →
    exec (.hvddLow k) s = .next (s.after (supplyLoss [2 * k, 2 * k + 1] 2 { d with haptic := { d.haptic with lowSupply := setBit d.haptic.lowSupply k true } }))) ∧
  (∀ (s : State) (d : Dev) k, s.dev = d → d.haptic.lowSupply.testBit k = true →
    exec (.hvddLow k) s = .next (s.after (d))) ∧
  (∀ (s : State) (d : Dev), s.dev = d → d.haptic.hot = false →
    exec .feedbackOvertemp s = .next (s.after (supplyLoss (List.range 8) 3 { d with haptic := { d.haptic with hot := true } }))) ∧
  (∀ (s : State) (d : Dev), s.dev = d → d.haptic.hot = true →
    exec .feedbackOvertemp s = .next (s.after (d))) ∧
  (∀ (s : State) (d : Dev) k, s.dev = d →
    exec (.hapticSupplyRecover (some k)) s = .next (s.after ({ d with haptic := { d.haptic with lowSupply := setBit d.haptic.lowSupply k false } }))) ∧
  (∀ (s : State) (d : Dev), s.dev = d →
    exec (.hapticSupplyRecover none) s = .next (s.after ({ d with haptic := { d.haptic with hot := false } }))) ∧
  (∀ (s : State) (d : Dev) k u r, s.dev = d → k < d.haptic.channels.length → (hapOf d k).run = some r → (hapOf d k).state = .drive → (if u then 5000 ≤ dutyMs (hapOf (accountHalf k d) k) (nowNs d) else 2000 ≤ contMs (hapOf (accountHalf k d) k) (nowNs d)) →
    ∃ e : Dev, exec (.hapticLimit k u) s = .next (s.after e) ∧ (hapOf e k).state = .brake ∧ (hapOf e k).limitStops = (hapOf d k).limitStops + 1 ∧ (hapOf e k).restDuty = u ∧ (hapOf e k).run.bind (·.endCause) = some 3 ∧ (hapOf e k).waiting = none) ∧
  (∀ (s : State) (d : Dev) k, s.dev = d → (hapOf d k).state = .rest → (hapOf d k).restDuty = false → (hapOf d k).restAt + ms 100 ≤ nowNs d →
    exec (.hapticRestEnd k) s = .next (s.after (updHap k (fun h => { h with state := .idle }) d))) ∧
  (∀ (s : State) (d : Dev) k, s.dev = d → (hapOf d k).state = .rest → (hapOf d k).restDuty = true → dutyMs (hapOf d k) (nowNs d) < 4000 →
    exec (.hapticRestEnd k) s = .next (s.after (updHap k (fun h => { h with state := .idle }) d))) ∧
  (∀ (s : State) (d : Dev) n up p, s.dev = d → p = nthD .zero n d.haptic.pins → p.enable = true → p.edge.testBit (if up then 0 else 1) = true → (∀ t, p.lastEdge = some t → t + ms p.guard ≤ nowNs d) →
    exec (.hapTrigEdge n up) s = .next (s.after (silentTrigger p.channel p.effect p.amplitude p.duration 1 none { d with haptic := { d.haptic with
        pins := modifyAt (fun p => { p with lastEdge := some (nowNs d) }) n d.haptic.pins } }))) ∧
  (∀ (s : State) (d : Dev) n up t, s.dev = d → (nthD .zero n d.haptic.pins).lastEdge = some t → nowNs d < t + ms (nthD .zero n d.haptic.pins).guard →
    exec (.hapTrigEdge n up) s = .next (s.after (d)))

/-- A block boundary sends the mixed block, counts it, and lands the changes that waited -/
def Obligations.AudioBlockBoundary : Prop :=
  (∀ (s : State) (d : Dev) i, s.dev = d → audioOn d = true → d.audio.lastBlock ≠ some (blockNs d) →
    ∃ e : Dev, exec (.audioBlockBoundary i) s = .next (s.after e) ∧ e.audio.blocks = d.audio.blocks + 1 ∧ e.audio.lastBlock = some (blockNs d) ∧ e.audio.sinks = (usedSinks d.audio).foldl (fun t c =>
        tput [] t c (sinkSignal d.audio (portInputs d.audio i) (gatherSources d.audio (portInputs d.audio i))
          ((usedSinks d.audio).foldl (fun t c => tput [] t c (sinkBlock d.audio ((List.range 32).map (busBlock d.audio)) d.audio.inputs c)) []) c)) []) ∧
  (∀ (s : State) (d : Dev) i, s.dev = d → (audioOn d = false ∨ d.audio.lastBlock = some (blockNs d)) →
    exec (.audioBlockBoundary i) s = .next (s.after (d))) ∧
  (∀ (s : State) (d : Dev) i w, s.dev = d → d.audio.lastBlock ≠ some (blockNs d) → domainOn d 10 = true → islandOn d 11 = true → d.audio.waiting = [w] → w.op = .audioStream → w.cmd.u8 25 = 0 → w.cmd.bit 26 0 = false → audObj w < d.audio.playback.length →
    ∃ e : Dev, exec (.audioBlockBoundary i) s = .next (s.after e) ∧ e.audio.waiting = [] ∧ (streamOf e.audio false (audObj w)).owner = some w.owner ∧ (streamOf e.audio false (audObj w)).running = false ∧ (streamOf e.audio false (audObj w)).format = w.cmd.u8 27 ∧ (streamOf e.audio false (audObj w)).ring = w.cmd.u32 40) ∧
  (∀ (s : State) (d : Dev) i w, s.dev = d → d.audio.lastBlock ≠ some (blockNs d) → domainOn d 10 = true → islandOn d 11 = true → d.audio.waiting = [w] → w.op = .audioStream → w.cmd.u8 25 = 3 → w.cmd.bit 26 0 = false → audObj w < d.audio.playback.length →
    ∃ e : Dev, exec (.audioBlockBoundary i) s = .next (s.after e) ∧ e.audio.waiting = [] ∧ streamOf e.audio false (audObj w) = { Stream.zero with latchHi := (streamOf d.audio false (audObj w)).latchHi }) ∧
  (∀ (s : State) (d : Dev) i w, s.dev = d → d.audio.lastBlock ≠ some (blockNs d) → domainOn d 10 = true → islandOn d 11 = true → d.audio.waiting = [w] → w.op = .audioStream → w.cmd.u8 25 = 2 → audObj w < (if w.cmd.bit 26 0 then d.audio.capture else d.audio.playback).length →
    ∃ e : Dev, exec (.audioBlockBoundary i) s = .next (s.after e) ∧ e.audio.waiting = [] ∧ (streamOf e.audio (w.cmd.bit 26 0) (audObj w)).running = false) ∧
  (∀ (s : State) (d : Dev) i w, s.dev = d → d.audio.lastBlock ≠ some (blockNs d) → domainOn d 10 = true → islandOn d 11 = true → d.audio.waiting = [w] → w.op = .audioBus → (∀ x ∈ waitDsts w, dstBusy d.audio x = false) → w.cmd.bit 25 0 = false → audObj w < d.audio.buses.length →
    ∃ e : Dev, exec (.audioBlockBoundary i) s = .next (s.after e) ∧ e.audio.waiting = [] ∧ (nthD Bus.zero (audObj w) e.audio.buses).owner = some w.owner ∧ (nthD Bus.zero (audObj w) e.audio.buses).gain = signed 16 (w.cmd.u16 28) ∧ (nthD Bus.zero (audObj w) e.audio.buses).nmax = w.cmd.u8 26) ∧
  (∀ (s : State) (d : Dev) i w, s.dev = d → d.audio.lastBlock ≠ some (blockNs d) → domainOn d 10 = true → islandOn d 11 = true → d.audio.waiting = [w] → w.op = .audioTone → w.cmd.bit 25 0 = false → audObj w < d.audio.tones.length →
    ∃ e : Dev, exec (.audioBlockBoundary i) s = .next (s.after e) ∧ e.audio.waiting = [] ∧ (nthD Tone.zero (audObj w) e.audio.tones).owner = some w.owner ∧ (nthD Tone.zero (audObj w) e.audio.tones).on = w.cmd.bit 25 1 ∧ (nthD Tone.zero (audObj w) e.audio.tones).freq = w.cmd.u16 26) ∧
  (∀ (s : State) (d : Dev) i w, s.dev = d → d.audio.lastBlock ≠ some (blockNs d) → domainOn d 10 = true → islandOn d 11 = true → d.audio.waiting = [w] → w.op = .audioRoute → (∀ x ∈ waitDsts w, dstBusy d.audio x = false) →
    ∃ e : Dev, exec (.audioBlockBoundary i) s = .next (s.after e) ∧ e.audio.waiting = [] ∧ (∃ r ∈ e.audio.routes, r.src = w.cmd.u16 24 ∧ r.dst = w.cmd.u16 26 ∧ r.gain = signed 16 (w.cmd.u16 28) ∧ liveRoute r = true)) ∧
  (∀ (s : State) (d : Dev) i w, s.dev = d → d.audio.lastBlock ≠ some (blockNs d) → domainOn d 10 = true → islandOn d 11 = true → d.audio.waiting = [w] → w.op = .audioUnroute → (∀ x ∈ waitDsts w, dstBusy d.audio x = false) →
    ∃ e : Dev, exec (.audioBlockBoundary i) s = .next (s.after e) ∧ e.audio.waiting = [] ∧ (∀ r ∈ e.audio.routes, r.src = w.cmd.u16 24 → r.dst = w.cmd.u16 26 → (r.owner = .secure ↔ w.owner = .secure) → liveRoute r = false)) ∧
  (∀ (s : State) (d : Dev) i w, s.dev = d → d.audio.lastBlock ≠ some (blockNs d) → domainOn d 10 = true → islandOn d 11 = true → d.audio.waiting = [w] → w.op = .audioMeter → w.cmd.bit 25 0 = false → w.cmd.u8 24 < d.audio.meters.length →
    ∃ e : Dev, exec (.audioBlockBoundary i) s = .next (s.after e) ∧ e.audio.waiting = [] ∧ nthD Meter.zero (w.cmd.u8 24) e.audio.meters = { Meter.zero with holder := some w.owner, point := w.cmd.u16 26, holdMs := w.cmd.u16 28 }) ∧
  (∀ (s : State) (d : Dev) i w, s.dev = d → d.audio.lastBlock ≠ some (blockNs d) → domainOn d 10 = true → islandOn d 11 = true → d.audio.waiting = [w] → w.op = .audioPort → w.cmd.u8 24 ≤ 3 → d.audio.tdm.length = 4 →
    ∃ e : Dev, exec (.audioBlockBoundary i) s = .next (s.after e) ∧ e.audio.waiting = [] ∧ (nthD Tdm.zero (w.cmd.u8 24) e.audio.tdm).enabled = w.cmd.bit 26 0 ∧ (nthD Tdm.zero (w.cmd.u8 24) e.audio.tdm).slots = w.cmd.u8 27) ∧
  (∀ (s : State) (d : Dev) i w, s.dev = d → d.audio.lastBlock ≠ some (blockNs d) → domainOn d 10 = true → islandOn d 11 = true → d.audio.waiting = [w] → w.op = .audioPort → w.cmd.u8 24 = 6 →
    ∃ e : Dev, exec (.audioBlockBoundary i) s = .next (s.after e) ∧ e.audio.waiting = [] ∧ e.audio.threshold = signed 16 (w.cmd.u16 26) ∧ e.audio.holdMs = w.cmd.u16 28) ∧
  (∀ (s : State) (d : Dev) i w, s.dev = d → d.audio.lastBlock ≠ some (blockNs d) → domainOn d 10 = true → islandOn d 11 = true → d.audio.waiting = [w] → w.op = .audioSidetone → (∀ x ∈ waitDsts w, dstBusy d.audio x = false) → w.cmd.bit 25 0 = true → w.cmd.u8 24 < d.audio.sides.length →
    ∃ e : Dev, exec (.audioBlockBoundary i) s = .next (s.after e) ∧ e.audio.waiting = [] ∧ (∃ t, e.audio.sides[w.cmd.u8 24]? = some t ∧ t.enable = true ∧ t.src = w.cmd.u16 26 ∧ t.dst = w.cmd.u16 28 ∧
        t.gain = signed 16 (w.cmd.u16 30)))

/-- Stream faults, silence, port power-down and clock loss are handled and reported -/
def Obligations.AudioPortEvents : Prop :=
  (∀ (s : State) (d : Dev) c k why, s.dev = d →
    exec (.audioStreamFault c k why) s = .next (s.after (streamFault c k why d))) ∧
  (∀ (s : State) (d : Dev) k, s.dev = d → (detOf d.audio k).active = true → d.audio.holdMs * 48 ≤ (detOf d.audio k).quiet →
    exec (.silenceHoldExpiry k) s = .next (s.after (updAudio (fun a => { a with detectors := tput .zero a.detectors k { detOf d.audio k with active := false } }) d))) ∧
  (∀ (s : State) (d : Dev) p x, s.dev = d → x = nthD Tdm.zero p d.audio.tdm → x.enabled = true → x.autoOff = true → x.off = false → (∀ k, k < 16 → inputUsed d.audio (0x2000 + p * 16 + k) = false ∧ silentFor d.audio (0x7000 + p * 16 + k) x.offMs = true) →
    exec (.tdmPortOff p) s = .next (s.after (raiseAt (blockNs d) 0x0A05 p (le8 0) [512] false
        (updAudio (fun a => { a with tdm := modifyAt (fun x => { x with off := true }) p a.tdm }) d)))) ∧
  (∀ (s : State) (d : Dev) o x, s.dev = d → x = nthD DpAudio.zero o d.audio.dp → x.enable = true → x.off = false → (∀ k, k < 8 → silentFor d.audio (0x6000 + o * 8 + k) x.offMs = true) →
    exec (.dpAudioOff o) s = .next (s.after (raiseAt (blockNs d) 0x0A05 5 (le8 0 ++ le8 o) [512] false
        (refreshDpAudio o (updAudio (fun a => { a with dp := modifyAt (fun x => { x with off := true }) o a.dp }) d))))) ∧
  (∀ (s : State) (d : Dev) p x, s.dev = d → x = nthD Tdm.zero p d.audio.tdm → x.enabled = true → x.master = false → x.clockOk = true →
    exec (.tdmClockLost p) s = .next (s.after (raiseAt (blockNs d) 0x0A05 p (le8 2) [512] false (updAudio (fun a => { a with
        tdm := modifyAt (fun x => { x with clockOk := false, clock := some { fadesIn := false, done := 0 } }) p a.tdm }) d)))) ∧
  (∀ (s : State) (d : Dev) p x, s.dev = d → p < d.audio.tdm.length → x = nthD Tdm.zero p d.audio.tdm → x.enabled = true → x.master = false → x.clockOk = false →
    ∃ e : Dev, exec (.tdmClockRestored p) s = .next (s.after e) ∧ (nthD Tdm.zero p e.audio.tdm).clockOk = true ∧ -50000 ≤ (nthD Tdm.zero p e.audio.tdm).rateErr ∧ (nthD Tdm.zero p e.audio.tdm).rateErr ≤ 50000 ∧ e.audio.routes = d.audio.routes)

/-- Slots are granted by class and rotating priority; refresh, self-refresh, tracking, retraining and fencing follow chapter 14 -/
def Obligations.DramEvents : Prop :=
  (∀ (s : State) (d : Dev) q, s.dev = d → domainOn d 8 = true → d.dram.trained = true →
    exec (.dramSlotArbitration q) s = .next (s.after (
        let k := (d.dram.position + 1) % 1024
        let owner := nthD 15 k (if k = 0 then (match d.dram.shadow with | some t => t.map fun b => b.toNat % 16 | none => liveSlots d) else liveSlots d)
        updDram (fun m => { m with position := k })
          (((if d.dram.remapping.isSome then [] else (mapChannels d.dram).filter fun c => (chanOf d c).state == .serving)).foldl
            (fun d c => grantSlot owner q c d) d)))) ∧
  (∀ (s : State) (d : Dev) c r, s.dev = d → (chanOf d c).state ≠ .selfRefresh → (chanOf d c).state ≠ .fenced → d.dram.trained = true → tget 0 (chanOf d c).owed (owedKey d.dram.allBank r (tget 0 (chanOf d c).pairs r)) < 8 →
    exec (.refreshDue c r true) s = .next (s.after (updChan c (fun x => { x with
          owed := tput 0 x.owed (owedKey d.dram.allBank r (tget 0 (chanOf d c).pairs r))
            (tget 0 (chanOf d c).owed (owedKey d.dram.allBank r (tget 0 (chanOf d c).pairs r)) + 1) })
        (updChan c (fun x => { x with
          allBank := d.dram.allBank,
          pairs := if d.dram.allBank then x.pairs else tput 0 x.pairs r ((tget 0 (chanOf d c).pairs r + 1) % 8) }) d)))) ∧
  (∀ (s : State) (d : Dev) c r, s.dev = d → (chanOf d c).state ≠ .selfRefresh → (chanOf d c).state ≠ .fenced → d.dram.trained = true →
    exec (.refreshDue c r false) s = .next (s.after (closeRows (fun b => b / 16 == c * 2 + r && (d.dram.allBank || b % 8 == tget 0 (chanOf d c).pairs r))
        (updChan c (fun x => { x with owed := tput 0 x.owed (owedKey d.dram.allBank r (tget 0 (chanOf d c).pairs r)) 0 })
          (updChan c (fun x => { x with
            allBank := d.dram.allBank,
            pairs := if d.dram.allBank then x.pairs else tput 0 x.pairs r ((tget 0 (chanOf d c).pairs r + 1) % 8) }) d))))) ∧
  (∀ (s : State) (d : Dev) c r b, s.dev = d → (chanOf d c).state = .selfRefresh ∨ (chanOf d c).state = .fenced →
    exec (.refreshDue c r b) s = .next (s.after (d))) ∧
  (∀ (s : State) (d : Dev) l, s.dev = d → d.dram.channels.length = 8 →
    ∃ e : Dev, exec (.mr4Read l) s = .next (s.after e) ∧ (∀ c, c < 8 → (chanOf e c).mr4 = (match l[c]? with | some v => if (chanOf d c).state = .fenced then (chanOf d c).mr4 else v % 8 | none => (chanOf d c).mr4))) ∧
  (∀ (s : State) (d : Dev) c, s.dev = d → d.dram.srIdle ≠ 0 → (chanOf d c).state = .serving →
    exec (.selfRefreshIdle c) s = .next (s.after (enterSelfRefresh c d))) ∧
  (∀ (s : State) (d : Dev) c, s.dev = d → (chanOf d c).state = .selfRefresh → memOn d = true →
    exec (.selfRefreshExit c) s = .next (s.after (updChan c (fun x => { x with state := .serving }) d))) ∧
  (∀ (s : State) (d : Dev) c t, s.dev = d → (chanOf d c).state = .serving ∨ (chanOf d c).state = .selfRefresh → memOn d = true → (∀ y ∈ d.dram.channels, y.state ≠ .tracking ∧ y.state ≠ .retraining) →
    exec (.dramTrackingDue c t) s = .next (s.after (updChan c (fun x => { x with state := .tracking, tracks := x.tracks + 1, lastTrack := now32 d, trackTemp := t }) d))) ∧
  (∀ (s : State) (d : Dev) c m p, s.dev = d → (chanOf d c).state = .tracking → m = true ∨ p = false →
    exec (.trackingPassEnd c m p) s = .next (s.after (startRetrain c d))) ∧
  (∀ (s : State) (d : Dev) c, s.dev = d → (chanOf d c).state = .tracking →
    exec (.trackingPassEnd c false true) s = .next (s.after (updChan c (fun x => { x with state := .serving }) d))) ∧
  (∀ (s : State) (d : Dev) c, s.dev = d → (chanOf d c).state = .serving →
    exec (.linkEccFail c) s = .next (s.after (startRetrain c (updChan c (fun x => { x with eccRetries := x.eccRetries + 1 }) d)))) ∧
  (∀ (s : State) (d : Dev) c, s.dev = d → (chanOf d c).state = .retraining →
    exec (.retrainEnd c true) s = .next (s.after (updChan c (fun x => { x with state := .serving }) d))) ∧
  (∀ (s : State) (d : Dev) c, s.dev = d → (chanOf d c).state = .retraining → (chanOf d c).attempts < 3 →
    exec (.retrainEnd c false) s = .next (s.after (updChan c (fun x => { x with attempts := x.attempts + 1, retrains := x.retrains + 1 }) d))) ∧
  (∀ (s : State) (d : Dev) c, s.dev = d → (chanOf d c).state = .retraining → 3 ≤ (chanOf d c).attempts →
    exec (.retrainEnd c false) s = .next (s.after (fenceChannel c d))) ∧
  (∀ (s : State) (d : Dev) m r, s.dev = d → d.power.boot = .running → d.dram.trained = false → m % 256 = 0 → nextBin d.dram.rate = some r →
    exec (.dramTrainingDone m) s = .next (s.after (updDram (fun x => { x with rate := r }) d))) ∧
  (∀ (s : State) (d : Dev) m, s.dev = d → d.power.boot = .running → d.dram.trained = false → m % 256 = 255 →
    exec (.dramTrainingDone m) s = .next (s.after (updDram (fun x => { x with
        trained := true, working := 255,
        channels := (List.range 8).map fun c => { nthD .zero c x.channels with state := .serving } }) d))) ∧
  (∀ (s : State) (d : Dev) m n t, s.dev = d → d.dram.remapping = some t →
    exec (.memRemapped m n) s = .next (s.after (recheckAll (endRemap m n d)))) ∧
  (∀ (s : State) (d : Dev) m n, s.dev = d → d.dram.remapping = none →
    exec (.memRemapped m n) s = .next (s.after (d))) ∧
  (∀ (s : State) (d : Dev) t, s.dev = d → d.dram.shadow = some t →
    exec .wheelWrap s = .next (s.after (recheckAll (swapTable d)))) ∧
  (∀ (s : State) (d : Dev), s.dev = d → d.dram.shadow = none →
    exec .wheelWrap s = .next (s.after (swapTable d))) ∧
  (∀ (s : State) (d : Dev), s.dev = d → nowNs d / 32000000 ≠ d.dram.window →
    exec .disturbWindowEnd s = .next (s.after (updDram (fun m => { m with disturbTh := m.disturbNext, window := nowNs d / 32000000 })
        ((tkeys d.dram.banks).foldl (fun d k => updBank k (fun b => { b with table := [] }) d) d)))) ∧
  (∀ (s : State) (d : Dev), s.dev = d → nowNs d / 32000000 = d.dram.window →
    exec .disturbWindowEnd s = .next (s.after (d)))

/-- Host accesses reach the byte their window maps; collisions are discarded, busy accesses retried; the march borrows and returns pages -/
def Obligations.PanMemoryEvents : Prop :=
  (∀ (s : State) (d : Dev) i o n w m l a, s.dev = d → hostReaches d (portOfIssuer d i) = true → 0 < n → o % 4096 + n ≤ 4096 → (∀ b, w = some b → b.length = n) → hostTarget d i false o w.isSome = .at_ a →
    exec (.hostWindowAccess i false o n w ⟨m, l⟩) s = .next (s.after (hostComplete (portOfIssuer d i) false a n w d))) ∧
  (∀ (s : State) (d : Dev) i o n w m l a, s.dev = d → hostReaches d (portOfIssuer d i) = true → 0 < n → o % 4096 + n ≤ 4096 → (∀ b, w = some b → b.length = n) → hostTarget d i true o w.isSome = .at_ a → (∀ r ∈ d.pan.retries, r.requester ≠ portOfIssuer d i) → (m = .clear ∨ (m = .fRead ∧ w = none)) →
    exec (.hostWindowAccess i true o n w ⟨m, l⟩) s = .next (s.after (hostComplete (portOfIssuer d i) true a n w (l.foldl (fun d r => portAsk (panBank a) r d) d)))) ∧
  (∀ (s : State) (d : Dev) k p o n m l q, s.dev = d → hostReaches d (portOfIssuer d (.inst k)) = true → 0 < n → o % 4096 + n ≤ 4096 → hostTarget d (.inst k) p o false = .faulted q →
    exec (.hostWindowAccess (.inst k) p o n none ⟨m, l⟩) s = .next (s.after (hostAnswer (List.replicate n 0xFF) false
        (windowFault k p q false (o / (if p then 4096 else 2097152)) d)))) ∧
  (∀ (s : State) (d : Dev) k p o n b m l q, s.dev = d → hostReaches d (portOfIssuer d (.inst k)) = true → 0 < n → o % 4096 + n ≤ 4096 → b.length = n → hostTarget d (.inst k) p o true = .faulted q →
    exec (.hostWindowAccess (.inst k) p o n (some b) ⟨m, l⟩) s = .next (s.after (windowFault k p q true (o / (if p then 4096 else 2097152)) d))) ∧
  (∀ (s : State) (d : Dev) i o n b l a, s.dev = d → hostReaches d (portOfIssuer d i) = true → 0 < n → o % 4096 + n ≤ 4096 → b.length = n → hostTarget d i true o true = .at_ a → (∀ r ∈ d.pan.retries, r.requester ≠ portOfIssuer d i) → n ≤ 8 - a % 8 →
    exec (.hostWindowAccess i true o n (some b) ⟨.fWrite, l⟩) s = .next (s.after (panCollide i o a (l.foldl (fun d r => portAsk (panBank a) r d) d)))) ∧
  (∀ (s : State) (d : Dev) i o n l a, s.dev = d → hostReaches d (portOfIssuer d i) = true → 0 < n → o % 4096 + n ≤ 4096 → hostTarget d i true o false = .at_ a → (∀ r ∈ d.pan.retries, r.requester ≠ portOfIssuer d i) →
    exec (.hostWindowAccess i true o n none ⟨.fWrite, l⟩) s = .next (s.after (holdRetry (portOfIssuer d i) i a n none (countBusy false a (l.foldl (fun d r => portAsk (panBank a) r d) d))))) ∧
  (∀ (s : State) (d : Dev) i o n b l a, s.dev = d → hostReaches d (portOfIssuer d i) = true → 0 < n → o % 4096 + n ≤ 4096 → b.length = n → hostTarget d i true o true = .at_ a → (∀ r ∈ d.pan.retries, r.requester ≠ portOfIssuer d i) →
    exec (.hostWindowAccess i true o n (some b) ⟨.fRead, l⟩) s = .next (s.after (holdRetry (portOfIssuer d i) i a n (some b) (countBusy true a (l.foldl (fun d r => portAsk (panBank a) r d) d))))) ∧
  (∀ (s : State) (d : Dev) r l, s.dev = d → d.pan.retries = r :: l →
    exec .panBusyRetry s = .next (s.after (((r :: l).filter (·.requester == r.requester)).foldl (fun d r => hostComplete r.requester true r.addr r.len r.write d)
        (updPan (fun p => { p with retries := (r :: l).filter (·.requester != r.requester) }) d)))) ∧
  (∀ (s : State) (d : Dev), s.dev = d → d.pan.testRunning = true → d.pan.borrowed = none → domainOn d 9 = true → d.pan.retry = [] → d.pan.testPage ≤ d.pan.testLast →
    exec .panBorrowStart s = .next (s.after (borrowPage d.pan.testPage (updPan (fun p => { p with testPage := p.testPage + 1 }) d)))) ∧
  (∀ (s : State) (d : Dev) e, s.dev = d → d.pan.testRunning = true → d.pan.borrowed = none → domainOn d 9 = true → d.pan.retry.find? (fun e => decide (e.2 + 1000000 ≤ nowNs d)) = some e →
    exec .panBorrowStart s = .next (s.after (borrowPage e.1 d))) ∧
  (∀ (s : State) (d : Dev) n, s.dev = d → d.pan.borrowed = some n →
    exec (.panBorrowRelease []) s = .next (s.after (updPanBank (n % 64) (fun b => { b with borrowed := false })
        (updPan (fun p => { p with borrowed := none, retry := p.retry.filter (·.1 != n) }) d)))) ∧
  (∀ (s : State) (d : Dev), s.dev = d →
    exec .panBorrowAbandon s = .next (s.after (abandonBorrow d)))

/-- Drained windows, quiesces, resets, function-level resets and PCIe resets reach what chapter 16 names -/
def Obligations.InstanceEvents : Prop :=
  (∀ (s : State) (d : Dev) n, s.dev = d →
    exec (.windowUnmapDrained n) s = .next (s.after (((instOf d n).unmapWaits).foldl (fun d k => landingDone k d) (updInst n (fun x => { x with draining := [], unmapWaits := [] }) d)))) ∧
  (∀ (s : State) (d : Dev) n, s.dev = d → (instOf d n).exists_ = true → (instOf d n).state = .quiescing → windingDown d n = false →
    exec (.quiesceComplete n) s = .next (s.after (becomeQuiesced n d))) ∧
  (∀ (s : State) (d : Dev) n, s.dev = d → windingDown d n = true →
    exec (.quiesceComplete n) s = .next (s.after (d))) ∧
  (∀ (s : State) (d : Dev) n, s.dev = d → (instOf d n).exists_ = true → (instOf d n).state = .resetting → (instOf d n).destroying = false →
    exec (.resetComplete n) s = .next (s.after (endReset n d))) ∧
  (∀ (s : State) (d : Dev) n, s.dev = d → (instOf d n).exists_ = true → (instOf d n).destroying = true → (instOf d n).draining = [] → (∀ o, o < 8 → viewportsOf d n o = []) →
    exec (.resetComplete n) s = .next (s.after (endReset n d))) ∧
  (∀ (s : State) (d : Dev) n, s.dev = d → (instOf d n).exists_ = true → (instOf d n).flr = false → (instOf d n).state = .active →
    exec (.vfFlr n) s = .next (s.after (startQuiesce n true (flrEvent n false (updInst n (fun x => { x with flr := true, flrStart := nowNs d, after := .flr })
        (updPage n (fun p => { p with msixOn := false }) d)))))) ∧
  (∀ (s : State) (d : Dev) n, s.dev = d → (instOf d n).exists_ = false ∨ (instOf d n).flr = true →
    exec (.vfFlr n) s = .next (s.after (updPage n (fun p => { p with msixOn := false }) d))) ∧
  (∀ (s : State) (d : Dev), s.dev = d →
    exec (.pfFlr false) s = .next (s.after (rollBackAll .manager (updPage 512 (fun p => { p with msixOn := false }) (resetPage 512 d))))) ∧
  (∀ (s : State) (d : Dev), s.dev = d → d.power.cfg.split = true →
    exec (.pfFlr true) s = .next (s.after (rollBackAll .delegate (updPage 513 (fun p => { p with msixOn := false }) (resetPage 513 d))))) ∧
  (∀ (s : State) (d : Dev), s.dev = d → d.power.cfg.split = false →
    exec (.pfFlr true) s = .next (s.after (d))) ∧
  (∀ (s : State) (d : Dev), s.dev = d → nthD false 0 d.power.perst = false →
    exec (.perstAssert 0) s = .next (s.after (
        let e := (portPages d 0).foldl (fun d k => updPage k (fun p => { p with msixOn := false }) d) d
        { e with
          bar2 := modifyAt (fun _ => 1024) 0 e.bar2, vfs := modifyAt (fun _ => false) 0 e.vfs,
          power := { e.power with
            perst := modifyAt (fun _ => true) 0 e.power.perst, perstA := (e.power.perstA + 1) % 256,
            perstB := (e.power.perstB + 0) % 256 } }))) ∧
  (∀ (s : State) (d : Dev), s.dev = d → d.power.cfg.split = false →
    exec (.perstAssert 1) s = .next (s.after (d))) ∧
  (∀ (s : State) (d : Dev) n, s.dev = d →
    exec (.perstRelease n) s = .next (s.after ({ d with power := { d.power with perst := modifyAt (fun _ => false) n d.power.perst } }))) ∧
  (∀ (s : State) (d : Dev) q, s.dev = d → nthD false 0 d.power.perst = false → domainOn d 0 = true → d.power.boot ≠ .running →
    exec (.pcieConfigRequest 0 q) s = .next (s.after ({ d with out := { d.out with cfg := some true } }))) ∧
  (∀ (s : State) (d : Dev) b, s.dev = d → nthD false 0 d.power.perst = false → domainOn d 0 = true → d.power.boot = .running →
    exec (.pcieConfigRequest 0 (.vfEnable b)) s = .next (s.after ({ d with vfs := modifyAt (fun _ => b) 0 d.vfs, out := { d.out with cfg := some false } }))) ∧
  (∀ (s : State) (d : Dev) n, s.dev = d → nthD false 0 d.power.perst = false → domainOn d 0 = true → d.power.boot = .running → n ∈ barSizes → nthD false 0 d.vfs = false →
    exec (.pcieConfigRequest 0 (.barSize n)) s = .next (s.after ({ d with bar2 := modifyAt (fun _ => n) 0 d.bar2, out := { d.out with cfg := some false } }))) ∧
  (∀ (s : State) (d : Dev) u n j l e r why, s.dev = d → (cvOf d u).jobs = j :: l → rakeRun n j d = (e, r, why) → ((rakePieces j.start.toNat j.length).length ≤ j.pieces + n ∨ why.isSome = true) →
    exec (.rakeJobEnd u n) s = .next (s.after (popJob u (finish r.ticket (why.getD (.ok, 0)).1 (why.getD (.ok, 0)).2
        (rakeResults (cvEnd r.cfg r.reg) (rakeDone r) (decide (r.length = 0)) why.isSome)
        (updCv u (fun x => { x with
          result := cvEnd r.cfg r.reg, done := rakeDone r, zeroLength := decide (r.length = 0), part := why.isSome,
          sequence := r.sequence, tag := r.tag, count := x.count + 1 }) e))))) ∧
  (∀ (s : State) (d : Dev) u n, s.dev = d → (cvOf d u).jobs = [] →
    exec (.rakeJobEnd u n) s = .next (s.after (d))) ∧
  (∀ (s : State) (d : Dev) u n j l e r, s.dev = d → (cvOf d u).jobs = j :: l → rakeRun n j d = (e, r, none) → j.pieces + n < (rakePieces j.start.toNat j.length).length →
    exec (.rakeJobEnd u n) s = .next (s.after (updCv u (fun x => { x with jobs := r :: l }) e)))

/-- References, PPS edges and SYNC steer, step or reject as chapter 2 says; a read latches the whole time -/
def Obligations.TideEvents : Prop :=
  (∀ (s : State) (d : Dev), s.dev = d →
    exec .tideRefFail s = .next (s.after (recheckHoldover (updTide (fun t => { t with refOk := false, returning := false }) d)))) ∧
  (∀ (s : State) (d : Dev), s.dev = d → d.tide.refOk = false →
    ∃ e : Dev, exec .tideRefRecover s = .next (s.after e) ∧ e.tide.refOk = true ∧ e.tide.returning = true ∧ e.tide.slew.natAbs ≤ 65536000000 ∧ e.tide.now = d.tide.now ∧ e.tide.locked = d.tide.locked ∧ e.tide.holdover = d.tide.holdover) ∧
  (∀ (s : State) (d : Dev) a, s.dev = d → d.tide.source ≠ 1 →
    exec (.tidePpsEdge a) s = .next (s.after (d))) ∧
  (∀ (s : State) (d : Dev) a x, s.dev = d → d.tide.source = 1 → x = ((d.tide.now : Int) - (a * 65536 : Nat)) % 65536000000000 → 2 * x ≤ 65536000000000 → d.tide.ppsSeen = false → d.tide.stepPermit = true → 65536000000 ≤ x →
    exec (.tidePpsEdge a) s = .next (s.after (stepTide (-x) (updTide (fun t => { t with ppsSeen := true }) d)))) ∧
  (∀ (s : State) (d : Dev) a x, s.dev = d → d.tide.source = 1 → x = ((d.tide.now : Int) - (a * 65536 : Nat)) % 65536000000000 → d.tide.ppsSeen = true ∨ d.tide.stepPermit = false → 65536000000 < x → x < 65536000000000 - 65536000000 →
    exec (.tidePpsEdge a) s = .next (s.after (updTide (fun t => { t with ppsReject := true, ppsRejects := t.ppsRejects + 1 }) d))) ∧
  (∀ (s : State) (d : Dev) a x, s.dev = d → d.tide.source = 1 → x = ((d.tide.now : Int) - (a * 65536 : Nat)) % 65536000000000 → x < 65536000000 →
    exec (.tidePpsEdge a) s = .next (s.after (steer 1310720 x (updTide (fun t => { t with ppsSeen := true }) d)))) ∧
  (∀ (s : State) (d : Dev), s.dev = d → d.tide.now % 65536000000000 ≤ 327680 ∨ 65536000000000 ≤ d.tide.now % 65536000000000 + 327680 →
    exec .tidePpsOutSecond s = .next (s.after (updTide (fun t => { t with ppsOut := true, ppsAt := t.now }) d))) ∧
  (∀ (s : State) (d : Dev), s.dev = d → 327680 < d.tide.now % 65536000000000 → d.tide.now % 65536000000000 + 327680 < 65536000000000 →
    exec .tidePpsOutSecond s = .next (s.after (d))) ∧
  (∀ (s : State) (d : Dev), s.dev = d → d.tide.ppsOut = true → 99000 * 65536 ≤ d.tide.now - d.tide.ppsAt → d.tide.now - d.tide.ppsAt ≤ 101000 * 65536 →
    exec .tidePpsOutEnd s = .next (s.after (updTide (fun t => { t with ppsOut := false }) d))) ∧
  (∀ (s : State) (d : Dev), s.dev = d → d.tide.now - d.tide.ppsAt < 99000 * 65536 →
    exec .tidePpsOutEnd s = .next (s.after (d))) ∧
  (∀ (s : State) (d : Dev), s.dev = d → d.tide.role = .master →
    exec .oxSyncSend s = .next (s.after (sendOx 0x33 (leBytes 10 d.tide.now ++ le8 d.tide.hops ++ le16 d.tide.masterNode ++ le8 d.tide.masterPriority) (treePorts d) d))) ∧
  (∀ (s : State) (d : Dev) p n q h (x : Int), s.dev = d → onTree d p = true → d.tide.parent = some p → d.tide.source = 2 → d.tide.electing = false → d.tide.masterNode = n → h + 1 ≤ 32 → (x - meanDelay (oxPortOf d p)).natAbs < 65536000000 →
    ∃ e : Dev, exec (.oxSyncReceived p n q h x) s = .next (s.after e) ∧ e.tide.role = .member ∧ e.tide.hops = h + 1 ∧ e.tide.slew = -(x - meanDelay (oxPortOf d p)) ∧ e.tide.now = d.tide.now ∧ e.tide.parent = some p) ∧
  (∀ (s : State) (d : Dev) p n q h (x : Int), s.dev = d → onTree d p = true → d.tide.parent = some p → d.tide.source = 2 → d.tide.electing = false → d.tide.masterNode = n → h + 1 ≤ 32 → 65536000000 ≤ (x - meanDelay (oxPortOf d p)).natAbs → d.tide.joining = true → d.tide.stepPermit = true → x - meanDelay (oxPortOf d p) ≤ d.tide.now →
    ∃ e : Dev, exec (.oxSyncReceived p n q h x) s = .next (s.after e) ∧ e.tide.role = .member ∧ e.tide.hops = h + 1 ∧ (e.tide.now : Int) = ((d.tide.now : Int) - (x - meanDelay (oxPortOf d p))) % 2 ^ 80 ∧ e.tide.stepSeen = true) ∧
  (∀ (s : State) (d : Dev) p n q h (x : Int), s.dev = d → onTree d p = true → d.tide.parent = some p → d.tide.source = 2 → d.tide.electing = false → d.tide.masterNode = n → h + 1 ≤ 32 → 65536000000 ≤ (x - meanDelay (oxPortOf d p)).natAbs → d.tide.joining = true → d.tide.stepPermit = false →
    ∃ e : Dev, exec (.oxSyncReceived p n q h x) s = .next (s.after e) ∧ e.tide.role = .isolated ∧ e.tide.hops = 0x3F ∧ e.tide.now = d.tide.now) ∧
  (∀ (s : State) (d : Dev) p n q h (x : Int), s.dev = d → onTree d p = false →
    exec (.oxSyncReceived p n q h x) s = .next (s.after (d))) ∧
  (∀ (s : State) (d : Dev), s.dev = d →
    exec .oxAnnounceSend s = .next (s.after ((treePorts d).foldl (fun e p =>
        sendOx 0x4B (le16 d.tide.node ++ le16 d.tide.domain ++ le8 d.tide.priority ++ le16 d.tide.masterNode ++
          le8 d.tide.masterPriority ++ le8 d.tide.hops ++ le8 (b2n (d.tide.parent == some p))) [p] e) d))) ∧
  (∀ (s : State) (d : Dev) p n q h b, s.dev = d → oxUp d p = true → (dykePort d p = false ∨ b = true) →
    exec (.oxAnnounceReceived p n q ⟨h, b⟩) s = .next (s.after (chooseMaster (updOx p (fun x => { x with masterNode := n, masterPriority := q, hops := h, child := b }) d)))) ∧
  (∀ (s : State) (d : Dev) p n q h, s.dev = d → (oxUp d p = false ∨ dykePort d p = true) →
    exec (.oxAnnounceReceived p n q ⟨h, false⟩) s = .next (s.after (d))) ∧
  (∀ (s : State) (d : Dev), s.dev = d → d.tide.role = .member →
    exec .masterLost s = .next (s.after (recheckHoldover (raise 0x0B07 0 (le16 d.tide.masterNode) [512] true (updTide (fun t => { t with
        electing := true, domainLost := true, locked := false, lockIn := 0, lockOut := 0, parent := none,
        ports := t.ports.map fun x => { x with hops := 0x3F, child := false } }) d))))) ∧
  (∀ (s : State) (d : Dev), s.dev = d → d.tide.electing = true →
    exec .oxElectionEnd s = .next (s.after (chooseMaster (updTide (fun t => { t with electing := false }) d))))

/-- Oxtas ports come up in stages, lose their link, and carry events, votes, lock messages and stream frames -/
def Obligations.OxtasEvents : Prop :=
  (∀ (s : State) (d : Dev) p, s.dev = d → linkOn d = true → (oxPortOf d p).enable = true → (oxPortOf d p).state = .down → (oxPortOf d p).hold = false →
    exec (.oxSignalDetect p) s = .next (s.after (updOx p (fun x => { x with state := .signal }) d))) ∧
  (∀ (s : State) (d : Dev) p, s.dev = d → linkOn d = true → (oxPortOf d p).enable = true → (oxPortOf d p).state = .down → (oxPortOf d p).hold = true →
    exec (.oxSignalDetect p) s = .next (s.after (updOx p (fun x => { x with signalSeen := true }) d))) ∧
  (∀ (s : State) (d : Dev) p, s.dev = d → (oxPortOf d p).hold = true → (oxPortOf d p).signalSeen = true → (oxPortOf d p).enable = true → (oxPortOf d p).state = .down →
    exec (.oxDownHoldEnd p) s = .next (s.after (updOx p (fun x => { x with hold := false, signalSeen := false, state := .signal }) d))) ∧
  (∀ (s : State) (d : Dev) p n m q k, s.dev = d → linkOn d = true → (oxPortOf d p).state = .signal →
    exec (.oxBringupStageDone ⟨p, k⟩ n m q) s = .next (s.after (updOx p (fun x => { x with state := .aligned }) d))) ∧
  (∀ (s : State) (d : Dev) p n m q k, s.dev = d → linkOn d = true → (oxPortOf d p).state = .aligned → k ≤ 64 →
    exec (.oxBringupStageDone ⟨p, k⟩ n m q) s = .next (s.after (updOx p (fun x => { x with state := .hello, known := false, clashed := false }) d))) ∧
  (∀ (s : State) (d : Dev) p n m q k, s.dev = d → (oxPortOf d p).state = .aligned → 64 < k →
    exec (.oxBringupStageDone ⟨p, k⟩ n m q) s = .next (s.after (d))) ∧
  (∀ (s : State) (d : Dev) p n m q k, s.dev = d → linkOn d = true → (oxPortOf d p).state = .hello →
    exec (.oxBringupStageDone ⟨p, k⟩ n m q) s = .next (s.after (decideHello p (updOx p (fun x => { x with peerNode := n, peerDomain := m, peerPriority := q, known := true }) d)))) ∧
  (∀ (s : State) (d : Dev) p n m q k, s.dev = d → linkOn d = true → (oxPortOf d p).state = .measured → 16 ≤ (oxPortOf d p).delays.length →
    exec (.oxBringupStageDone ⟨p, k⟩ n m q) s = .next (s.after (chooseMaster (updOx p (fun x => { x with state := .up, hops := 0x3F }) d)))) ∧
  (∀ (s : State) (d : Dev) p n m q k, s.dev = d → (oxPortOf d p).state = .measured → (oxPortOf d p).delays.length < 16 →
    exec (.oxBringupStageDone ⟨p, k⟩ n m q) s = .next (s.after (d))) ∧
  (∀ (s : State) (d : Dev) p, s.dev = d → (oxPortOf d p).state ≠ .down → (oxPortOf d p).state ≠ .up → (oxPortOf d p).stopped = false →
    exec (.oxBringupLimit p) s = .next (s.after (portToDown p d))) ∧
  (∀ (s : State) (d : Dev) p n, s.dev = d → ((oxPortOf d p).state = .up ∨ (oxPortOf d p).stopped = true) →
    exec (.oxLinkDown p n) s = .next (s.after (portToDown p (linkDownEvent p (dropTx p (updOx p (fun x => { x with lostMsgs := x.lostMsgs + BitVec.ofNat 32 n }) d)))))) ∧
  (∀ (s : State) (d : Dev) p n, s.dev = d → (oxPortOf d p).state ≠ .up → (oxPortOf d p).stopped = false →
    exec (.oxLinkDown p n) s = .next (s.after (d))) ∧
  (∀ (s : State) (d : Dev) p a b x y, s.dev = d → (oxPortOf d p).state = .measured ∨ (oxPortOf d p).state = .up →
    exec (.oxDelayMeasure p a b x y) s = .next (s.after (updOx p (fun q => { q with delays := (((y - a) - (x - b)) :: q.delays).take 16 }) d))) ∧
  (∀ (s : State) (d : Dev) p n m t c b, s.dev = d → onTree d p = true → m = d.tide.node → m < 16384 →
    exec (.oxEventReceived p n m t c b) s = .next (s.after (deliverMessage c n t.toNat b d))) ∧
  (∀ (s : State) (d : Dev) p n m t c b, s.dev = d → onTree d p = true → m ≠ d.tide.node → 16384 ≤ m →
    exec (.oxEventReceived p n m t c b) s = .next (s.after (
        let e := deliverMessage c n t.toNat b d
        sendOx 0x55 (eventMessage c m n t.toNat b) (otherPorts e p) e))) ∧
  (∀ (s : State) (d : Dev) p n m t c b, s.dev = d → onTree d p = true → m ≠ d.tide.node → m < 16384 →
    exec (.oxEventReceived p n m t c b) s = .next (s.after (sendOx 0x55 (eventMessage c m n t.toNat b) (otherPorts d p) d))) ∧
  (∀ (s : State) (d : Dev) p n m t c b, s.dev = d → onTree d p = false →
    exec (.oxEventReceived p n m t c b) s = .next (s.after (d))) ∧
  (∀ (s : State) (d : Dev) p m, s.dev = d → onTree d p = true → m.dest = d.tide.node →
    exec (.oxCommitReceived p m) s = .next (s.after (addVote m.ballot m.node m.status m.isResult d))) ∧
  (∀ (s : State) (d : Dev) p m, s.dev = d → onTree d p = true → m.dest ≠ d.tide.node →
    exec (.oxCommitReceived p m) s = .next (s.after (sendOx 0x66
        (le8 (b2n m.isResult) ++ le32 m.ballot.toNat ++ le16 m.dest ++ le16 m.node ++ le16 m.status) (otherPorts d p) d))) ∧
  (∀ (s : State) (d : Dev) p m, s.dev = d → onTree d p = false →
    exec (.oxCommitReceived p m) s = .next (s.after (d))) ∧
  (∀ (s : State) (d : Dev) p g a b n o c, s.dev = d → onTree d p = true → groupOf d g = none →
    exec (.oxLockReceived p g (.define a b n o c)) s = .next (s.after (sendLock g (.define a b n o c) (otherPorts d p)
        (updTide (fun t => { t with groups := tput none t.groups g (some { Group.zero with
          t0 := a, period := b, leaderNode := n, leaderOutput := o, cutOffset := c, heard := true }) }) d)))) ∧
  (∀ (s : State) (d : Dev) p g n o a b, s.dev = d → onTree d p = true → (groupOf d g).map (·.leaderNode) = some d.tide.node →
    exec (.oxLockReceived p g (.quiet n o a b)) s = .next (s.after (leaderQuiet g (n * 8 + o) b a d))) ∧
  (∀ (s : State) (d : Dev) p g n o, s.dev = d → onTree d p = true → (groupOf d g).map (·.leaderNode) = some d.tide.node →
    exec (.oxLockReceived p g (.busy n o)) s = .next (s.after (updGroup g (fun x => { x with quiet := x.quiet.filter (·.1 != n * 8 + o) }) d))) ∧
  (∀ (s : State) (d : Dev) p g m k, s.dev = d → onTree d p = true →
    exec (.oxLockReceived p g (.stillEnter m k)) s = .next (s.after (
        let e := updGroup g (fun x => { x with still := true, divisor := m, fromIndex := k, wakeIndex := none }) d
        sendLock g (.stillEnter m k) (otherPorts e p) e))) ∧
  (∀ (s : State) (d : Dev) p g k, s.dev = d → onTree d p = true →
    exec (.oxLockReceived p g (.wake k)) s = .next (s.after (wakeGroupAt g k (sendLock g (.wake k) (otherPorts d p) d)))) ∧
  (∀ (s : State) (d : Dev) p g a b t, s.dev = d → onTree d p = true → (groupOf d g).map (·.leaderNode) = some d.tide.node →
    exec (.oxLockReceived p g (.wakeAsk a b t)) s = .next (s.after (leaderWake g t d))) ∧
  (∀ (s : State) (d : Dev) p g a b t, s.dev = d → onTree d p = true → (groupOf d g).map (·.leaderNode) ≠ some d.tide.node →
    exec (.oxLockReceived p g (.wakeAsk a b t)) s = .next (s.after (sendLock g (.wakeAsk a b t) (otherPorts d p) d))) ∧
  (∀ (s : State) (d : Dev) p g x, s.dev = d → onTree d p = false →
    exec (.oxLockReceived p g x) s = .next (s.after (d))) ∧
  (∀ (s : State) (d : Dev) p k w h n b i m, s.dev = d → importOf d k = some i → i.port = p → oxUp d p = true → b.length ≤ i.size → [0, 1, 2].find? (fun m => i.latest != some m && !(importBusy d k).contains m) = some m → locFail d (issuerOf i.owner) false true (importBuf i m) b.length = none →
    exec (.oxStreamFrameReceived p k w h n b) s = .next (s.after (updImport k (some { i with
          latest := some m, frames := i.frames + 1, lastFrame := n, lost := false,
          sizes := modifyAt (fun _ => (w, h)) m (if i.sizes.isEmpty then List.replicate 3 (0, 0) else i.sizes) })
        (locWrite d (issuerOf i.owner) false (importBuf i m) b)))) ∧
  (∀ (s : State) (d : Dev) p k w h n b i, s.dev = d → importOf d k = some i → i.size < b.length →
    exec (.oxStreamFrameReceived p k w h n b) s = .next (s.after (d))) ∧
  (∀ (s : State) (d : Dev) k i, s.dev = d → importOf d k = some i → i.lost = false →
    exec (.streamLost true k) s = .next (s.after (raise 0x0B09 k (le8 k ++ le8 i.port ++ le32 i.lastFrame.toNat) (512 :: ownerPages i.owner).eraseDups false
        (updImport k (some { i with lost := true }) d)))) ∧
  (∀ (s : State) (d : Dev) k i, s.dev = d → exportOf d k = some i → i.lost = false →
    exec (.streamLost false k) s = .next (s.after (raise 0x0B09 k (le8 k ++ le8 i.port ++ le32 i.lastFrame.toNat) [512] false
        (updExport k (some { i with lost := true }) d))))

/-- Wake events, samples, voltage steps, stalls and the state switch do what chapter 18 says -/
def Obligations.PowerEvents : Prop :=
  (∀ (s : State) (d : Dev) n, s.dev = d → n ≤ 7 → n ≠ 6 ∨ instantNear d = true → d.power.boot = .running →
    exec (.wakeEvent n) s = .next (s.after (wakeDevice n d))) ∧
  (∀ (s : State) (d : Dev) b n, s.dev = d → d.power.pendOn.contains (b, n) = true →
    exec (.domainSwitchedOn b n) s = .next (s.after (targetResumes b n (markTarget b n true d)))) ∧
  (∀ (s : State) (d : Dev) l, s.dev = d → d.power.boot ≠ .dark → l.length = 12 →
    ∃ e : Dev, exec (.thermalSample l) s = .next (s.after e) ∧ e.power.temps = l.map (clampInt (-32768) 32767) ∧ d.power.maxSeen ≤ e.power.maxSeen ∧ tmax e.power ≤ e.power.maxSeen ∧ e.power.level = thermalLevel d.power.level (tmax e.power) ∧ e.power.vceil = thermalCeiling e.power.level (tmax e.power)) ∧
  (∀ (s : State) (d : Dev) n, s.dev = d → d.power.boot = .running →
    ∃ e : Dev, exec (.paceSample n) s = .next (s.after e) ∧ e.power.paceNow = min 65535 n ∧ e.power.paceHist = (min 65535 n :: d.power.paceHist).take 100 ∧ e.power.vcore = d.power.vcore) ∧
  (∀ (s : State) (d : Dev), s.dev = d → d.power.boot = .running → d.power.avsFault = false → d.power.paceAvs = none →
    exec (.avsStep true) s = .next (s.after (updPower (fun p => { p with avsBad := 0 }) d))) ∧
  (∀ (s : State) (d : Dev) n, s.dev = d → d.power.boot = .running → d.power.avsFault = false → d.power.paceAvs = some n → n < 1000 →
    ∃ e : Dev, exec (.avsStep true) s = .next (s.after e) ∧ e.power.vcore = clampCore d.power (d.power.vcore + 20) ∧ e.power.paceAvs = none ∧ e.power.avsBad = 0) ∧
  (∀ (s : State) (d : Dev) n, s.dev = d → d.power.boot = .running → d.power.avsFault = false → d.power.paceAvs = some n → 1000 ≤ n → n < d.power.target →
    ∃ e : Dev, exec (.avsStep true) s = .next (s.after e) ∧ e.power.vcore = clampCore d.power (d.power.vcore + 5) ∧ e.power.paceAvs = none ∧ e.power.avsBad = 0) ∧
  (∀ (s : State) (d : Dev) n, s.dev = d → d.power.boot = .running → d.power.avsFault = false → d.power.paceAvs = some n → 1000 ≤ n → 104 * d.power.target < 100 * n → 9 ≤ d.power.paceHigh →
    ∃ e : Dev, exec (.avsStep true) s = .next (s.after e) ∧ e.power.vcore = clampCore d.power (d.power.vcore - 5) ∧ e.power.paceAvs = none) ∧
  (∀ (s : State) (d : Dev), s.dev = d → d.power.boot = .running → d.power.avsFault = false → d.power.avsBad < 2 →
    exec (.avsStep false) s = .next (s.after (updPower (fun p => { p with avsErrors := p.avsErrors + 1, avsBad := p.avsBad + 1 }) d))) ∧
  (∀ (s : State) (d : Dev), s.dev = d → d.power.boot = .running → d.power.avsFault = false → 2 ≤ d.power.avsBad →
    exec (.avsStep false) s = .next (s.after (avsEvent true (updPower (fun p => { p with avsErrors := p.avsErrors + 1, avsBad := p.avsBad + 1, avsFault := true }) d)))) ∧
  (∀ (s : State) (d : Dev), s.dev = d → d.power.avsFault = true →
    exec (.avsRetry true) s = .next (s.after (avsEvent false (updPower (fun p => { p with avsFault := false, avsBad := 0 }) d)))) ∧
  (∀ (s : State) (d : Dev), s.dev = d → d.power.avsFault = true →
    exec (.avsRetry false) s = .next (s.after (updPower (fun p => { p with avsErrors := p.avsErrors + 1 }) d))) ∧
  (∀ (s : State) (d : Dev) u h, s.dev = d → d.power.boot = .running → populated.contains u = true → unitOff d u = false → (unitOf d u).isolated = false → (unitOf d u).recovering = false → recentStalls d (unitOf d u) = [] →
    ∃ e : Dev, exec (.stallSentinelExpiry u h) s = .next (s.after e) ∧ (unitOf e u).recovering = true ∧ (unitOf e u).isolated = false ∧ e.sup.lastUnit = u ∧ e.sup.stalls = min 65535 (d.sup.stalls + 1)) ∧
  (∀ (s : State) (d : Dev) u h a b l, s.dev = d → d.power.boot = .running → populated.contains u = true → unitOff d u = false → u < 0x310 ∨ 0x317 < u → (unitOf d u).isolated = false → (unitOf d u).recovering = false → recentStalls d (unitOf d u) = a :: b :: l →
    ∃ e : Dev, exec (.stallSentinelExpiry u h) s = .next (s.after e) ∧ (unitOf e u).recovering = false ∧ (unitOf e u).isolated = true ∧ e.sup.lastUnit = u) ∧
  (∀ (s : State) (d : Dev) u, s.dev = d → (unitOf d u).recovering = true →
    exec (.unitRecovered u) s = .next (s.after (updUnit u (fun r => { r with recovering := false }) d))) ∧
  (∀ (s : State) (d : Dev) x t, s.dev = d → d.power.entering = some x → x.ticket = some t → d.aux = [] → (∀ o, o < 8 → (outOf d o).enabled = true → activeDone (outOf d o) = true) →
    exec .powerStateSwitch s = .next (s.after (sleepDevice x.target (finish t .ok 0 (le8 (devCode x.target)) d)))) ∧
  (∀ (s : State) (d : Dev), s.dev = d → d.aux ≠ [] →
    exec .powerStateSwitch s = .next (s.after (d))) ∧
  (∀ (s : State) (d : Dev), s.dev = d → d.power.entering = none →
    exec .powerStateSwitch s = .next (s.after (d)))

/-- A step with a command at the front of the queue is exec of it on the state with the queue's rest -/
def Obligations.StepRunsTheFrontCommand : Prop :=
  (∀ c r (s : State), step { s with pending := c :: r } = exec c { s with pending := r }) ∧
  (∀ s : State, s.pending = [] → step s = .next { s with
    dev := flushEvents (servePorts (tickRakes (endReturn { s.dev with tide := tideTick s.dev.tide }))) }) ∧
  (∀ t : Tide, t.rate = 0 → t.slew = 0 → 0 ≤ t.resid → t.resid < 100000000000 →
    tideTick t = { t with now := (t.now + 4 * 65536) % 2 ^ 80, ports := t.ports.map tickPort })

/-- No command faults or is refused: exec of every row answers a next state with the same queue -/
def Obligations.EveryCommandAnswersNext : Prop :=
  ∀ (i : Instr) (s : State), ∃ t, exec i s = .next t ∧ t.pending = s.pending

/-- State.reset has no command, no layer, no instance, every output disabled, legal fuses and memories in their form -/
def Obligations.ResetValues : Prop :=
  State.reset.pending = [] ∧ State.reset.dev.layers = [] ∧ State.reset.dev.insts = [] ∧ State.reset.dev.txns = [] ∧
  State.reset.dev.tickets = [] ∧ State.reset.dev.pages = [] ∧ (∀ x ∈ State.reset.dev.outputs, x.enabled = false ∧ x.mode = none) ∧
  (∀ h ∈ State.reset.dev.harvest, h.running = false) ∧ (∀ p ∈ State.reset.dev.touch, p.state = .off) ∧
  (∀ h ∈ State.reset.dev.haptic.channels, h.state = .off) ∧ State.reset.dev.tide.now = 0 ∧ State.reset.dev.tide.source = 0 ∧
  State.reset.dev.power.boot = .supplyHold ∧ State.reset.dev.dramMem = [] ∧ State.reset.dev.panMem = [] ∧
  State.reset.dev.MemoriesWf ∧ State.reset.fuses.Legal

/-- Every step keeps the fuses legal and only ever burns more of them -/
def Obligations.FusesStayLegalAndOnlyGain : Prop :=
  ∀ s t : State, s.fuses.Legal → step s = .next t → t.fuses.Legal ∧ s.fuses.Gain t.fuses

/-- Every step keeps local DRAM, pan memory and both frame stores in their one form -/
def Obligations.MemoriesKeepTheirForm : Prop :=
  ∀ s t : State, s.dev.MemoriesWf → step s = .next t → t.dev.MemoriesWf

/-- A command to a page that is not active, or that fails a check, replies its status and changes nothing else -/
def Obligations.FailedCommandsChangeNothing : Prop :=
  (∀ op c (s : State), enginesRun s.dev = false → exec (instrOf op c) s = .next (s.after s.dev)) ∧
  (∀ op c (s : State), enginesRun s.dev = true → pageState (takenDev op c s) c.issuer ≠ .active →
    exec (instrOf op c) s = .next (s.after (finish (ticketOf op c s) .quiesced 0 []
      (updQueue (pageKey c.issuer) (b2n c.urgent) (fun q => { q with quiesced := q.quiesced + 1 }) (takenDev op c s))))) ∧
  (∀ op c (s : State) d st n, enginesRun s.dev = true → pageState (takenDev op c s) c.issuer = .active →
    validate op c (takenDev op c s) = (d, .error (st, n)) → op ≠ .commit → op ≠ .prepare →
    exec (instrOf op c) s = .next (s.after (finish (ticketOf op c s) st n [] d)) ∧ d.quiet = (takenDev op c s).quiet)

/-- A command with flag bit 2 that passes its checks joins its open transaction, last, and nothing else changes -/
def Obligations.StagedCommandsJoinTheirTransaction : Prop :=
  ∀ op c (s : State) d b x, enginesRun s.dev = true → pageState (takenDev op c s) c.issuer = .active →
    validate op c (takenDev op c s) = (d, .ok b) → c.inTxn = true → namedTxn d c = some x →
    exec (instrOf op c) s = .next (s.after (finish (ticketOf op c s) .ok x.changes.length
      (stagedResults op x.changes.length { act := .cmd op, cmd := c, table := b, obj := 0xFFFF, outs := [] })
      (updTxn x.id (fun x => { x with
        changes := x.changes ++ [{ act := .cmd op, cmd := c, table := b, obj := 0xFFFF, outs := [] }] }) d)))

/-- A layer command that passes its checks names an existing layer that its issuer owns or, as manager, may name -/
def Obligations.LayerCommandsNeedTheirLayer : Prop :=
  ∀ op c (s : State) d b, op ∈ [Op.layerDestroy, .layerSource, .layerPlace, .layerBlend, .layerEnable, .layerRate, .layerPalette,
      .layerClick, .layerQuery] → Accepted op c s d b →
    ∃ l, layerOf (viewOf (takenDev op c s)) (c.u16 24) = some l ∧ mayName l.owner c.issuer = true ∧
      (∀ n, c.issuer = .inst n → l.owner = .inst n)

/-- A reply takes its 32 bytes of its queue's ring in DRAM, advances the tail, and changes no other byte -/
def Obligations.RepliesReachTheirRing : Prop :=
  ∀ (t : Ticket) (r : Reply) (d : Dev) (q : SubQueue) a ro, t.orphan = false →
    queueOf (pageOf d (pageKey t.issuer)) (b2n t.urgent) = q → q.running = true → q.rloc = false →
    locFail d t.issuer false true (q.rqBase.toNat + q.rqTail * 32) 32 = none →
    mapByte d t.issuer false (q.rqBase.toNat + q.rqTail * 32) = .ok (a, ro) →
    (q.rqBase.toNat + q.rqTail * 32) % 2097152 ≤ 2097120 → Memory.wf d.dramMem →
    memRead (writeReply t r d).dramMem a 32 = replyBytes r ∧
      (∀ j, j < a ∨ a + 32 ≤ j → memGet (writeReply t r d).dramMem j = memGet d.dramMem j) ∧
      (queueOf (pageOf (writeReply t r d) (pageKey t.issuer)) (b2n t.urgent)).rqTail = (q.rqTail + 1) % q.depth ∧
      (writeReply t r d).panMem = d.panMem ∧ (writeReply t r d).fsA = d.fsA ∧ (writeReply t r d).fsB = d.fsB

/-- An event is masked, lost or stored at the tail of its page's event queue, and changes no other byte -/
def Obligations.EventsReachTheirQueue : Prop :=
  (∀ k (e : Event) (d : Dev), (pageOf d k).eventMask.getLsbD (e.code / 256) = false → writeEvent k e d = d) ∧
  (∀ k (e : Event) (d : Dev), (pageOf d k).eventMask.getLsbD (e.code / 256) = true →
    (pageOf d k).eq.running = false ∨ ((pageOf d k).eq.tail + 1) % (pageOf d k).eq.depth = (pageOf d k).eq.head →
    writeEvent k e d = updPage k (fun p => { p with eq := { p.eq with lost := p.eq.lost + 1, lostPending := true } }) d) ∧
  (∀ k (e : Event) (d : Dev) a ro, (pageOf d k).eventMask.getLsbD (e.code / 256) = true → (pageOf d k).eq.running = true →
    ((pageOf d k).eq.tail + 1) % (pageOf d k).eq.depth ≠ (pageOf d k).eq.head → (pageOf d k).eq.loc = false →
    locFail d (issuerOfKey k) false true ((pageOf d k).eq.base.toNat + (pageOf d k).eq.tail * 32) 32 = none →
    mapByte d (issuerOfKey k) false ((pageOf d k).eq.base.toNat + (pageOf d k).eq.tail * 32) = .ok (a, ro) →
    ((pageOf d k).eq.base.toNat + (pageOf d k).eq.tail * 32) % 2097152 ≤ 2097120 → Memory.wf d.dramMem →
    memRead (writeEvent k e d).dramMem a 32 = eventBytes e (pageOf d k).eq.lostPending ∧
      (∀ j, j < a ∨ a + 32 ≤ j → memGet (writeEvent k e d).dramMem j = memGet d.dramMem j) ∧
      (pageOf (writeEvent k e d) k).eq.tail = ((pageOf d k).eq.tail + 1) % (pageOf d k).eq.depth ∧
      (pageOf (writeEvent k e d) k).eq.lostPending = false ∧ (writeEvent k e d).panMem = d.panMem)

/-- Completing commands and writing the step's events change only rings, tickets, fences and what writing memory counts -/
def Obligations.RepliesAndEventsTouchNothingElse : Prop :=
  (∀ t st n b (d : Dev), (finish t st n b d).quiet = d.quiet) ∧ (∀ d : Dev, (flushEvents d).quiet = d.quiet)

/-- A newly created layer has the values of R148, and a layer without source or with an empty rectangle shows nothing -/
def Obligations.NewLayerTakesNoPart : Prop :=
  (∀ c s d b ch, Lands .layerCreate c s d b ch →
    ∃ E : Dev, exec (.layerCreate c) s = .next (s.after (finish (ticketOf .layerCreate c s) .ok 0 (le16 ch.obj) E)) ∧
      ∃ l, layerOf E ch.obj = some l ∧ l.src = none ∧ l.crop = { x := 0, y := 0, w := 0, h := 0 } ∧
        l.dst = { x := 0, y := 0, w := 0, h := 0 } ∧ l.visible = false ∧ l.input = false ∧ l.mode = 1 ∧ l.alpha = 0xFF ∧
        l.classW = false ∧ l.z = c.u16 26) ∧
  (∀ (d : Dev) (l : Layer), l.src = none ∨ l.crop.w = 0 ∨ l.crop.h = 0 ∨ l.dst.w = 0 ∨ l.dst.h = 0 → visibleRects d l = []) ∧
  (∀ (m : Mode) (fl : FrameLayer) b, fl.clips = [] → meetsBand m fl b = false) ∧
  (∀ (d : Dev) o fl, fl ∈ frameLayers d o →
    fl.layer.src = none ∨ fl.layer.crop.w = 0 ∨ fl.layer.crop.h = 0 ∨ fl.layer.dst.w = 0 ∨ fl.layer.dst.h = 0 → fl.clips = [])

/-- A pan address is its bank, word and byte, one to one; a page has one bank and 64 pages have 64 -/
def Obligations.PanAddressesSelectBankWordByte : Prop :=
  (∀ a, panBank a = a / 2 ^ 12 % 2 ^ 6 ∧ panWord a = a / 2 ^ 18 % 2 ^ 7 * 512 + a / 2 ^ 3 % 2 ^ 9) ∧
  (∀ a b, a < 2 ^ 25 → b < 2 ^ 25 → panBank a = panBank b → panWord a = panWord b → a % 8 = b % 8 → a = b) ∧
  (∀ a b, a / 4096 = b / 4096 → panBank a = panBank b) ∧
  (∀ p q, p < q → q < p + 64 → panBank (p * 4096) ≠ panBank (q * 4096))

/-- Band b covers lines 8b to min(8b + 7, H - 1) across the active width; an output has ceil(H / 8) bands -/
def Obligations.BandsOfAnOutput : Prop :=
  (∀ (m : Mode) b, 8 * b < m.vActive → (bandRect m b).x = 0 ∧ (bandRect m b).y = 8 * b ∧ (bandRect m b).w = m.hActive ∧
    (bandRect m b).y + (bandRect m b).h = min (8 * b + 7) (m.vActive - 1) + 1) ∧
  (∀ m : Mode, bandCount m = (m.vActive + 7) / 8) ∧
  (∀ m : Mode, m.hActive = 3840 → m.vActive = 2160 → bandCount m = 270) ∧
  (∀ m : Mode, m.hActive = 7680 → m.vActive = 4320 → bandCount m = 540)

/-- A host access to a window page that is not mapped, or a write to a read-only one, is dropped, counted and reported -/
def Obligations.WindowFaultsReadOnesAndDropWrites : Prop :=
  (∀ (s : State) (d : Dev) k p o n m l x, s.dev = d → hostReaches d (portOfIssuer d (.inst k)) = true → d.power.boot = .running → (instOf d k).exists_ = true → 0 < n → o % 4096 + n ≤ 4096 → o < (if p then panBytes else bar2Bytes d (portOfIssuer d (.inst k))) → mapByte d (.inst k) p o = .error x →
    ∃ e : Dev, exec (.hostWindowAccess (.inst k) p o n none ⟨m, l⟩) s = .next (s.after e) ∧ e.out.bytes = List.replicate n 0xFF ∧ (instOf e k).windowFaults = (instOf d k).windowFaults + 1 ∧ e.dramMem = d.dramMem ∧ e.panMem = d.panMem ∧ (∀ t, (instOf d k).faultEventAt = some t → nowNs d < t + 1000000 → e.raised = d.raised) ∧ ((∀ t, (instOf d k).faultEventAt = some t → t + 1000000 ≤ nowNs d) → ∃ v, e.raised = d.raised ++ [v] ∧ v.event.code = 0x0E01 ∧
        v.event.subject = k ∧ v.pages = [k, 512])) ∧
  (∀ (s : State) (d : Dev) k p o n b m l x, s.dev = d → hostReaches d (portOfIssuer d (.inst k)) = true → d.power.boot = .running → (instOf d k).exists_ = true → 0 < n → o % 4096 + n ≤ 4096 → o < (if p then panBytes else bar2Bytes d (portOfIssuer d (.inst k))) → b.length = n → mapByte d (.inst k) p o = .error x →
    ∃ e : Dev, exec (.hostWindowAccess (.inst k) p o n (some b) ⟨m, l⟩) s = .next (s.after e) ∧ (instOf e k).windowFaults = (instOf d k).windowFaults + 1 ∧ e.dramMem = d.dramMem ∧ e.panMem = d.panMem ∧ (∀ t, (instOf d k).faultEventAt = some t → nowNs d < t + 1000000 → e.raised = d.raised) ∧ ((∀ t, (instOf d k).faultEventAt = some t → t + 1000000 ≤ nowNs d) → ∃ v, e.raised = d.raised ++ [v] ∧ v.event.code = 0x0E01 ∧
        v.event.subject = k ∧ v.pages = [k, 512])) ∧
  (∀ (s : State) (d : Dev) k p o n b m l a, s.dev = d → hostReaches d (portOfIssuer d (.inst k)) = true → d.power.boot = .running → (instOf d k).exists_ = true → 0 < n → o % 4096 + n ≤ 4096 → o < (if p then panBytes else bar2Bytes d (portOfIssuer d (.inst k))) → b.length = n → mapByte d (.inst k) p o = .ok (a, true) →
    ∃ e : Dev, exec (.hostWindowAccess (.inst k) p o n (some b) ⟨m, l⟩) s = .next (s.after e) ∧ (instOf e k).windowFaults = (instOf d k).windowFaults + 1 ∧ e.dramMem = d.dramMem ∧ e.panMem = d.panMem ∧ (∀ t, (instOf d k).faultEventAt = some t → nowNs d < t + 1000000 → e.raised = d.raised) ∧ ((∀ t, (instOf d k).faultEventAt = some t → t + 1000000 ≤ nowNs d) → ∃ v, e.raised = d.raised ++ [v] ∧ v.event.code = 0x0E01 ∧
        v.event.subject = k ∧ v.pages = [k, 512]))

/-- The manager's BARs read 0xFF and drop writes above the DRAM capacity and in the secure partition -/
def Obligations.ManagerWindowsBoundedAndSecure : Prop :=
  (∀ (s : State) (d : Dev) o n m l, s.dev = d → hostReaches d 0 = true → d.power.boot = .running → 0 < n → o % 4096 + n ≤ 4096 → o < 2 ^ 36 → dramCapacity d.dram ≤ o →
    exec (.hostWindowAccess .manager false o n none ⟨m, l⟩) s = .next (s.after (hostAnswer (List.replicate n 0xFF) false d))) ∧
  (∀ (s : State) (d : Dev) o n b m l, s.dev = d → hostReaches d 0 = true → d.power.boot = .running → 0 < n → o % 4096 + n ≤ 4096 → o < 2 ^ 36 → b.length = n → dramCapacity d.dram ≤ o →
    exec (.hostWindowAccess .manager false o n (some b) ⟨m, l⟩) s = .next (s.after (d))) ∧
  (∀ (s : State) (d : Dev) o n m l, s.dev = d → hostReaches d 0 = true → d.power.boot = .running → 0 < n → o % 4096 + n ≤ 4096 → o < panBytes → securePage d (o / 4096) = true →
    exec (.hostWindowAccess .manager true o n none ⟨m, l⟩) s = .next (s.after (hostAnswer (List.replicate n 0xFF) false d))) ∧
  (∀ (s : State) (d : Dev) o n b m l, s.dev = d → hostReaches d 0 = true → d.power.boot = .running → 0 < n → o % 4096 + n ≤ 4096 → o < panBytes → b.length = n → securePage d (o / 4096) = true →
    exec (.hostWindowAccess .manager true o n (some b) ⟨m, l⟩) s = .next (s.after (d))) ∧
  (∀ (s : State) (d : Dev) o n m l, s.dev = d → hostReaches d 0 = true → d.power.boot = .running → 0 < n → o % 4096 + n ≤ 4096 → o < dramCapacity d.dram → dramCapacity d.dram ≤ 2 ^ 36 → isFenced d.dram (decodeAddr d.dram o).channel = true →
    exec (.hostWindowAccess .manager false o n none ⟨m, l⟩) s = .next (s.after (hostAnswer (List.replicate n 0xFF) true d))) ∧
  (∀ (s : State) (d : Dev) o n b m l, s.dev = d → d.power.boot ≠ .awaitPush →
    ∃ e : Dev, exec (.hostWindowAccess .manager true o n (some b) ⟨m, l⟩) s = .next (s.after e) ∧ (∀ a, securePage d (a / 4096) = true → memGet e.panMem a = memGet d.panMem a))

/-- At an election's end the master is the lowest of those announced and the parent the UP port nearest to it -/
def Obligations.MasterIsLowestAndParentNearest : Prop :=
  (∀ (s : State) (d : Dev), s.dev = d → d.tide.electing = true → d.tide.source = 2 →
    ∃ e : Dev, exec .oxElectionEnd s = .next (s.after e) ∧ (∀ p, e.tide.parent = some p →
        ∃ h, (p, (e.tide.masterPriority, e.tide.masterNode), h) ∈ masterPaths d ∧ h ≤ 32 ∧
          masterBefore (d.tide.priority, d.tide.node) (e.tide.masterPriority, e.tide.masterNode) = false ∧
          ∀ q m h', (q, m, h') ∈ masterPaths d → masterBefore m (e.tide.masterPriority, e.tide.masterNode) = false ∧
            (m = (e.tide.masterPriority, e.tide.masterNode) → h < h' ∨ (h = h' ∧ p ≤ q))))

/-- A frame of an output in a lock group starts with the number of its nearest grid instant, t0 + k x period -/
def Obligations.LockedFramesFollowTheGrid : Prop :=
  (∀ (g : Group) k, gridAt g k = g.t0 * 65536 + k * g.period) ∧
  (∀ (s : State) (d : Dev) o m k g, s.dev = d → o < d.outputs.length → (outOf d o).mode = some m → frameMayStart d o = true → lockOf d o = some (k, g) →
    ∃ e : Dev, exec (.outputFrameStart o) s = .next (s.after e) ∧ (outOf e o).frame = BitVec.ofNat 32 (gridNear g d.tide.now) ∧ (outOf e o).nextLine = 0)

/-- A changing command that passes its checks is sequenced at once, as a transaction of its one change, on any output -/
def Obligations.ChangingCommandsAreSequenced : Prop :=
  ∀ op c (s : State) d b ch, opKind op = .d ∨ opKind op = .n → Accepted op c s d b → d.txns = [] →
    prepareChanges (ownTxn op c s d b) { d with nextTxn := d.nextTxn + 1, txns := [ownTxn op c s d b] } = .ok [ch] →
    exec (instrOf op c) s = .next (s.after (sequenceTxn d.nextTxn { d with
      nextTxn := d.nextTxn + 1, txns := [{ ownTxn op c s d b with state := .prepared, resolved := [ch] }] }))

/-- A reading command that passes its checks replies OK at once with what its read gives -/
def Obligations.ReadingCommandsAnswer : Prop :=
  ∀ op c (s : State) d b e res, opKind op = .r → Accepted op c s d b → (opSpec op).step10 d c = none →
    (opSpec op).read s.fuses d c = (e, .ok res) →
    exec (instrOf op c) s = .next (s.after (finish (ticketOf op c s) .ok 0 res e))

/-- A job command that passes its checks starts at once; a RAKE_JOB takes its unit's configuration as it then is -/
def Obligations.JobCommandsStart : Prop :=
  ∀ op c (s : State) d b, opKind op = .j → Accepted op c s d b →
    exec (instrOf op c) s = .next (s.after (startJob op (if op = .rakeJob then (cvOf d (c.u8 24)).cfg else .zero) (ticketOf op c s) c d))
end

