-- ==== Sys2Proof/Laws/State.lean ====
section
/-! SUPPORT. The device's fields after each of its updates, field by field: what leaves a field alone, and what an update
of a whole field makes of it. Each is true by unfolding. -/

namespace Sys2Proof.Machine

/-- A device with another list of transactions. -/
def withTxns (t : List Txn) (d : Dev) : Dev := { d with txns := t }

variable {d : Dev}

/-! ### tide -/

@[simp] theorem updPage_tide (k f) : (updPage k f d).tide = d.tide := rfl
@[simp] theorem updAudio_tide (f) : (updAudio f d).tide = d.tide := rfl
@[simp] theorem updInst_tide (n f) : (updInst n f d).tide = d.tide := rfl
@[simp] theorem updOut_tide (o f) : (updOut o f d).tide = d.tide := rfl
@[simp] theorem updDram_tide (f) : (updDram f d).tide = d.tide := rfl
@[simp] theorem updQueue_tide (k q f) : (updQueue k q f d).tide = d.tide := rfl
@[simp] theorem putLayer_tide (n l) : (putLayer n l d).tide = d.tide := rfl
@[simp] theorem updPan_tide (f) : (updPan f d).tide = d.tide := rfl
@[simp] theorem updTxn_tide (n f) : (updTxn n f d).tide = d.tide := rfl
@[simp] theorem updCv_tide (u f) : (updCv u f d).tide = d.tide := rfl
@[simp] theorem updPower_tide (f) : (updPower f d).tide = d.tide := rfl
@[simp] theorem updPort_tide (p f) : (updPort p f d).tide = d.tide := rfl
@[simp] theorem updHap_tide (c f) : (updHap c f d).tide = d.tide := rfl
@[simp] theorem updSec_tide (f) : (updSec f d).tide = d.tide := rfl
@[simp] theorem updMon_tide (o m f) : (updMon o m f d).tide = d.tide := rfl
@[simp] theorem updHarvest_tide (k f) : (updHarvest k f d).tide = d.tide := rfl
@[simp] theorem updTide_tide (f) : (updTide f d).tide = f d.tide := rfl
@[simp] theorem updPanBank_tide (b f) : (updPanBank b f d).tide = d.tide := rfl
@[simp] theorem orphanTickets_tide (k q) : (orphanTickets k q d).tide = d.tide := rfl
@[simp] theorem withTxns_tide (t) : (withTxns t d).tide = d.tide := rfl
@[simp] theorem updGang_tide (g f) : (updGang g f d).tide = d.tide := rfl
@[simp] theorem updPanPort_tide (k f) : (updPanPort k f d).tide = d.tide := rfl

/-! ### pages -/

@[simp] theorem updAudio_pages (f) : (updAudio f d).pages = d.pages := rfl
@[simp] theorem updInst_pages (n f) : (updInst n f d).pages = d.pages := rfl
@[simp] theorem updOut_pages (o f) : (updOut o f d).pages = d.pages := rfl
@[simp] theorem updDram_pages (f) : (updDram f d).pages = d.pages := rfl
@[simp] theorem putLayer_pages (n l) : (putLayer n l d).pages = d.pages := rfl
@[simp] theorem updPan_pages (f) : (updPan f d).pages = d.pages := rfl
@[simp] theorem updTxn_pages (n f) : (updTxn n f d).pages = d.pages := rfl
@[simp] theorem updCv_pages (u f) : (updCv u f d).pages = d.pages := rfl
@[simp] theorem updPower_pages (f) : (updPower f d).pages = d.pages := rfl
@[simp] theorem updPort_pages (p f) : (updPort p f d).pages = d.pages := rfl
@[simp] theorem updHap_pages (c f) : (updHap c f d).pages = d.pages := rfl
@[simp] theorem updSec_pages (f) : (updSec f d).pages = d.pages := rfl
@[simp] theorem updMon_pages (o m f) : (updMon o m f d).pages = d.pages := rfl
@[simp] theorem updHarvest_pages (k f) : (updHarvest k f d).pages = d.pages := rfl
@[simp] theorem updTide_pages (f) : (updTide f d).pages = d.pages := rfl
@[simp] theorem updPanBank_pages (b f) : (updPanBank b f d).pages = d.pages := rfl
@[simp] theorem orphanTickets_pages (k q) : (orphanTickets k q d).pages = d.pages := rfl
@[simp] theorem withTxns_pages (t) : (withTxns t d).pages = d.pages := rfl
@[simp] theorem updGang_pages (g f) : (updGang g f d).pages = d.pages := rfl
@[simp] theorem updPanPort_pages (k f) : (updPanPort k f d).pages = d.pages := rfl

/-! ### insts -/

@[simp] theorem updPage_insts (k f) : (updPage k f d).insts = d.insts := rfl
@[simp] theorem updAudio_insts (f) : (updAudio f d).insts = d.insts := rfl
@[simp] theorem updOut_insts (o f) : (updOut o f d).insts = d.insts := rfl
@[simp] theorem updDram_insts (f) : (updDram f d).insts = d.insts := rfl
@[simp] theorem updQueue_insts (k q f) : (updQueue k q f d).insts = d.insts := rfl
@[simp] theorem putLayer_insts (n l) : (putLayer n l d).insts = d.insts := rfl
@[simp] theorem updPan_insts (f) : (updPan f d).insts = d.insts := rfl
@[simp] theorem updTxn_insts (n f) : (updTxn n f d).insts = d.insts := rfl
@[simp] theorem updCv_insts (u f) : (updCv u f d).insts = d.insts := rfl
@[simp] theorem updPower_insts (f) : (updPower f d).insts = d.insts := rfl
@[simp] theorem updPort_insts (p f) : (updPort p f d).insts = d.insts := rfl
@[simp] theorem updHap_insts (c f) : (updHap c f d).insts = d.insts := rfl
@[simp] theorem updSec_insts (f) : (updSec f d).insts = d.insts := rfl
@[simp] theorem updMon_insts (o m f) : (updMon o m f d).insts = d.insts := rfl
@[simp] theorem updHarvest_insts (k f) : (updHarvest k f d).insts = d.insts := rfl
@[simp] theorem updTide_insts (f) : (updTide f d).insts = d.insts := rfl
@[simp] theorem updPanBank_insts (b f) : (updPanBank b f d).insts = d.insts := rfl
@[simp] theorem orphanTickets_insts (k q) : (orphanTickets k q d).insts = d.insts := rfl
@[simp] theorem withTxns_insts (t) : (withTxns t d).insts = d.insts := rfl
@[simp] theorem updGang_insts (g f) : (updGang g f d).insts = d.insts := rfl
@[simp] theorem updPanPort_insts (k f) : (updPanPort k f d).insts = d.insts := rfl

/-! ### delegFirst -/

@[simp] theorem updPage_delegFirst (k f) : (updPage k f d).delegFirst = d.delegFirst := rfl
@[simp] theorem updAudio_delegFirst (f) : (updAudio f d).delegFirst = d.delegFirst := rfl
@[simp] theorem updInst_delegFirst (n f) : (updInst n f d).delegFirst = d.delegFirst := rfl
@[simp] theorem updOut_delegFirst (o f) : (updOut o f d).delegFirst = d.delegFirst := rfl
@[simp] theorem updDram_delegFirst (f) : (updDram f d).delegFirst = d.delegFirst := rfl
@[simp] theorem updQueue_delegFirst (k q f) : (updQueue k q f d).delegFirst = d.delegFirst := rfl
@[simp] theorem putLayer_delegFirst (n l) : (putLayer n l d).delegFirst = d.delegFirst := rfl
@[simp] theorem updPan_delegFirst (f) : (updPan f d).delegFirst = d.delegFirst := rfl
@[simp] theorem updTxn_delegFirst (n f) : (updTxn n f d).delegFirst = d.delegFirst := rfl
@[simp] theorem updCv_delegFirst (u f) : (updCv u f d).delegFirst = d.delegFirst := rfl
@[simp] theorem updPower_delegFirst (f) : (updPower f d).delegFirst = d.delegFirst := rfl
@[simp] theorem updPort_delegFirst (p f) : (updPort p f d).delegFirst = d.delegFirst := rfl
@[simp] theorem updHap_delegFirst (c f) : (updHap c f d).delegFirst = d.delegFirst := rfl
@[simp] theorem updSec_delegFirst (f) : (updSec f d).delegFirst = d.delegFirst := rfl
@[simp] theorem updMon_delegFirst (o m f) : (updMon o m f d).delegFirst = d.delegFirst := rfl
@[simp] theorem updHarvest_delegFirst (k f) : (updHarvest k f d).delegFirst = d.delegFirst := rfl
@[simp] theorem updTide_delegFirst (f) : (updTide f d).delegFirst = d.delegFirst := rfl
@[simp] theorem updPanBank_delegFirst (b f) : (updPanBank b f d).delegFirst = d.delegFirst := rfl
@[simp] theorem orphanTickets_delegFirst (k q) : (orphanTickets k q d).delegFirst = d.delegFirst := rfl
@[simp] theorem withTxns_delegFirst (t) : (withTxns t d).delegFirst = d.delegFirst := rfl
@[simp] theorem updGang_delegFirst (g f) : (updGang g f d).delegFirst = d.delegFirst := rfl
@[simp] theorem updPanPort_delegFirst (k f) : (updPanPort k f d).delegFirst = d.delegFirst := rfl

/-! ### delegCount -/

@[simp] theorem updPage_delegCount (k f) : (updPage k f d).delegCount = d.delegCount := rfl
@[simp] theorem updAudio_delegCount (f) : (updAudio f d).delegCount = d.delegCount := rfl
@[simp] theorem updInst_delegCount (n f) : (updInst n f d).delegCount = d.delegCount := rfl
@[simp] theorem updOut_delegCount (o f) : (updOut o f d).delegCount = d.delegCount := rfl
@[simp] theorem updDram_delegCount (f) : (updDram f d).delegCount = d.delegCount := rfl
@[simp] theorem updQueue_delegCount (k q f) : (updQueue k q f d).delegCount = d.delegCount := rfl
@[simp] theorem putLayer_delegCount (n l) : (putLayer n l d).delegCount = d.delegCount := rfl
@[simp] theorem updPan_delegCount (f) : (updPan f d).delegCount = d.delegCount := rfl
@[simp] theorem updTxn_delegCount (n f) : (updTxn n f d).delegCount = d.delegCount := rfl
@[simp] theorem updCv_delegCount (u f) : (updCv u f d).delegCount = d.delegCount := rfl
@[simp] theorem updPower_delegCount (f) : (updPower f d).delegCount = d.delegCount := rfl
@[simp] theorem updPort_delegCount (p f) : (updPort p f d).delegCount = d.delegCount := rfl
@[simp] theorem updHap_delegCount (c f) : (updHap c f d).delegCount = d.delegCount := rfl
@[simp] theorem updSec_delegCount (f) : (updSec f d).delegCount = d.delegCount := rfl
@[simp] theorem updMon_delegCount (o m f) : (updMon o m f d).delegCount = d.delegCount := rfl
@[simp] theorem updHarvest_delegCount (k f) : (updHarvest k f d).delegCount = d.delegCount := rfl
@[simp] theorem updTide_delegCount (f) : (updTide f d).delegCount = d.delegCount := rfl
@[simp] theorem updPanBank_delegCount (b f) : (updPanBank b f d).delegCount = d.delegCount := rfl
@[simp] theorem orphanTickets_delegCount (k q) : (orphanTickets k q d).delegCount = d.delegCount := rfl
@[simp] theorem withTxns_delegCount (t) : (withTxns t d).delegCount = d.delegCount := rfl
@[simp] theorem updGang_delegCount (g f) : (updGang g f d).delegCount = d.delegCount := rfl
@[simp] theorem updPanPort_delegCount (k f) : (updPanPort k f d).delegCount = d.delegCount := rfl

/-! ### reserved -/

@[simp] theorem updPage_reserved (k f) : (updPage k f d).reserved = d.reserved := rfl
@[simp] theorem updAudio_reserved (f) : (updAudio f d).reserved = d.reserved := rfl
@[simp] theorem updInst_reserved (n f) : (updInst n f d).reserved = d.reserved := rfl
@[simp] theorem updOut_reserved (o f) : (updOut o f d).reserved = d.reserved := rfl
@[simp] theorem updDram_reserved (f) : (updDram f d).reserved = d.reserved := rfl
@[simp] theorem updQueue_reserved (k q f) : (updQueue k q f d).reserved = d.reserved := rfl
@[simp] theorem putLayer_reserved (n l) : (putLayer n l d).reserved = d.reserved := rfl
@[simp] theorem updPan_reserved (f) : (updPan f d).reserved = d.reserved := rfl
@[simp] theorem updTxn_reserved (n f) : (updTxn n f d).reserved = d.reserved := rfl
@[simp] theorem updCv_reserved (u f) : (updCv u f d).reserved = d.reserved := rfl
@[simp] theorem updPower_reserved (f) : (updPower f d).reserved = d.reserved := rfl
@[simp] theorem updPort_reserved (p f) : (updPort p f d).reserved = d.reserved := rfl
@[simp] theorem updHap_reserved (c f) : (updHap c f d).reserved = d.reserved := rfl
@[simp] theorem updSec_reserved (f) : (updSec f d).reserved = d.reserved := rfl
@[simp] theorem updMon_reserved (o m f) : (updMon o m f d).reserved = d.reserved := rfl
@[simp] theorem updHarvest_reserved (k f) : (updHarvest k f d).reserved = d.reserved := rfl
@[simp] theorem updTide_reserved (f) : (updTide f d).reserved = d.reserved := rfl
@[simp] theorem updPanBank_reserved (b f) : (updPanBank b f d).reserved = d.reserved := rfl
@[simp] theorem orphanTickets_reserved (k q) : (orphanTickets k q d).reserved = d.reserved := rfl
@[simp] theorem withTxns_reserved (t) : (withTxns t d).reserved = d.reserved := rfl
@[simp] theorem updGang_reserved (g f) : (updGang g f d).reserved = d.reserved := rfl
@[simp] theorem updPanPort_reserved (k f) : (updPanPort k f d).reserved = d.reserved := rfl

/-! ### bar2 -/

@[simp] theorem updPage_bar2 (k f) : (updPage k f d).bar2 = d.bar2 := rfl
@[simp] theorem updAudio_bar2 (f) : (updAudio f d).bar2 = d.bar2 := rfl
@[simp] theorem updInst_bar2 (n f) : (updInst n f d).bar2 = d.bar2 := rfl
@[simp] theorem updOut_bar2 (o f) : (updOut o f d).bar2 = d.bar2 := rfl
@[simp] theorem updDram_bar2 (f) : (updDram f d).bar2 = d.bar2 := rfl
@[simp] theorem updQueue_bar2 (k q f) : (updQueue k q f d).bar2 = d.bar2 := rfl
@[simp] theorem putLayer_bar2 (n l) : (putLayer n l d).bar2 = d.bar2 := rfl
@[simp] theorem updPan_bar2 (f) : (updPan f d).bar2 = d.bar2 := rfl
@[simp] theorem updTxn_bar2 (n f) : (updTxn n f d).bar2 = d.bar2 := rfl
@[simp] theorem updCv_bar2 (u f) : (updCv u f d).bar2 = d.bar2 := rfl
@[simp] theorem updPower_bar2 (f) : (updPower f d).bar2 = d.bar2 := rfl
@[simp] theorem updPort_bar2 (p f) : (updPort p f d).bar2 = d.bar2 := rfl
@[simp] theorem updHap_bar2 (c f) : (updHap c f d).bar2 = d.bar2 := rfl
@[simp] theorem updSec_bar2 (f) : (updSec f d).bar2 = d.bar2 := rfl
@[simp] theorem updMon_bar2 (o m f) : (updMon o m f d).bar2 = d.bar2 := rfl
@[simp] theorem updHarvest_bar2 (k f) : (updHarvest k f d).bar2 = d.bar2 := rfl
@[simp] theorem updTide_bar2 (f) : (updTide f d).bar2 = d.bar2 := rfl
@[simp] theorem updPanBank_bar2 (b f) : (updPanBank b f d).bar2 = d.bar2 := rfl
@[simp] theorem orphanTickets_bar2 (k q) : (orphanTickets k q d).bar2 = d.bar2 := rfl
@[simp] theorem withTxns_bar2 (t) : (withTxns t d).bar2 = d.bar2 := rfl
@[simp] theorem updGang_bar2 (g f) : (updGang g f d).bar2 = d.bar2 := rfl
@[simp] theorem updPanPort_bar2 (k f) : (updPanPort k f d).bar2 = d.bar2 := rfl

/-! ### vfs -/

@[simp] theorem updPage_vfs (k f) : (updPage k f d).vfs = d.vfs := rfl
@[simp] theorem updAudio_vfs (f) : (updAudio f d).vfs = d.vfs := rfl
@[simp] theorem updInst_vfs (n f) : (updInst n f d).vfs = d.vfs := rfl
@[simp] theorem updOut_vfs (o f) : (updOut o f d).vfs = d.vfs := rfl
@[simp] theorem updDram_vfs (f) : (updDram f d).vfs = d.vfs := rfl
@[simp] theorem updQueue_vfs (k q f) : (updQueue k q f d).vfs = d.vfs := rfl
@[simp] theorem putLayer_vfs (n l) : (putLayer n l d).vfs = d.vfs := rfl
@[simp] theorem updPan_vfs (f) : (updPan f d).vfs = d.vfs := rfl
@[simp] theorem updTxn_vfs (n f) : (updTxn n f d).vfs = d.vfs := rfl
@[simp] theorem updCv_vfs (u f) : (updCv u f d).vfs = d.vfs := rfl
@[simp] theorem updPower_vfs (f) : (updPower f d).vfs = d.vfs := rfl
@[simp] theorem updPort_vfs (p f) : (updPort p f d).vfs = d.vfs := rfl
@[simp] theorem updHap_vfs (c f) : (updHap c f d).vfs = d.vfs := rfl
@[simp] theorem updSec_vfs (f) : (updSec f d).vfs = d.vfs := rfl
@[simp] theorem updMon_vfs (o m f) : (updMon o m f d).vfs = d.vfs := rfl
@[simp] theorem updHarvest_vfs (k f) : (updHarvest k f d).vfs = d.vfs := rfl
@[simp] theorem updTide_vfs (f) : (updTide f d).vfs = d.vfs := rfl
@[simp] theorem updPanBank_vfs (b f) : (updPanBank b f d).vfs = d.vfs := rfl
@[simp] theorem orphanTickets_vfs (k q) : (orphanTickets k q d).vfs = d.vfs := rfl
@[simp] theorem withTxns_vfs (t) : (withTxns t d).vfs = d.vfs := rfl
@[simp] theorem updGang_vfs (g f) : (updGang g f d).vfs = d.vfs := rfl
@[simp] theorem updPanPort_vfs (k f) : (updPanPort k f d).vfs = d.vfs := rfl

/-! ### lifecycle -/

@[simp] theorem updPage_lifecycle (k f) : (updPage k f d).lifecycle = d.lifecycle := rfl
@[simp] theorem updAudio_lifecycle (f) : (updAudio f d).lifecycle = d.lifecycle := rfl
@[simp] theorem updInst_lifecycle (n f) : (updInst n f d).lifecycle = d.lifecycle := rfl
@[simp] theorem updOut_lifecycle (o f) : (updOut o f d).lifecycle = d.lifecycle := rfl
@[simp] theorem updDram_lifecycle (f) : (updDram f d).lifecycle = d.lifecycle := rfl
@[simp] theorem updQueue_lifecycle (k q f) : (updQueue k q f d).lifecycle = d.lifecycle := rfl
@[simp] theorem putLayer_lifecycle (n l) : (putLayer n l d).lifecycle = d.lifecycle := rfl
@[simp] theorem updPan_lifecycle (f) : (updPan f d).lifecycle = d.lifecycle := rfl
@[simp] theorem updTxn_lifecycle (n f) : (updTxn n f d).lifecycle = d.lifecycle := rfl
@[simp] theorem updCv_lifecycle (u f) : (updCv u f d).lifecycle = d.lifecycle := rfl
@[simp] theorem updPower_lifecycle (f) : (updPower f d).lifecycle = d.lifecycle := rfl
@[simp] theorem updPort_lifecycle (p f) : (updPort p f d).lifecycle = d.lifecycle := rfl
@[simp] theorem updHap_lifecycle (c f) : (updHap c f d).lifecycle = d.lifecycle := rfl
@[simp] theorem updSec_lifecycle (f) : (updSec f d).lifecycle = d.lifecycle := rfl
@[simp] theorem updMon_lifecycle (o m f) : (updMon o m f d).lifecycle = d.lifecycle := rfl
@[simp] theorem updHarvest_lifecycle (k f) : (updHarvest k f d).lifecycle = d.lifecycle := rfl
@[simp] theorem updTide_lifecycle (f) : (updTide f d).lifecycle = d.lifecycle := rfl
@[simp] theorem updPanBank_lifecycle (b f) : (updPanBank b f d).lifecycle = d.lifecycle := rfl
@[simp] theorem orphanTickets_lifecycle (k q) : (orphanTickets k q d).lifecycle = d.lifecycle := rfl
@[simp] theorem withTxns_lifecycle (t) : (withTxns t d).lifecycle = d.lifecycle := rfl
@[simp] theorem updGang_lifecycle (g f) : (updGang g f d).lifecycle = d.lifecycle := rfl
@[simp] theorem updPanPort_lifecycle (k f) : (updPanPort k f d).lifecycle = d.lifecycle := rfl

/-! ### nextTicket -/

@[simp] theorem updPage_nextTicket (k f) : (updPage k f d).nextTicket = d.nextTicket := rfl
@[simp] theorem updAudio_nextTicket (f) : (updAudio f d).nextTicket = d.nextTicket := rfl
@[simp] theorem updInst_nextTicket (n f) : (updInst n f d).nextTicket = d.nextTicket := rfl
@[simp] theorem updOut_nextTicket (o f) : (updOut o f d).nextTicket = d.nextTicket := rfl
@[simp] theorem updDram_nextTicket (f) : (updDram f d).nextTicket = d.nextTicket := rfl
@[simp] theorem updQueue_nextTicket (k q f) : (updQueue k q f d).nextTicket = d.nextTicket := rfl
@[simp] theorem putLayer_nextTicket (n l) : (putLayer n l d).nextTicket = d.nextTicket := rfl
@[simp] theorem updPan_nextTicket (f) : (updPan f d).nextTicket = d.nextTicket := rfl
@[simp] theorem updTxn_nextTicket (n f) : (updTxn n f d).nextTicket = d.nextTicket := rfl
@[simp] theorem updCv_nextTicket (u f) : (updCv u f d).nextTicket = d.nextTicket := rfl
@[simp] theorem updPower_nextTicket (f) : (updPower f d).nextTicket = d.nextTicket := rfl
@[simp] theorem updPort_nextTicket (p f) : (updPort p f d).nextTicket = d.nextTicket := rfl
@[simp] theorem updHap_nextTicket (c f) : (updHap c f d).nextTicket = d.nextTicket := rfl
@[simp] theorem updSec_nextTicket (f) : (updSec f d).nextTicket = d.nextTicket := rfl
@[simp] theorem updMon_nextTicket (o m f) : (updMon o m f d).nextTicket = d.nextTicket := rfl
@[simp] theorem updHarvest_nextTicket (k f) : (updHarvest k f d).nextTicket = d.nextTicket := rfl
@[simp] theorem updTide_nextTicket (f) : (updTide f d).nextTicket = d.nextTicket := rfl
@[simp] theorem updPanBank_nextTicket (b f) : (updPanBank b f d).nextTicket = d.nextTicket := rfl
@[simp] theorem orphanTickets_nextTicket (k q) : (orphanTickets k q d).nextTicket = d.nextTicket := rfl
@[simp] theorem withTxns_nextTicket (t) : (withTxns t d).nextTicket = d.nextTicket := rfl
@[simp] theorem updGang_nextTicket (g f) : (updGang g f d).nextTicket = d.nextTicket := rfl
@[simp] theorem updPanPort_nextTicket (k f) : (updPanPort k f d).nextTicket = d.nextTicket := rfl

/-! ### nextTxn -/

@[simp] theorem updPage_nextTxn (k f) : (updPage k f d).nextTxn = d.nextTxn := rfl
@[simp] theorem updAudio_nextTxn (f) : (updAudio f d).nextTxn = d.nextTxn := rfl
@[simp] theorem updInst_nextTxn (n f) : (updInst n f d).nextTxn = d.nextTxn := rfl
@[simp] theorem updOut_nextTxn (o f) : (updOut o f d).nextTxn = d.nextTxn := rfl
@[simp] theorem updDram_nextTxn (f) : (updDram f d).nextTxn = d.nextTxn := rfl
@[simp] theorem updQueue_nextTxn (k q f) : (updQueue k q f d).nextTxn = d.nextTxn := rfl
@[simp] theorem putLayer_nextTxn (n l) : (putLayer n l d).nextTxn = d.nextTxn := rfl
@[simp] theorem updPan_nextTxn (f) : (updPan f d).nextTxn = d.nextTxn := rfl
@[simp] theorem updTxn_nextTxn (n f) : (updTxn n f d).nextTxn = d.nextTxn := rfl
@[simp] theorem updCv_nextTxn (u f) : (updCv u f d).nextTxn = d.nextTxn := rfl
@[simp] theorem updPower_nextTxn (f) : (updPower f d).nextTxn = d.nextTxn := rfl
@[simp] theorem updPort_nextTxn (p f) : (updPort p f d).nextTxn = d.nextTxn := rfl
@[simp] theorem updHap_nextTxn (c f) : (updHap c f d).nextTxn = d.nextTxn := rfl
@[simp] theorem updSec_nextTxn (f) : (updSec f d).nextTxn = d.nextTxn := rfl
@[simp] theorem updMon_nextTxn (o m f) : (updMon o m f d).nextTxn = d.nextTxn := rfl
@[simp] theorem updHarvest_nextTxn (k f) : (updHarvest k f d).nextTxn = d.nextTxn := rfl
@[simp] theorem updTide_nextTxn (f) : (updTide f d).nextTxn = d.nextTxn := rfl
@[simp] theorem updPanBank_nextTxn (b f) : (updPanBank b f d).nextTxn = d.nextTxn := rfl
@[simp] theorem orphanTickets_nextTxn (k q) : (orphanTickets k q d).nextTxn = d.nextTxn := rfl
@[simp] theorem withTxns_nextTxn (t) : (withTxns t d).nextTxn = d.nextTxn := rfl
@[simp] theorem updGang_nextTxn (g f) : (updGang g f d).nextTxn = d.nextTxn := rfl
@[simp] theorem updPanPort_nextTxn (k f) : (updPanPort k f d).nextTxn = d.nextTxn := rfl

/-! ### nextSeq -/

@[simp] theorem updPage_nextSeq (k f) : (updPage k f d).nextSeq = d.nextSeq := rfl
@[simp] theorem updAudio_nextSeq (f) : (updAudio f d).nextSeq = d.nextSeq := rfl
@[simp] theorem updInst_nextSeq (n f) : (updInst n f d).nextSeq = d.nextSeq := rfl
@[simp] theorem updOut_nextSeq (o f) : (updOut o f d).nextSeq = d.nextSeq := rfl
@[simp] theorem updDram_nextSeq (f) : (updDram f d).nextSeq = d.nextSeq := rfl
@[simp] theorem updQueue_nextSeq (k q f) : (updQueue k q f d).nextSeq = d.nextSeq := rfl
@[simp] theorem putLayer_nextSeq (n l) : (putLayer n l d).nextSeq = d.nextSeq := rfl
@[simp] theorem updPan_nextSeq (f) : (updPan f d).nextSeq = d.nextSeq := rfl
@[simp] theorem updTxn_nextSeq (n f) : (updTxn n f d).nextSeq = d.nextSeq := rfl
@[simp] theorem updCv_nextSeq (u f) : (updCv u f d).nextSeq = d.nextSeq := rfl
@[simp] theorem updPower_nextSeq (f) : (updPower f d).nextSeq = d.nextSeq := rfl
@[simp] theorem updPort_nextSeq (p f) : (updPort p f d).nextSeq = d.nextSeq := rfl
@[simp] theorem updHap_nextSeq (c f) : (updHap c f d).nextSeq = d.nextSeq := rfl
@[simp] theorem updSec_nextSeq (f) : (updSec f d).nextSeq = d.nextSeq := rfl
@[simp] theorem updMon_nextSeq (o m f) : (updMon o m f d).nextSeq = d.nextSeq := rfl
@[simp] theorem updHarvest_nextSeq (k f) : (updHarvest k f d).nextSeq = d.nextSeq := rfl
@[simp] theorem updTide_nextSeq (f) : (updTide f d).nextSeq = d.nextSeq := rfl
@[simp] theorem updPanBank_nextSeq (b f) : (updPanBank b f d).nextSeq = d.nextSeq := rfl
@[simp] theorem orphanTickets_nextSeq (k q) : (orphanTickets k q d).nextSeq = d.nextSeq := rfl
@[simp] theorem withTxns_nextSeq (t) : (withTxns t d).nextSeq = d.nextSeq := rfl
@[simp] theorem updGang_nextSeq (g f) : (updGang g f d).nextSeq = d.nextSeq := rfl
@[simp] theorem updPanPort_nextSeq (k f) : (updPanPort k f d).nextSeq = d.nextSeq := rfl

/-! ### free -/

@[simp] theorem updPage_free (k f) : (updPage k f d).free = d.free := rfl
@[simp] theorem updAudio_free (f) : (updAudio f d).free = d.free := rfl
@[simp] theorem updInst_free (n f) : (updInst n f d).free = d.free := rfl
@[simp] theorem updOut_free (o f) : (updOut o f d).free = d.free := rfl
@[simp] theorem updDram_free (f) : (updDram f d).free = d.free := rfl
@[simp] theorem updQueue_free (k q f) : (updQueue k q f d).free = d.free := rfl
@[simp] theorem putLayer_free (n l) : (putLayer n l d).free = d.free := rfl
@[simp] theorem updPan_free (f) : (updPan f d).free = d.free := rfl
@[simp] theorem updTxn_free (n f) : (updTxn n f d).free = d.free := rfl
@[simp] theorem updCv_free (u f) : (updCv u f d).free = d.free := rfl
@[simp] theorem updPower_free (f) : (updPower f d).free = d.free := rfl
@[simp] theorem updPort_free (p f) : (updPort p f d).free = d.free := rfl
@[simp] theorem updHap_free (c f) : (updHap c f d).free = d.free := rfl
@[simp] theorem updSec_free (f) : (updSec f d).free = d.free := rfl
@[simp] theorem updMon_free (o m f) : (updMon o m f d).free = d.free := rfl
@[simp] theorem updHarvest_free (k f) : (updHarvest k f d).free = d.free := rfl
@[simp] theorem updTide_free (f) : (updTide f d).free = d.free := rfl
@[simp] theorem updPanBank_free (b f) : (updPanBank b f d).free = d.free := rfl
@[simp] theorem orphanTickets_free (k q) : (orphanTickets k q d).free = d.free := rfl
@[simp] theorem withTxns_free (t) : (withTxns t d).free = d.free := rfl
@[simp] theorem updGang_free (g f) : (updGang g f d).free = d.free := rfl
@[simp] theorem updPanPort_free (k f) : (updPanPort k f d).free = d.free := rfl

/-! ### tickets -/

@[simp] theorem updPage_tickets (k f) : (updPage k f d).tickets = d.tickets := rfl
@[simp] theorem updAudio_tickets (f) : (updAudio f d).tickets = d.tickets := rfl
@[simp] theorem updInst_tickets (n f) : (updInst n f d).tickets = d.tickets := rfl
@[simp] theorem updOut_tickets (o f) : (updOut o f d).tickets = d.tickets := rfl
@[simp] theorem updDram_tickets (f) : (updDram f d).tickets = d.tickets := rfl
@[simp] theorem updQueue_tickets (k q f) : (updQueue k q f d).tickets = d.tickets := rfl
@[simp] theorem putLayer_tickets (n l) : (putLayer n l d).tickets = d.tickets := rfl
@[simp] theorem updPan_tickets (f) : (updPan f d).tickets = d.tickets := rfl
@[simp] theorem updTxn_tickets (n f) : (updTxn n f d).tickets = d.tickets := rfl
@[simp] theorem updCv_tickets (u f) : (updCv u f d).tickets = d.tickets := rfl
@[simp] theorem updPower_tickets (f) : (updPower f d).tickets = d.tickets := rfl
@[simp] theorem updPort_tickets (p f) : (updPort p f d).tickets = d.tickets := rfl
@[simp] theorem updHap_tickets (c f) : (updHap c f d).tickets = d.tickets := rfl
@[simp] theorem updSec_tickets (f) : (updSec f d).tickets = d.tickets := rfl
@[simp] theorem updMon_tickets (o m f) : (updMon o m f d).tickets = d.tickets := rfl
@[simp] theorem updHarvest_tickets (k f) : (updHarvest k f d).tickets = d.tickets := rfl
@[simp] theorem updTide_tickets (f) : (updTide f d).tickets = d.tickets := rfl
@[simp] theorem updPanBank_tickets (b f) : (updPanBank b f d).tickets = d.tickets := rfl
@[simp] theorem withTxns_tickets (t) : (withTxns t d).tickets = d.tickets := rfl
@[simp] theorem updGang_tickets (g f) : (updGang g f d).tickets = d.tickets := rfl
@[simp] theorem updPanPort_tickets (k f) : (updPanPort k f d).tickets = d.tickets := rfl

/-! ### fences -/

@[simp] theorem updPage_fences (k f) : (updPage k f d).fences = d.fences := rfl
@[simp] theorem updAudio_fences (f) : (updAudio f d).fences = d.fences := rfl
@[simp] theorem updInst_fences (n f) : (updInst n f d).fences = d.fences := rfl
@[simp] theorem updOut_fences (o f) : (updOut o f d).fences = d.fences := rfl
@[simp] theorem updDram_fences (f) : (updDram f d).fences = d.fences := rfl
@[simp] theorem updQueue_fences (k q f) : (updQueue k q f d).fences = d.fences := rfl
@[simp] theorem putLayer_fences (n l) : (putLayer n l d).fences = d.fences := rfl
@[simp] theorem updPan_fences (f) : (updPan f d).fences = d.fences := rfl
@[simp] theorem updTxn_fences (n f) : (updTxn n f d).fences = d.fences := rfl
@[simp] theorem updCv_fences (u f) : (updCv u f d).fences = d.fences := rfl
@[simp] theorem updPower_fences (f) : (updPower f d).fences = d.fences := rfl
@[simp] theorem updPort_fences (p f) : (updPort p f d).fences = d.fences := rfl
@[simp] theorem updHap_fences (c f) : (updHap c f d).fences = d.fences := rfl
@[simp] theorem updSec_fences (f) : (updSec f d).fences = d.fences := rfl
@[simp] theorem updMon_fences (o m f) : (updMon o m f d).fences = d.fences := rfl
@[simp] theorem updHarvest_fences (k f) : (updHarvest k f d).fences = d.fences := rfl
@[simp] theorem updTide_fences (f) : (updTide f d).fences = d.fences := rfl
@[simp] theorem updPanBank_fences (b f) : (updPanBank b f d).fences = d.fences := rfl
@[simp] theorem orphanTickets_fences (k q) : (orphanTickets k q d).fences = d.fences := rfl
@[simp] theorem withTxns_fences (t) : (withTxns t d).fences = d.fences := rfl
@[simp] theorem updGang_fences (g f) : (updGang g f d).fences = d.fences := rfl
@[simp] theorem updPanPort_fences (k f) : (updPanPort k f d).fences = d.fences := rfl

/-! ### launches -/

@[simp] theorem updPage_launches (k f) : (updPage k f d).launches = d.launches := rfl
@[simp] theorem updAudio_launches (f) : (updAudio f d).launches = d.launches := rfl
@[simp] theorem updInst_launches (n f) : (updInst n f d).launches = d.launches := rfl
@[simp] theorem updOut_launches (o f) : (updOut o f d).launches = d.launches := rfl
@[simp] theorem updDram_launches (f) : (updDram f d).launches = d.launches := rfl
@[simp] theorem updQueue_launches (k q f) : (updQueue k q f d).launches = d.launches := rfl
@[simp] theorem putLayer_launches (n l) : (putLayer n l d).launches = d.launches := rfl
@[simp] theorem updPan_launches (f) : (updPan f d).launches = d.launches := rfl
@[simp] theorem updTxn_launches (n f) : (updTxn n f d).launches = d.launches := rfl
@[simp] theorem updCv_launches (u f) : (updCv u f d).launches = d.launches := rfl
@[simp] theorem updPower_launches (f) : (updPower f d).launches = d.launches := rfl
@[simp] theorem updPort_launches (p f) : (updPort p f d).launches = d.launches := rfl
@[simp] theorem updHap_launches (c f) : (updHap c f d).launches = d.launches := rfl
@[simp] theorem updSec_launches (f) : (updSec f d).launches = d.launches := rfl
@[simp] theorem updMon_launches (o m f) : (updMon o m f d).launches = d.launches := rfl
@[simp] theorem updHarvest_launches (k f) : (updHarvest k f d).launches = d.launches := rfl
@[simp] theorem updTide_launches (f) : (updTide f d).launches = d.launches := rfl
@[simp] theorem updPanBank_launches (b f) : (updPanBank b f d).launches = d.launches := rfl
@[simp] theorem orphanTickets_launches (k q) : (orphanTickets k q d).launches = d.launches := rfl
@[simp] theorem withTxns_launches (t) : (withTxns t d).launches = d.launches := rfl
@[simp] theorem updGang_launches (g f) : (updGang g f d).launches = d.launches := rfl
@[simp] theorem updPanPort_launches (k f) : (updPanPort k f d).launches = d.launches := rfl

/-! ### txns -/

@[simp] theorem updPage_txns (k f) : (updPage k f d).txns = d.txns := rfl
@[simp] theorem updAudio_txns (f) : (updAudio f d).txns = d.txns := rfl
@[simp] theorem updInst_txns (n f) : (updInst n f d).txns = d.txns := rfl
@[simp] theorem updOut_txns (o f) : (updOut o f d).txns = d.txns := rfl
@[simp] theorem updDram_txns (f) : (updDram f d).txns = d.txns := rfl
@[simp] theorem updQueue_txns (k q f) : (updQueue k q f d).txns = d.txns := rfl
@[simp] theorem putLayer_txns (n l) : (putLayer n l d).txns = d.txns := rfl
@[simp] theorem updPan_txns (f) : (updPan f d).txns = d.txns := rfl
@[simp] theorem updCv_txns (u f) : (updCv u f d).txns = d.txns := rfl
@[simp] theorem updPower_txns (f) : (updPower f d).txns = d.txns := rfl
@[simp] theorem updPort_txns (p f) : (updPort p f d).txns = d.txns := rfl
@[simp] theorem updHap_txns (c f) : (updHap c f d).txns = d.txns := rfl
@[simp] theorem updSec_txns (f) : (updSec f d).txns = d.txns := rfl
@[simp] theorem updMon_txns (o m f) : (updMon o m f d).txns = d.txns := rfl
@[simp] theorem updHarvest_txns (k f) : (updHarvest k f d).txns = d.txns := rfl
@[simp] theorem updTide_txns (f) : (updTide f d).txns = d.txns := rfl
@[simp] theorem updPanBank_txns (b f) : (updPanBank b f d).txns = d.txns := rfl
@[simp] theorem orphanTickets_txns (k q) : (orphanTickets k q d).txns = d.txns := rfl
@[simp] theorem withTxns_txns (t) : (withTxns t d).txns = t := rfl
@[simp] theorem updGang_txns (g f) : (updGang g f d).txns = d.txns := rfl
@[simp] theorem updPanPort_txns (k f) : (updPanPort k f d).txns = d.txns := rfl

/-! ### tallies -/

@[simp] theorem updPage_tallies (k f) : (updPage k f d).tallies = d.tallies := rfl
@[simp] theorem updAudio_tallies (f) : (updAudio f d).tallies = d.tallies := rfl
@[simp] theorem updInst_tallies (n f) : (updInst n f d).tallies = d.tallies := rfl
@[simp] theorem updOut_tallies (o f) : (updOut o f d).tallies = d.tallies := rfl
@[simp] theorem updDram_tallies (f) : (updDram f d).tallies = d.tallies := rfl
@[simp] theorem updQueue_tallies (k q f) : (updQueue k q f d).tallies = d.tallies := rfl
@[simp] theorem putLayer_tallies (n l) : (putLayer n l d).tallies = d.tallies := rfl
@[simp] theorem updPan_tallies (f) : (updPan f d).tallies = d.tallies := rfl
@[simp] theorem updTxn_tallies (n f) : (updTxn n f d).tallies = d.tallies := rfl
@[simp] theorem updCv_tallies (u f) : (updCv u f d).tallies = d.tallies := rfl
@[simp] theorem updPower_tallies (f) : (updPower f d).tallies = d.tallies := rfl
@[simp] theorem updPort_tallies (p f) : (updPort p f d).tallies = d.tallies := rfl
@[simp] theorem updHap_tallies (c f) : (updHap c f d).tallies = d.tallies := rfl
@[simp] theorem updSec_tallies (f) : (updSec f d).tallies = d.tallies := rfl
@[simp] theorem updMon_tallies (o m f) : (updMon o m f d).tallies = d.tallies := rfl
@[simp] theorem updHarvest_tallies (k f) : (updHarvest k f d).tallies = d.tallies := rfl
@[simp] theorem updTide_tallies (f) : (updTide f d).tallies = d.tallies := rfl
@[simp] theorem updPanBank_tallies (b f) : (updPanBank b f d).tallies = d.tallies := rfl
@[simp] theorem orphanTickets_tallies (k q) : (orphanTickets k q d).tallies = d.tallies := rfl
@[simp] theorem withTxns_tallies (t) : (withTxns t d).tallies = d.tallies := rfl
@[simp] theorem updGang_tallies (g f) : (updGang g f d).tallies = d.tallies := rfl
@[simp] theorem updPanPort_tallies (k f) : (updPanPort k f d).tallies = d.tallies := rfl

/-! ### baselines -/

@[simp] theorem updPage_baselines (k f) : (updPage k f d).baselines = d.baselines := rfl
@[simp] theorem updAudio_baselines (f) : (updAudio f d).baselines = d.baselines := rfl
@[simp] theorem updInst_baselines (n f) : (updInst n f d).baselines = d.baselines := rfl
@[simp] theorem updOut_baselines (o f) : (updOut o f d).baselines = d.baselines := rfl
@[simp] theorem updDram_baselines (f) : (updDram f d).baselines = d.baselines := rfl
@[simp] theorem updQueue_baselines (k q f) : (updQueue k q f d).baselines = d.baselines := rfl
@[simp] theorem putLayer_baselines (n l) : (putLayer n l d).baselines = d.baselines := rfl
@[simp] theorem updPan_baselines (f) : (updPan f d).baselines = d.baselines := rfl
@[simp] theorem updTxn_baselines (n f) : (updTxn n f d).baselines = d.baselines := rfl
@[simp] theorem updCv_baselines (u f) : (updCv u f d).baselines = d.baselines := rfl
@[simp] theorem updPower_baselines (f) : (updPower f d).baselines = d.baselines := rfl
@[simp] theorem updPort_baselines (p f) : (updPort p f d).baselines = d.baselines := rfl
@[simp] theorem updHap_baselines (c f) : (updHap c f d).baselines = d.baselines := rfl
@[simp] theorem updSec_baselines (f) : (updSec f d).baselines = d.baselines := rfl
@[simp] theorem updMon_baselines (o m f) : (updMon o m f d).baselines = d.baselines := rfl
@[simp] theorem updHarvest_baselines (k f) : (updHarvest k f d).baselines = d.baselines := rfl
@[simp] theorem updTide_baselines (f) : (updTide f d).baselines = d.baselines := rfl
@[simp] theorem updPanBank_baselines (b f) : (updPanBank b f d).baselines = d.baselines := rfl
@[simp] theorem orphanTickets_baselines (k q) : (orphanTickets k q d).baselines = d.baselines := rfl
@[simp] theorem withTxns_baselines (t) : (withTxns t d).baselines = d.baselines := rfl
@[simp] theorem updGang_baselines (g f) : (updGang g f d).baselines = d.baselines := rfl
@[simp] theorem updPanPort_baselines (k f) : (updPanPort k f d).baselines = d.baselines := rfl

/-! ### running -/

@[simp] theorem updPage_running (k f) : (updPage k f d).running = d.running := rfl
@[simp] theorem updAudio_running (f) : (updAudio f d).running = d.running := rfl
@[simp] theorem updInst_running (n f) : (updInst n f d).running = d.running := rfl
@[simp] theorem updOut_running (o f) : (updOut o f d).running = d.running := rfl
@[simp] theorem updDram_running (f) : (updDram f d).running = d.running := rfl
@[simp] theorem updQueue_running (k q f) : (updQueue k q f d).running = d.running := rfl
@[simp] theorem putLayer_running (n l) : (putLayer n l d).running = d.running := rfl
@[simp] theorem updPan_running (f) : (updPan f d).running = d.running := rfl
@[simp] theorem updTxn_running (n f) : (updTxn n f d).running = d.running := rfl
@[simp] theorem updCv_running (u f) : (updCv u f d).running = d.running := rfl
@[simp] theorem updPower_running (f) : (updPower f d).running = d.running := rfl
@[simp] theorem updPort_running (p f) : (updPort p f d).running = d.running := rfl
@[simp] theorem updHap_running (c f) : (updHap c f d).running = d.running := rfl
@[simp] theorem updSec_running (f) : (updSec f d).running = d.running := rfl
@[simp] theorem updMon_running (o m f) : (updMon o m f d).running = d.running := rfl
@[simp] theorem updHarvest_running (k f) : (updHarvest k f d).running = d.running := rfl
@[simp] theorem updTide_running (f) : (updTide f d).running = d.running := rfl
@[simp] theorem updPanBank_running (b f) : (updPanBank b f d).running = d.running := rfl
@[simp] theorem orphanTickets_running (k q) : (orphanTickets k q d).running = d.running := rfl
@[simp] theorem withTxns_running (t) : (withTxns t d).running = d.running := rfl
@[simp] theorem updGang_running (g f) : (updGang g f d).running = d.running := rfl
@[simp] theorem updPanPort_running (k f) : (updPanPort k f d).running = d.running := rfl

/-! ### ready -/

@[simp] theorem updPage_ready (k f) : (updPage k f d).ready = d.ready := rfl
@[simp] theorem updAudio_ready (f) : (updAudio f d).ready = d.ready := rfl
@[simp] theorem updInst_ready (n f) : (updInst n f d).ready = d.ready := rfl
@[simp] theorem updOut_ready (o f) : (updOut o f d).ready = d.ready := rfl
@[simp] theorem updDram_ready (f) : (updDram f d).ready = d.ready := rfl
@[simp] theorem updQueue_ready (k q f) : (updQueue k q f d).ready = d.ready := rfl
@[simp] theorem putLayer_ready (n l) : (putLayer n l d).ready = d.ready := rfl
@[simp] theorem updPan_ready (f) : (updPan f d).ready = d.ready := rfl
@[simp] theorem updTxn_ready (n f) : (updTxn n f d).ready = d.ready := rfl
@[simp] theorem updCv_ready (u f) : (updCv u f d).ready = d.ready := rfl
@[simp] theorem updPower_ready (f) : (updPower f d).ready = d.ready := rfl
@[simp] theorem updPort_ready (p f) : (updPort p f d).ready = d.ready := rfl
@[simp] theorem updHap_ready (c f) : (updHap c f d).ready = d.ready := rfl
@[simp] theorem updSec_ready (f) : (updSec f d).ready = d.ready := rfl
@[simp] theorem updMon_ready (o m f) : (updMon o m f d).ready = d.ready := rfl
@[simp] theorem updHarvest_ready (k f) : (updHarvest k f d).ready = d.ready := rfl
@[simp] theorem updTide_ready (f) : (updTide f d).ready = d.ready := rfl
@[simp] theorem updPanBank_ready (b f) : (updPanBank b f d).ready = d.ready := rfl
@[simp] theorem orphanTickets_ready (k q) : (orphanTickets k q d).ready = d.ready := rfl
@[simp] theorem withTxns_ready (t) : (withTxns t d).ready = d.ready := rfl
@[simp] theorem updGang_ready (g f) : (updGang g f d).ready = d.ready := rfl
@[simp] theorem updPanPort_ready (k f) : (updPanPort k f d).ready = d.ready := rfl

/-! ### rounds -/

@[simp] theorem updPage_rounds (k f) : (updPage k f d).rounds = d.rounds := rfl
@[simp] theorem updAudio_rounds (f) : (updAudio f d).rounds = d.rounds := rfl
@[simp] theorem updInst_rounds (n f) : (updInst n f d).rounds = d.rounds := rfl
@[simp] theorem updOut_rounds (o f) : (updOut o f d).rounds = d.rounds := rfl
@[simp] theorem updDram_rounds (f) : (updDram f d).rounds = d.rounds := rfl
@[simp] theorem updQueue_rounds (k q f) : (updQueue k q f d).rounds = d.rounds := rfl
@[simp] theorem putLayer_rounds (n l) : (putLayer n l d).rounds = d.rounds := rfl
@[simp] theorem updPan_rounds (f) : (updPan f d).rounds = d.rounds := rfl
@[simp] theorem updTxn_rounds (n f) : (updTxn n f d).rounds = d.rounds := rfl
@[simp] theorem updCv_rounds (u f) : (updCv u f d).rounds = d.rounds := rfl
@[simp] theorem updPower_rounds (f) : (updPower f d).rounds = d.rounds := rfl
@[simp] theorem updPort_rounds (p f) : (updPort p f d).rounds = d.rounds := rfl
@[simp] theorem updHap_rounds (c f) : (updHap c f d).rounds = d.rounds := rfl
@[simp] theorem updSec_rounds (f) : (updSec f d).rounds = d.rounds := rfl
@[simp] theorem updMon_rounds (o m f) : (updMon o m f d).rounds = d.rounds := rfl
@[simp] theorem updHarvest_rounds (k f) : (updHarvest k f d).rounds = d.rounds := rfl
@[simp] theorem updTide_rounds (f) : (updTide f d).rounds = d.rounds := rfl
@[simp] theorem updPanBank_rounds (b f) : (updPanBank b f d).rounds = d.rounds := rfl
@[simp] theorem orphanTickets_rounds (k q) : (orphanTickets k q d).rounds = d.rounds := rfl
@[simp] theorem withTxns_rounds (t) : (withTxns t d).rounds = d.rounds := rfl
@[simp] theorem updGang_rounds (g f) : (updGang g f d).rounds = d.rounds := rfl
@[simp] theorem updPanPort_rounds (k f) : (updPanPort k f d).rounds = d.rounds := rfl

/-! ### layers -/

@[simp] theorem updPage_layers (k f) : (updPage k f d).layers = d.layers := rfl
@[simp] theorem updAudio_layers (f) : (updAudio f d).layers = d.layers := rfl
@[simp] theorem updInst_layers (n f) : (updInst n f d).layers = d.layers := rfl
@[simp] theorem updOut_layers (o f) : (updOut o f d).layers = d.layers := rfl
@[simp] theorem updDram_layers (f) : (updDram f d).layers = d.layers := rfl
@[simp] theorem updQueue_layers (k q f) : (updQueue k q f d).layers = d.layers := rfl
@[simp] theorem updPan_layers (f) : (updPan f d).layers = d.layers := rfl
@[simp] theorem updTxn_layers (n f) : (updTxn n f d).layers = d.layers := rfl
@[simp] theorem updCv_layers (u f) : (updCv u f d).layers = d.layers := rfl
@[simp] theorem updPower_layers (f) : (updPower f d).layers = d.layers := rfl
@[simp] theorem updPort_layers (p f) : (updPort p f d).layers = d.layers := rfl
@[simp] theorem updHap_layers (c f) : (updHap c f d).layers = d.layers := rfl
@[simp] theorem updSec_layers (f) : (updSec f d).layers = d.layers := rfl
@[simp] theorem updMon_layers (o m f) : (updMon o m f d).layers = d.layers := rfl
@[simp] theorem updHarvest_layers (k f) : (updHarvest k f d).layers = d.layers := rfl
@[simp] theorem updTide_layers (f) : (updTide f d).layers = d.layers := rfl
@[simp] theorem updPanBank_layers (b f) : (updPanBank b f d).layers = d.layers := rfl
@[simp] theorem orphanTickets_layers (k q) : (orphanTickets k q d).layers = d.layers := rfl
@[simp] theorem withTxns_layers (t) : (withTxns t d).layers = d.layers := rfl
@[simp] theorem updGang_layers (g f) : (updGang g f d).layers = d.layers := rfl
@[simp] theorem updPanPort_layers (k f) : (updPanPort k f d).layers = d.layers := rfl

/-! ### uses -/

@[simp] theorem updPage_uses (k f) : (updPage k f d).uses = d.uses := rfl
@[simp] theorem updAudio_uses (f) : (updAudio f d).uses = d.uses := rfl
@[simp] theorem updInst_uses (n f) : (updInst n f d).uses = d.uses := rfl
@[simp] theorem updOut_uses (o f) : (updOut o f d).uses = d.uses := rfl
@[simp] theorem updDram_uses (f) : (updDram f d).uses = d.uses := rfl
@[simp] theorem updQueue_uses (k q f) : (updQueue k q f d).uses = d.uses := rfl
@[simp] theorem putLayer_uses (n l) : (putLayer n l d).uses = d.uses := rfl
@[simp] theorem updPan_uses (f) : (updPan f d).uses = d.uses := rfl
@[simp] theorem updTxn_uses (n f) : (updTxn n f d).uses = d.uses := rfl
@[simp] theorem updCv_uses (u f) : (updCv u f d).uses = d.uses := rfl
@[simp] theorem updPower_uses (f) : (updPower f d).uses = d.uses := rfl
@[simp] theorem updPort_uses (p f) : (updPort p f d).uses = d.uses := rfl
@[simp] theorem updHap_uses (c f) : (updHap c f d).uses = d.uses := rfl
@[simp] theorem updSec_uses (f) : (updSec f d).uses = d.uses := rfl
@[simp] theorem updMon_uses (o m f) : (updMon o m f d).uses = d.uses := rfl
@[simp] theorem updHarvest_uses (k f) : (updHarvest k f d).uses = d.uses := rfl
@[simp] theorem updTide_uses (f) : (updTide f d).uses = d.uses := rfl
@[simp] theorem updPanBank_uses (b f) : (updPanBank b f d).uses = d.uses := rfl
@[simp] theorem orphanTickets_uses (k q) : (orphanTickets k q d).uses = d.uses := rfl
@[simp] theorem withTxns_uses (t) : (withTxns t d).uses = d.uses := rfl
@[simp] theorem updGang_uses (g f) : (updGang g f d).uses = d.uses := rfl
@[simp] theorem updPanPort_uses (k f) : (updPanPort k f d).uses = d.uses := rfl

/-! ### outputs -/

@[simp] theorem updPage_outputs (k f) : (updPage k f d).outputs = d.outputs := rfl
@[simp] theorem updAudio_outputs (f) : (updAudio f d).outputs = d.outputs := rfl
@[simp] theorem updInst_outputs (n f) : (updInst n f d).outputs = d.outputs := rfl
@[simp] theorem updDram_outputs (f) : (updDram f d).outputs = d.outputs := rfl
@[simp] theorem updQueue_outputs (k q f) : (updQueue k q f d).outputs = d.outputs := rfl
@[simp] theorem putLayer_outputs (n l) : (putLayer n l d).outputs = d.outputs := rfl
@[simp] theorem updPan_outputs (f) : (updPan f d).outputs = d.outputs := rfl
@[simp] theorem updTxn_outputs (n f) : (updTxn n f d).outputs = d.outputs := rfl
@[simp] theorem updCv_outputs (u f) : (updCv u f d).outputs = d.outputs := rfl
@[simp] theorem updPower_outputs (f) : (updPower f d).outputs = d.outputs := rfl
@[simp] theorem updPort_outputs (p f) : (updPort p f d).outputs = d.outputs := rfl
@[simp] theorem updHap_outputs (c f) : (updHap c f d).outputs = d.outputs := rfl
@[simp] theorem updSec_outputs (f) : (updSec f d).outputs = d.outputs := rfl
@[simp] theorem updMon_outputs (o m f) : (updMon o m f d).outputs = d.outputs := rfl
@[simp] theorem updHarvest_outputs (k f) : (updHarvest k f d).outputs = d.outputs := rfl
@[simp] theorem updTide_outputs (f) : (updTide f d).outputs = d.outputs := rfl
@[simp] theorem updPanBank_outputs (b f) : (updPanBank b f d).outputs = d.outputs := rfl
@[simp] theorem orphanTickets_outputs (k q) : (orphanTickets k q d).outputs = d.outputs := rfl
@[simp] theorem withTxns_outputs (t) : (withTxns t d).outputs = d.outputs := rfl
@[simp] theorem updGang_outputs (g f) : (updGang g f d).outputs = d.outputs := rfl
@[simp] theorem updPanPort_outputs (k f) : (updPanPort k f d).outputs = d.outputs := rfl

/-! ### staging -/

@[simp] theorem updPage_staging (k f) : (updPage k f d).staging = d.staging := rfl
@[simp] theorem updAudio_staging (f) : (updAudio f d).staging = d.staging := rfl
@[simp] theorem updInst_staging (n f) : (updInst n f d).staging = d.staging := rfl
@[simp] theorem updOut_staging (o f) : (updOut o f d).staging = d.staging := rfl
@[simp] theorem updDram_staging (f) : (updDram f d).staging = d.staging := rfl
@[simp] theorem updQueue_staging (k q f) : (updQueue k q f d).staging = d.staging := rfl
@[simp] theorem putLayer_staging (n l) : (putLayer n l d).staging = d.staging := rfl
@[simp] theorem updPan_staging (f) : (updPan f d).staging = d.staging := rfl
@[simp] theorem updTxn_staging (n f) : (updTxn n f d).staging = d.staging := rfl
@[simp] theorem updCv_staging (u f) : (updCv u f d).staging = d.staging := rfl
@[simp] theorem updPower_staging (f) : (updPower f d).staging = d.staging := rfl
@[simp] theorem updPort_staging (p f) : (updPort p f d).staging = d.staging := rfl
@[simp] theorem updHap_staging (c f) : (updHap c f d).staging = d.staging := rfl
@[simp] theorem updSec_staging (f) : (updSec f d).staging = d.staging := rfl
@[simp] theorem updMon_staging (o m f) : (updMon o m f d).staging = d.staging := rfl
@[simp] theorem updHarvest_staging (k f) : (updHarvest k f d).staging = d.staging := rfl
@[simp] theorem updTide_staging (f) : (updTide f d).staging = d.staging := rfl
@[simp] theorem updPanBank_staging (b f) : (updPanBank b f d).staging = d.staging := rfl
@[simp] theorem orphanTickets_staging (k q) : (orphanTickets k q d).staging = d.staging := rfl
@[simp] theorem withTxns_staging (t) : (withTxns t d).staging = d.staging := rfl
@[simp] theorem updGang_staging (g f) : (updGang g f d).staging = d.staging := rfl
@[simp] theorem updPanPort_staging (k f) : (updPanPort k f d).staging = d.staging := rfl

/-! ### pipes -/

@[simp] theorem updPage_pipes (k f) : (updPage k f d).pipes = d.pipes := rfl
@[simp] theorem updAudio_pipes (f) : (updAudio f d).pipes = d.pipes := rfl
@[simp] theorem updInst_pipes (n f) : (updInst n f d).pipes = d.pipes := rfl
@[simp] theorem updOut_pipes (o f) : (updOut o f d).pipes = d.pipes := rfl
@[simp] theorem updDram_pipes (f) : (updDram f d).pipes = d.pipes := rfl
@[simp] theorem updQueue_pipes (k q f) : (updQueue k q f d).pipes = d.pipes := rfl
@[simp] theorem putLayer_pipes (n l) : (putLayer n l d).pipes = d.pipes := rfl
@[simp] theorem updPan_pipes (f) : (updPan f d).pipes = d.pipes := rfl
@[simp] theorem updTxn_pipes (n f) : (updTxn n f d).pipes = d.pipes := rfl
@[simp] theorem updCv_pipes (u f) : (updCv u f d).pipes = d.pipes := rfl
@[simp] theorem updPower_pipes (f) : (updPower f d).pipes = d.pipes := rfl
@[simp] theorem updPort_pipes (p f) : (updPort p f d).pipes = d.pipes := rfl
@[simp] theorem updHap_pipes (c f) : (updHap c f d).pipes = d.pipes := rfl
@[simp] theorem updSec_pipes (f) : (updSec f d).pipes = d.pipes := rfl
@[simp] theorem updMon_pipes (o m f) : (updMon o m f d).pipes = d.pipes := rfl
@[simp] theorem updHarvest_pipes (k f) : (updHarvest k f d).pipes = d.pipes := rfl
@[simp] theorem updTide_pipes (f) : (updTide f d).pipes = d.pipes := rfl
@[simp] theorem updPanBank_pipes (b f) : (updPanBank b f d).pipes = d.pipes := rfl
@[simp] theorem orphanTickets_pipes (k q) : (orphanTickets k q d).pipes = d.pipes := rfl
@[simp] theorem withTxns_pipes (t) : (withTxns t d).pipes = d.pipes := rfl
@[simp] theorem updGang_pipes (g f) : (updGang g f d).pipes = d.pipes := rfl
@[simp] theorem updPanPort_pipes (k f) : (updPanPort k f d).pipes = d.pipes := rfl

/-! ### pipeNeeds -/

@[simp] theorem updPage_pipeNeeds (k f) : (updPage k f d).pipeNeeds = d.pipeNeeds := rfl
@[simp] theorem updAudio_pipeNeeds (f) : (updAudio f d).pipeNeeds = d.pipeNeeds := rfl
@[simp] theorem updInst_pipeNeeds (n f) : (updInst n f d).pipeNeeds = d.pipeNeeds := rfl
@[simp] theorem updOut_pipeNeeds (o f) : (updOut o f d).pipeNeeds = d.pipeNeeds := rfl
@[simp] theorem updDram_pipeNeeds (f) : (updDram f d).pipeNeeds = d.pipeNeeds := rfl
@[simp] theorem updQueue_pipeNeeds (k q f) : (updQueue k q f d).pipeNeeds = d.pipeNeeds := rfl
@[simp] theorem putLayer_pipeNeeds (n l) : (putLayer n l d).pipeNeeds = d.pipeNeeds := rfl
@[simp] theorem updPan_pipeNeeds (f) : (updPan f d).pipeNeeds = d.pipeNeeds := rfl
@[simp] theorem updTxn_pipeNeeds (n f) : (updTxn n f d).pipeNeeds = d.pipeNeeds := rfl
@[simp] theorem updCv_pipeNeeds (u f) : (updCv u f d).pipeNeeds = d.pipeNeeds := rfl
@[simp] theorem updPower_pipeNeeds (f) : (updPower f d).pipeNeeds = d.pipeNeeds := rfl
@[simp] theorem updPort_pipeNeeds (p f) : (updPort p f d).pipeNeeds = d.pipeNeeds := rfl
@[simp] theorem updHap_pipeNeeds (c f) : (updHap c f d).pipeNeeds = d.pipeNeeds := rfl
@[simp] theorem updSec_pipeNeeds (f) : (updSec f d).pipeNeeds = d.pipeNeeds := rfl
@[simp] theorem updMon_pipeNeeds (o m f) : (updMon o m f d).pipeNeeds = d.pipeNeeds := rfl
@[simp] theorem updHarvest_pipeNeeds (k f) : (updHarvest k f d).pipeNeeds = d.pipeNeeds := rfl
@[simp] theorem updTide_pipeNeeds (f) : (updTide f d).pipeNeeds = d.pipeNeeds := rfl
@[simp] theorem updPanBank_pipeNeeds (b f) : (updPanBank b f d).pipeNeeds = d.pipeNeeds := rfl
@[simp] theorem orphanTickets_pipeNeeds (k q) : (orphanTickets k q d).pipeNeeds = d.pipeNeeds := rfl
@[simp] theorem withTxns_pipeNeeds (t) : (withTxns t d).pipeNeeds = d.pipeNeeds := rfl
@[simp] theorem updGang_pipeNeeds (g f) : (updGang g f d).pipeNeeds = d.pipeNeeds := rfl
@[simp] theorem updPanPort_pipeNeeds (k f) : (updPanPort k f d).pipeNeeds = d.pipeNeeds := rfl

/-! ### gangs -/

@[simp] theorem updPage_gangs (k f) : (updPage k f d).gangs = d.gangs := rfl
@[simp] theorem updAudio_gangs (f) : (updAudio f d).gangs = d.gangs := rfl
@[simp] theorem updInst_gangs (n f) : (updInst n f d).gangs = d.gangs := rfl
@[simp] theorem updOut_gangs (o f) : (updOut o f d).gangs = d.gangs := rfl
@[simp] theorem updDram_gangs (f) : (updDram f d).gangs = d.gangs := rfl
@[simp] theorem updQueue_gangs (k q f) : (updQueue k q f d).gangs = d.gangs := rfl
@[simp] theorem putLayer_gangs (n l) : (putLayer n l d).gangs = d.gangs := rfl
@[simp] theorem updPan_gangs (f) : (updPan f d).gangs = d.gangs := rfl
@[simp] theorem updTxn_gangs (n f) : (updTxn n f d).gangs = d.gangs := rfl
@[simp] theorem updCv_gangs (u f) : (updCv u f d).gangs = d.gangs := rfl
@[simp] theorem updPower_gangs (f) : (updPower f d).gangs = d.gangs := rfl
@[simp] theorem updPort_gangs (p f) : (updPort p f d).gangs = d.gangs := rfl
@[simp] theorem updHap_gangs (c f) : (updHap c f d).gangs = d.gangs := rfl
@[simp] theorem updSec_gangs (f) : (updSec f d).gangs = d.gangs := rfl
@[simp] theorem updMon_gangs (o m f) : (updMon o m f d).gangs = d.gangs := rfl
@[simp] theorem updHarvest_gangs (k f) : (updHarvest k f d).gangs = d.gangs := rfl
@[simp] theorem updTide_gangs (f) : (updTide f d).gangs = d.gangs := rfl
@[simp] theorem updPanBank_gangs (b f) : (updPanBank b f d).gangs = d.gangs := rfl
@[simp] theorem orphanTickets_gangs (k q) : (orphanTickets k q d).gangs = d.gangs := rfl
@[simp] theorem withTxns_gangs (t) : (withTxns t d).gangs = d.gangs := rfl
@[simp] theorem updPanPort_gangs (k f) : (updPanPort k f d).gangs = d.gangs := rfl

/-! ### harvest -/

@[simp] theorem updPage_harvest (k f) : (updPage k f d).harvest = d.harvest := rfl
@[simp] theorem updAudio_harvest (f) : (updAudio f d).harvest = d.harvest := rfl
@[simp] theorem updInst_harvest (n f) : (updInst n f d).harvest = d.harvest := rfl
@[simp] theorem updOut_harvest (o f) : (updOut o f d).harvest = d.harvest := rfl
@[simp] theorem updDram_harvest (f) : (updDram f d).harvest = d.harvest := rfl
@[simp] theorem updQueue_harvest (k q f) : (updQueue k q f d).harvest = d.harvest := rfl
@[simp] theorem putLayer_harvest (n l) : (putLayer n l d).harvest = d.harvest := rfl
@[simp] theorem updPan_harvest (f) : (updPan f d).harvest = d.harvest := rfl
@[simp] theorem updTxn_harvest (n f) : (updTxn n f d).harvest = d.harvest := rfl
@[simp] theorem updCv_harvest (u f) : (updCv u f d).harvest = d.harvest := rfl
@[simp] theorem updPower_harvest (f) : (updPower f d).harvest = d.harvest := rfl
@[simp] theorem updPort_harvest (p f) : (updPort p f d).harvest = d.harvest := rfl
@[simp] theorem updHap_harvest (c f) : (updHap c f d).harvest = d.harvest := rfl
@[simp] theorem updSec_harvest (f) : (updSec f d).harvest = d.harvest := rfl
@[simp] theorem updMon_harvest (o m f) : (updMon o m f d).harvest = d.harvest := rfl
@[simp] theorem updTide_harvest (f) : (updTide f d).harvest = d.harvest := rfl
@[simp] theorem updPanBank_harvest (b f) : (updPanBank b f d).harvest = d.harvest := rfl
@[simp] theorem orphanTickets_harvest (k q) : (orphanTickets k q d).harvest = d.harvest := rfl
@[simp] theorem withTxns_harvest (t) : (withTxns t d).harvest = d.harvest := rfl
@[simp] theorem updGang_harvest (g f) : (updGang g f d).harvest = d.harvest := rfl
@[simp] theorem updPanPort_harvest (k f) : (updPanPort k f d).harvest = d.harvest := rfl

/-! ### aux -/

@[simp] theorem updPage_aux (k f) : (updPage k f d).aux = d.aux := rfl
@[simp] theorem updAudio_aux (f) : (updAudio f d).aux = d.aux := rfl
@[simp] theorem updInst_aux (n f) : (updInst n f d).aux = d.aux := rfl
@[simp] theorem updOut_aux (o f) : (updOut o f d).aux = d.aux := rfl
@[simp] theorem updDram_aux (f) : (updDram f d).aux = d.aux := rfl
@[simp] theorem updQueue_aux (k q f) : (updQueue k q f d).aux = d.aux := rfl
@[simp] theorem putLayer_aux (n l) : (putLayer n l d).aux = d.aux := rfl
@[simp] theorem updPan_aux (f) : (updPan f d).aux = d.aux := rfl
@[simp] theorem updTxn_aux (n f) : (updTxn n f d).aux = d.aux := rfl
@[simp] theorem updCv_aux (u f) : (updCv u f d).aux = d.aux := rfl
@[simp] theorem updPower_aux (f) : (updPower f d).aux = d.aux := rfl
@[simp] theorem updPort_aux (p f) : (updPort p f d).aux = d.aux := rfl
@[simp] theorem updHap_aux (c f) : (updHap c f d).aux = d.aux := rfl
@[simp] theorem updSec_aux (f) : (updSec f d).aux = d.aux := rfl
@[simp] theorem updMon_aux (o m f) : (updMon o m f d).aux = d.aux := rfl
@[simp] theorem updHarvest_aux (k f) : (updHarvest k f d).aux = d.aux := rfl
@[simp] theorem updTide_aux (f) : (updTide f d).aux = d.aux := rfl
@[simp] theorem updPanBank_aux (b f) : (updPanBank b f d).aux = d.aux := rfl
@[simp] theorem orphanTickets_aux (k q) : (orphanTickets k q d).aux = d.aux := rfl
@[simp] theorem withTxns_aux (t) : (withTxns t d).aux = d.aux := rfl
@[simp] theorem updGang_aux (g f) : (updGang g f d).aux = d.aux := rfl
@[simp] theorem updPanPort_aux (k f) : (updPanPort k f d).aux = d.aux := rfl

/-! ### cv -/

@[simp] theorem updPage_cv (k f) : (updPage k f d).cv = d.cv := rfl
@[simp] theorem updAudio_cv (f) : (updAudio f d).cv = d.cv := rfl
@[simp] theorem updInst_cv (n f) : (updInst n f d).cv = d.cv := rfl
@[simp] theorem updOut_cv (o f) : (updOut o f d).cv = d.cv := rfl
@[simp] theorem updDram_cv (f) : (updDram f d).cv = d.cv := rfl
@[simp] theorem updQueue_cv (k q f) : (updQueue k q f d).cv = d.cv := rfl
@[simp] theorem putLayer_cv (n l) : (putLayer n l d).cv = d.cv := rfl
@[simp] theorem updPan_cv (f) : (updPan f d).cv = d.cv := rfl
@[simp] theorem updTxn_cv (n f) : (updTxn n f d).cv = d.cv := rfl
@[simp] theorem updPower_cv (f) : (updPower f d).cv = d.cv := rfl
@[simp] theorem updPort_cv (p f) : (updPort p f d).cv = d.cv := rfl
@[simp] theorem updHap_cv (c f) : (updHap c f d).cv = d.cv := rfl
@[simp] theorem updSec_cv (f) : (updSec f d).cv = d.cv := rfl
@[simp] theorem updMon_cv (o m f) : (updMon o m f d).cv = d.cv := rfl
@[simp] theorem updHarvest_cv (k f) : (updHarvest k f d).cv = d.cv := rfl
@[simp] theorem updTide_cv (f) : (updTide f d).cv = d.cv := rfl
@[simp] theorem updPanBank_cv (b f) : (updPanBank b f d).cv = d.cv := rfl
@[simp] theorem orphanTickets_cv (k q) : (orphanTickets k q d).cv = d.cv := rfl
@[simp] theorem withTxns_cv (t) : (withTxns t d).cv = d.cv := rfl
@[simp] theorem updGang_cv (g f) : (updGang g f d).cv = d.cv := rfl
@[simp] theorem updPanPort_cv (k f) : (updPanPort k f d).cv = d.cv := rfl

/-! ### monitors -/

@[simp] theorem updPage_monitors (k f) : (updPage k f d).monitors = d.monitors := rfl
@[simp] theorem updAudio_monitors (f) : (updAudio f d).monitors = d.monitors := rfl
@[simp] theorem updInst_monitors (n f) : (updInst n f d).monitors = d.monitors := rfl
@[simp] theorem updOut_monitors (o f) : (updOut o f d).monitors = d.monitors := rfl
@[simp] theorem updDram_monitors (f) : (updDram f d).monitors = d.monitors := rfl
@[simp] theorem updQueue_monitors (k q f) : (updQueue k q f d).monitors = d.monitors := rfl
@[simp] theorem putLayer_monitors (n l) : (putLayer n l d).monitors = d.monitors := rfl
@[simp] theorem updPan_monitors (f) : (updPan f d).monitors = d.monitors := rfl
@[simp] theorem updTxn_monitors (n f) : (updTxn n f d).monitors = d.monitors := rfl
@[simp] theorem updCv_monitors (u f) : (updCv u f d).monitors = d.monitors := rfl
@[simp] theorem updPower_monitors (f) : (updPower f d).monitors = d.monitors := rfl
@[simp] theorem updPort_monitors (p f) : (updPort p f d).monitors = d.monitors := rfl
@[simp] theorem updHap_monitors (c f) : (updHap c f d).monitors = d.monitors := rfl
@[simp] theorem updSec_monitors (f) : (updSec f d).monitors = d.monitors := rfl
@[simp] theorem updHarvest_monitors (k f) : (updHarvest k f d).monitors = d.monitors := rfl
@[simp] theorem updTide_monitors (f) : (updTide f d).monitors = d.monitors := rfl
@[simp] theorem updPanBank_monitors (b f) : (updPanBank b f d).monitors = d.monitors := rfl
@[simp] theorem orphanTickets_monitors (k q) : (orphanTickets k q d).monitors = d.monitors := rfl
@[simp] theorem withTxns_monitors (t) : (withTxns t d).monitors = d.monitors := rfl
@[simp] theorem updGang_monitors (g f) : (updGang g f d).monitors = d.monitors := rfl
@[simp] theorem updPanPort_monitors (k f) : (updPanPort k f d).monitors = d.monitors := rfl

/-! ### touch -/

@[simp] theorem updPage_touch (k f) : (updPage k f d).touch = d.touch := rfl
@[simp] theorem updAudio_touch (f) : (updAudio f d).touch = d.touch := rfl
@[simp] theorem updInst_touch (n f) : (updInst n f d).touch = d.touch := rfl
@[simp] theorem updOut_touch (o f) : (updOut o f d).touch = d.touch := rfl
@[simp] theorem updDram_touch (f) : (updDram f d).touch = d.touch := rfl
@[simp] theorem updQueue_touch (k q f) : (updQueue k q f d).touch = d.touch := rfl
@[simp] theorem putLayer_touch (n l) : (putLayer n l d).touch = d.touch := rfl
@[simp] theorem updPan_touch (f) : (updPan f d).touch = d.touch := rfl
@[simp] theorem updTxn_touch (n f) : (updTxn n f d).touch = d.touch := rfl
@[simp] theorem updCv_touch (u f) : (updCv u f d).touch = d.touch := rfl
@[simp] theorem updPower_touch (f) : (updPower f d).touch = d.touch := rfl
@[simp] theorem updHap_touch (c f) : (updHap c f d).touch = d.touch := rfl
@[simp] theorem updSec_touch (f) : (updSec f d).touch = d.touch := rfl
@[simp] theorem updMon_touch (o m f) : (updMon o m f d).touch = d.touch := rfl
@[simp] theorem updHarvest_touch (k f) : (updHarvest k f d).touch = d.touch := rfl
@[simp] theorem updTide_touch (f) : (updTide f d).touch = d.touch := rfl
@[simp] theorem updPanBank_touch (b f) : (updPanBank b f d).touch = d.touch := rfl
@[simp] theorem orphanTickets_touch (k q) : (orphanTickets k q d).touch = d.touch := rfl
@[simp] theorem withTxns_touch (t) : (withTxns t d).touch = d.touch := rfl
@[simp] theorem updGang_touch (g f) : (updGang g f d).touch = d.touch := rfl
@[simp] theorem updPanPort_touch (k f) : (updPanPort k f d).touch = d.touch := rfl

/-! ### serials -/

@[simp] theorem updPage_serials (k f) : (updPage k f d).serials = d.serials := rfl
@[simp] theorem updAudio_serials (f) : (updAudio f d).serials = d.serials := rfl
@[simp] theorem updInst_serials (n f) : (updInst n f d).serials = d.serials := rfl
@[simp] theorem updOut_serials (o f) : (updOut o f d).serials = d.serials := rfl
@[simp] theorem updDram_serials (f) : (updDram f d).serials = d.serials := rfl
@[simp] theorem updQueue_serials (k q f) : (updQueue k q f d).serials = d.serials := rfl
@[simp] theorem putLayer_serials (n l) : (putLayer n l d).serials = d.serials := rfl
@[simp] theorem updPan_serials (f) : (updPan f d).serials = d.serials := rfl
@[simp] theorem updTxn_serials (n f) : (updTxn n f d).serials = d.serials := rfl
@[simp] theorem updCv_serials (u f) : (updCv u f d).serials = d.serials := rfl
@[simp] theorem updPower_serials (f) : (updPower f d).serials = d.serials := rfl
@[simp] theorem updPort_serials (p f) : (updPort p f d).serials = d.serials := rfl
@[simp] theorem updHap_serials (c f) : (updHap c f d).serials = d.serials := rfl
@[simp] theorem updSec_serials (f) : (updSec f d).serials = d.serials := rfl
@[simp] theorem updMon_serials (o m f) : (updMon o m f d).serials = d.serials := rfl
@[simp] theorem updHarvest_serials (k f) : (updHarvest k f d).serials = d.serials := rfl
@[simp] theorem updTide_serials (f) : (updTide f d).serials = d.serials := rfl
@[simp] theorem updPanBank_serials (b f) : (updPanBank b f d).serials = d.serials := rfl
@[simp] theorem orphanTickets_serials (k q) : (orphanTickets k q d).serials = d.serials := rfl
@[simp] theorem withTxns_serials (t) : (withTxns t d).serials = d.serials := rfl
@[simp] theorem updGang_serials (g f) : (updGang g f d).serials = d.serials := rfl
@[simp] theorem updPanPort_serials (k f) : (updPanPort k f d).serials = d.serials := rfl

/-! ### haptic -/

@[simp] theorem updPage_haptic (k f) : (updPage k f d).haptic = d.haptic := rfl
@[simp] theorem updAudio_haptic (f) : (updAudio f d).haptic = d.haptic := rfl
@[simp] theorem updInst_haptic (n f) : (updInst n f d).haptic = d.haptic := rfl
@[simp] theorem updOut_haptic (o f) : (updOut o f d).haptic = d.haptic := rfl
@[simp] theorem updDram_haptic (f) : (updDram f d).haptic = d.haptic := rfl
@[simp] theorem updQueue_haptic (k q f) : (updQueue k q f d).haptic = d.haptic := rfl
@[simp] theorem putLayer_haptic (n l) : (putLayer n l d).haptic = d.haptic := rfl
@[simp] theorem updPan_haptic (f) : (updPan f d).haptic = d.haptic := rfl
@[simp] theorem updTxn_haptic (n f) : (updTxn n f d).haptic = d.haptic := rfl
@[simp] theorem updCv_haptic (u f) : (updCv u f d).haptic = d.haptic := rfl
@[simp] theorem updPower_haptic (f) : (updPower f d).haptic = d.haptic := rfl
@[simp] theorem updPort_haptic (p f) : (updPort p f d).haptic = d.haptic := rfl
@[simp] theorem updSec_haptic (f) : (updSec f d).haptic = d.haptic := rfl
@[simp] theorem updMon_haptic (o m f) : (updMon o m f d).haptic = d.haptic := rfl
@[simp] theorem updHarvest_haptic (k f) : (updHarvest k f d).haptic = d.haptic := rfl
@[simp] theorem updTide_haptic (f) : (updTide f d).haptic = d.haptic := rfl
@[simp] theorem updPanBank_haptic (b f) : (updPanBank b f d).haptic = d.haptic := rfl
@[simp] theorem orphanTickets_haptic (k q) : (orphanTickets k q d).haptic = d.haptic := rfl
@[simp] theorem withTxns_haptic (t) : (withTxns t d).haptic = d.haptic := rfl
@[simp] theorem updGang_haptic (g f) : (updGang g f d).haptic = d.haptic := rfl
@[simp] theorem updPanPort_haptic (k f) : (updPanPort k f d).haptic = d.haptic := rfl

/-! ### audio -/

@[simp] theorem updPage_audio (k f) : (updPage k f d).audio = d.audio := rfl
@[simp] theorem updAudio_audio (f) : (updAudio f d).audio = f d.audio := rfl
@[simp] theorem updInst_audio (n f) : (updInst n f d).audio = d.audio := rfl
@[simp] theorem updOut_audio (o f) : (updOut o f d).audio = d.audio := rfl
@[simp] theorem updDram_audio (f) : (updDram f d).audio = d.audio := rfl
@[simp] theorem updQueue_audio (k q f) : (updQueue k q f d).audio = d.audio := rfl
@[simp] theorem putLayer_audio (n l) : (putLayer n l d).audio = d.audio := rfl
@[simp] theorem updPan_audio (f) : (updPan f d).audio = d.audio := rfl
@[simp] theorem updTxn_audio (n f) : (updTxn n f d).audio = d.audio := rfl
@[simp] theorem updCv_audio (u f) : (updCv u f d).audio = d.audio := rfl
@[simp] theorem updPower_audio (f) : (updPower f d).audio = d.audio := rfl
@[simp] theorem updPort_audio (p f) : (updPort p f d).audio = d.audio := rfl
@[simp] theorem updHap_audio (c f) : (updHap c f d).audio = d.audio := rfl
@[simp] theorem updSec_audio (f) : (updSec f d).audio = d.audio := rfl
@[simp] theorem updMon_audio (o m f) : (updMon o m f d).audio = d.audio := rfl
@[simp] theorem updHarvest_audio (k f) : (updHarvest k f d).audio = d.audio := rfl
@[simp] theorem updTide_audio (f) : (updTide f d).audio = d.audio := rfl
@[simp] theorem updPanBank_audio (b f) : (updPanBank b f d).audio = d.audio := rfl
@[simp] theorem orphanTickets_audio (k q) : (orphanTickets k q d).audio = d.audio := rfl
@[simp] theorem withTxns_audio (t) : (withTxns t d).audio = d.audio := rfl
@[simp] theorem updGang_audio (g f) : (updGang g f d).audio = d.audio := rfl
@[simp] theorem updPanPort_audio (k f) : (updPanPort k f d).audio = d.audio := rfl

/-! ### dram -/

@[simp] theorem updPage_dram (k f) : (updPage k f d).dram = d.dram := rfl
@[simp] theorem updAudio_dram (f) : (updAudio f d).dram = d.dram := rfl
@[simp] theorem updInst_dram (n f) : (updInst n f d).dram = d.dram := rfl
@[simp] theorem updOut_dram (o f) : (updOut o f d).dram = d.dram := rfl
@[simp] theorem updDram_dram (f) : (updDram f d).dram = f d.dram := rfl
@[simp] theorem updQueue_dram (k q f) : (updQueue k q f d).dram = d.dram := rfl
@[simp] theorem putLayer_dram (n l) : (putLayer n l d).dram = d.dram := rfl
@[simp] theorem updPan_dram (f) : (updPan f d).dram = d.dram := rfl
@[simp] theorem updTxn_dram (n f) : (updTxn n f d).dram = d.dram := rfl
@[simp] theorem updCv_dram (u f) : (updCv u f d).dram = d.dram := rfl
@[simp] theorem updPower_dram (f) : (updPower f d).dram = d.dram := rfl
@[simp] theorem updPort_dram (p f) : (updPort p f d).dram = d.dram := rfl
@[simp] theorem updHap_dram (c f) : (updHap c f d).dram = d.dram := rfl
@[simp] theorem updSec_dram (f) : (updSec f d).dram = d.dram := rfl
@[simp] theorem updMon_dram (o m f) : (updMon o m f d).dram = d.dram := rfl
@[simp] theorem updHarvest_dram (k f) : (updHarvest k f d).dram = d.dram := rfl
@[simp] theorem updTide_dram (f) : (updTide f d).dram = d.dram := rfl
@[simp] theorem updPanBank_dram (b f) : (updPanBank b f d).dram = d.dram := rfl
@[simp] theorem orphanTickets_dram (k q) : (orphanTickets k q d).dram = d.dram := rfl
@[simp] theorem withTxns_dram (t) : (withTxns t d).dram = d.dram := rfl
@[simp] theorem updGang_dram (g f) : (updGang g f d).dram = d.dram := rfl
@[simp] theorem updPanPort_dram (k f) : (updPanPort k f d).dram = d.dram := rfl

/-! ### pan -/

@[simp] theorem updPage_pan (k f) : (updPage k f d).pan = d.pan := rfl
@[simp] theorem updAudio_pan (f) : (updAudio f d).pan = d.pan := rfl
@[simp] theorem updInst_pan (n f) : (updInst n f d).pan = d.pan := rfl
@[simp] theorem updOut_pan (o f) : (updOut o f d).pan = d.pan := rfl
@[simp] theorem updDram_pan (f) : (updDram f d).pan = d.pan := rfl
@[simp] theorem updQueue_pan (k q f) : (updQueue k q f d).pan = d.pan := rfl
@[simp] theorem putLayer_pan (n l) : (putLayer n l d).pan = d.pan := rfl
@[simp] theorem updPan_pan (f) : (updPan f d).pan = f d.pan := rfl
@[simp] theorem updTxn_pan (n f) : (updTxn n f d).pan = d.pan := rfl
@[simp] theorem updCv_pan (u f) : (updCv u f d).pan = d.pan := rfl
@[simp] theorem updPower_pan (f) : (updPower f d).pan = d.pan := rfl
@[simp] theorem updPort_pan (p f) : (updPort p f d).pan = d.pan := rfl
@[simp] theorem updHap_pan (c f) : (updHap c f d).pan = d.pan := rfl
@[simp] theorem updSec_pan (f) : (updSec f d).pan = d.pan := rfl
@[simp] theorem updMon_pan (o m f) : (updMon o m f d).pan = d.pan := rfl
@[simp] theorem updHarvest_pan (k f) : (updHarvest k f d).pan = d.pan := rfl
@[simp] theorem updTide_pan (f) : (updTide f d).pan = d.pan := rfl
@[simp] theorem orphanTickets_pan (k q) : (orphanTickets k q d).pan = d.pan := rfl
@[simp] theorem withTxns_pan (t) : (withTxns t d).pan = d.pan := rfl
@[simp] theorem updGang_pan (g f) : (updGang g f d).pan = d.pan := rfl

/-! ### sec -/

@[simp] theorem updPage_sec (k f) : (updPage k f d).sec = d.sec := rfl
@[simp] theorem updAudio_sec (f) : (updAudio f d).sec = d.sec := rfl
@[simp] theorem updInst_sec (n f) : (updInst n f d).sec = d.sec := rfl
@[simp] theorem updOut_sec (o f) : (updOut o f d).sec = d.sec := rfl
@[simp] theorem updDram_sec (f) : (updDram f d).sec = d.sec := rfl
@[simp] theorem updQueue_sec (k q f) : (updQueue k q f d).sec = d.sec := rfl
@[simp] theorem putLayer_sec (n l) : (putLayer n l d).sec = d.sec := rfl
@[simp] theorem updPan_sec (f) : (updPan f d).sec = d.sec := rfl
@[simp] theorem updTxn_sec (n f) : (updTxn n f d).sec = d.sec := rfl
@[simp] theorem updCv_sec (u f) : (updCv u f d).sec = d.sec := rfl
@[simp] theorem updPower_sec (f) : (updPower f d).sec = d.sec := rfl
@[simp] theorem updPort_sec (p f) : (updPort p f d).sec = d.sec := rfl
@[simp] theorem updHap_sec (c f) : (updHap c f d).sec = d.sec := rfl
@[simp] theorem updSec_sec (f) : (updSec f d).sec = f d.sec := rfl
@[simp] theorem updMon_sec (o m f) : (updMon o m f d).sec = d.sec := rfl
@[simp] theorem updHarvest_sec (k f) : (updHarvest k f d).sec = d.sec := rfl
@[simp] theorem updTide_sec (f) : (updTide f d).sec = d.sec := rfl
@[simp] theorem updPanBank_sec (b f) : (updPanBank b f d).sec = d.sec := rfl
@[simp] theorem orphanTickets_sec (k q) : (orphanTickets k q d).sec = d.sec := rfl
@[simp] theorem withTxns_sec (t) : (withTxns t d).sec = d.sec := rfl
@[simp] theorem updGang_sec (g f) : (updGang g f d).sec = d.sec := rfl
@[simp] theorem updPanPort_sec (k f) : (updPanPort k f d).sec = d.sec := rfl

/-! ### power -/

@[simp] theorem updPage_power (k f) : (updPage k f d).power = d.power := rfl
@[simp] theorem updAudio_power (f) : (updAudio f d).power = d.power := rfl
@[simp] theorem updInst_power (n f) : (updInst n f d).power = d.power := rfl
@[simp] theorem updOut_power (o f) : (updOut o f d).power = d.power := rfl
@[simp] theorem updDram_power (f) : (updDram f d).power = d.power := rfl
@[simp] theorem updQueue_power (k q f) : (updQueue k q f d).power = d.power := rfl
@[simp] theorem putLayer_power (n l) : (putLayer n l d).power = d.power := rfl
@[simp] theorem updPan_power (f) : (updPan f d).power = d.power := rfl
@[simp] theorem updTxn_power (n f) : (updTxn n f d).power = d.power := rfl
@[simp] theorem updCv_power (u f) : (updCv u f d).power = d.power := rfl
@[simp] theorem updPower_power (f) : (updPower f d).power = f d.power := rfl
@[simp] theorem updPort_power (p f) : (updPort p f d).power = d.power := rfl
@[simp] theorem updHap_power (c f) : (updHap c f d).power = d.power := rfl
@[simp] theorem updSec_power (f) : (updSec f d).power = d.power := rfl
@[simp] theorem updMon_power (o m f) : (updMon o m f d).power = d.power := rfl
@[simp] theorem updHarvest_power (k f) : (updHarvest k f d).power = d.power := rfl
@[simp] theorem updTide_power (f) : (updTide f d).power = d.power := rfl
@[simp] theorem updPanBank_power (b f) : (updPanBank b f d).power = d.power := rfl
@[simp] theorem orphanTickets_power (k q) : (orphanTickets k q d).power = d.power := rfl
@[simp] theorem withTxns_power (t) : (withTxns t d).power = d.power := rfl
@[simp] theorem updGang_power (g f) : (updGang g f d).power = d.power := rfl
@[simp] theorem updPanPort_power (k f) : (updPanPort k f d).power = d.power := rfl

/-! ### sup -/

@[simp] theorem updPage_sup (k f) : (updPage k f d).sup = d.sup := rfl
@[simp] theorem updAudio_sup (f) : (updAudio f d).sup = d.sup := rfl
@[simp] theorem updInst_sup (n f) : (updInst n f d).sup = d.sup := rfl
@[simp] theorem updOut_sup (o f) : (updOut o f d).sup = d.sup := rfl
@[simp] theorem updDram_sup (f) : (updDram f d).sup = d.sup := rfl
@[simp] theorem updQueue_sup (k q f) : (updQueue k q f d).sup = d.sup := rfl
@[simp] theorem putLayer_sup (n l) : (putLayer n l d).sup = d.sup := rfl
@[simp] theorem updPan_sup (f) : (updPan f d).sup = d.sup := rfl
@[simp] theorem updTxn_sup (n f) : (updTxn n f d).sup = d.sup := rfl
@[simp] theorem updCv_sup (u f) : (updCv u f d).sup = d.sup := rfl
@[simp] theorem updPower_sup (f) : (updPower f d).sup = d.sup := rfl
@[simp] theorem updPort_sup (p f) : (updPort p f d).sup = d.sup := rfl
@[simp] theorem updHap_sup (c f) : (updHap c f d).sup = d.sup := rfl
@[simp] theorem updSec_sup (f) : (updSec f d).sup = d.sup := rfl
@[simp] theorem updMon_sup (o m f) : (updMon o m f d).sup = d.sup := rfl
@[simp] theorem updHarvest_sup (k f) : (updHarvest k f d).sup = d.sup := rfl
@[simp] theorem updTide_sup (f) : (updTide f d).sup = d.sup := rfl
@[simp] theorem updPanBank_sup (b f) : (updPanBank b f d).sup = d.sup := rfl
@[simp] theorem orphanTickets_sup (k q) : (orphanTickets k q d).sup = d.sup := rfl
@[simp] theorem withTxns_sup (t) : (withTxns t d).sup = d.sup := rfl
@[simp] theorem updGang_sup (g f) : (updGang g f d).sup = d.sup := rfl
@[simp] theorem updPanPort_sup (k f) : (updPanPort k f d).sup = d.sup := rfl

/-! ### dramMem -/

@[simp] theorem updPage_dramMem (k f) : (updPage k f d).dramMem = d.dramMem := rfl
@[simp] theorem updAudio_dramMem (f) : (updAudio f d).dramMem = d.dramMem := rfl
@[simp] theorem updInst_dramMem (n f) : (updInst n f d).dramMem = d.dramMem := rfl
@[simp] theorem updOut_dramMem (o f) : (updOut o f d).dramMem = d.dramMem := rfl
@[simp] theorem updDram_dramMem (f) : (updDram f d).dramMem = d.dramMem := rfl
@[simp] theorem updQueue_dramMem (k q f) : (updQueue k q f d).dramMem = d.dramMem := rfl
@[simp] theorem putLayer_dramMem (n l) : (putLayer n l d).dramMem = d.dramMem := rfl
@[simp] theorem updPan_dramMem (f) : (updPan f d).dramMem = d.dramMem := rfl
@[simp] theorem updTxn_dramMem (n f) : (updTxn n f d).dramMem = d.dramMem := rfl
@[simp] theorem updCv_dramMem (u f) : (updCv u f d).dramMem = d.dramMem := rfl
@[simp] theorem updPower_dramMem (f) : (updPower f d).dramMem = d.dramMem := rfl
@[simp] theorem updPort_dramMem (p f) : (updPort p f d).dramMem = d.dramMem := rfl
@[simp] theorem updHap_dramMem (c f) : (updHap c f d).dramMem = d.dramMem := rfl
@[simp] theorem updSec_dramMem (f) : (updSec f d).dramMem = d.dramMem := rfl
@[simp] theorem updMon_dramMem (o m f) : (updMon o m f d).dramMem = d.dramMem := rfl
@[simp] theorem updHarvest_dramMem (k f) : (updHarvest k f d).dramMem = d.dramMem := rfl
@[simp] theorem updTide_dramMem (f) : (updTide f d).dramMem = d.dramMem := rfl
@[simp] theorem updPanBank_dramMem (b f) : (updPanBank b f d).dramMem = d.dramMem := rfl
@[simp] theorem orphanTickets_dramMem (k q) : (orphanTickets k q d).dramMem = d.dramMem := rfl
@[simp] theorem withTxns_dramMem (t) : (withTxns t d).dramMem = d.dramMem := rfl
@[simp] theorem updGang_dramMem (g f) : (updGang g f d).dramMem = d.dramMem := rfl
@[simp] theorem updPanPort_dramMem (k f) : (updPanPort k f d).dramMem = d.dramMem := rfl

/-! ### panMem -/

@[simp] theorem updPage_panMem (k f) : (updPage k f d).panMem = d.panMem := rfl
@[simp] theorem updAudio_panMem (f) : (updAudio f d).panMem = d.panMem := rfl
@[simp] theorem updInst_panMem (n f) : (updInst n f d).panMem = d.panMem := rfl
@[simp] theorem updOut_panMem (o f) : (updOut o f d).panMem = d.panMem := rfl
@[simp] theorem updDram_panMem (f) : (updDram f d).panMem = d.panMem := rfl
@[simp] theorem updQueue_panMem (k q f) : (updQueue k q f d).panMem = d.panMem := rfl
@[simp] theorem putLayer_panMem (n l) : (putLayer n l d).panMem = d.panMem := rfl
@[simp] theorem updPan_panMem (f) : (updPan f d).panMem = d.panMem := rfl
@[simp] theorem updTxn_panMem (n f) : (updTxn n f d).panMem = d.panMem := rfl
@[simp] theorem updCv_panMem (u f) : (updCv u f d).panMem = d.panMem := rfl
@[simp] theorem updPower_panMem (f) : (updPower f d).panMem = d.panMem := rfl
@[simp] theorem updPort_panMem (p f) : (updPort p f d).panMem = d.panMem := rfl
@[simp] theorem updHap_panMem (c f) : (updHap c f d).panMem = d.panMem := rfl
@[simp] theorem updSec_panMem (f) : (updSec f d).panMem = d.panMem := rfl
@[simp] theorem updMon_panMem (o m f) : (updMon o m f d).panMem = d.panMem := rfl
@[simp] theorem updHarvest_panMem (k f) : (updHarvest k f d).panMem = d.panMem := rfl
@[simp] theorem updTide_panMem (f) : (updTide f d).panMem = d.panMem := rfl
@[simp] theorem updPanBank_panMem (b f) : (updPanBank b f d).panMem = d.panMem := rfl
@[simp] theorem orphanTickets_panMem (k q) : (orphanTickets k q d).panMem = d.panMem := rfl
@[simp] theorem withTxns_panMem (t) : (withTxns t d).panMem = d.panMem := rfl
@[simp] theorem updGang_panMem (g f) : (updGang g f d).panMem = d.panMem := rfl
@[simp] theorem updPanPort_panMem (k f) : (updPanPort k f d).panMem = d.panMem := rfl

/-! ### fsA -/

@[simp] theorem updPage_fsA (k f) : (updPage k f d).fsA = d.fsA := rfl
@[simp] theorem updAudio_fsA (f) : (updAudio f d).fsA = d.fsA := rfl
@[simp] theorem updInst_fsA (n f) : (updInst n f d).fsA = d.fsA := rfl
@[simp] theorem updOut_fsA (o f) : (updOut o f d).fsA = d.fsA := rfl
@[simp] theorem updDram_fsA (f) : (updDram f d).fsA = d.fsA := rfl
@[simp] theorem updQueue_fsA (k q f) : (updQueue k q f d).fsA = d.fsA := rfl
@[simp] theorem putLayer_fsA (n l) : (putLayer n l d).fsA = d.fsA := rfl
@[simp] theorem updPan_fsA (f) : (updPan f d).fsA = d.fsA := rfl
@[simp] theorem updTxn_fsA (n f) : (updTxn n f d).fsA = d.fsA := rfl
@[simp] theorem updCv_fsA (u f) : (updCv u f d).fsA = d.fsA := rfl
@[simp] theorem updPower_fsA (f) : (updPower f d).fsA = d.fsA := rfl
@[simp] theorem updPort_fsA (p f) : (updPort p f d).fsA = d.fsA := rfl
@[simp] theorem updHap_fsA (c f) : (updHap c f d).fsA = d.fsA := rfl
@[simp] theorem updSec_fsA (f) : (updSec f d).fsA = d.fsA := rfl
@[simp] theorem updMon_fsA (o m f) : (updMon o m f d).fsA = d.fsA := rfl
@[simp] theorem updHarvest_fsA (k f) : (updHarvest k f d).fsA = d.fsA := rfl
@[simp] theorem updTide_fsA (f) : (updTide f d).fsA = d.fsA := rfl
@[simp] theorem updPanBank_fsA (b f) : (updPanBank b f d).fsA = d.fsA := rfl
@[simp] theorem orphanTickets_fsA (k q) : (orphanTickets k q d).fsA = d.fsA := rfl
@[simp] theorem withTxns_fsA (t) : (withTxns t d).fsA = d.fsA := rfl
@[simp] theorem updGang_fsA (g f) : (updGang g f d).fsA = d.fsA := rfl
@[simp] theorem updPanPort_fsA (k f) : (updPanPort k f d).fsA = d.fsA := rfl

/-! ### fsB -/

@[simp] theorem updPage_fsB (k f) : (updPage k f d).fsB = d.fsB := rfl
@[simp] theorem updAudio_fsB (f) : (updAudio f d).fsB = d.fsB := rfl
@[simp] theorem updInst_fsB (n f) : (updInst n f d).fsB = d.fsB := rfl
@[simp] theorem updOut_fsB (o f) : (updOut o f d).fsB = d.fsB := rfl
@[simp] theorem updDram_fsB (f) : (updDram f d).fsB = d.fsB := rfl
@[simp] theorem updQueue_fsB (k q f) : (updQueue k q f d).fsB = d.fsB := rfl
@[simp] theorem putLayer_fsB (n l) : (putLayer n l d).fsB = d.fsB := rfl
@[simp] theorem updPan_fsB (f) : (updPan f d).fsB = d.fsB := rfl
@[simp] theorem updTxn_fsB (n f) : (updTxn n f d).fsB = d.fsB := rfl
@[simp] theorem updCv_fsB (u f) : (updCv u f d).fsB = d.fsB := rfl
@[simp] theorem updPower_fsB (f) : (updPower f d).fsB = d.fsB := rfl
@[simp] theorem updPort_fsB (p f) : (updPort p f d).fsB = d.fsB := rfl
@[simp] theorem updHap_fsB (c f) : (updHap c f d).fsB = d.fsB := rfl
@[simp] theorem updSec_fsB (f) : (updSec f d).fsB = d.fsB := rfl
@[simp] theorem updMon_fsB (o m f) : (updMon o m f d).fsB = d.fsB := rfl
@[simp] theorem updHarvest_fsB (k f) : (updHarvest k f d).fsB = d.fsB := rfl
@[simp] theorem updTide_fsB (f) : (updTide f d).fsB = d.fsB := rfl
@[simp] theorem updPanBank_fsB (b f) : (updPanBank b f d).fsB = d.fsB := rfl
@[simp] theorem orphanTickets_fsB (k q) : (orphanTickets k q d).fsB = d.fsB := rfl
@[simp] theorem withTxns_fsB (t) : (withTxns t d).fsB = d.fsB := rfl
@[simp] theorem updGang_fsB (g f) : (updGang g f d).fsB = d.fsB := rfl
@[simp] theorem updPanPort_fsB (k f) : (updPanPort k f d).fsB = d.fsB := rfl

/-! ### guardBase -/

@[simp] theorem updPage_guardBase (k f) : (updPage k f d).guardBase = d.guardBase := rfl
@[simp] theorem updAudio_guardBase (f) : (updAudio f d).guardBase = d.guardBase := rfl
@[simp] theorem updInst_guardBase (n f) : (updInst n f d).guardBase = d.guardBase := rfl
@[simp] theorem updOut_guardBase (o f) : (updOut o f d).guardBase = d.guardBase := rfl
@[simp] theorem updDram_guardBase (f) : (updDram f d).guardBase = d.guardBase := rfl
@[simp] theorem updQueue_guardBase (k q f) : (updQueue k q f d).guardBase = d.guardBase := rfl
@[simp] theorem putLayer_guardBase (n l) : (putLayer n l d).guardBase = d.guardBase := rfl
@[simp] theorem updPan_guardBase (f) : (updPan f d).guardBase = d.guardBase := rfl
@[simp] theorem updTxn_guardBase (n f) : (updTxn n f d).guardBase = d.guardBase := rfl
@[simp] theorem updCv_guardBase (u f) : (updCv u f d).guardBase = d.guardBase := rfl
@[simp] theorem updPower_guardBase (f) : (updPower f d).guardBase = d.guardBase := rfl
@[simp] theorem updPort_guardBase (p f) : (updPort p f d).guardBase = d.guardBase := rfl
@[simp] theorem updHap_guardBase (c f) : (updHap c f d).guardBase = d.guardBase := rfl
@[simp] theorem updSec_guardBase (f) : (updSec f d).guardBase = d.guardBase := rfl
@[simp] theorem updMon_guardBase (o m f) : (updMon o m f d).guardBase = d.guardBase := rfl
@[simp] theorem updHarvest_guardBase (k f) : (updHarvest k f d).guardBase = d.guardBase := rfl
@[simp] theorem updTide_guardBase (f) : (updTide f d).guardBase = d.guardBase := rfl
@[simp] theorem updPanBank_guardBase (b f) : (updPanBank b f d).guardBase = d.guardBase := rfl
@[simp] theorem orphanTickets_guardBase (k q) : (orphanTickets k q d).guardBase = d.guardBase := rfl
@[simp] theorem withTxns_guardBase (t) : (withTxns t d).guardBase = d.guardBase := rfl
@[simp] theorem updGang_guardBase (g f) : (updGang g f d).guardBase = d.guardBase := rfl
@[simp] theorem updPanPort_guardBase (k f) : (updPanPort k f d).guardBase = d.guardBase := rfl

/-! ### guardSize -/

@[simp] theorem updPage_guardSize (k f) : (updPage k f d).guardSize = d.guardSize := rfl
@[simp] theorem updAudio_guardSize (f) : (updAudio f d).guardSize = d.guardSize := rfl
@[simp] theorem updInst_guardSize (n f) : (updInst n f d).guardSize = d.guardSize := rfl
@[simp] theorem updOut_guardSize (o f) : (updOut o f d).guardSize = d.guardSize := rfl
@[simp] theorem updDram_guardSize (f) : (updDram f d).guardSize = d.guardSize := rfl
@[simp] theorem updQueue_guardSize (k q f) : (updQueue k q f d).guardSize = d.guardSize := rfl
@[simp] theorem putLayer_guardSize (n l) : (putLayer n l d).guardSize = d.guardSize := rfl
@[simp] theorem updPan_guardSize (f) : (updPan f d).guardSize = d.guardSize := rfl
@[simp] theorem updTxn_guardSize (n f) : (updTxn n f d).guardSize = d.guardSize := rfl
@[simp] theorem updCv_guardSize (u f) : (updCv u f d).guardSize = d.guardSize := rfl
@[simp] theorem updPower_guardSize (f) : (updPower f d).guardSize = d.guardSize := rfl
@[simp] theorem updPort_guardSize (p f) : (updPort p f d).guardSize = d.guardSize := rfl
@[simp] theorem updHap_guardSize (c f) : (updHap c f d).guardSize = d.guardSize := rfl
@[simp] theorem updSec_guardSize (f) : (updSec f d).guardSize = d.guardSize := rfl
@[simp] theorem updMon_guardSize (o m f) : (updMon o m f d).guardSize = d.guardSize := rfl
@[simp] theorem updHarvest_guardSize (k f) : (updHarvest k f d).guardSize = d.guardSize := rfl
@[simp] theorem updTide_guardSize (f) : (updTide f d).guardSize = d.guardSize := rfl
@[simp] theorem updPanBank_guardSize (b f) : (updPanBank b f d).guardSize = d.guardSize := rfl
@[simp] theorem orphanTickets_guardSize (k q) : (orphanTickets k q d).guardSize = d.guardSize := rfl
@[simp] theorem withTxns_guardSize (t) : (withTxns t d).guardSize = d.guardSize := rfl
@[simp] theorem updGang_guardSize (g f) : (updGang g f d).guardSize = d.guardSize := rfl
@[simp] theorem updPanPort_guardSize (k f) : (updPanPort k f d).guardSize = d.guardSize := rfl

/-! ### regionRefused -/

@[simp] theorem updPage_regionRefused (k f) : (updPage k f d).regionRefused = d.regionRefused := rfl
@[simp] theorem updAudio_regionRefused (f) : (updAudio f d).regionRefused = d.regionRefused := rfl
@[simp] theorem updInst_regionRefused (n f) : (updInst n f d).regionRefused = d.regionRefused := rfl
@[simp] theorem updOut_regionRefused (o f) : (updOut o f d).regionRefused = d.regionRefused := rfl
@[simp] theorem updDram_regionRefused (f) : (updDram f d).regionRefused = d.regionRefused := rfl
@[simp] theorem updQueue_regionRefused (k q f) : (updQueue k q f d).regionRefused = d.regionRefused := rfl
@[simp] theorem putLayer_regionRefused (n l) : (putLayer n l d).regionRefused = d.regionRefused := rfl
@[simp] theorem updPan_regionRefused (f) : (updPan f d).regionRefused = d.regionRefused := rfl
@[simp] theorem updTxn_regionRefused (n f) : (updTxn n f d).regionRefused = d.regionRefused := rfl
@[simp] theorem updCv_regionRefused (u f) : (updCv u f d).regionRefused = d.regionRefused := rfl
@[simp] theorem updPower_regionRefused (f) : (updPower f d).regionRefused = d.regionRefused := rfl
@[simp] theorem updPort_regionRefused (p f) : (updPort p f d).regionRefused = d.regionRefused := rfl
@[simp] theorem updHap_regionRefused (c f) : (updHap c f d).regionRefused = d.regionRefused := rfl
@[simp] theorem updSec_regionRefused (f) : (updSec f d).regionRefused = d.regionRefused := rfl
@[simp] theorem updMon_regionRefused (o m f) : (updMon o m f d).regionRefused = d.regionRefused := rfl
@[simp] theorem updHarvest_regionRefused (k f) : (updHarvest k f d).regionRefused = d.regionRefused := rfl
@[simp] theorem updTide_regionRefused (f) : (updTide f d).regionRefused = d.regionRefused := rfl
@[simp] theorem updPanBank_regionRefused (b f) : (updPanBank b f d).regionRefused = d.regionRefused := rfl
@[simp] theorem orphanTickets_regionRefused (k q) : (orphanTickets k q d).regionRefused = d.regionRefused := rfl
@[simp] theorem withTxns_regionRefused (t) : (withTxns t d).regionRefused = d.regionRefused := rfl
@[simp] theorem updGang_regionRefused (g f) : (updGang g f d).regionRefused = d.regionRefused := rfl
@[simp] theorem updPanPort_regionRefused (k f) : (updPanPort k f d).regionRefused = d.regionRefused := rfl

/-! ### raised -/

@[simp] theorem updPage_raised (k f) : (updPage k f d).raised = d.raised := rfl
@[simp] theorem updAudio_raised (f) : (updAudio f d).raised = d.raised := rfl
@[simp] theorem updInst_raised (n f) : (updInst n f d).raised = d.raised := rfl
@[simp] theorem updOut_raised (o f) : (updOut o f d).raised = d.raised := rfl
@[simp] theorem updDram_raised (f) : (updDram f d).raised = d.raised := rfl
@[simp] theorem updQueue_raised (k q f) : (updQueue k q f d).raised = d.raised := rfl
@[simp] theorem putLayer_raised (n l) : (putLayer n l d).raised = d.raised := rfl
@[simp] theorem updPan_raised (f) : (updPan f d).raised = d.raised := rfl
@[simp] theorem updTxn_raised (n f) : (updTxn n f d).raised = d.raised := rfl
@[simp] theorem updCv_raised (u f) : (updCv u f d).raised = d.raised := rfl
@[simp] theorem updPower_raised (f) : (updPower f d).raised = d.raised := rfl
@[simp] theorem updPort_raised (p f) : (updPort p f d).raised = d.raised := rfl
@[simp] theorem updHap_raised (c f) : (updHap c f d).raised = d.raised := rfl
@[simp] theorem updSec_raised (f) : (updSec f d).raised = d.raised := rfl
@[simp] theorem updMon_raised (o m f) : (updMon o m f d).raised = d.raised := rfl
@[simp] theorem updHarvest_raised (k f) : (updHarvest k f d).raised = d.raised := rfl
@[simp] theorem updTide_raised (f) : (updTide f d).raised = d.raised := rfl
@[simp] theorem updPanBank_raised (b f) : (updPanBank b f d).raised = d.raised := rfl
@[simp] theorem orphanTickets_raised (k q) : (orphanTickets k q d).raised = d.raised := rfl
@[simp] theorem withTxns_raised (t) : (withTxns t d).raised = d.raised := rfl
@[simp] theorem updGang_raised (g f) : (updGang g f d).raised = d.raised := rfl
@[simp] theorem updPanPort_raised (k f) : (updPanPort k f d).raised = d.raised := rfl

/-! ### cause -/

@[simp] theorem updPage_cause (k f) : (updPage k f d).cause = d.cause := rfl
@[simp] theorem updAudio_cause (f) : (updAudio f d).cause = d.cause := rfl
@[simp] theorem updInst_cause (n f) : (updInst n f d).cause = d.cause := rfl
@[simp] theorem updOut_cause (o f) : (updOut o f d).cause = d.cause := rfl
@[simp] theorem updDram_cause (f) : (updDram f d).cause = d.cause := rfl
@[simp] theorem updQueue_cause (k q f) : (updQueue k q f d).cause = d.cause := rfl
@[simp] theorem putLayer_cause (n l) : (putLayer n l d).cause = d.cause := rfl
@[simp] theorem updPan_cause (f) : (updPan f d).cause = d.cause := rfl
@[simp] theorem updTxn_cause (n f) : (updTxn n f d).cause = d.cause := rfl
@[simp] theorem updCv_cause (u f) : (updCv u f d).cause = d.cause := rfl
@[simp] theorem updPower_cause (f) : (updPower f d).cause = d.cause := rfl
@[simp] theorem updPort_cause (p f) : (updPort p f d).cause = d.cause := rfl
@[simp] theorem updHap_cause (c f) : (updHap c f d).cause = d.cause := rfl
@[simp] theorem updSec_cause (f) : (updSec f d).cause = d.cause := rfl
@[simp] theorem updMon_cause (o m f) : (updMon o m f d).cause = d.cause := rfl
@[simp] theorem updHarvest_cause (k f) : (updHarvest k f d).cause = d.cause := rfl
@[simp] theorem updTide_cause (f) : (updTide f d).cause = d.cause := rfl
@[simp] theorem updPanBank_cause (b f) : (updPanBank b f d).cause = d.cause := rfl
@[simp] theorem orphanTickets_cause (k q) : (orphanTickets k q d).cause = d.cause := rfl
@[simp] theorem withTxns_cause (t) : (withTxns t d).cause = d.cause := rfl
@[simp] theorem updGang_cause (g f) : (updGang g f d).cause = d.cause := rfl
@[simp] theorem updPanPort_cause (k f) : (updPanPort k f d).cause = d.cause := rfl

/-! ### result -/

@[simp] theorem updPage_result (k f) : (updPage k f d).result = d.result := rfl
@[simp] theorem updAudio_result (f) : (updAudio f d).result = d.result := rfl
@[simp] theorem updInst_result (n f) : (updInst n f d).result = d.result := rfl
@[simp] theorem updOut_result (o f) : (updOut o f d).result = d.result := rfl
@[simp] theorem updDram_result (f) : (updDram f d).result = d.result := rfl
@[simp] theorem updQueue_result (k q f) : (updQueue k q f d).result = d.result := rfl
@[simp] theorem putLayer_result (n l) : (putLayer n l d).result = d.result := rfl
@[simp] theorem updPan_result (f) : (updPan f d).result = d.result := rfl
@[simp] theorem updTxn_result (n f) : (updTxn n f d).result = d.result := rfl
@[simp] theorem updCv_result (u f) : (updCv u f d).result = d.result := rfl
@[simp] theorem updPower_result (f) : (updPower f d).result = d.result := rfl
@[simp] theorem updPort_result (p f) : (updPort p f d).result = d.result := rfl
@[simp] theorem updHap_result (c f) : (updHap c f d).result = d.result := rfl
@[simp] theorem updSec_result (f) : (updSec f d).result = d.result := rfl
@[simp] theorem updMon_result (o m f) : (updMon o m f d).result = d.result := rfl
@[simp] theorem updHarvest_result (k f) : (updHarvest k f d).result = d.result := rfl
@[simp] theorem updTide_result (f) : (updTide f d).result = d.result := rfl
@[simp] theorem updPanBank_result (b f) : (updPanBank b f d).result = d.result := rfl
@[simp] theorem orphanTickets_result (k q) : (orphanTickets k q d).result = d.result := rfl
@[simp] theorem withTxns_result (t) : (withTxns t d).result = d.result := rfl
@[simp] theorem updGang_result (g f) : (updGang g f d).result = d.result := rfl
@[simp] theorem updPanPort_result (k f) : (updPanPort k f d).result = d.result := rfl

/-! ### out -/

@[simp] theorem updPage_out (k f) : (updPage k f d).out = d.out := rfl
@[simp] theorem updAudio_out (f) : (updAudio f d).out = d.out := rfl
@[simp] theorem updInst_out (n f) : (updInst n f d).out = d.out := rfl
@[simp] theorem updOut_out (o f) : (updOut o f d).out = d.out := rfl
@[simp] theorem updDram_out (f) : (updDram f d).out = d.out := rfl
@[simp] theorem updQueue_out (k q f) : (updQueue k q f d).out = d.out := rfl
@[simp] theorem putLayer_out (n l) : (putLayer n l d).out = d.out := rfl
@[simp] theorem updPan_out (f) : (updPan f d).out = d.out := rfl
@[simp] theorem updTxn_out (n f) : (updTxn n f d).out = d.out := rfl
@[simp] theorem updCv_out (u f) : (updCv u f d).out = d.out := rfl
@[simp] theorem updPower_out (f) : (updPower f d).out = d.out := rfl
@[simp] theorem updPort_out (p f) : (updPort p f d).out = d.out := rfl
@[simp] theorem updHap_out (c f) : (updHap c f d).out = d.out := rfl
@[simp] theorem updSec_out (f) : (updSec f d).out = d.out := rfl
@[simp] theorem updMon_out (o m f) : (updMon o m f d).out = d.out := rfl
@[simp] theorem updHarvest_out (k f) : (updHarvest k f d).out = d.out := rfl
@[simp] theorem updTide_out (f) : (updTide f d).out = d.out := rfl
@[simp] theorem updPanBank_out (b f) : (updPanBank b f d).out = d.out := rfl
@[simp] theorem orphanTickets_out (k q) : (orphanTickets k q d).out = d.out := rfl
@[simp] theorem withTxns_out (t) : (withTxns t d).out = d.out := rfl
@[simp] theorem updGang_out (g f) : (updGang g f d).out = d.out := rfl
@[simp] theorem updPanPort_out (k f) : (updPanPort k f d).out = d.out := rfl

end Sys2Proof.Machine
end

