-- ==== Sys2Proof/Laws/Memory.lean ====
section
/-! SUPPORT. Sparse tables and memories: a read after a write, what a write leaves alone, and that every memory operation
keeps the one form of a memory. -/

namespace Sys2Proof.Machine

/-! ## Tables -/

/-- Every key of a table lies keysAbove a bound. -/
def keysAbove (b : Nat) (l : List Nat) : Prop := ∀ k ∈ l, b < k

theorem keysRise_cons (a : Nat) (l : List Nat) : keysRise (a :: l) = true ↔ keysAbove a l ∧ keysRise l = true := by
  induction l generalizing a with
  | nil => simp [keysRise, keysAbove]
  | cons b r ih =>
    have hb := ih b
    simp only [keysRise, Bool.and_eq_true, decide_eq_true_eq]
    constructor
    · rintro ⟨h1, h2⟩
      refine ⟨?_, h2⟩
      intro k hk
      rcases List.mem_cons.mp hk with rfl | hk
      · exact h1
      · exact Nat.lt_trans h1 ((hb.mp h2).1 k hk)
    · rintro ⟨h1, h2⟩
      exact ⟨h1 b (by simp), h2⟩

variable {α : Type} [DecidableEq α] (d : α)

@[simp] theorem tget_nil {α : Type} (d : α) (k : Nat) : tget d [] k = d := rfl

/-- An entry that is not named keeps its value. -/
theorem tget_tput_other (t : Tab α) (j k : Nat) (v : α) (h : j ≠ k) : tget d (tput d t k v) j = tget d t j := by
  induction t with
  | nil =>
    simp only [tput]
    split
    · rfl
    · simp [tget, Ne.symm h]
  | cons e r ih =>
    obtain ⟨k', v'⟩ := e
    simp only [tput]
    split
    · simp only [tget, ih]
    · split
      · rename_i h2; subst h2
        split
        · simp [tget, Ne.symm h]
        · simp [tget, Ne.symm h]
      · split
        · rfl
        · simp [tget, Ne.symm h]

theorem tget_keysAbove {α : Type} (d : α) (t : Tab α) (k : Nat) (h : keysAbove k (tkeys t)) : tget d t k = d := by
  induction t with
  | nil => rfl
  | cons e r ih =>
    obtain ⟨k', v'⟩ := e
    have h1 : k < k' := h k' (by simp [tkeys])
    simp only [tget]
    rw [if_neg (by omega)]
    exact ih fun x hx => h x (by simp [tkeys] at hx ⊢; exact Or.inr hx)

/-- An entry reads as it was set. -/
theorem tget_tput_self (t : Tab α) (k : Nat) (v : α) (h : keysRise (tkeys t) = true) : tget d (tput d t k v) k = v := by
  induction t with
  | nil =>
    simp only [tput]
    split
    · rename_i e; simp [e]
    · simp [tget]
  | cons e r ih =>
    obtain ⟨k', v'⟩ := e
    have hr := (keysRise_cons k' (tkeys r)).mp h
    simp only [tput]
    split
    · rename_i hlt
      simp only [tget]
      rw [if_neg (by omega), ih hr.2]
    · split
      · rename_i he; subst he
        split
        · rename_i e2; rw [e2]; exact tget_keysAbove d r k' hr.1
        · simp [tget]
      · split
        · rename_i e2; rw [e2]
          apply tget_keysAbove
          intro x hx
          rcases List.mem_cons.mp hx with rfl | hx
          · omega
          · have := hr.1 x hx; omega
        · simp [tget]

/-- An entry set to other than the default reads as it was set, whatever the table's order. -/
theorem tget_tput_of_ne (t : Tab α) (k : Nat) (v : α) (h : v ≠ d) : tget d (tput d t k v) k = v := by
  induction t with
  | nil => simp [tput, tget, h]
  | cons e r ih =>
    obtain ⟨k', v'⟩ := e
    simp only [tput]
    split
    · simp only [tget]
      rw [if_neg (by omega), ih]
    · split
      · simp [tget]
      · simp [tget]

theorem tkeys_tput_sub (t : Tab α) (k : Nat) (v : α) : ∀ j ∈ tkeys (tput d t k v), j = k ∨ j ∈ tkeys t := by
  induction t with
  | nil =>
    simp only [tput]
    split <;> simp [tkeys]
  | cons e r ih =>
    obtain ⟨k', v'⟩ := e
    simp only [tput]
    intro j
    split
    · simp only [tkeys, List.map_cons, List.mem_cons]
      rintro (h | h)
      · exact Or.inr (Or.inl h)
      · rcases ih j h with h | h
        · exact Or.inl h
        · exact Or.inr (Or.inr h)
    · split
      · rename_i he; subst he
        split
        · intro h; exact Or.inr (by simp [tkeys] at h ⊢; exact Or.inr h)
        · simp only [tkeys, List.map_cons, List.mem_cons]
          rintro (h | h)
          · exact Or.inl h
          · exact Or.inr (Or.inr h)
      · split
        · exact fun h => Or.inr h
        · simp only [tkeys, List.map_cons, List.mem_cons]
          rintro (h | h)
          · exact Or.inl h
          · exact Or.inr h

/-- Setting an entry keeps the keys rising. -/
theorem keysRise_tput (t : Tab α) (k : Nat) (v : α) (h : keysRise (tkeys t) = true) : keysRise (tkeys (tput d t k v)) = true := by
  induction t with
  | nil =>
    simp only [tput]
    split <;> rfl
  | cons e r ih =>
    obtain ⟨k', v'⟩ := e
    have hr := (keysRise_cons k' (tkeys r)).mp h
    simp only [tput]
    split
    · rename_i hlt
      refine (keysRise_cons k' _).mpr ⟨?_, ih hr.2⟩
      intro j hj
      rcases tkeys_tput_sub d r k v j hj with rfl | hj
      · exact hlt
      · exact hr.1 j hj
    · split
      · rename_i he; subst he
        split
        · exact hr.2
        · exact h
      · split
        · exact h
        · refine (keysRise_cons k _).mpr ⟨?_, h⟩
          intro j hj
          rcases List.mem_cons.mp hj with rfl | hj
          · omega
          · have := hr.1 j hj; omega

/-- Setting an entry lists no default value. -/
theorem tput_all (t : Tab α) (k : Nat) (v : α) (h : ∀ e ∈ t, e.2 ≠ d) : ∀ e ∈ tput d t k v, e.2 ≠ d := by
  induction t with
  | nil =>
    simp only [tput]
    split
    · simp
    · rename_i hv; simp [hv]
  | cons a r ih =>
    obtain ⟨k', v'⟩ := a
    have h1 : v' ≠ d := h (k', v') (by simp)
    have h2 : ∀ e ∈ r, e.2 ≠ d := fun e he => h e (by simp [he])
    simp only [tput]
    split
    · intro e he
      rcases List.mem_cons.mp he with rfl | he
      · exact h1
      · exact ih h2 e he
    · split
      · split
        · exact h2
        · rename_i hv
          intro e he
          rcases List.mem_cons.mp he with rfl | he
          · exact hv
          · exact h2 e he
      · split
        · exact h
        · rename_i hv
          intro e he
          rcases List.mem_cons.mp he with rfl | he
          · exact hv
          · exact h e he

/-! ## Memory -/

theorem wf_iff (m : List Host.Cell) : Memory.wf m ↔ keysRise (tkeys m) = true ∧ ∀ e ∈ m, e.2 ≠ 0 := by
  simp [Memory.wf, tkeys]

/-- Writing a byte keeps a memory's one form. -/
theorem memPut_wf (m : List Host.Cell) (a : Nat) (b : Byte) (h : Memory.wf m) : Memory.wf (memPut m a b) := by
  rw [wf_iff] at *
  exact ⟨keysRise_tput 0 m a b h.1, tput_all 0 m a b h.2⟩

theorem memWrite_wf (m : List Host.Cell) (a : Nat) (l : List Byte) (h : Memory.wf m) : Memory.wf (memWrite m a l) := by
  induction l generalizing m a with
  | nil => exact h
  | cons b r ih => exact ih _ _ (memPut_wf m a b h)

theorem keysRise_filter (l : List Host.Cell) (p : Host.Cell → Bool) (h : keysRise (tkeys l) = true) :
    keysRise (tkeys (l.filter p)) = true := by
  induction l with
  | nil => rfl
  | cons e r ih =>
    have hr := (keysRise_cons e.1 (tkeys r)).mp h
    rw [List.filter_cons]
    split
    · refine (keysRise_cons e.1 _).mpr ⟨?_, ih hr.2⟩
      intro j hj
      simp only [List.mem_map, List.mem_filter] at hj
      obtain ⟨x, ⟨hx, -⟩, rfl⟩ := hj
      exact hr.1 _ (by simp [tkeys]; exact ⟨_, hx⟩)
    · exact ih hr.2

theorem memZero_wf (m : List Host.Cell) (a n : Nat) (h : Memory.wf m) : Memory.wf (memZero m a n) := by
  rw [wf_iff] at *
  refine ⟨keysRise_filter m _ h.1, ?_⟩
  intro e he
  exact h.2 e (List.mem_of_mem_filter he)

/-- A byte reads as it was written. -/
theorem memGet_memPut_self (m : List Host.Cell) (a : Nat) (b : Byte) (h : Memory.wf m) : memGet (memPut m a b) a = b :=
  tget_tput_self 0 m a b ((wf_iff m).mp h).1

/-- Every other byte reads as before. -/
theorem memGet_memPut_other (m : List Host.Cell) (a j : Nat) (b : Byte) (h : j ≠ a) : memGet (memPut m a b) j = memGet m j :=
  tget_tput_other 0 m j a b h

/-- A write leaves every byte outside it as it was. -/
theorem memGet_memWrite_other (m : List Host.Cell) (a j : Nat) (l : List Byte) (h : j < a ∨ a + l.length ≤ j) :
    memGet (memWrite m a l) j = memGet m j := by
  induction l generalizing m a with
  | nil => rfl
  | cons b r ih =>
    simp only [List.length_cons] at h
    rw [memWrite, ih _ _ (by omega), memGet_memPut_other _ _ _ _ (by omega)]

/-- A write's bytes read as written. -/
theorem memGet_memWrite (m : List Host.Cell) (a : Nat) (l : List Byte) (i : Nat) (h : Memory.wf m) (hi : i < l.length) :
    memGet (memWrite m a l) (a + i) = l[i] := by
  induction l generalizing m a i with
  | nil => simp at hi
  | cons b r ih =>
    rw [memWrite]
    cases i with
    | zero =>
      rw [memGet_memWrite_other _ _ _ _ (by omega)]
      simpa using memGet_memPut_self m a b h
    | succ i =>
      have := ih (memPut m a b) (a + 1) i (memPut_wf m a b h) (by simpa using hi)
      simp only [List.getElem_cons_succ]
      rw [← this]
      congr 1; omega
end Sys2Proof.Machine
end

