-- ==== Sys2Proof/Laws/Messages.lean ====
section
/-! SUPPORT. Replies and events change nothing else: what `Dev.quiet` keeps is the same after each operation that writes
a reply or an event. -/

namespace Sys2Proof.Machine

theorem foldl_quiet {α : Type} (f : Dev → α → Dev) (h : ∀ d a, (f d a).quiet = d.quiet) (l : List α) (d : Dev) :
    (l.foldl f d).quiet = d.quiet := by
  induction l generalizing d with
  | nil => rfl
  | cons a l ih => simp [List.foldl, ih, h]

theorem foldl_fst_quiet {α β : Type} (f : Dev × β → α → Dev × β) (h : ∀ d a, (f d a).1.quiet = d.1.quiet) (l : List α)
    (d : Dev × β) : (l.foldl f d).1.quiet = d.1.quiet := by
  induction l generalizing d with
  | nil => rfl
  | cons a l ih => simp [List.foldl, ih, h]

@[simp] theorem updPage_quiet (k f d) : (updPage k f d).quiet = d.quiet := rfl
@[simp] theorem updQueue_quiet (k q f d) : (updQueue k q f d).quiet = d.quiet := rfl
@[simp] theorem updPanBank_quiet (k f d) : (updPanBank k f d).quiet = d.quiet := rfl
@[simp] theorem raiseAt_quiet (st code sub pl pg sec d) : (raiseAt st code sub pl pg sec d).quiet = d.quiet := by
  unfold raiseAt
  split <;> rfl
@[simp] theorem raise_quiet (code sub pl pg sec d) : (raise code sub pl pg sec d).quiet = d.quiet := raiseAt_quiet ..
@[simp] theorem raiseOwner_quiet (code sub pl o d) : (raiseOwner code sub pl o d).quiet = d.quiet := raiseAt_quiet ..
@[simp] theorem abandonBorrow_quiet (d) : (abandonBorrow d).quiet = d.quiet := by
  unfold abandonBorrow
  split <;> rfl
@[simp] theorem portAccess_quiet (r a n d) : (portAccess r a n d).quiet = d.quiet := by
  unfold portAccess
  split
  · rfl
  · exact foldl_quiet (fun d page => portPass (page % 64) r d) (fun _ _ => rfl) _ _
@[simp] theorem touchPan_quiet (r a n d) : (touchPan r a n d).quiet = d.quiet := by
  unfold touchPan
  simp only
  split
  · split <;> simp
  · simp
@[simp] theorem panWordWrite_quiet (r w b d) : (panWordWrite r w b d).1.quiet = d.quiet := by
  unfold panWordWrite
  split
  · simp only [raise_quiet]; rfl
  · rfl
@[simp] theorem panWrite_quiet (r a b d) : (panWrite r a b d).quiet = d.quiet := by
  unfold panWrite
  rw [foldl_quiet]
  · simp
  · intro d w
    simp only
    split
    · exact panWordWrite_quiet r w _ d
    · exact panWordWrite_quiet r w _ d
@[simp] theorem locWrite_quiet (i pan off b d) : (locWrite d i pan off b).quiet = d.quiet := by
  induction b generalizing off d with
  | nil => rfl
  | cons b r ih =>
    unfold locWrite
    split
    · exact ih ..
    · rw [ih]; split <;> rfl
@[simp] theorem putLoc_quiet (q i pan off b d) : (putLoc q i pan off b d).quiet = d.quiet := by
  unfold putLoc
  split
  · simp
  · apply foldl_quiet
    intro d u
    split <;> simp
@[simp] theorem orphanTickets_quiet (k q d) : (orphanTickets k q d).quiet = d.quiet := rfl
@[simp] theorem stopQueue_quiet (k q w d) : (stopQueue k q w d).quiet = d.quiet := by
  unfold stopQueue
  simp only
  repeat' split
  all_goals simp
@[simp] theorem writeEvent_quiet (k e d) : (writeEvent k e d).quiet = d.quiet := by
  unfold writeEvent
  simp only
  split
  · rfl
  · split
    · simp
    · split <;> simp
@[simp] theorem writeSecureEvent_quiet (e d) : (writeSecureEvent e d).quiet = d.quiet := by
  unfold writeSecureEvent
  simp only
  split <;> rfl
@[simp] theorem deliver_quiet (r d) : (deliver r d).quiet = d.quiet := by
  unfold deliver
  simp only
  rw [foldl_quiet _ (fun d k => writeEvent_quiet k r.event d)]
  split
  · simp only [writeSecureEvent_quiet]; rfl
  · rfl
@[simp] theorem writeReady_quiet (d) : (writeReady d).quiet = d.quiet := by
  unfold writeReady
  split
  · rfl
  · rw [foldl_quiet]
    · rfl
    · intro d r
      split
      · rfl
      · exact deliver_quiet r d
@[simp] theorem flushEvents_quiet (d) : (flushEvents d).quiet = d.quiet := writeReady_quiet d
@[simp] theorem raiseNow_quiet (code sub pl pg sec d) : (raiseNow code sub pl pg sec d).quiet = d.quiet := writeReady_quiet _
@[simp] theorem writeReply_quiet (t r d) : (writeReply t r d).quiet = d.quiet := by
  unfold writeReply
  simp only
  split
  · rfl
  · split <;> simp
@[simp] theorem finishOne_quiet (t st det res d) : (finishOne t st det res d).quiet = d.quiet := by
  unfold finishOne
  exact writeReply_quiet ..
@[simp] theorem settleFences_quiet (n d) : (settleFences n d).quiet = d.quiet := by
  induction n generalizing d with
  | zero => rfl
  | succ n ih =>
    unfold settleFences
    split
    · rfl
    · rw [ih, finishOne_quiet]; rfl
@[simp] theorem finish_quiet (t st det res d) : (finish t st det res d).quiet = d.quiet := by
  unfold finish
  simp
@[simp] theorem finishAll_quiet (ts st det res d) : (finishAll ts st det res d).quiet = d.quiet :=
  foldl_quiet _ (fun d t => finish_quiet t st det res d) _ _

end Sys2Proof.Machine
end

