-- ==== Sys2Proof/Laws/Commands.lean ====
section
/-! SUPPORT. Queue commands: what an engine does with one that passes its checks, and the landing of a single command's
change, at once, where no output holds it or its output is disabled. -/

namespace Sys2Proof.Machine

theorem finish_txns (t st det res d) : (finish t st det res d).txns = d.txns :=
  show (finish t st det res d).quiet.txns = d.quiet.txns by rw [finish_quiet]

theorem withNumbers_nil (op : Op) (c : Cmd) : withNumbers op [] c = c := by
  unfold withNumbers
  generalize (opSpec op).prov = l
  induction l with
  | nil => rfl
  | cons a l ih => simp

theorem placeOne_cmd (d view : Dev) (others lead claims id s) (ch : Change) (op : Op) (h : ch.act = .cmd op) :
    (placeOne d view others lead claims id [] s ch).1.ch.act = .cmd op ∧
    (placeOne d view others lead claims id [] s ch).1.ch.cmd = ch.cmd ∧
    ∃ o, (placeOne d view others lead claims id [] s ch).1.ch.outs = ((opSpec op).outs s { ch with obj := o }).take 1 := by
  unfold placeOne
  rw [h]
  simp only [withNumbers_nil, List.any_nil, Bool.false_eq_true, Bool.and_false, if_false,
    show ∀ l : List (Nat × Nat), (l.any fun _ => false) = false from fun l => by simp]
  exact ⟨trivial, trivial, _, rfl⟩

/-- A transaction of one change places that change. -/
theorem placeTxn_one (d view : Dev) (others lead) (t : Txn) (ch : Change) (h : t.changes = [ch]) :
    ∃ claims, (placeTxn d view others lead t).1 = [(placeOne d view others lead claims t.id [] view ch).1] := by
  unfold placeTxn
  simp only [h, placeAll]
  split
  · exact ⟨_, rfl⟩
  · exact ⟨_, rfl⟩

theorem withGang_act (g ch) : (withGang g ch).act = ch.act := by
  unfold withGang; repeat' split
  all_goals rfl
theorem withGang_cmd (g ch) : (withGang g ch).cmd = ch.cmd := by
  unfold withGang; repeat' split
  all_goals rfl
theorem withGang_outs (g ch) : (withGang g ch).outs = ch.outs := by
  unfold withGang; repeat' split
  all_goals rfl

/-- The change that PREPARE makes of a single command: the command itself, at the output its row names. -/
theorem prepareChanges_one (t : Txn) (d : Dev) (op : Op) (c : Cmd) (b : List Byte) (ch : Change)
    (ht : t.changes = [{ act := .cmd op, cmd := c, table := b, obj := 0xFFFF, outs := [] }])
    (h : prepareChanges t d = .ok [ch]) : ch.act = .cmd op ∧ ch.cmd = c ∧
      ∃ v o, ch.outs = ((opSpec op).outs v { act := .cmd op, cmd := c, table := b, obj := o, outs := [] }).take 1 := by
  unfold prepareChanges at h
  dsimp only at h
  obtain ⟨claims, hp⟩ := placeTxn_one d (viewOf d) ((heldTxns d t.id).flatMap (·.resolved)) (stagesLead t) t _ ht
  have hq := placeOne_cmd d (viewOf d) ((heldTxns d t.id).flatMap (·.resolved)) (stagesLead t) claims t.id (viewOf d)
      { act := .cmd op, cmd := c, table := b, obj := 0xFFFF, outs := [] } op rfl
  generalize placeTxn d (viewOf d) ((heldTxns d t.id).flatMap (·.resolved)) (stagesLead t) t = P at hp h
  generalize (placeOne d (viewOf d) ((heldTxns d t.id).flatMap (·.resolved)) (stagesLead t) claims t.id [] (viewOf d)
    { act := .cmd op, cmd := c, table := b, obj := 0xFFFF, outs := [] }).1 = p at hp hq
  rw [hp] at h
  split at h
  · cases h
  · simp only [List.zipIdx_cons, List.zipIdx_nil, List.map_cons, List.map_nil, Except.ok.injEq] at h
    have h1 := congrArg List.head? h
    simp only [List.singleton_append, List.head?_cons, Option.some.injEq] at h1
    rw [← h1]
    split
    · exact ⟨hq.1, hq.2.1, _, hq.2.2⟩
    · rw [withGang_act, withGang_cmd, withGang_outs]
      exact ⟨hq.1, hq.2.1, _, hq.2.2⟩

/-- A transaction that stands alone is found under its number. -/
theorem txnOf_one (d : Dev) (x : Txn) (h : d.txns = [x]) : txnOf d x.id = some x := by simp [txnOf, h]

theorem updTxn_one (d : Dev) (x : Txn) (f : Txn → Txn) (h : d.txns = [x]) : updTxn x.id f d = { d with txns := [f x] } := by
  simp [updTxn, h]

theorem settleTxn_one (d : Dev) (x : Txn) (k : Ticket) (h : d.txns = [x]) (hs : x.state = .sequenced)
    (hl : x.landings.any (·.pending) = false) (hw : x.waits = 0) (hv : x.verdict = none) (ho : x.own = true)
    (hb : x.ballot = 0) (hc : x.commit = some k) :
    settleTxn x.id d = finish k .ok 0 x.out { d with txns := [] } := by
  unfold settleTxn
  rw [txnOf_one d x h]
  simp [hs, hl, hw, hv, ho, hb, hc, h, sendBallot]

theorem recheckAll_none (d : Dev) (h : d.txns = []) : recheckAll d = d := by simp [recheckAll, h]

theorem engineRun_accepted (op : Op) (c : Cmd) (s : State) (d : Dev) (b : List Byte) (h : Accepted op c s d b) (f : Fuses) :
   engineRun f op c s.dev = match opKind op with
     | .d => singleCmd op (ticketOf op c s) c b d
     | .n => singleCmd op (ticketOf op c s) c b d
     | .j => jobCmd op (ticketOf op c s) c d
     | .r => readCmd f op (ticketOf op c s) c d
     | .x => controlCmd op (ticketOf op c s) c d := by
  unfold engineRun
  have h1 := h.active; have h2 := h.valid
  unfold takenDev at h1 h2
  unfold ticketOf
  generalize hA : enlist op c s.dev = A at *
  obtain ⟨t, d1⟩ := A
  simp only at h1 h2
  simp [h1, h2, h.alone]
  all_goals (cases opKind op <;> rfl)

theorem exec_instrOf (op : Op) (c : Cmd) (s : State) : exec (instrOf op c) s = queueCommand op c s := by cases op <;> rfl

theorem exec_accepted (op : Op) (c : Cmd) (s : State) (d : Dev) (b : List Byte) (h : Accepted op c s d b) :
   exec (instrOf op c) s = .next (s.after (match opKind op with
     | .d => singleCmd op (ticketOf op c s) c b d
     | .n => singleCmd op (ticketOf op c s) c b d
     | .j => jobCmd op (ticketOf op c s) c d
     | .r => readCmd s.fuses op (ticketOf op c s) c d
     | .x => controlCmd op (ticketOf op c s) c d)) := by
  rw [exec_instrOf]
  simp only [queueCommand, onDev, h.runs, if_true, engineRun_accepted op c s d b h]
  cases opKind op <;> rfl

theorem foldl_keeps {α β : Type} (p : Dev → β) (f : Dev → α → Dev) (h : ∀ d a, p (f d a) = p d) (l : List α) (d : Dev) :
    p (l.foldl f d) = p d := by
  induction l generalizing d with
  | nil => rfl
  | cons a l ih => simp [List.foldl, ih, h]

theorem foldl_fst_keeps {α β γ : Type} (p : Dev → γ) (f : Dev × β → α → Dev × β) (h : ∀ d a, p (f d a).1 = p d.1) (l : List α)
    (d : Dev × β) : p (l.foldl f d).1 = p d.1 := by
  induction l generalizing d with
  | nil => rfl
  | cons a l ih => simp [List.foldl, ih, h]

/-! ## The command at work (R102): a command that copies a table goes on naming itself -/

@[simp] theorem touchPan_cause (r a n d) : (touchPan r a n d).cause = d.cause := by
  have h : (portAccess r a n d).cause = d.cause := by
    unfold portAccess
    split
    · rfl
    · exact foldl_keeps Dev.cause (fun d page => portPass (page % 64) r d) (fun _ _ => rfl) _ _
  have h2 : ∀ d : Dev, (abandonBorrow d).cause = d.cause := by
    intro d; unfold abandonBorrow; split <;> rfl
  unfold touchPan
  simp only
  split
  · split <;> simp [h, h2]
  · exact h

@[simp] theorem panScan_cause (r a n d) : (panScan r a n d).1.cause = d.cause := by
  unfold panScan
  rw [foldl_fst_keeps Dev.cause]
  · simp
  · intro d w
    simp only
    split
    · rfl
    · split <;> rfl

theorem readTable_cause (i pan off len align field d) : (readTable i pan off len align field d).1.cause = d.cause := by
  have h : ∀ q, (readLoc q i pan off len d).1.cause = d.cause := by
    intro q
    unfold readLoc
    split
    · rfl
    · cases pan
      · rfl
      · rw [if_pos (rfl : true = true)]
        dsimp only
        split
        all_goals
          dsimp only
          rw [foldl_fst_keeps Dev.cause]
          intro d w
          split
          · rfl
          · simp
  unfold readTable
  split
  · rfl
  · split
    · rfl
    · specialize h (if pan then 6 else 0)
      split
      · rename_i e; rw [e] at h; exact h
      · rename_i e; rw [e] at h; exact h

theorem copy_cause (op : Op) (f : Ctx → Dev × Except (Status × Nat) (List Byte)) (h : (opSpec op).copy = some f) (x : Ctx) :
    (f x).1.cause = x.d.cause := by
  cases op
  case layerPalette => cases h; exact readTable_cause ..
  case slotTable =>
    cases h; dsimp only
    have ht := readTable_cause x.c.issuer (x.c.u8 24 == 1) (x.c.u64 32) 1024 64 32 x.d
    generalize readTable x.c.issuer (x.c.u8 24 == 1) (x.c.u64 32) 1024 64 32 x.d = r at ht
    obtain ⟨d', _ | b⟩ := r
    · exact ht
    · dsimp only; split <;> exact ht
  case scalerCoeff =>
    cases h; dsimp only
    split
    · rfl
    · generalize hr : readTable _ _ _ _ _ _ _ = r
      have ht := congrArg (fun r => r.1.cause) hr
      rw [readTable_cause] at ht
      obtain ⟨d', _ | b⟩ := r
      · exact ht.symm
      · dsimp only; repeat' split
        all_goals exact ht.symm
  case lutLoad =>
    cases h; dsimp only
    split
    · rfl
    · generalize hr : readTable _ _ _ _ _ _ _ = r
      have ht := congrArg (fun r => r.1.cause) hr
      rw [readTable_cause] at ht
      obtain ⟨d', _ | b⟩ := r
      · exact ht.symm
      · dsimp only; repeat' split
        all_goals exact ht.symm
  all_goals cases h

theorem validate_cause (op : Op) (c : Cmd) (d : Dev) : (validate op c d).1.cause = d.cause := by
  unfold validate
  dsimp only
  split
  · rfl
  · have hc : ∀ x : Ctx, x.d = d → ∀ o, (opSpec op).copy = o →
        (match o with | none => (d, .ok []) | some f => f x : Dev × Except (Status × Nat) (List Byte)).1.cause = d.cause := by
      intro x hx o ho
      cases o with
      | none => rfl
      | some f => exact (copy_cause op f ho x).trans (by rw [hx])
    split <;> exact hc _ rfl _ rfl

/-- A command that is accepted is the one whose effect events name. -/
theorem Accepted.cause {op : Op} {c : Cmd} {s : State} {d : Dev} {b : List Byte} (h : Accepted op c s d b) :
    d.cause = some (ticketOf op c s).no := by
  have := validate_cause op c (takenDev op c s)
  rw [h.valid] at this
  rw [this]; rfl

theorem withCause_self (n : Nat) (f : Dev → Dev) (d : Dev) (h : d.cause = some n) :
    withCause (some n) f d = { f d with cause := d.cause } := by
  unfold withCause
  rw [show ((some n).or d.cause) = d.cause from h.symm]

@[simp] theorem withTxns_twice (t u d) : withTxns t (withTxns u d) = withTxns t d := rfl

/-- A sequenced transaction of one change that no output's cut holds. -/
theorem sequenceTxn_unbound (d : Dev) (x : Txn) (op : Op) (ch : Change) (k : Ticket) (hd : d.txns = [x]) (hr : x.resolved = [ch])
    (ha : ch.act = .cmd op) (ho : ch.outs = []) (hown : x.own = true) (hv : x.verdict = none) (hw : x.waits = 0)
    (hb : x.ballot = 0) (hc : x.commit = some k) (hk : d.cause = some k.no)
    (O : Dev) (hO : O = { d with nextSeq := d.nextSeq + 1, txns := [], result := [] })
    (hl : ∀ t, (opSpec op).land x.id ch (withTxns t O) = withTxns t ((opSpec op).land x.id ch O))
    (hres : ∀ t, (opSpec op).results (withTxns t ((opSpec op).land x.id ch O)) ch =
      (opSpec op).results ((opSpec op).land x.id ch O) ch) :
    sequenceTxn x.id d = finish k .ok 0
      ((opSpec op).results ((opSpec op).land x.id ch O) ch) { (opSpec op).land x.id ch O with cause := d.cause } := by
  have hnil : (opSpec op).land x.id ch O = withTxns [] ((opSpec op).land x.id ch O) := by
    rw [← hl]; rw [hO]; rfl
  let X : Txn := { x with state := .sequenced, seqNo := d.nextSeq, wait := none, passed := false, landings := [] }
  have hX : ∀ l, ({ (withTxns l { d with nextSeq := d.nextSeq + 1 }) with result := [] } : Dev) = withTxns l O := by
    intro l; rw [hO]; rfl
  unfold sequenceTxn
  rw [txnOf_one d x hd]
  simp only [hr, List.filterMap_cons, List.filterMap_nil, ho, List.head?_nil, List.eraseDups_nil, List.filter_nil, List.foldl_nil,
    List.map_nil, hown, ha, List.isEmpty_nil, List.head?_cons, List.any_cons, List.any_nil, Bool.or_false, if_true]
  rw [updTxn_one d x _ hd]
  have hN : landNow x [] (withTxns [X] { d with nextSeq := d.nextSeq + 1 }) =
      withTxns [{ X with out := (opSpec op).results ((opSpec op).land x.id ch O) ch }]
        { (opSpec op).land x.id ch O with cause := d.cause } := by
    unfold landNow
    simp only [hr, List.filter_cons, ho, List.head?_nil, Option.all_none, if_true, List.filter_nil, List.foldl_cons, List.foldl_nil,
      ha, landChange, hown, hc, Option.map_some, Option.some_or]
    rw [withCause_self _ _ (withTxns [X] { d with nextSeq := d.nextSeq + 1 }) hk, hX, hl]
    rw [hres]
    exact congrArg (fun e : Dev => { e with cause := d.cause }) (updTxn_one (withTxns [X] ((opSpec op).land x.id ch O)) X _ rfl)
  have hS : settleTxn x.id (landNow x [] (withTxns [X] { d with nextSeq := d.nextSeq + 1 })) =
      finish k .ok 0 ((opSpec op).results ((opSpec op).land x.id ch O) ch) (withTxns [] { (opSpec op).land x.id ch O with cause := d.cause }) := by
    rw [hN]
    exact settleTxn_one _ { X with out := (opSpec op).results ((opSpec op).land x.id ch O) ch } k rfl rfl rfl hw hv hown hb hc
  change (if (x.issuer == Issuer.manager && disturbs ch) = true then
      recheckAll (settleTxn x.id (landNow x [] (withTxns [X] { d with nextSeq := d.nextSeq + 1 })))
    else settleTxn x.id (landNow x [] (withTxns [X] { d with nextSeq := d.nextSeq + 1 }))) = _
  have hE : withTxns [] { (opSpec op).land x.id ch O with cause := d.cause } =
      { (opSpec op).land x.id ch O with cause := d.cause } := congrArg (fun e : Dev => { e with cause := d.cause }) hnil.symm
  rw [hS, hE]
  split
  · rw [recheckAll_none]
    rw [finish_txns, hnil]; rfl
  · rfl

/-- A BUFFER_RELEASE is one more raised event. -/
theorem releaseEvent_eq (u : Use) (d : Dev) : ∃ r, releaseEvent u d = { d with raised := r } := by
  have h : ∀ x, summaryBit 0x0303 u.layer
      (le32 u.lastFrame.toNat ++ le64 u.plane0 ++ le8 u.mem ++ le8 u.cause) x = none := by
    intro x; simp [summaryBit]
  unfold releaseEvent raiseOwner raise raiseAt
  rw [h]
  exact ⟨_, rfl⟩

@[simp] theorem releaseEvent_apart (u d) : (releaseEvent u d).apart = d.apart := by
  obtain ⟨r, h⟩ := releaseEvent_eq u d
  rw [h]; rfl
@[simp] theorem releaseEvent_txns (u d) : (releaseEvent u d).txns = d.txns := by
  obtain ⟨r, h⟩ := releaseEvent_eq u d
  rw [h]

theorem foldl_apart {α : Type} (f : Dev → α → Dev) (h : ∀ d a, (f d a).apart = d.apart) (l : List α) (d : Dev) :
    (l.foldl f d).apart = d.apart := by
  induction l generalizing d with
  | nil => rfl
  | cons a l ih => simp [List.foldl, ih, h]

@[simp] theorem endUses_apart (o old ch d) : (endUses o old ch d).apart = d.apart := by
  unfold endUses
  apply foldl_apart
  intro d a
  obtain ⟨n, l⟩ := a
  simp only
  repeat' split
  all_goals rfl

theorem prepareTxn_one (d : Dev) (x : Txn) (chs : List Change) (hd : d.txns = [x]) (hs : x.state = .openT) (hr : x.resolved = [])
    (hp : prepareChanges x d = .ok chs) : prepareTxn x.id d =
      (none, { d with txns := [{ x with state := .prepared, resolved := chs, lastStatus := .ok, failIndex := 0xFFFF }] }) := by
  have hu : updTxn x.id (fun t => { t with state := .openT, resolved := [] }) d = d := by
    rw [updTxn_one _ x _ hd]
    cases d; cases x
    simp only at hd hs hr
    subst hd hs hr
    rfl
  unfold prepareTxn
  rw [txnOf_one _ _ hd]
  simp only [hu, hp]
  rw [updTxn_one _ x _ hd]

theorem singleCmd_unbound (op : Op) (c : Cmd) (s : State) (d : Dev) (b : List Byte) (ch : Change)
    (h : Lands op c s d b ch) (ho : ch.outs = [])
    (hl : ∀ t, (opSpec op).land d.nextTxn ch (withTxns t d.opened) = withTxns t ((opSpec op).land d.nextTxn ch d.opened))
    (hres : ∀ t, (opSpec op).results (withTxns t ((opSpec op).land d.nextTxn ch d.opened)) ch =
      (opSpec op).results ((opSpec op).land d.nextTxn ch d.opened) ch) :
    singleCmd op (ticketOf op c s) c b d = finish (ticketOf op c s) .ok 0
      ((opSpec op).results ((opSpec op).land d.nextTxn ch d.opened) ch)
      { (opSpec op).land d.nextTxn ch d.opened with cause := d.cause } := by
  have h1 := h.ready
  have h2 := h.free
  have ha := (prepareChanges_one _ _ op c b ch rfl h1).1
  have hln : launchFail d c = none := by simp [launchFail, h.acc.now]
  have hp : instantPassed d c = false := by simp [instantPassed, h.acc.now]
  have hD : ({ d with nextTxn := d.nextTxn + 1, nextSeq := d.nextSeq + 1, txns := [], result := [] } : Dev) = d.opened := by
    unfold Dev.opened; rw [← h2]
  have hP := prepareTxn_one { d with nextTxn := d.nextTxn + 1, txns := [ownTxn op c s d b] } (ownTxn op c s d b) [ch] rfl rfl rfl h1
  unfold singleCmd
  simp only [hln, hp, h.acc.now, Bool.false_eq_true, if_false, Bool.not_false, Bool.and_true, h2, List.nil_append]
  change (match prepareTxn (ownTxn op c s d b).id { d with nextTxn := d.nextTxn + 1, txns := [ownTxn op c s d b] } with
    | (f, d_1) => match f with
      | some f => dropOwn d.nextTxn f.status f.detail d_1
      | none => sequenceTxn d.nextTxn d_1) = _
  rw [hP]
  simp only
  have hS := sequenceTxn_unbound { d with nextTxn := d.nextTxn + 1, txns := [{ ownTxn op c s d b with state := .prepared, resolved := [ch] }] }
    { ownTxn op c s d b with state := .prepared, resolved := [ch] } op ch (ticketOf op c s) rfl rfl ha ho rfl rfl rfl rfl rfl h.acc.cause d.opened hD.symm hl hres
  exact hS

@[simp] theorem endUses_txns (o old ch d) : (endUses o old ch d).txns = d.txns := by
  unfold endUses
  apply foldl_keeps Dev.txns
  intro d a
  obtain ⟨n, l⟩ := a
  simp only
  repeat' split
  all_goals rfl

/-- A sequenced transaction of one change of a disabled output. -/
theorem sequenceTxn_off (d : Dev) (x : Txn) (op : Op) (ch : Change) (k : Ticket) (o : Nat) (hd : d.txns = [x]) (hr : x.resolved = [ch])
    (ha : ch.act = .cmd op) (ho : ch.outs = [o]) (hoff : (outOf d o).enabled = false) (hown : x.own = true) (hv : x.verdict = none) (hw : x.waits = 0)
    (hb : x.ballot = 0) (hc : x.commit = some k) (hk : d.cause = some k.no)
    (O : Dev) (hO : O = { d with nextSeq := d.nextSeq + 1, txns := [], result := [] })
    (hl : ∀ t, (opSpec op).land x.id ch (withTxns t O) = withTxns t ((opSpec op).land x.id ch O))
    (hres : ∀ t, (opSpec op).results (withTxns t ((opSpec op).land x.id ch O)) ch =
      (opSpec op).results ((opSpec op).land x.id ch O) ch) :
    ∃ E, sequenceTxn x.id d = finish k .ok 0
      ((opSpec op).results ((opSpec op).land x.id ch O) ch) E ∧
      E.apart = ((opSpec op).land x.id ch O).apart ∧ E.txns = [] := by
  have hnil : (opSpec op).land x.id ch O = withTxns [] ((opSpec op).land x.id ch O) := by
    rw [← hl]; rw [hO]; rfl
  let X : Txn := { x with state := .sequenced, seqNo := d.nextSeq, wait := none, passed := false,
                          landings := [{ output := o, how := .disabledOutput, pending := false, frame := 0 }] }
  let D1 : Dev := withTxns [X] { d with nextSeq := d.nextSeq + 1 }
  let X0 : Txn := { X with out := (opSpec op).results D1 ch }
  let X2 : Txn := { X with out := (opSpec op).results ((opSpec op).land x.id ch O) ch }
  let D0 : Dev := withTxns [X0] { d with nextSeq := d.nextSeq + 1 }
  have hX : ∀ l, ({ (withTxns l { d with nextSeq := d.nextSeq + 1 }) with result := [] } : Dev) = withTxns l O := by
    intro l; rw [hO]; rfl
  let L : Dev := { (opSpec op).land x.id ch O with cause := d.cause }
  have hN : landNow x [o] D0 = endUses o D0 [ch] (withTxns [X2] L) := by
    unfold landNow
    have hf : x.resolved.filter (fun ch => ch.outs.head?.all [o].contains) = [ch] := by
      simp [hr, ho]
    have hg : [ch].filter (fun c => c.outs.contains o) = [ch] := by simp [ho]
    simp only [hf, List.foldl_cons, List.foldl_nil, ha, landChange, hown, if_true, hg, hc, Option.map_some, Option.some_or]
    rw [withCause_self _ _ D0 hk, hX, hl, hres]
    rw [show x.id = X0.id from rfl, updTxn_one _ X0 _ rfl]
    rfl
  refine ⟨withTxns [] (endUses o D0 [ch] (withTxns [X2] L)), ?_, ?_, rfl⟩
  · have hS : settleTxn x.id (landNow x [o] D0) =
        finish k .ok 0 ((opSpec op).results ((opSpec op).land x.id ch O) ch)
          (withTxns [] (endUses o D0 [ch] (withTxns [X2] L))) := by
      rw [hN]
      exact settleTxn_one _ X2 k (endUses_txns ..) rfl rfl hw hv hown hb hc
    unfold sequenceTxn
    rw [txnOf_one d x hd]
    have hf1 : [o].filter (fun o => !(outOf d o).enabled) = [o] := by simp [hoff]
    have hf2 : [o].filter (fun o => (outOf d o).enabled) = [] := by simp [hoff]
    have he : [o].eraseDups = [o] := by simp [List.eraseDups_cons]
    simp only [hr, List.filterMap_cons, List.filterMap_nil, ho, List.head?_cons, he, hf1, hf2, List.foldl_nil,
      List.map_cons, List.map_nil, hown, ha, List.isEmpty_cons, List.any_cons, List.any_nil, Bool.or_false, if_true,
      List.contains_cons, List.contains_nil, beq_self_eq_true, Bool.true_or, Bool.false_eq_true, if_false]
    rw [updTxn_one d x _ hd]
    change (if (x.issuer == Issuer.manager && disturbs ch) = true then
        recheckAll (settleTxn x.id (landNow x [o] (updTxn X.id (fun t => { t with out := (opSpec op).results D1 ch }) D1)))
      else settleTxn x.id (landNow x [o] (updTxn X.id (fun t => { t with out := (opSpec op).results D1 ch }) D1))) = _
    rw [updTxn_one D1 X _ rfl]
    change (if (x.issuer == Issuer.manager && disturbs ch) = true then
        recheckAll (settleTxn x.id (landNow x [o] D0)) else settleTxn x.id (landNow x [o] D0)) = _
    rw [hS]
    split
    · rw [recheckAll_none]
      rw [finish_txns]; rfl
    · rfl
  · exact (congrArg (withTxns []) (endUses_apart o D0 [ch] (withTxns [X2] L))).trans
      (congrArg Dev.apart hnil.symm)

theorem singleCmd_off (op : Op) (c : Cmd) (s : State) (d : Dev) (b : List Byte) (ch : Change) (o : Nat)
    (h : Lands op c s d b ch) (ho : ch.outs = [o])
    (hl : ∀ t, (opSpec op).land d.nextTxn ch (withTxns t d.opened) = withTxns t ((opSpec op).land d.nextTxn ch d.opened))
    (hres : ∀ t, (opSpec op).results (withTxns t ((opSpec op).land d.nextTxn ch d.opened)) ch =
      (opSpec op).results ((opSpec op).land d.nextTxn ch d.opened) ch) :
    ∃ E, singleCmd op (ticketOf op c s) c b d = finish (ticketOf op c s) .ok 0
      ((opSpec op).results ((opSpec op).land d.nextTxn ch d.opened) ch) E ∧ E.apart = ((opSpec op).land d.nextTxn ch d.opened).apart := by
  have h1 := h.ready
  have h2 := h.free
  have hoff := h.off o (by simp [ho])
  have ha := (prepareChanges_one _ _ op c b ch rfl h1).1
  have hln : launchFail d c = none := by simp [launchFail, h.acc.now]
  have hp : instantPassed d c = false := by simp [instantPassed, h.acc.now]
  have hD : ({ d with nextTxn := d.nextTxn + 1, nextSeq := d.nextSeq + 1, txns := [], result := [] } : Dev) = d.opened := by
    unfold Dev.opened; rw [← h2]
  have hP := prepareTxn_one { d with nextTxn := d.nextTxn + 1, txns := [ownTxn op c s d b] } (ownTxn op c s d b) [ch] rfl rfl rfl h1
  obtain ⟨E, hS, hA, -⟩ := sequenceTxn_off { d with nextTxn := d.nextTxn + 1, txns := [{ ownTxn op c s d b with state := .prepared, resolved := [ch] }] }
    { ownTxn op c s d b with state := .prepared, resolved := [ch] } op ch (ticketOf op c s) o rfl rfl ha ho hoff rfl rfl rfl rfl rfl h.acc.cause d.opened hD.symm hl hres
  refine ⟨E, ?_, ?_⟩
  · unfold singleCmd
    simp only [hln, hp, h.acc.now, Bool.false_eq_true, if_false, Bool.not_false, Bool.and_true, h2, List.nil_append]
    change (match prepareTxn (ownTxn op c s d b).id { d with nextTxn := d.nextTxn + 1, txns := [ownTxn op c s d b] } with
      | (f, d_1) => match f with
        | some f => dropOwn d.nextTxn f.status f.detail d_1
        | none => sequenceTxn d.nextTxn d_1) = _
    rw [hP]
    simp only
    exact hS
  · exact hA

/-- A command whose change lands at once replies OK with its row's results, and does what its row's landing does. -/
theorem exec_lands (op : Op) (c : Cmd) (s : State) (d : Dev) (b : List Byte) (ch : Change) (hk : opKind op = .d ∨ opKind op = .n)
    (h : Lands op c s d b ch)
    (hl : ∀ t, (opSpec op).land d.nextTxn ch (withTxns t d.opened) = withTxns t ((opSpec op).land d.nextTxn ch d.opened))
    (hres : ∀ t, (opSpec op).results (withTxns t ((opSpec op).land d.nextTxn ch d.opened)) ch =
      (opSpec op).results ((opSpec op).land d.nextTxn ch d.opened) ch) :
    ∃ E, exec (instrOf op c) s = .next (s.after (finish (ticketOf op c s) .ok 0
      ((opSpec op).results ((opSpec op).land d.nextTxn ch d.opened) ch) E)) ∧
      E.apart = ((opSpec op).land d.nextTxn ch d.opened).apart := by
  have hx : exec (instrOf op c) s = .next (s.after (singleCmd op (ticketOf op c s) c b d)) := by
    rw [exec_accepted op c s d b h.acc]
    rcases hk with hk | hk <;> rw [hk]
  rw [hx]
  obtain ⟨-, -, v, o, ho⟩ := prepareChanges_one _ _ op c b ch rfl h.ready
  have hlen : ch.outs = [] ∨ ∃ o, ch.outs = [o] := by
    rw [ho]
    cases (opSpec op).outs v { act := .cmd op, cmd := c, table := b, obj := o, outs := [] } with
    | nil => exact Or.inl rfl
    | cons a l => exact Or.inr ⟨a, rfl⟩
  rcases hlen with ho | ⟨o, ho⟩
  · exact ⟨_, congrArg (fun x => Host.Outcome.next (s.after x)) (singleCmd_unbound op c s d b ch h ho hl hres), rfl⟩
  · obtain ⟨E, h1, h2⟩ := singleCmd_off op c s d b ch o h ho hl hres
    exact ⟨E, congrArg (fun x => Host.Outcome.next (s.after x)) h1, h2⟩

/-- The same, in the words of claims. -/
theorem does_lands (op : Op) (c : Cmd) (s : State) (d : Dev) (b : List Byte) (ch : Change) (res : List Byte) (L : Dev)
    (hk : opKind op = .d ∨ opKind op = .n) (h : Lands op c s d b ch)
    (hl : ∀ t, (opSpec op).land d.nextTxn ch (withTxns t d.opened) = withTxns t ((opSpec op).land d.nextTxn ch d.opened))
    (hres : ∀ t, (opSpec op).results (withTxns t ((opSpec op).land d.nextTxn ch d.opened)) ch =
      (opSpec op).results ((opSpec op).land d.nextTxn ch d.opened) ch)
    (hL : ch.act = .cmd op → ch.cmd = c → (opSpec op).land d.nextTxn ch d.opened = L)
    (hr : ch.act = .cmd op → ch.cmd = c → (opSpec op).results L ch = res) :
    Does (instrOf op c) (ticketOf op c s) s res L := by
  obtain ⟨E, h1, h2⟩ := exec_lands op c s d b ch hk h hl hres
  obtain ⟨ha, hc, -⟩ := prepareChanges_one _ _ op c b ch rfl h.ready
  have hL := hL ha hc
  have hr := hr ha hc
  rw [hL] at h1 h2
  rw [hr] at h1
  exact ⟨E, h1, h2⟩

theorem foldl_withTxns {α : Type} (f : Dev → α → Dev) (h : ∀ d a t, f (withTxns t d) a = withTxns t (f d a)) (l : List α) (d : Dev) (t) :
    l.foldl f (withTxns t d) = withTxns t (l.foldl f d) := by
  induction l generalizing d with
  | nil => rfl
  | cons a l ih => simp [List.foldl, ih, h]

@[simp] theorem layerOf_withTxns (t d n) : layerOf (withTxns t d) n = layerOf d n := rfl
@[simp] theorem putLayer_withTxns (n l t d) : putLayer n l (withTxns t d) = withTxns t (putLayer n l d) := rfl
@[simp] theorem updLayer_withTxns (n f t d) : updLayer n f (withTxns t d) = withTxns t (updLayer n f d) := by
  unfold updLayer
  simp only [layerOf_withTxns]
  split <;> rfl
@[simp] theorem visibleRects_withTxns (t d l) : visibleRects (withTxns t d) l = visibleRects d l := rfl
@[simp] theorem damageRect_withTxns (o r t d) : damageRect o r (withTxns t d) = withTxns t (damageRect o r d) := by
  unfold damageRect
  split <;> rfl
@[simp] theorem damageRects_withTxns (o rs t d) : damageRects o rs (withTxns t d) = withTxns t (damageRects o rs d) :=
  foldl_withTxns _ (fun d r t => damageRect_withTxns o r t d) rs d t
@[simp] theorem changeLayer_withTxns (n f t d) : changeLayer n f (withTxns t d) = withTxns t (changeLayer n f d) := by
  unfold changeLayer
  simp only [layerOf_withTxns, visibleRects_withTxns]
  split
  · rfl
  · split <;> split <;> simp
@[simp] theorem destroyLayer_withTxns (n t d) : destroyLayer n (withTxns t d) = withTxns t (destroyLayer n d) := by
  unfold destroyLayer
  simp only [layerOf_withTxns, visibleRects_withTxns]
  split
  · rfl
  · split <;> simp

/-- A layer that was put is there. -/
theorem layerOf_putLayer (n l d) : layerOf (putLayer n (some l) d) n = some l := tget_tput_of_ne none d.layers n (some l) (by simp)
@[simp] theorem setBinding_withTxns (k o b t d) : setBinding k o b (withTxns t d) = withTxns t (setBinding k o b d) := by
  unfold setBinding
  split
  · simp
  · rfl

/-- A read that its engine accepts. -/
theorem exec_read (op : Op) (c : Cmd) (s : State) (d : Dev) (b : List Byte) (hk : opKind op = .r) (h : Accepted op c s d b) :
    exec (instrOf op c) s = .next (s.after (readCmd s.fuses op (ticketOf op c s) c d)) := by
  rw [exec_accepted op c s d b h, hk]

/-- A job that its engine accepts starts at once. -/
theorem exec_job (op : Op) (c : Cmd) (s : State) (d : Dev) (b : List Byte) (hk : opKind op = .j) (h : Accepted op c s d b) :
    exec (instrOf op c) s = .next (s.after (startJob op (if op == .rakeJob then (cvOf d (c.u8 24)).cfg else .zero)
      (ticketOf op c s) c d)) := by
  rw [exec_accepted op c s d b h, hk]
  have hln : launchFail d c = none := by simp [launchFail, h.now]
  have hp : instantPassed d c = false := by simp [instantPassed, h.now]
  simp only [jobCmd, hln, hp, h.now, Bool.false_and, Bool.false_eq_true, if_false]

end Sys2Proof.Machine
end

