-- ==== Sys2Proof/Laws/Landing.lean ====
section
/-! SUPPORT. Operations that do not look at the list of transactions, and leave it as it is: what landings are made of. -/

namespace Sys2Proof.Machine

theorem raiseAt_withTxns (st code sub pl pg sec t d) : raiseAt st code sub pl pg sec (withTxns t d) = withTxns t (raiseAt st code sub pl pg sec d) := rfl
@[simp] theorem raise_withTxns (code sub pl pg sec t d) : raise code sub pl pg sec (withTxns t d) = withTxns t (raise code sub pl pg sec d) := rfl
@[simp] theorem raiseOwner_withTxns (code sub pl o t d) : raiseOwner code sub pl o (withTxns t d) = withTxns t (raiseOwner code sub pl o d) := rfl
@[simp] theorem updPage_withTxns (k f t d) : updPage k f (withTxns t d) = withTxns t (updPage k f d) := rfl
@[simp] theorem updQueue_withTxns (k q f t d) : updQueue k q f (withTxns t d) = withTxns t (updQueue k q f d) := rfl
@[simp] theorem updOut_withTxns (o f t d) : updOut o f (withTxns t d) = withTxns t (updOut o f d) := rfl
@[simp] theorem updLink_withTxns (o f t d) : updLink o f (withTxns t d) = withTxns t (updLink o f d) := rfl
@[simp] theorem pageOf_withTxns (k t d) : pageOf (withTxns t d) k = pageOf d k := rfl
@[simp] theorem outOf_withTxns (k t d) : outOf (withTxns t d) k = outOf d k := rfl
@[simp] theorem abandonBorrow_withTxns (t d) : abandonBorrow (withTxns t d) = withTxns t (abandonBorrow d) := by
  unfold abandonBorrow
  simp only [withTxns_pan]
  cases h : d.pan.borrowed <;> rfl
@[simp] theorem portAccess_withTxns (r a n t d) : portAccess r a n (withTxns t d) = withTxns t (portAccess r a n d) := by
  unfold portAccess
  split
  · rfl
  · exact foldl_withTxns (fun d page => portPass (page % 64) r d) (fun _ _ _ => rfl) _ d t
@[simp] theorem touchPan_withTxns (r a n t d) : touchPan r a n (withTxns t d) = withTxns t (touchPan r a n d) := by
  unfold touchPan
  simp only [portAccess_withTxns, withTxns_pan]
  cases h : (portAccess r a n d).pan.borrowed with
  | none => rfl
  | some p => simp only; split <;> simp
theorem panWordWrite_withTxns (r w b t d) : panWordWrite r w b (withTxns t d) = (withTxns t (panWordWrite r w b d).1, (panWordWrite r w b d).2) := by
  unfold panWordWrite
  by_cases h : (d.pan.double.contains w && !b) = true
  · have h' : ((withTxns t d).pan.double.contains w && !b) = true := h
    rw [if_pos h', if_pos h]; rfl
  · have h' : ¬ ((withTxns t d).pan.double.contains w && !b) = true := h
    rw [if_neg h', if_neg h]; rfl
@[simp] theorem panWrite_withTxns (r a b t d) : panWrite r a b (withTxns t d) = withTxns t (panWrite r a b d) := by
  unfold panWrite
  rw [touchPan_withTxns]
  apply foldl_withTxns
  intro d w t
  simp only [panWordWrite_withTxns]
  split <;> rfl
@[simp] theorem mapByte_withTxns (t d i p o) : mapByte (withTxns t d) i p o = mapByte d i p o := rfl
@[simp] theorem locFail_withTxns (t d i p w o n) : locFail (withTxns t d) i p w o n = locFail d i p w o n := rfl
@[simp] theorem locWrite_withTxns (i pan off b t d) : locWrite (withTxns t d) i pan off b = withTxns t (locWrite d i pan off b) := by
  induction b generalizing off d with
  | nil => rfl
  | cons b r ih =>
    unfold locWrite
    simp only [mapByte_withTxns]
    split
    · exact ih ..
    · split
      · exact ih (off + 1) { d with panMem := memPut d.panMem _ b }
      · exact ih (off + 1) { d with dramMem := memPut d.dramMem _ b }
@[simp] theorem putLoc_withTxns (q i pan off b t d) : putLoc q i pan off b (withTxns t d) = withTxns t (putLoc q i pan off b d) := by
  unfold putLoc
  split
  · simp
  · apply foldl_withTxns
    intro d u t
    simp only [mapByte_withTxns]
    split <;> simp
@[simp] theorem orphanTickets_withTxns (k q t d) : orphanTickets k q (withTxns t d) = withTxns t (orphanTickets k q d) := rfl
theorem raiseIf_withTxns (k code sub pl pg sec t) (d : Dev) :
    (if (pageOf (withTxns t d) k).eq.running then raise code sub pl pg sec (withTxns t d) else withTxns t d) =
      withTxns t (if (pageOf d k).eq.running then raise code sub pl pg sec d else d) := by
  by_cases h : (pageOf d k).eq.running = true
  · have h' : (pageOf (withTxns t d) k).eq.running = true := h
    rw [if_pos h', if_pos h]; rfl
  · have h' : ¬ (pageOf (withTxns t d) k).eq.running = true := h
    rw [if_neg h', if_neg h]
@[simp] theorem stopQueue_withTxns (k q w t d) : stopQueue k q w (withTxns t d) = withTxns t (stopQueue k q w d) := by
  unfold stopQueue
  simp only [updPage_withTxns, orphanTickets_withTxns]
  split <;> exact raiseIf_withTxns ..
@[simp] theorem writeReply_withTxns (k r t d) : writeReply k r (withTxns t d) = withTxns t (writeReply k r d) := by
  unfold writeReply
  dsimp only
  by_cases h : (k.orphan || !(queueOf (pageOf d (pageKey k.issuer)) (b2n k.urgent)).running) = true
  · have h' : (k.orphan || !(queueOf (pageOf (withTxns t d) (pageKey k.issuer)) (b2n k.urgent)).running) = true := h
    rw [if_pos h', if_pos h]
  · have h' : ¬ (k.orphan || !(queueOf (pageOf (withTxns t d) (pageKey k.issuer)) (b2n k.urgent)).running) = true := h
    rw [if_neg h', if_neg h]
    simp only [pageOf_withTxns, locFail_withTxns]
    cases hl : locFail d k.issuer (queueOf (pageOf d (pageKey k.issuer)) (b2n k.urgent)).rloc true
      (BitVec.toNat (queueOf (pageOf d (pageKey k.issuer)) (b2n k.urgent)).rqBase +
        (queueOf (pageOf d (pageKey k.issuer)) (b2n k.urgent)).rqTail * 32) 32 <;> simp
@[simp] theorem finishOne_withTxns (k st det res t d) : finishOne k st det res (withTxns t d) = withTxns t (finishOne k st det res d) := by
  unfold finishOne
  simp only [withTxns_tickets]
  rw [writeReply_withTxns]
  rfl
@[simp] theorem settleFences_withTxns (n t d) : settleFences n (withTxns t d) = withTxns t (settleFences n d) := by
  induction n generalizing d with
  | zero => rfl
  | succ n ih =>
    unfold settleFences
    simp only [withTxns_fences]
    cases h : d.fences.find? (·.waits.isEmpty) with
    | none => rfl
    | some f => simp only; rw [← ih, ← finishOne_withTxns]; rfl
@[simp] theorem finish_withTxns (k st det res t d) : finish k st det res (withTxns t d) = withTxns t (finish k st det res d) := by
  unfold finish
  rw [finishOne_withTxns, settleFences_withTxns]; rfl
@[simp] theorem finishAll_withTxns (ts st det res t d) : finishAll ts st det res (withTxns t d) = withTxns t (finishAll ts st det res d) :=
  foldl_withTxns _ (fun d k t => finish_withTxns k st det res t d) ts d t

end Sys2Proof.Machine
end

