-- ==== Sys2Proof/Tests/Demo.lean ====
section
/-! SUPPORT. Small devices, commands and the checks by which a test shows that a command is accepted or lands. -/

namespace Sys2Proof.Machine
open Sys2Proof

/-- Whether a command is accepted. -/
def acceptedCheck (op : Op) (c : Cmd) (s : State) : Bool :=
  enginesRun s.dev && (pageState (takenDev op c s) c.issuer == .active) && (validate op c (takenDev op c s)).2.isOk &&
    !c.inTxn && !c.launch

/-- The device a command is accepted in, and the table it copies. -/
def devIn (op : Op) (c : Cmd) (s : State) : Dev := (validate op c (takenDev op c s)).1
def tableIn (op : Op) (c : Cmd) (s : State) : List Byte :=
  match (validate op c (takenDev op c s)).2 with
  | .ok b => b
  | .error _ => []

theorem accepted_of (op : Op) (c : Cmd) (s : State) (h : acceptedCheck op c s = true) :
    Accepted op c s (devIn op c s) (tableIn op c s) := by
  simp only [acceptedCheck, Bool.and_eq_true, beq_iff_eq, Bool.not_eq_true'] at h
  obtain ⟨⟨⟨⟨h1, h2⟩, h3⟩, h4⟩, h5⟩ := h
  refine ⟨h1, h2, ?_, h4, h5⟩
  unfold tableIn devIn
  generalize validate op c (takenDev op c s) = v at *
  obtain ⟨a, b⟩ := v
  cases b with
  | error e => simp [Except.isOk, Except.toBool] at h3
  | ok b => rfl

/-- What PREPARE's checks make of the command's own transaction. -/
def prepared (op : Op) (c : Cmd) (s : State) : Except Fail (List Change) :=
  let d := devIn op c s
  prepareChanges (ownTxn op c s d (tableIn op c s)) { d with nextTxn := d.nextTxn + 1, txns := [ownTxn op c s d (tableIn op c s)] }

/-- The change that lands. -/
def changeIn (op : Op) (c : Cmd) (s : State) : Change :=
  match prepared op c s with
  | .ok [ch] => ch
  | _ => { act := .hide 0, cmd := c, table := [], obj := 0, outs := [] }

/-- Whether a command's change lands at once. -/
def landsCheck (op : Op) (c : Cmd) (s : State) : Bool :=
  acceptedCheck op c s && (devIn op c s).txns.isEmpty &&
    (match prepared op c s with
      | .ok [_] => true
      | _ => false) &&
    (changeIn op c s).outs.all fun o => !(outOf (devIn op c s) o).enabled

theorem lands_of (op : Op) (c : Cmd) (s : State) (h : landsCheck op c s = true) :
    Lands op c s (devIn op c s) (tableIn op c s) (changeIn op c s) := by
  simp only [landsCheck, Bool.and_eq_true, List.all_eq_true, Bool.not_eq_true', List.isEmpty_iff] at h
  obtain ⟨⟨⟨h1, h2⟩, h3⟩, h4⟩ := h
  refine ⟨accepted_of op c s h1, h2, ?_, h4⟩
  change prepared op c s = .ok [changeIn op c s]
  unfold changeIn
  split at h3
  · rename_i ch h; simp only [h]
  · cases h3

/-- A machine around a device. -/
def on (d : Dev) : State := { State.reset with dev := d }

/-- Some machine and its device, or some command that is accepted or lands, are as said. -/
abbrev Met (p : State → Dev → Prop) : Prop := ∃ s : State, p s s.dev
abbrev Taken (op : Op) (p : Cmd → State → Dev → Prop) : Prop := ∃ c s d b, Accepted op c s d b ∧ p c s d
abbrev Landed (op : Op) (p : Cmd → State → Dev → List Byte → Prop) : Prop :=
  ∃ c s d b ch, Lands op c s d b ch ∧ p c s d b

theorem met (d : Dev) {p : State → Dev → Prop} (h : p (on d) d) : Met p := ⟨on d, h⟩
theorem taken (op : Op) (c : Cmd) (d : Dev) {p : Cmd → State → Dev → Prop} (h : acceptedCheck op c (on d) = true)
    (hp : p c (on d) (devIn op c (on d))) : Taken op p := ⟨c, on d, _, _, accepted_of op c _ h, hp⟩
theorem landed (op : Op) (c : Cmd) (d : Dev) {p : Cmd → State → Dev → List Byte → Prop} (h : landsCheck op c (on d) = true)
    (hp : p c (on d) (devIn op c (on d)) (tableIn op c (on d))) : Landed op p := ⟨c, on d, _, _, _, lands_of op c _ h, hp⟩

/-- Parameter bytes: packet offsets and the values that stand there. -/
def par (l : List (Nat × Nat)) : Nat := l.foldl (fun v p => v + p.2 * 256 ^ (p.1 - 24)) 0

/-- A packet of an opcode with its parameters. -/
def pkt (op : Op) (l : List (Nat × Nat)) : Packet :=
  { flags := 0, len := BitVec.ofNat 8 (opSpec op).len, tag := 7, handle := 0, rsvd := 0, instant := 0,
    params := BitVec.ofNat 320 (par l) }

/-- The manager's command on its normal queue, and an instance's. -/
def mg (op : Op) (l : List (Nat × Nat)) : Cmd := { issuer := .manager, urgent := false, pkt := pkt op l }
def ic (n : Nat) (op : Op) (l : List (Nat × Nat)) : Cmd := { issuer := .inst n, urgent := false, pkt := pkt op l }

/-- A command with a transaction handle. -/
def hd (h : Nat) (c : Cmd) : Cmd := { c with pkt := { c.pkt with handle := BitVec.ofNat 32 h } }

/-- The manager's transaction of handle 9. -/
def txn9 (st : TxnState) : Txn :=
  { ownTxn .nop (mg .nop []) State.reset Dev.zero [] with
    id := 1, own := false, handle := 9, state := st, changes := [], commit := none }

/-- A ticket of the manager's normal queue. -/
def tick (n : Nat) (op : Op) : Ticket :=
  { no := n, issuer := .manager, urgent := false, tag := 7, soon := false, lateOk := false, late := false, op := op,
    orphan := false }

/-- The firmware runs. -/
def dev0 : Dev := { Dev.zero with power := .zero }

/-- A serving channel, and eight of them. -/
def chan1 : Channel := { Channel.zero with state := .serving }
def dram1 : Dram :=
  { Dram.zero with trained := true, working := 255, rate := 3200, density := 2, channels := List.replicate 8 chan1 }

/-- DRAM trained and the secure world running. -/
def dev1 : Dev := { dev0 with dram := dram1, sec := { Secure.zero with running := true } }

/-- 1,920 × 1,080 at 148.5 MHz on four lanes. -/
def mode1 : Mode :=
  { rate := 1, lanes := 4, bpc10 := false, compact := false, dither := 0, async := false, edp := false, hpol := false,
    vpol := false, clock := 148500, hActive := 1920, hFront := 88, hSync := 44, hBack := 148, vActive := 1080,
    vFront := 4, vSync := 5, vBack := 36, ssc := false }

/-- The same device with one instance, layer, page or set of transactions; an output with a mode. -/
def withInst (n : Nat) (x : Instance) (d : Dev) : Dev := { d with insts := [(n, x)] }
def withLayer (n : Nat) (l : Layer) (d : Dev) : Dev := { d with layers := [(n, some l)] }
def moded (m : Mode) (o : Output) : Output := { o with mode := some m }

def withPage (k : Nat) (p : Page) (d : Dev) : Dev := { d with pages := [(k, p)] }
def withTxn (l : List Txn) (d : Dev) : Dev := { d with txns := l, nextTxn := 10 }

/-- A drive segment, and an effect of one of them. -/
def seg1 : Segment := { drive := true, halfCycles := 4, time := 0, ampFrom := 255, ampTo := 255, overdrive := 0 }
def eff1 (rank : Nat) (l : List Segment) : Effect :=
  { number := 1, scale := 255, source := { rank := rank, issuer := none, notify := false, serial := 0 }, segments := l,
    segStart := 0, hcDone := 0, odLeft := 0, amp := 0, driveNs := 0, brakes := 0, endCause := none }

/-- A running queue of 16 entries in pan memory, and a running event queue. -/
def q16 : SubQueue := { SubQueue.zero with enable := true, running := true, loc := true, rloc := true, depth := 16, rqBase := 4096 }
def e16 : EventQueue := { EventQueue.zero with enable := true, running := true, loc := true, depth := 16, base := 8192 }

/-- The first bytes of an image that a blank part accepts: the magic number, and a boot configuration of one rank at
3,200 MT/s, 750 mV and a pace target of 1,250. Every other byte is 0. -/
def imageHead : List Byte :=
  leBytes 4 0x4D544C47 ++ List.replicate 13 0 ++ le8 1 ++ le16 3200 ++ List.replicate 4 0 ++ le16 750 ++ le16 1250
def image1 : List Byte := imageHead ++ List.replicate 4068 0
def imageCells : List Host.Cell := (imageHead.zipIdx.map fun e => (e.2, e.1)).filter (·.2 ≠ 0)

/-- A shown layer of 64 × 64 pixels at the bottom of an output, and a frame whose last band it meets. -/
def layer1 : Layer :=
  { newLayer 7 5 .manager with
    visible := true, crop := { x := 0, y := 0, w := 64, h := 64 }, dst := { x := 0, y := 1016, w := 64, h := 64 },
    src := some { format := 4, mem := 0, slot := 0, pitch := 256, plane0 := 0, plane1 := 0, w := 64, h := 64 } }
def frameLayer1 : FrameLayer :=
  { number := 127, layer := layer1, clips := [{ x := 0, y := 1016, w := 64, h := 64 }],
    importBuf := 0, importFrame := 0 }
def flight1 : Flight :=
  { frame := 9, mode := mode1, layers := [frameLayer1], storeLut := .of .srgb, start := 0, guard := 32, composing := true,
    damaged := 2 ^ 134, ready := 0, taken := 0, written := 0, stale := 0, quietAway := 0, dropped := [], late := 0,
    arrived := [], kept := [], harvest := [], minSlack := none, badTiles := [], retired := false }
def fly (f : Flight) (o : Output) : Output := { moded mode1 o with enabled := true, flights := [f] }
def claim1 : Claim := { output := 7, frame := 9, band := 134, dram := 2048, pan := 0, left := [], data := [] }
def scan (o : Output) : Output := { moded mode1 o with enabled := true, scanning := true, scanMode := some mode1, zeroed := true }

/-- A change that waits for a block boundary, and a device in which it waits. -/
def wait1 (op : Op) (l : List (Nat × Nat)) : AudioWait := { op := op, cmd := mg op l, owner := .manager, obj := 0, txn := none }
def withWait (op : Op) (l : List (Nat × Nat)) : Dev := updAudio (fun a => { a with waiting := [wait1 op l] }) dev1

/-- An AUX transaction under way, a rake job, and a contact in slot 9. -/
def aux1 (tries : Nat) (l : List (Nat × Nat)) : AuxJob :=
  { output := 7, ticket := tick 0 .outputAux, cmd := mg .outputAux l, tries := tries, bytes := 0, read := [] }
def rake1 : RakeJob :=
  { ticket := tick 0 .rakeJob, cfg := .zero, memory := 1, output := 0, sequence := 0, start := 0, length := 1, tag := 0,
    pieces := 0, reg := 0 }
def contact9 : Contact :=
  { slot := 9, ident := 3, owner := none, serial := 0, ownerSlot := 0, layer := 0, frame := 0, x := 0, y := 0, anchorX := 0,
    anchorY := 0, since := 0 }

/-- An import slot of 4-byte buffers on port 3. -/
def import3 : Import :=
  { port := 3, compact := false, owner := .manager, node := 0, buf0 := 0, buf1 := 4096, buf2 := 8192, size := 4,
    latest := none, frames := 0, sizes := [], lastFrame := 0, lost := false }

/-- An active instance. -/
def inst1 : Instance := { Instance.zero with exists_ := true, state := .active, weight := 1 }

end Sys2Proof.Machine
end

