-- ==== Sys2Proof/Tests/Commands.lean ====
section
/-! SUPPORT. Devices and commands that meet the hypotheses of the statements on queue commands, one for each clause. -/

namespace Sys2Proof.Machine
open Sys2Proof
set_option Elab.async false

theorem test_meets_layerCommandsLand :
    (Landed .layerCreate fun _ _ _ _ => True) ∧
    (Landed .layerDestroy fun c _ d _ => ∃ l : Layer, layerOf d (c.u16 24) = some l) ∧
    (Landed .layerPlace fun _ _ _ _ => True) ∧
    (Landed .layerBlend fun _ _ _ _ => True) ∧
    (Landed .layerEnable fun c _ d _ => ∃ l : Layer, layerOf d (c.u16 24) = some l) ∧
    (Landed .layerRate fun _ _ _ _ => True) ∧
    (Landed .layerPalette fun c _ d _ => ∃ l : Layer, layerOf d (c.u16 24) = some l) ∧
    (Landed .layerClick fun _ _ _ _ => True) :=
  ⟨landed .layerCreate (mg .layerCreate [(24, 7), (26, 1023)]) dev1 (by decide +kernel) trivial,
    landed .layerDestroy (mg .layerDestroy [(24, 127)]) (withLayer 127 (newLayer 7 5 .manager) dev1) (by decide +kernel)
      ⟨_, (Option.some_get (by decide +kernel)).symm⟩,
    landed .layerPlace (mg .layerPlace [(24, 127), (26, 1023), (28, 8191), (32,
      0)]) (withLayer 127 (newLayer 7 5 .manager) dev1) (by decide +kernel) trivial,
    landed .layerBlend (mg .layerBlend [(24, 127), (26, 2), (27,
      255)]) (withLayer 127 (newLayer 7 5 .manager) dev1) (by decide +kernel) trivial,
    landed .layerEnable (mg .layerEnable [(24, 127), (26,
      2)]) (withLayer 127 (newLayer 7 5 .manager) dev1) (by decide +kernel) ⟨_,
      (Option.some_get (by decide +kernel)).symm⟩,
    landed .layerRate (mg .layerRate [(24, 127), (28,
      153600)]) (withLayer 127 (newLayer 7 5 .manager) dev1) (by decide +kernel) trivial,
    landed .layerPalette (mg .layerPalette [(24, 127), (26, 1), (28, 0), (30, 256), (32,
      0)]) (withLayer 127 (newLayer 7 5 .manager) dev1) (by decide +kernel) ⟨_,
      (Option.some_get (by decide +kernel)).symm⟩,
    landed .layerClick (mg .layerClick [(24, 127), (26, 7), (27, 127), (28, 255), (30,
      2000)]) (withLayer 127 (newLayer 7 5 .manager) dev1) (by decide +kernel) trivial⟩

theorem test_meets_layerSourceLands :
    (Landed .layerSource fun c _ _ _ => c.bit 27 4 = false) ∧
    (Landed .layerSource fun c _ d _ => ∃ l : Layer, layerOf d (c.u16 24) = some l ∧ c.bit 27 4 = true) ∧
    (Taken .layerQuery fun _ _ _ => True) :=
  ⟨landed .layerSource (mg .layerSource [(24, 127), (26, 4), (27, 0), (28, 256), (48, 64), (50,
      64)]) (withLayer 127 (newLayer 7 5 .manager) dev1) (by decide +kernel) (by decide +kernel),
    landed .layerSource (mg .layerSource [(24, 127), (26, 4), (27, 16), (28, 256), (48, 64), (50, 64), (52, 0), (56, 8),
      (58, 8)]) (withLayer 127 (newLayer 7 5 .manager) dev1) (by decide +kernel) ⟨_,
      (Option.some_get (by decide +kernel)).symm, by decide +kernel⟩,
    taken .layerQuery (mg .layerQuery [(24, 127), (26,
      3)]) (withLayer 127 (newLayer 7 5 .manager) dev1) (by decide +kernel) trivial⟩

theorem test_meets_scalerAndColourLand :
    (Landed .scalerBind fun _ _ _ _ => True) ∧
    (Landed .scalerRelease fun _ _ _ _ => True) ∧
    (Landed .scalerCoeff fun c _ d _ => ∃ k : Binding, bindingOf d (c.u8 26) (c.u16 24) = some k) ∧
    (Landed .lutLoad fun c _ _ _ => c.u8 26 = 0) ∧
    (Landed .lutLoad fun c _ _ _ => c.u8 26 = 1) ∧
    (Landed .lutLoad fun c _ _ _ => c.u8 26 = 2) ∧
    (Landed .matrixSet fun _ _ _ _ => True) ∧
    (Landed .chromaSet fun _ _ _ _ => True) :=
  ⟨landed .scalerBind (mg .scalerBind [(24, 127), (26, 0), (27,
      31)]) (withLayer 127 (newLayer 7 5 .manager) dev1) (by decide +kernel) trivial,
    landed .scalerRelease (mg .scalerRelease [(24, 127), (26,
      0)]) (withLayer 127 { newLayer 7 5 .manager with
      binding := some { scaler := 3, gang := false, autoGang := false, hset := .builtin 1, vset := .builtin 1 } } dev1)
      (by decide +kernel) trivial,
    landed .scalerCoeff (mg .scalerCoeff [(24, 127), (26, 0), (27, 3), (28,
      4)]) (withLayer 127 { newLayer 7 5 .manager with
      binding := some { scaler := 3, gang := false, autoGang := false, hset := .builtin 1, vset := .builtin 1 } } dev1)
      (by decide +kernel) ⟨_, (Option.some_get (by decide +kernel)).symm⟩,
    landed .lutLoad (mg .lutLoad [(24, 127), (26, 0), (27, 7), (28,
      3)]) (withLayer 127 (newLayer 7 5 .manager) dev1) (by decide +kernel) (by decide +kernel),
    landed .lutLoad (mg .lutLoad [(24, 7), (26, 1), (27, 7), (28,
      1)]) (withLayer 127 (newLayer 7 5 .manager) dev1) (by decide +kernel) (by decide +kernel),
    landed .lutLoad (mg .lutLoad [(24, 7), (26, 2), (27, 7), (28,
      1)]) (withLayer 127 (newLayer 7 5 .manager) dev1) (by decide +kernel) (by decide +kernel),
    landed .matrixSet (mg .matrixSet [(24, 127), (26, 1), (28,
      32767)]) (withLayer 127 (newLayer 7 5 .manager) dev1) (by decide +kernel) trivial,
    landed .chromaSet (mg .chromaSet [(24, 127), (26, 2), (27, 1), (28,
      21)]) (withLayer 127 (newLayer 7 5 .manager) dev1) (by decide +kernel) trivial⟩

theorem test_meets_outputCommandsLand :
    (Landed .outputMode fun _ _ _ _ => True) ∧
    (Landed .outputEnable fun c _ _ _ => c.bit 25 0 = true) ∧
    (Landed .outputEnable fun c _ _ _ => c.bit 25 0 = false) ∧
    (Landed .outputLead fun _ _ _ _ => True) ∧
    (Landed .outputStill fun _ _ _ _ => True) ∧
    (Landed .outputPolicy fun _ _ _ _ => True) ∧
    (Landed .outputGuard fun _ _ _ _ => True) :=
  ⟨landed .outputMode (mg .outputMode [(24, 7), (25, 1), (26, 4), (28, 148500), (32, 1920), (34, 88), (36, 44), (38, 148),
      (40, 1080), (42, 4), (44, 5), (46, 36)]) dev1 (by decide +kernel) trivial,
    landed .outputEnable (mg .outputEnable [(24, 7), (25,
      1)]) (updOut 7 (moded mode1) dev1) (by decide +kernel) (by decide +kernel),
    landed .outputEnable (mg .outputEnable [(24, 7), (25,
      0)]) (updOut 7 (moded mode1) dev1) (by decide +kernel) (by decide +kernel),
    landed .outputLead (mg .outputLead [(24, 7), (26, 1080)]) (updOut 7 (moded mode1) dev1) (by decide +kernel) trivial,
    landed .outputStill (mg .outputStill [(24, 7), (25, 255), (28, 1000000)]) dev1 (by decide +kernel) trivial,
    landed .outputPolicy (mg .outputPolicy [(24, 7), (25, 1), (26, 2)]) dev1 (by decide +kernel) trivial,
    landed .outputGuard (mg .outputGuard [(24, 7), (25, 1)]) dev1 (by decide +kernel) trivial⟩

theorem test_meets_outputJobsStart :
    (Taken .outputStatus fun _ _ _ => True) ∧
    (Taken .outputAux fun c _ d => islandOn d (c.u8 24) = true ∧ (domainOn d (if c.u8 24 < 4 then 6 else 7) = true) ∧
      ¬ (c.u8 25 = 1 ∧ (outOf d (c.u8 24)).enabled = true ∧ c.u32 28 < 0x200 ∧ 0x100 < c.u32 28 + c.u8 26)) ∧
    (Taken .outputTrain fun c _ d => c.u8 25 = 0 ∧ (outOf d (c.u8 24)).enabled = true) ∧
    (Taken .outputTrain fun c _ d => ∃ m : Mode, (outOf d (c.u8 24)).mode = some m ∧ c.u8 25 = 1 ∧
      (outOf d (c.u8 24)).enabled = true ∧ carries m (c.u8 26, c.u8 27) = true) ∧
    (Taken .outputTrain fun c _ d => c.u8 25 = 2 ∧ (outOf d (c.u8 24)).enabled = true ∧
      (outOf d (c.u8 24)).link.training = false) :=
  ⟨taken .outputStatus (mg .outputStatus [(24, 7), (25, 3)]) dev1 (by decide +kernel) trivial,
    taken .outputAux (mg .outputAux [(24, 7), (25, 0), (26, 16), (28,
      1048575)]) dev1 (by decide +kernel) (by decide +kernel),
    taken .outputTrain (mg .outputTrain [(24, 7), (25,
      0)]) (updOut 7 (fun o => { moded mode1 o with enabled := true }) dev1) (by decide +kernel) (by decide +kernel),
    taken .outputTrain (mg .outputTrain [(24, 7), (25, 1), (26, 7), (27,
      4)]) (updOut 7 (fun o => { moded mode1 o with enabled := true }) dev1) (by decide +kernel) ⟨_,
      (Option.some_get (by decide +kernel)).symm, by decide +kernel⟩,
    taken .outputTrain (mg .outputTrain [(24, 7), (25,
      2)]) (updOut 7 (fun o => { moded mode1 o with enabled := true }) dev1) (by decide +kernel) (by decide +kernel)⟩

theorem test_meets_harvestCommandsLand :
    (Landed .harvestSetup fun c _ _ _ => c.u8 26 = 2) ∧
    (Landed .harvestSetup fun c _ _ _ => c.u8 26 ≠ 2) ∧
    (Landed .harvestRun fun _ _ _ _ => True) ∧
    (Taken .harvestStatus fun _ _ _ => True) :=
  ⟨landed .harvestSetup (mg .harvestSetup [(24, 7), (26, 2), (32,
      2)]) ({ updOut 7 (moded mode1) dev1 with
      harvest := modifyAt (fun h => { h with
      owner := some .manager, output := 7, buffers := 2, bufState := [2, 0] }) 7 dev1.harvest }) (by decide +kernel) (by
      decide +kernel),
    landed .harvestSetup (mg .harvestSetup [(24, 7), (25, 7), (26, 1), (27, 1), (32, 4), (33,
      3)]) (updTide (fun t => { t with
      exports := [(3, some {
      port := 0, channel := 7, compact := true, node := 0, lastFrame := 0, lastSent := [], lost := false })] }) (updOut 7
      (moded mode1) dev1)) (by decide +kernel) (by decide +kernel),
    landed .harvestRun (mg .harvestRun [(24, 7), (25, 15), (28,
      1)]) ({ updOut 7 (moded mode1) dev1 with
      harvest := modifyAt (fun h => { h with
      owner := some .manager, output := 7, buffers := 2, bufState := [2, 0] }) 7 dev1.harvest }) (by decide +kernel)
      trivial,
    taken .harvestStatus (mg .harvestStatus [(24, 7), (25,
      1)]) ({ updOut 7 (moded mode1) dev1 with
      harvest := modifyAt (fun h => { h with
      owner := some .manager, output := 7, buffers := 2, bufState := [2, 0] }) 7 dev1.harvest }) (by decide +kernel)
      trivial⟩

theorem test_meets_checkCommandsLand :
    (Landed .cvConfig fun c _ _ _ => c.bit 25 0 = false) ∧
    (Landed .cvConfig fun c _ d _ => c.bit 25 0 = true ∧ c.u8 24 ≠ 0xFF ∧ (cvOf d (c.u8 24)).jobs = []) ∧
    (Taken .rakeJob fun c _ d => claimOk (cvOf d (c.u8 24)).owner c.issuer false = true ∧ specRakeJob.step10 d c = none) ∧
    (Taken .cvRead fun _ _ _ => True) ∧
    (Landed .monitorSet fun c _ _ _ => c.bit 26 4 = false) ∧
    (Landed .monitorSet fun c _ _ _ => c.bit 26 4 = true ∧ c.u8 25 ≠ 0xFF) ∧
    (Landed .monitorCapture fun _ _ _ _ => True) ∧
    (Taken .monitorRead fun _ _ _ => True) :=
  ⟨landed .cvConfig (mg .cvConfig [(24, 255), (26, 64), (32,
      18446744073709551615)]) dev1 (by decide +kernel) (by decide +kernel),
    landed .cvConfig (mg .cvConfig [(24, 15), (25,
      1)]) ({ dev1 with cv := modifyAt (fun u => { u with owner := some .manager }) 15 dev1.cv }) (by decide +kernel) (by
      decide +kernel),
    taken .rakeJob (mg .rakeJob [(24, 15), (25, 1), (32, 0), (40,
      0)]) ({ dev1 with cv := modifyAt (fun u => { u with owner := some .manager }) 15 dev1.cv }) (by decide +kernel) (by
      decide +kernel),
    taken .cvRead (mg .cvRead [(24, 15)]) ({ dev1 with
      cv := modifyAt (fun u => { u with owner := some .manager }) 15 dev1.cv }) (by decide +kernel) trivial,
    landed .monitorSet (mg .monitorSet [(24, 7), (25, 255), (26, 1), (27, 1), (28, 1919), (30, 1079), (32, 1), (34, 1),
      (36, 1)]) (updOut 7 (moded mode1) dev1) (by decide +kernel) (by decide +kernel),
    landed .monitorSet (mg .monitorSet [(24, 7), (25, 15), (26,
      16)]) ({ dev1 with monitors := [(127, { Monitor.zero with owner := some .manager })] }) (by decide +kernel) (by
      decide +kernel),
    landed .monitorCapture (mg .monitorCapture [(24, 7), (25,
      15)]) ({ dev1 with monitors := [(127, { Monitor.zero with owner := some .manager })] }) (by decide +kernel) trivial,
    taken .monitorRead (mg .monitorRead [(24, 7), (25, 15), (26,
      4)]) ({ dev1 with monitors := [(127, { Monitor.zero with owner := some .manager })] }) (by decide +kernel) trivial⟩

theorem test_meets_selfServiceAnswers :
    (Landed .nop fun _ _ _ _ => True) ∧
    (Taken .fence fun c s d => ((∀ u ∈ d.tickets, u.issuer = c.issuer → u.no = (ticketOf .fence c s).no))) ∧
    (Taken .fence fun c s d => ∃ u : Ticket, u ∈ d.tickets ∧ u.issuer = c.issuer ∧ u.no ≠ (ticketOf .fence c s).no) ∧
    (Taken .instanceInfo fun c _ _ => ∃ n : Nat, c.issuer = .inst n) ∧
    (Taken .instanceInfo fun c _ _ => c.issuer = .manager) ∧
    (Taken .viewportList fun c _ _ => ∃ n : Nat, c.issuer = .inst n) ∧
    (Taken .queueStats fun _ _ _ => True) :=
  ⟨landed .nop (mg .nop []) dev0 (by decide +kernel) trivial,
    taken .fence (mg .fence []) dev0 (by decide +kernel) (by decide +kernel),
    taken .fence (mg .fence []) { dev0 with tickets := [tick 0 .nop], nextTicket := 1 } (by decide +kernel) ⟨tick 0 .nop,
      by decide +kernel⟩,
    taken .instanceInfo (ic 511 .instanceInfo []) (withInst 511 inst1 dev0) (by decide +kernel) ⟨511, by decide +kernel⟩,
    taken .instanceInfo (mg .instanceInfo []) dev0 (by decide +kernel) (by decide +kernel),
    taken .viewportList (ic 511 .viewportList [(24, 7), (25, 6)]) (withInst 511 inst1 dev0) (by decide +kernel) ⟨511,
      by decide +kernel⟩,
    taken .queueStats (mg .queueStats [(24, 1)]) dev0 (by decide +kernel) trivial⟩

theorem test_meets_transactionControl :
    (Taken .beginTxn fun c _ d => (d.txns.filter fun x => !x.own && x.issuer == c.issuer).length < 4) ∧
    (Taken .beginTxn fun c _ d => ∃ e : Txn, 4 ≤ (d.txns.filter fun x => !x.own && x.issuer == c.issuer).length ∧
      (d.txns.filter fun x => (!x.own && x.issuer == c.issuer) && isOpen x).length < 4 ∧ e ∈ d.txns ∧ e.own = false ∧
      e.issuer = c.issuer ∧ isOpen e = false ∧ ((∀ x ∈ d.txns, x.own = false → x.issuer = c.issuer → isOpen x = false →
      e.id ≤ x.id))) ∧
    (Taken .beginTxn fun c _ d => 4 ≤ (d.txns.filter fun x => (!x.own && x.issuer == c.issuer) && isOpen x).length) ∧
    (Taken .prepare fun c _ d => ∃ x : Txn, namedTxn d c = some x ∧ c.u32 24 = 0) ∧
    (Taken .commit fun c _ d => ∃ x : Txn, namedTxn d c = some x ∧ x.state = .prepared) ∧
    (Taken .rollback fun c _ d => ∃ x : Txn, namedTxn d c = some x ∧ x.commit = none) ∧
    (Taken .rollback fun c _ d => ∃ (x : Txn) (k : Ticket), namedTxn d c = some x ∧ x.commit = some k) ∧
    (Taken .txnStatus fun c _ d => ∃ x : Txn, namedTxn d c = some x ∧ c.u8 24 = 0) ∧
    (Taken .txnStatus fun c _ d => ∃ t : Tally, d.tallies.find? (·.ballot.toNat == c.u32 28) = some t ∧ c.u8 24 = 1) ∧
    (Taken .txnStatus fun c _ d => ∃ x : Txn, namedTxn d c = some x ∧ c.u8 24 = 2) :=
  ⟨taken .beginTxn (mg .beginTxn []) (withTxn [txn9 .openT, txn9 .openT,
      txn9 .openT] dev0) (by decide +kernel) (by decide +kernel),
    taken .beginTxn (mg .beginTxn []) (withTxn [txn9 .landed, { txn9 .openT with id := 2 },
      { txn9 .rolledBack with id := 3 }, { txn9 .openT with id := 4 }] dev0) (by decide +kernel) ⟨txn9 .landed,
      by decide +kernel⟩,
    taken .beginTxn (mg .beginTxn []) (withTxn [txn9 .openT, txn9 .openT, txn9 .openT,
      txn9 .openT] dev0) (by decide +kernel) (by decide +kernel),
    taken .prepare (hd 9 (mg .prepare [(24, 0), (28, 16383)])) (withTxn [txn9 .openT] dev0) (by decide +kernel) ⟨_,
      (Option.some_get (by decide +kernel)).symm, by decide +kernel⟩,
    taken .commit (hd 9 (mg .commit [])) (withTxn [txn9 .prepared] dev0) (by decide +kernel) ⟨_,
      (Option.some_get (by decide +kernel)).symm, by decide +kernel⟩,
    taken .rollback (hd 9 (mg .rollback [])) (withTxn [txn9 .prepared] dev0) (by decide +kernel) ⟨_,
      (Option.some_get (by decide +kernel)).symm, by decide +kernel⟩,
    taken .rollback (hd 9 (mg .rollback [])) (withTxn [{ txn9 .armed with
      commit := some (tick 0 .commit), wait := some 1 }] dev0) (by decide +kernel) ⟨_, _,
      (Option.some_get (by decide +kernel)).symm, (Option.some_get (by decide +kernel)).symm⟩,
    taken .txnStatus (hd 9 (mg .txnStatus [(24, 0), (25, 7)])) (withTxn [txn9 .landed] dev0) (by decide +kernel) ⟨_,
      (Option.some_get (by decide +kernel)).symm, by decide +kernel⟩,
    taken .txnStatus (mg .txnStatus [(24, 1), (28,
      5)]) ({ dev0 with
      tallies := [{
      ballot := 5, prepOk := 1, prepFail := 0, landedOk := 0, landedLate := 0, commitFail := 0, firstNode := 0,
      firstStatus := 0 }] }) (by decide +kernel) ⟨_, (Option.some_get (by decide +kernel)).symm, by decide +kernel⟩,
    taken .txnStatus (hd 9 (mg .txnStatus [(24, 2)])) (withTxn [txn9 .landed] dev0) (by decide +kernel) ⟨_,
      (Option.some_get (by decide +kernel)).symm, by decide +kernel⟩⟩

theorem test_meets_touchCommandsLand :
    (Landed .touchPort fun _ _ _ _ => True) ∧
    (Landed .touchCalib fun _ _ _ _ => True) ∧
    (Landed .touchSieve fun _ _ _ _ => True) ∧
    (Landed .touchCancel fun _ _ _ _ => True) ∧
    (Taken .touchStatus fun c _ _ => c.issuer = .manager) ∧
    (Taken .touchStatus fun c _ _ => c.issuer ≠ .manager) :=
  ⟨landed .touchPort (mg .touchPort [(24, 7), (25, 1), (26, 7), (27, 119), (30, 1000)]) dev0 (by decide +kernel) trivial,
    landed .touchCalib (mg .touchCalib [(24, 7), (25, 1)]) dev0 (by decide +kernel) trivial,
    landed .touchSieve (mg .touchSieve [(24, 7), (26, 600), (28, 1), (30, 60)]) dev0 (by decide +kernel) trivial,
    landed .touchCancel (mg .touchCancel [(24, 7), (25, 1)]) dev0 (by decide +kernel) trivial,
    taken .touchStatus (mg .touchStatus [(24, 7), (25, 3)]) dev0 (by decide +kernel) (by decide +kernel),
    taken .touchStatus (ic 511 .touchStatus [(24, 7), (25,
      3)]) (withInst 511 { inst1 with viewports := [(vpKey 7 0, { x := 0, y := 0, w := 8, h := 8 })] } dev0) (by
      decide +kernel) (by decide +kernel)⟩

theorem test_meets_hapticCommandsLand :
    (Landed .hapticChannel fun c _ d _ => (hapOf d (c.u8 24)).setup = none ∧ (hapOf d (c.u8 24)).run = none) ∧
    (Landed .hapticChannel fun c _ d _ => (hapOf d (c.u8 24)).setup = none ∧
      (hapOf (brakeEffect (c.u8 24) 1 d.opened) (c.u8 24)).run ≠ none) ∧
    (Landed .hapticPlay fun c _ d _ => triggerRefusal d (c.u8 24) 0 = none ∧ (hapOf d (c.u8 24)).waiting = none ∧
      c.u8 25 ≠ 0 ∧ c.u8 26 ≠ 0) ∧
    (Landed .hapticPlay fun c _ d _ => triggerRefusal d (c.u8 24) 0 = none ∧ c.u8 26 = 0) ∧
    (Landed .hapticStop fun c _ d _ => (hapOf d (c.u8 24)).waiting = none ∧ (hapOf d (c.u8 24)).run = none) ∧
    (Landed .hapticStop fun c _ d _ => c.bit 25 0 = false ∧ (hapOf d (c.u8 24)).waiting = none ∧
      (hapOf d (c.u8 24)).setup = none ∧ (hapOf d (c.u8 24)).run.isSome ∧
      (hapRank (hapOf d (c.u8 24))).all (fun r => decide (r ≤ stopRank c.issuer)) = true) ∧
    (Landed .hapticStop fun c _ d _ => c.bit 25 0 = true ∧ (hapOf d (c.u8 24)).waiting = none ∧
      (hapOf d (c.u8 24)).setup = none ∧ (hapOf d (c.u8 24)).run.isSome ∧
      (hapRank (hapOf d (c.u8 24))).all (fun r => decide (r ≤ stopRank c.issuer)) = true) ∧
    (Landed .hapticTrigger fun _ _ _ _ => True) ∧
    (Landed .hapticBudget fun _ _ _ _ => True) ∧
    (Taken .hapticStatus fun c _ _ => c.u8 25 < 4) ∧
    (Taken .hapticStatus fun c _ d => ∃ p : HapPin,
      (d.haptic.pins.find? fun p => p.enable && p.channel == c.u8 24) = some p ∧ c.u8 25 = 4) :=
  ⟨landed .hapticChannel (mg .hapticChannel [(24, 7), (25, 1), (26, 7), (27, 3), (28, 0), (30, 300), (32, 500), (34, 5500),
      (36, 1000), (38, 50), (40, 500)]) dev0 (by decide +kernel) (by decide +kernel),
    landed .hapticChannel (mg .hapticChannel [(24, 7), (25, 1), (26, 7), (27, 3), (28, 0), (30, 300), (32, 500), (34,
      5500), (36, 1000), (38, 50), (40, 500)]) (updHap 7 (fun h => { h with
      enabled := true, state := .drive, run := some (eff1 0 [seg1]) }) dev0) (by decide +kernel) (by decide +kernel),
    landed .hapticPlay (mg .hapticPlay [(24, 7), (25, 127), (26, 1), (28,
      60000)]) (updHap 7 (fun h => { h with enabled := true, state := .idle }) dev0) (by decide +kernel) (by
      decide +kernel),
    landed .hapticPlay (mg .hapticPlay [(24, 7), (25, 127), (26,
      0)]) (updHap 7 (fun h => { h with enabled := true, state := .idle }) dev0) (by decide +kernel) (by decide +kernel),
    landed .hapticStop (mg .hapticStop [(24, 7), (25, 1)]) dev0 (by decide +kernel) (by decide +kernel),
    landed .hapticStop (mg .hapticStop [(24, 7), (25,
      0)]) (updHap 7 (fun h => { h with enabled := true, state := .drive, run := some (eff1 1 [seg1]) }) dev0) (by
      decide +kernel) (by decide +kernel),
    landed .hapticStop (mg .hapticStop [(24, 7), (25,
      1)]) (updHap 7 (fun h => { h with enabled := true, state := .drive, run := some (eff1 1 [seg1]) }) dev0) (by
      decide +kernel) (by decide +kernel),
    landed .hapticTrigger (mg .hapticTrigger [(24, 7), (25, 7), (26, 7), (27, 127), (28, 255), (30, 1000), (32,
      60000)]) dev0 (by decide +kernel) trivial,
    landed .hapticBudget (mg .hapticBudget [(24, 10000)]) dev0 (by decide +kernel) trivial,
    taken .hapticStatus (mg .hapticStatus [(24, 7), (25, 3)]) dev0 (by decide +kernel) (by decide +kernel),
    taken .hapticStatus (mg .hapticStatus [(24, 7), (25,
      4)]) ({ dev0 with haptic := { dev0.haptic with pins := [{ HapPin.zero with enable := true, channel := 7 }] } }) (by
      decide +kernel) ⟨_, (Option.some_get (by decide +kernel)).symm, by decide +kernel⟩⟩

theorem test_meets_audioCommandsWait :
    (Landed .audioStream fun _ _ _ _ => True) ∧
    (Landed .audioRoute fun _ _ _ _ => True) ∧
    (Landed .audioUnroute fun _ _ _ _ => True) ∧
    (Landed .audioBus fun _ _ _ _ => True) ∧
    (Landed .audioPort fun _ _ _ _ => True) ∧
    (Landed .audioMeter fun _ _ _ _ => True) ∧
    (Landed .audioTone fun _ _ _ _ => True) ∧
    (Landed .audioSidetone fun _ _ _ _ => True) ∧
    (Taken .audioStatus fun _ _ _ => True) :=
  ⟨landed .audioStream (mg .audioStream [(24, 63), (25, 0), (27, 2), (28, 8), (32, 0), (40, 96), (48,
      64)]) dev1 (by decide +kernel) trivial,
    landed .audioRoute (mg .audioRoute [(24, 8192), (26, 28735), (28, 32768)]) dev1 (by decide +kernel) trivial,
    landed .audioUnroute (mg .audioUnroute [(24, 8192), (26,
      28735)]) (updAudio (fun a => { a with
      routes := [{
      number := 0, src := 0x2000, dst := 0x703F, gain := 0, gainFrom := 0, ramp := none, fadeIn := none, fadeOut := none,
      owner := .manager, seized := false }] }) dev1) (by decide +kernel) trivial,
    landed .audioBus (mg .audioBus [(24, 31), (26, 32)]) dev1 (by decide +kernel) trivial,
    landed .audioPort (mg .audioPort [(24, 3), (26, 1), (27, 3), (28, 3), (30, 60000)]) dev1 (by decide +kernel) trivial,
    landed .audioMeter (mg .audioMeter [(24, 7), (26, 8192), (28, 10000)]) dev1 (by decide +kernel) trivial,
    landed .audioTone (mg .audioTone [(24, 7), (26, 20000)]) dev1 (by decide +kernel) trivial,
    landed .audioSidetone (mg .audioSidetone [(24, 7), (25, 1), (26, 8192), (28, 28672), (30,
      3072)]) dev1 (by decide +kernel) trivial,
    taken .audioStatus (mg .audioStatus [(24, 4), (25, 7), (26, 1)]) dev1 (by decide +kernel) trivial⟩

theorem test_meets_tideCommandsLand :
    (Taken .tideRead fun _ _ _ => True) ∧
    (Landed .tideSource fun c _ d _ => c.u8 24 = d.tide.source) ∧
    (Landed .tideSource fun c _ d _ => c.u8 24 ≠ d.tide.source) ∧
    (Landed .oxPort fun c _ d _ => c.u8 24 < d.tide.ports.length ∧ c.u8 25 = 1) ∧
    (Landed .oxPort fun c _ d _ => c.u8 24 < d.tide.ports.length ∧ c.u8 25 = 0) ∧
    (Landed .domainSet fun _ _ _ _ => True) ∧
    (Landed .lockGroup fun c _ _ _ => c.u8 26 = 1) ∧
    (Landed .lockGroup fun c _ d _ => c.u8 26 ≠ 1 ∧ (outOf d (c.u8 24)).group = none ∧
      ((groupOf d (c.u8 25)).getD .zero).period = 0) ∧
    (Landed .eventSend fun c _ d _ => c.u8 25 = 0 ∧ c.u16 26 = d.tide.node) ∧
    (Landed .eventSend fun c _ d _ => c.u8 25 = 0 ∧ c.u16 26 ≠ d.tide.node) ∧
    (Landed .eventSend fun c _ _ _ => c.u8 25 = 1) ∧
    (Landed .eventSubscribe fun c _ _ _ => c.u8 25 / 4 % 2 = 0 ∧ c.u16 26 ≠ 0xFFFF) ∧
    (Landed .eventSubscribe fun c _ _ _ => c.u8 25 / 4 % 2 = 0 ∧ c.u16 26 = 0xFFFF) ∧
    (Landed .eventSubscribe fun c _ _ _ => c.u8 25 / 4 % 2 = 1) ∧
    (Landed .streamExport fun c _ _ _ => c.u8 25 = 0) ∧
    (Landed .streamExport fun c _ _ _ => c.u8 25 = 1) ∧
    (Landed .streamImport fun c _ _ _ => c.u8 25 = 0) ∧
    (Landed .streamImport fun c _ _ _ => c.u8 25 = 1) ∧
    (Landed .wakeMargin fun c _ d _ => ∃ g : Group, g = { (groupOf d (c.u8 24)).getD .zero with margin := c.u32 28 }) :=
  ⟨taken .tideRead (mg .tideRead []) dev0 (by decide +kernel) trivial,
    landed .tideSource (mg .tideSource [(24, 0), (25, 1)]) dev0 (by decide +kernel) (by decide +kernel),
    landed .tideSource (mg .tideSource [(24, 2), (25, 1)]) dev0 (by decide +kernel) (by decide +kernel),
    landed .oxPort (mg .oxPort [(24, 3), (25, 1)]) dev0 (by decide +kernel) (by decide +kernel),
    landed .oxPort (mg .oxPort [(24, 3), (25, 0)]) dev0 (by decide +kernel) (by decide +kernel),
    landed .domainSet (mg .domainSet [(24, 16383), (26, 65535), (28, 255)]) dev0 (by decide +kernel) trivial,
    landed .lockGroup (mg .lockGroup [(24, 7), (26, 1)]) dev0 (by decide +kernel) (by decide +kernel),
    landed .lockGroup (mg .lockGroup [(24, 7), (25, 63), (26, 0), (28, 16383), (30, 7), (40,
      65536 * 1000000000)]) dev0 (by decide +kernel) (by decide +kernel),
    landed .eventSend (mg .eventSend [(24, 255), (25, 0), (26, 0)]) dev0 (by decide +kernel) (by decide +kernel),
    landed .eventSend (mg .eventSend [(24, 255), (25, 0), (26, 16383)]) dev0 (by decide +kernel) (by decide +kernel),
    landed .eventSend (mg .eventSend [(24, 255), (25, 1), (26, 16383)]) dev0 (by decide +kernel) (by decide +kernel),
    landed .eventSubscribe (mg .eventSubscribe [(24, 255), (25, 3), (26,
      511)]) dev0 (by decide +kernel) (by decide +kernel),
    landed .eventSubscribe (mg .eventSubscribe [(24, 255), (25, 3), (26,
      65535)]) dev0 (by decide +kernel) (by decide +kernel),
    landed .eventSubscribe (mg .eventSubscribe [(24, 255), (25, 5)]) dev0 (by decide +kernel) (by decide +kernel),
    landed .streamExport (mg .streamExport [(24, 3), (25, 0), (26, 3), (27, 7), (28, 1), (30,
      16383)]) (updTide (fun t => { t with
      ports := modifyAt (fun x => { x with enable := true, state := .up, peerNode := 16383 }) 3 t.ports }) dev0) (by
      decide +kernel) (by decide +kernel),
    landed .streamExport (mg .streamExport [(24, 3), (25, 1)]) dev0 (by decide +kernel) (by decide +kernel),
    landed .streamImport (mg .streamImport [(24, 3), (25, 0), (26, 3), (27, 1), (28, 65535), (30, 16383), (32, 64), (40,
      128), (48, 192)]) (updTide (fun t => { t with
      ports := modifyAt (fun x => { x with enable := true, state := .up, peerNode := 16383 }) 3 t.ports }) dev0) (by
      decide +kernel) (by decide +kernel),
    landed .streamImport (mg .streamImport [(24, 3), (25, 1)]) dev0 (by decide +kernel) (by decide +kernel),
    landed .wakeMargin (mg .wakeMargin [(24, 63), (28, 1000)]) dev0 (by decide +kernel) ⟨_, rfl⟩⟩

theorem test_meets_memoryCommandsLand :
    (Taken .memMapInfo fun _ _ _ => True) ∧
    (Landed .slotTable fun _ _ _ _ => True) ∧
    (Taken .memRemap fun c _ _ => c.u8 24 = 1) ∧
    (Taken .memRemap fun c _ d => c.u8 24 = 0 ∧ specMemRemap.step10 d c = none) ∧
    (Landed .memPagePolicy fun _ _ _ _ => True) ∧
    (Landed .memRefresh fun _ _ _ _ => True) ∧
    (Landed .memDisturb fun _ _ _ _ => True) ∧
    (Landed .memSelfRefresh fun _ _ _ _ => True) ∧
    (Taken .memStatus fun _ _ _ => True) :=
  ⟨taken .memMapInfo (mg .memMapInfo []) dev1 (by decide +kernel) trivial,
    landed .slotTable (mg .slotTable [(24, 1), (32, 8176 * 4096 - 1024)]) dev1 (by decide +kernel) trivial,
    taken .memRemap (mg .memRemap [(24, 1), (25, 3)]) dev1 (by decide +kernel) (by decide +kernel),
    taken .memRemap (mg .memRemap [(24, 0), (25, 255)]) dev1 (by decide +kernel) (by decide +kernel),
    landed .memPagePolicy (mg .memPagePolicy [(24, 128), (26, 32768), (28, 2)]) dev1 (by decide +kernel) trivial,
    landed .memRefresh (mg .memRefresh [(24, 1)]) dev1 (by decide +kernel) trivial,
    landed .memDisturb (mg .memDisturb [(24, 16384)]) dev1 (by decide +kernel) trivial,
    landed .memSelfRefresh (mg .memSelfRefresh [(24, 10000)]) dev1 (by decide +kernel) trivial,
    taken .memStatus (mg .memStatus [(24, 2), (26, 265)]) dev1 (by decide +kernel) trivial⟩

theorem test_meets_powerCommandsLand :
    (Landed .powerDomain fun c _ d _ => c.u8 25 = 1 ∧ d.sec.queued = []) ∧
    (Landed .powerDomain fun c _ d _ => c.u8 25 = 0 ∧ domainOn d (c.u8 24) = true ∧ heldBy d false (c.u8 24) = false ∧
      d.audio.waiting = [] ∧ ((∀ h ∈ d.haptic.channels, h.waiting = none ∧ h.setup = none))) ∧
    (Landed .powerIsland fun c _ d _ => c.u8 25 = 1 ∧ d.sec.queued = []) ∧
    (Landed .powerIsland fun c _ d _ => c.u8 25 = 0 ∧ islandOn d (c.u8 24) = true ∧ heldBy d true (c.u8 24) = false ∧
      d.audio.waiting = [] ∧ ((∀ h ∈ d.haptic.channels, h.waiting = none ∧ h.setup = none))) ∧
    (Taken .powerState fun c _ d => c.u8 24 = 1 ∧ d.sec.queued = []) ∧
    (Taken .powerState fun c _ _ => c.u8 24 = 0xFF) ∧
    (Taken .powerState fun c _ d => c.u8 24 = 0 ∧ d.sec.queued = []) ∧
    (Taken .powerState fun c _ d => 2 ≤ c.u8 24 ∧ c.u8 24 ≤ 4 ∧ d.sec.queued = [] ∧ sleepRefused d = false ∧
      stateHeld d (stateOfCode (c.u8 24)) = []) ∧
    (Taken .powerStatus fun _ _ _ => True) ∧
    (Taken .paceRead fun _ _ _ => True) ∧
    (Landed .sentinelSet fun _ _ _ _ => True) :=
  ⟨landed .powerDomain (mg .powerDomain [(24, 11), (25, 1)]) dev1 (by decide +kernel) (by decide +kernel),
    landed .powerDomain (mg .powerDomain [(24, 3), (25, 0)]) dev1 (by decide +kernel) (by decide +kernel),
    landed .powerIsland (mg .powerIsland [(24, 12), (25, 1)]) dev1 (by decide +kernel) (by decide +kernel),
    landed .powerIsland (mg .powerIsland [(24, 12), (25, 0)]) dev1 (by decide +kernel) (by decide +kernel),
    taken .powerState (mg .powerState [(24, 1)]) dev1 (by decide +kernel) (by decide +kernel),
    taken .powerState (mg .powerState [(24, 255)]) dev1 (by decide +kernel) (by decide +kernel),
    taken .powerState (mg .powerState [(24, 0)]) dev1 (by decide +kernel) (by decide +kernel),
    taken .powerState (mg .powerState [(24, 4), (26, 1), (36, 1000), (38, 650), (40,
      900)]) dev1 (by decide +kernel) (by decide +kernel),
    taken .powerStatus (mg .powerStatus [(24, 3), (26, 65535)]) dev1 (by decide +kernel) trivial,
    taken .paceRead (mg .paceRead []) dev1 (by decide +kernel) trivial,
    landed .sentinelSet (mg .sentinelSet [(24, 9), (26, 10000)]) dev1 (by decide +kernel) trivial⟩

theorem test_meets_instanceCommandsLand :
    (Landed .instanceCreate fun c _ d _ => ∃ n : Nat,
      ((if c.u16 24 = 0xFFFF then freeContext d c.issuer else some (c.u16 24)) = some n)) ∧
    (Landed .instanceShare fun _ _ _ _ => True) ∧
    (Taken .instanceQuiesce fun c _ d => c.u8 26 ≠ 2 ∧ (instOf d (c.u16 24)).state = .active) ∧
    (Taken .instanceQuiesce fun c _ d => c.u8 26 = 0 ∧ (instOf d (c.u16 24)).state = .quiesced) ∧
    (Taken .instanceQuiesce fun c _ d => c.u8 26 = 2 ∧ idleQuiesced d (c.u16 24) = true) ∧
    (Taken .instanceReset fun c _ d => idleQuiesced d (c.u16 24) = true) ∧
    (Taken .instanceDestroy fun c _ d => idleQuiesced d (c.u16 24) = true) ∧
    (Landed .instanceWindow fun c _ d _ => ∃ e : Dev,
      (e = updInst (c.u16 24) (fun x =>
      let put := fun (t : Tab (Option (Nat × Bool))) => (List.range (c.u32 32)).foldl (fun t k =>
        tput none t (c.u32 28 + k) (some (c.u32 36 + k, c.u8 27 == 1))) t
      if c.u8 26 = 1 then { x with pan := put x.pan } else { x with dram := put x.dram }) d.opened) ∧
      c.u16 24 ≠ 0xFFFF ∧ c.u8 27 ≠ 2) ∧
    (Landed .instanceWindow fun c _ d _ => ∃ r : List (Bool × Nat), (r = (let run := (rangeFrom (c.u32 36) (c.u32 32)).map fun p => (c.u8 26 == 1, p)
      if c.u8 27 = 2 then d.reserved.filter (!run.contains ·) else d.reserved ++ run)) ∧
      c.u16 24 = 0xFFFF) ∧
    (Landed .instanceWindow fun c _ d _ => ∃ e : Dev,
      (e = updInst (c.u16 24) (fun x => { x with
        draining := x.draining ++ (rangeFrom (c.u32 28) (c.u32 32)).map fun p => (c.u8 26 == 1, p),
        unmapWaits := x.unmapWaits ++ [d.nextTxn] })
      (windowLosesW (c.u16 24) (c.u8 26 == 1) (c.u32 28) (c.u32 32) (updInst (c.u16 24) (fun x =>
        let cut := fun (t : Tab (Option (Nat × Bool))) => (List.range (c.u32 32)).foldl (fun t k =>
          tput none t (c.u32 28 + k) none) t
        if c.u8 26 = 1 then { x with pan := cut x.pan } else { x with dram := cut x.dram }) d.opened))) ∧
      c.u16 24 ≠ 0xFFFF ∧ c.u8 27 = 2) ∧
    (Landed .instanceViewport fun _ _ _ _ => True) ∧
    (Landed .delegateRange fun _ _ _ _ => True) ∧
    (Taken .deviceReset fun _ _ _ => True) ∧
    (Taken .instanceStatus fun _ _ _ => True) :=
  ⟨landed .instanceCreate (mg .instanceCreate [(24, 65535), (26, 255)]) dev1 (by decide +kernel) ⟨0, by decide +kernel⟩,
    landed .instanceShare (mg .instanceShare [(24, 511), (26, 0)]) (withInst 511 inst1 dev1) (by decide +kernel) trivial,
    taken .instanceQuiesce (mg .instanceQuiesce [(24, 511), (26,
      1)]) (withInst 511 inst1 dev1) (by decide +kernel) (by decide +kernel),
    taken .instanceQuiesce (mg .instanceQuiesce [(24, 511), (26,
      0)]) (withInst 511 { inst1 with state := .quiesced } dev1) (by decide +kernel) (by decide +kernel),
    taken .instanceQuiesce (mg .instanceQuiesce [(24, 511), (26,
      2)]) (withInst 511 { inst1 with state := .quiesced } dev1) (by decide +kernel) (by decide +kernel),
    taken .instanceReset (mg .instanceReset [(24,
      511)]) (withInst 511 { inst1 with state := .quiesced } dev1) (by decide +kernel) (by decide +kernel),
    taken .instanceDestroy (mg .instanceDestroy [(24,
      511)]) (withInst 511 { inst1 with state := .quiesced } dev1) (by decide +kernel) (by decide +kernel),
    landed .instanceWindow (mg .instanceWindow [(24, 511), (26, 1), (27, 1), (28, 8191), (32, 1), (36,
      0)]) (withInst 511 inst1 dev1) (by decide +kernel) ⟨_, rfl, by decide +kernel⟩,
    landed .instanceWindow (mg .instanceWindow [(24, 65535), (26, 1), (27, 0), (32, 1), (36,
      0)]) (withInst 511 inst1 dev1) (by decide +kernel) ⟨_, rfl, by decide +kernel⟩,
    landed .instanceWindow (mg .instanceWindow [(24, 511), (26, 0), (27, 2), (28, 7), (32,
      1)]) (withInst 511 { inst1 with dram := [(7, some (0, false))] } dev1) (by decide +kernel) ⟨_, rfl,
      by decide +kernel⟩,
    landed .instanceViewport (mg .instanceViewport [(24, 511), (26, 7), (27, 7), (28, 0), (30, 0), (32, 1920), (34,
      1080)]) (withInst 511 inst1 (updOut 7 (moded mode1) dev1)) (by decide +kernel) trivial,
    landed .delegateRange (mg .delegateRange [(24, 511), (26, 0)]) dev1 (by decide +kernel) trivial,
    taken .deviceReset (mg .deviceReset [(24, 0x5AA55AA5)]) dev1 (by decide +kernel) trivial,
    taken .instanceStatus (mg .instanceStatus [(24, 511), (26, 1)]) (withInst 511 inst1 dev1) (by decide +kernel) trivial⟩

theorem test_meets_diagnosticsAndRequests :
    (Taken .diagCounters fun _ _ _ => True) ∧
    (Landed .diagCounterClear fun _ _ _ _ => True) ∧
    (Taken .diagFaultLog fun c _ d => ∃ e : FaultEntry, d.power.faultLog[c.u16 24]? = some e) ∧
    (Taken .diagFaultLog fun c _ d => d.power.faultLog[c.u16 24]? = none) ∧
    (Taken .diagUnitState fun _ _ _ => True) ∧
    (Taken .securePromptOpen fun c _ d => grantedViewport d c.issuer (c.u8 24) = true ∧ secReady d = none) ∧
    (Taken .securePromptClose fun _ _ d => secReady d = none) ∧
    (Taken .watchRequest fun c _ d => (layerOf d (c.u16 24)).map (·.owner) = some (ownerOf c.issuer) ∧ secReady d = none) ∧
    (Taken .watchRelease fun _ _ d => secReady d = none) ∧
    (Taken .secureMessage fun _ _ d => secReady d = none) :=
  ⟨taken .diagCounters (mg .diagCounters [(24, 2), (25, 1), (26, 511), (28, 1)]) dev1 (by decide +kernel) trivial,
    landed .diagCounterClear (mg .diagCounterClear [(24, 1), (26, 63)]) dev1 (by decide +kernel) trivial,
    taken .diagFaultLog (mg .diagFaultLog [(24, 0)]) (updPower (fun p => { p with
      faultLog := [{ unit_ := 0x310, kind := 0, handshake := 1, stamp := 5, seq := 0 }] }) dev1) (by decide +kernel) ⟨_,
      (Option.some_get (by decide +kernel)).symm⟩,
    taken .diagFaultLog (mg .diagFaultLog [(24, 255)]) dev1 (by decide +kernel) (by decide +kernel),
    taken .diagUnitState (mg .diagUnitState [(24, 784)]) dev1 (by decide +kernel) trivial,
    taken .securePromptOpen (ic 511 .securePromptOpen [(24,
      7)]) (withInst 511 { inst1 with viewports := [(vpKey 7 0, { x := 0, y := 0, w := 8, h := 8 })] } dev1) (by
      decide +kernel) (by decide +kernel),
    taken .securePromptClose (mg .securePromptClose [(24, 1)]) dev1 (by decide +kernel) (by decide +kernel),
    taken .watchRequest (mg .watchRequest [(24, 127)]) (withLayer 127 (newLayer 7 5 .manager) dev1) (by decide +kernel)
      (by decide +kernel),
    taken .watchRelease (mg .watchRelease [(24, 1)]) dev1 (by decide +kernel) (by decide +kernel),
    taken .secureMessage (mg .secureMessage [(24, 1)]) dev1 (by decide +kernel) (by decide +kernel)⟩

end Sys2Proof.Machine
end

