-- ==== Sys2Proof/Tests/Events.lean ====
section
/-! SUPPORT. Devices that meet the hypotheses of the statements on registers, the secure world, resets and events. -/

namespace Sys2Proof.Machine
open Sys2Proof
set_option Elab.async false

theorem test_meets_queueRegisters :
    (Met fun _ d => ∃ (i : Issuer) (q : Nat) (v : U32) (x : SubQueue),
      x = { queueOf (pageOf d (pageKey i)) q with loc := v.getLsbD 30, rloc := v.getLsbD 29, depth := v.toNat % 8192 } ∧
      pageReached d i = true ∧ q < 2 ∧ v.getLsbD 31 = true ∧ (queueOf (pageOf d (pageKey i)) q).enable = false ∧
      (queueOf (pageOf d (pageKey i)) q).draining = false ∧ enableFails d i x.depth 1024 [(x.loc, x.sqBase.toNat,
      x.depth * 64, false), (x.rloc, x.rqBase.toNat, x.depth * 32, true)] = .ok) ∧
    (Met fun _ d => ∃ (i : Issuer) (q : Nat) (v : U32) (x : SubQueue) (st : Status),
      x = { queueOf (pageOf d (pageKey i)) q with loc := v.getLsbD 30, rloc := v.getLsbD 29, depth := v.toNat % 8192 } ∧
      pageReached d i = true ∧ q < 2 ∧ v.getLsbD 31 = true ∧ (queueOf (pageOf d (pageKey i)) q).enable = false ∧
      (queueOf (pageOf d (pageKey i)) q).draining = false ∧ enableFails d i x.depth 1024 [(x.loc, x.sqBase.toNat,
      x.depth * 64, false), (x.rloc, x.rqBase.toNat, x.depth * 32, true)] = st ∧ st ≠ .ok) ∧
    (Met fun _ d => ∃ (i : Issuer) (v : U32) (x : EventQueue),
      x = { (pageOf d (pageKey i)).eq with loc := v.getLsbD 30, depth := v.toNat % 8192 } ∧ pageReached d i = true ∧
      v.getLsbD 31 = true ∧ (pageOf d (pageKey i)).eq.enable = false ∧ enableFails d i x.depth 4096 [(x.loc,
      x.base.toNat, x.depth * 32, true)] = .ok) ∧
    (Met fun _ d => ∃ (i : Issuer) (q : Nat), pageReached d i = true ∧ q < 2 ∧
      (queueOf (pageOf d (pageKey i)) q).enable = true) ∧
    (Met fun _ d => ∃ i : Issuer, pageReached d i = true) ∧
    (Met fun _ d => ∃ (i : Issuer) (q : Nat), q < 2 ∧ (queueOf (pageOf d (pageKey i)) q).draining = true ∧
      (queueOf (pageOf d (pageKey i)) q).promised = 0) ∧
    (Met fun _ d => ∃ (i : Issuer) (q : Nat) (v : U32) (x : SubQueue), x = queueOf (pageOf d (pageKey i)) q ∧
      pageReached d i = true ∧ q < 2 ∧ x.running = true ∧ v.toNat < x.depth ∧
      ringSteps x.depth x.sqTail v.toNat ≤ x.depth - 1 - ringSteps x.depth x.sqHead x.sqTail) ∧
    (Met fun _ d => ∃ (i : Issuer) (q : Nat) (v : U32) (x : SubQueue), x = queueOf (pageOf d (pageKey i)) q ∧
      pageReached d i = true ∧ q < 2 ∧ x.running = true ∧ ((v.toNat < x.depth →
      x.depth - 1 - ringSteps x.depth x.sqHead x.sqTail < ringSteps x.depth x.sqTail v.toNat))) ∧
    (Met fun _ d => ∃ (i : Issuer) (q : Nat) (v : U32) (x : SubQueue), x = queueOf (pageOf d (pageKey i)) q ∧
      pageReached d i = true ∧ q < 2 ∧ x.running = true ∧ v.toNat < x.depth ∧
      ringSteps x.depth x.rqHead v.toNat ≤ ringSteps x.depth x.rqHead x.rqTail) ∧
    (Met fun _ d => ∃ (i : Issuer) (v : U32) (x : EventQueue), x = (pageOf d (pageKey i)).eq ∧ pageReached d i = true ∧
      x.running = true ∧ v.toNat < x.depth ∧ ringSteps x.depth x.head v.toNat ≤ ringSteps x.depth x.head x.tail) ∧
    (Met fun _ _ => ∃ v : Nat, (v = 0 ∨ v = 2)) :=
  ⟨met dev1 ⟨.manager, 1, 0xE0000010, _, rfl, by decide +kernel⟩,
    met dev1 ⟨.manager, 1, 0xE000000F, _, .outOfRange, rfl, by decide +kernel⟩,
    met dev1 ⟨.manager, 0xC0001000, _, rfl, by decide +kernel⟩,
    met (withPage 512 { Page.zero with q1 := q16 } dev0) ⟨.manager, 1, by decide +kernel⟩,
    met dev0 ⟨.manager, by decide +kernel⟩,
    met (withPage 512 { Page.zero with q1 := { q16 with draining := true } } dev0) ⟨.manager, 1, by decide +kernel⟩,
    met (withPage 512 { Page.zero with q1 := q16 } dev0) ⟨.manager, 1, 15, _, rfl, by decide +kernel⟩,
    met (withPage 512 { Page.zero with q1 := { q16 with sqHead := 1 } } dev0) ⟨.manager, 1, 15, _, rfl, by decide +kernel⟩,
    met (withPage 512 { Page.zero with q1 := { q16 with rqTail := 15 } } dev0) ⟨.manager, 1, 15, _, rfl,
      by decide +kernel⟩,
    met (withPage 512 { Page.zero with eq := { e16 with tail := 15 } } dev0) ⟨.manager, 15, _, rfl, by decide +kernel⟩,
    met dev0 ⟨2, by decide +kernel⟩⟩

theorem test_meets_enginesTakeEntries :
    (Met fun _ d => ∃ (i : Issuer) (u : Bool) (q : SubQueue) (e : Dev) (b : List Byte) (op : Op),
      q = queueOf (pageOf d (pageKey i)) (b2n u) ∧ readLoc 4 i q.loc (q.sqBase.toNat + q.sqHead * 64) 64 d = (e, .ok b) ∧
      enginesRun d = true ∧ served d i = true ∧ mayTake q = true ∧ (u || !mayTake (pageOf d (pageKey i)).q1) ∧
      opOfCode (leNat (b.take 2)) = some op) ∧
    (Met fun _ d => ∃ (i : Issuer) (u : Bool) (q : SubQueue) (e : Dev) (b : List Byte),
      q = queueOf (pageOf d (pageKey i)) (b2n u) ∧ readLoc 4 i q.loc (q.sqBase.toNat + q.sqHead * 64) 64 d = (e, .ok b) ∧
      enginesRun d = true ∧ served d i = true ∧ mayTake q = true ∧ (u || !mayTake (pageOf d (pageKey i)).q1) ∧
      opOfCode (leNat (b.take 2)) = none ∧ pageState (enlist .nop { issuer := i, urgent := u, pkt := packetOf b }
      (updQueue (pageKey i) (b2n u) (fun q => { q with sqHead := (q.sqHead + 1) % q.depth }) e)).2 i = .active) ∧
    (Met fun _ d => ∃ (i : Issuer) (u : Bool) (q : SubQueue) (e : Dev) (why : MemFail),
      q = queueOf (pageOf d (pageKey i)) (b2n u) ∧ readLoc 4 i q.loc (q.sqBase.toNat + q.sqHead * 64) 64 d = (e,
      .error why) ∧ enginesRun d = true ∧ served d i = true ∧ mayTake q = true ∧
      (u || !mayTake (pageOf d (pageKey i)).q1)) ∧
    (Met fun _ d => ∃ i : Issuer, enginesRun d = true ∧ served d i = true ∧ mayTake (pageOf d (pageKey i)).q1 = true) ∧
    (Met fun _ d => alive d = true ∧ d.insts = []) ∧
    (Met fun _ d => ∃ (n : Nat) (y : Instance), alive d = true ∧ d.insts = [(n, y)] ∧ y.exists_ = true ∧
      y.state = .active ∧ y.weight ≠ 0 ∧ pageHasEntry (pageOf d n) = true) ∧
    (Met fun _ d => ∃ (k : Nat) (h : Held), alive d = true ∧ h ∈ heldLaunches d ∧
      (heldLaunches d).find? (·.ticket.no == k) = some h ∧ h.passed = false ∧ h.instant ≤ nowNs d ∧
      ((∀ x ∈ heldLaunches d, goesBefore x h = false))) ∧
    (Met fun _ d => ∃ (k : Nat) (h : Held), alive d = true ∧ (heldLaunches d).find? (·.ticket.no == k) = some h ∧
      h.passed = true ∧ h.ticket.lateOk = false ∧ ((∀ x ∈ heldLaunches d, goesBefore x h = false))) :=
  ⟨met ({ withPage 512 { Page.zero with q0 := { q16 with sqTail := 1 } } dev1 with panMem := [(0, 0x01), (1, 0x01)] })
      ⟨.manager, false, _, _, [1, 1] ++ List.replicate 62 0, .nop, rfl, rfl, by decide +kernel⟩,
    met ({ withPage 512 { Page.zero with q0 := { q16 with sqTail := 1 } } dev1 with panMem := [] }) ⟨.manager, false, _,
      _, List.replicate 64 0, rfl, rfl, by decide +kernel⟩,
    met (withPage 512 { Page.zero with q0 := { q16 with sqTail := 1, sqBase := 0xFFFFFFFFFFFFFFC0 } } dev1) ⟨.manager,
      false, _, _, _, rfl, rfl, by decide +kernel⟩,
    met (withPage 512 { Page.zero with q1 := { q16 with sqTail := 1 } } dev0) ⟨.manager, by decide +kernel⟩,
    met dev0 (by decide +kernel),
    met (withInst 511 inst1 (withPage 511 { Page.zero with q1 := { q16 with sqTail := 1 } } dev0)) ⟨511, inst1,
      by decide +kernel⟩,
    met ({ dev0 with
      launches := [{ instant := 0, passed := false, ticket := tick 3 .rakeJob, cmd := mg .rakeJob [], cfg := .zero }] })
      ⟨3, { ticket := tick 3 .rakeJob, kind := .j, instant := 0, passed := false }, by decide +kernel⟩,
    met ({ dev0 with
      launches := [{ instant := 0, passed := true, ticket := tick 3 .rakeJob, cmd := mg .rakeJob [], cfg := .zero }] })
      ⟨3, { ticket := tick 3 .rakeJob, kind := .j, instant := 0, passed := true }, by decide +kernel⟩⟩

theorem test_meets_registerAccesses :
    (Met fun _ d => ∃ (i : Issuer) (a : Nat), pageReached d i = true ∧ a % 4 = 0) ∧
    (Met fun _ _ => ∃ (g : Agent) (a n : Nat), ((g = .bar0 ∨ g = .secureCtl ∨ ∃ i, g = .page i)) ∧ (n ≠ 4 ∨ a % 4 ≠ 0)) ∧
    (Met fun _ d => ∃ i : Issuer, pageReached d i = true) ∧
    (Met fun _ d => ∃ i : Issuer, pageReached d i = true) ∧
    (Met fun _ d => ∃ a : Nat, hostReaches d 0 = true ∧ a % 4 = 0) ∧
    (Met fun _ d => ∃ a : Nat, secUp d = true ∧ a % 4 = 0) ∧
    (Met fun _ d => supAlive d = true) ∧
    (Met fun _ d => supAlive d = true) ∧
    (Met fun _ _ => True) ∧
    (Met fun _ _ => True) ∧
    (Met fun _ d => ∃ (q : Bool) (u : Nat), ((if q = true then secUp d = true else (cvOf d u).owner ≠ some .secure))) ∧
    (Met fun _ d => ∃ u : Nat, (cvOf d u).owner = some .secure) ∧
    (Met fun _ d => ∃ (q : Bool) (o m e : Nat), ((if q = true then secUp d = true else (monOf d o m).owner ≠ some
      .secure)) ∧ e < 4) ∧
    (Met fun _ d => ∃ (k : Bool) (n : Nat), (streamOf d.audio k n).owner ≠ some .secure) ∧
    (Met fun _ d => ∃ c : Byte, supAlive d = true ∧ c.getLsbD 7 = true ∧ c &&& 0x1F = 0 ∧ c.getLsbD 5 = false) ∧
    (Met fun _ d => ∃ c : Byte, supAlive d = true ∧ c.getLsbD 7 = true ∧ c &&& 0x1F = 0 ∧ c.getLsbD 5 = true ∧
      windowBound d = true) ∧
    (Met fun _ d => supAlive d = true) ∧
    (Met fun _ d => supAlive d = true ∧ d.sup.safeHold = false) ∧
    (Met fun _ d => supAlive d = true ∧ d.sup.safeHold = true) ∧
    (Met fun _ d => d.power.boot = .running) ∧
    (Met fun _ d => supAlive d = true ∧ windowBound d = true) ∧
    (Met fun _ _ => True) :=
  ⟨met dev0 ⟨.manager, 0xFFC, by decide +kernel⟩,
    met dev1 ⟨.page (.inst 511), 2, 4, .inr (.inr ⟨.inst 511, rfl⟩), by decide +kernel⟩,
    met dev0 ⟨.manager, by decide +kernel⟩,
    met dev0 ⟨.manager, by decide +kernel⟩,
    met dev0 ⟨0xFFFFFC, by decide +kernel⟩,
    met dev1 ⟨0x240FFFC, by decide +kernel⟩,
    met dev0 (by decide +kernel),
    met dev0 (by decide +kernel),
    met dev0 trivial,
    met dev0 trivial,
    met ({ dev1 with cv := modifyAt (fun u => { u with owner := some .secure }) 15 dev1.cv }) ⟨true, 15,
      by decide +kernel⟩,
    met ({ dev0 with cv := modifyAt (fun u => { u with owner := some .secure }) 15 dev0.cv }) ⟨15, by decide +kernel⟩,
    met dev0 ⟨false, 7, 15, 3, by decide +kernel⟩,
    met dev0 ⟨true, 15, by decide +kernel⟩,
    met dev0 ⟨0x80, by decide +kernel⟩,
    met { dev0 with lifecycle := 1 } ⟨0xA0, by decide +kernel⟩,
    met dev0 (by decide +kernel),
    met dev0 (by decide +kernel),
    met ({ dev0 with sup := { dev0.sup with safeHold := true } }) (by decide +kernel),
    met dev0 (by decide +kernel),
    met { dev0 with lifecycle := 2 } (by decide +kernel),
    met dev0 trivial⟩

theorem test_meets_secureWorldRegisters :
    (Met fun _ d => secUp d = true) ∧
    (Met fun _ d => ∃ v : U64, secUp d = true ∧ (partWrite 0x84 0x40 (le64 v.toNat) d).sec.heldMsgs = d.sec.heldMsgs) ∧
    (Met fun _ d => ∃ (m : U32) (w : SecWait), d.sec.waits.find? (·.mail == m) = some w) ∧
    (Met fun _ d => ∃ v : U32, secUp d = true ∧ v.toNat.testBit 31 = false ∧ 16 ≤ bitsOf v.toNat 13 0 ∧
      bitsOf v.toNat 28 16 + bitsOf v.toNat 13 0 ≤ 8192 ∧ bitsOf v.toNat 28 16 ≤ d.sec.first ∧
      d.sec.first + d.sec.count ≤ bitsOf v.toNat 28 16 + bitsOf v.toNat 13 0 ∧
      ((∀ p ∈ rangeFrom (bitsOf v.toNat 28 16) (bitsOf v.toNat 13 0), securePage d p = true ∨ panPageFree d p = true))) ∧
    (Met fun _ d => ∃ v : U32, secUp d = true ∧ v.toNat.testBit 31 = false ∧ bitsOf v.toNat 13 0 < 16) ∧
    (Met fun _ d => secUp d = true) ∧
    (Met fun _ d => ∃ v : U32, secUp d = true ∧ v.toNat % 4096 < d.sec.seqDepth ∧
      ringSteps d.sec.seqDepth d.sec.seqHead (v.toNat % 4096) ≤ ringSteps d.sec.seqDepth d.sec.seqHead d.sec.seqTail) ∧
    (Met fun _ d => secUp d = true) ∧
    (Met fun _ d => ∃ v : U32, secUp d = true ∧ guardRegionOk d d.guardBase (min 3072 (bitsOf v.toNat 11 0)) = true) ∧
    (Met fun _ d => ∃ v : U32, secUp d = true ∧ guardRegionOk d d.guardBase (min 3072 (bitsOf v.toNat 11 0)) = false) ∧
    (Met fun _ d => ∃ v : U32, secUp d = true ∧ v.toNat.testBit 31 = false ∧
      guardRegionOk d (bitsOf v.toNat 24 12) d.guardSize = true) ∧
    (Met fun _ d => ∃ v : U32, secUp d = true ∧ v.toNat.testBit 31 = false) ∧
    (Met fun _ d => ∃ v : U32, secUp d = true ∧ v.toNat.testBit 31 = true ∧ d.sec.wdRun = false) ∧
    (Met fun _ d => ∃ k : Byte, secUp d = true ∧ d.sec.wdRun = true ∧ k = d.sec.wdKey) ∧
    (Met fun _ d => ∃ k : Byte, k ≠ d.sec.wdKey) ∧
    (Met fun _ d => ∃ v : U32, secUp d = true ∧ d.sec.queued = [] ∧ ((∀ i, i < 12 → i ≠ 2 → v.toNat.testBit i = true →
      domainOn d i = true))) ∧
    (Met fun _ d => ∃ v : U32, secUp d = true ∧ d.sec.queued = [] ∧ ((∀ i, i < 13 → v.toNat.testBit i = true →
      islandOn d i = true))) :=
  ⟨met dev1 (by decide +kernel),
    met dev1 ⟨5, by decide +kernel⟩,
    met (updSec (fun x => { x with waits := [{ mail := 7, ticket := tick 0 .secureMessage, op := .secureMessage }] })
      dev1) ⟨7, _, (Option.some_get (by decide +kernel)).symm⟩,
    met dev1 ⟨(BitVec.ofNat 32 (8160 * 2 ^ 16 + 32)), by decide +kernel⟩,
    met dev1 ⟨15, by decide +kernel⟩,
    met dev1 (by decide +kernel),
    met (updSec (fun x => { x with seqDepth := 16, seqTail := 15 }) dev1) ⟨15, by decide +kernel⟩,
    met dev1 (by decide +kernel),
    met (updSec (fun x => { x with first := 4095, count := 4097, wdRun := false }) ({ dev1 with guardBase := 4095 }))
      ⟨0xFFF, by decide +kernel⟩,
    met dev1 ⟨1, by decide +kernel⟩,
    met { dev1 with guardSize := 16 } ⟨(BitVec.ofNat 32 (8176 * 4096)), by decide +kernel⟩,
    met dev1 ⟨0, by decide +kernel⟩,
    met dev1 ⟨0x80002710, by decide +kernel⟩,
    met (updSec (fun x => { x with wdRun := true, wdKey := 255 }) dev1) ⟨255, by decide +kernel⟩,
    met dev1 ⟨1, by decide +kernel⟩,
    met dev1 ⟨0xFFF, by decide +kernel⟩,
    met dev1 ⟨0x1FFF, by decide +kernel⟩⟩

theorem test_meets_secureControllerRequests :
    (Met fun _ d => ∃ (n : Nat) (w : Bool) (l : Layer), layerOf (viewOf d) n = some l ∧ secUp d = true ∧ ((w = true →
      coveredW (viewOf d) n l = false))) ∧
    (Met fun _ d => ∃ (n : Nat) (l : Layer), layerOf (viewOf d) n = some l ∧ secUp d = true ∧
      coveredW (viewOf d) n l = true) ∧
    (Met fun _ d => ∃ n : Nat, secUp d = true ∧ layerOf (viewOf d) n = none) ∧
    (Met fun _ d => ∃ (p : BitVec 320) (c : Cmd), c = secCmd p ∧ secUp d = true ∧
      fieldsCheck { d := d, view := viewOf d, c := c, txn := none } (specMonitorSet.fields {
      d := d, view := viewOf d, c := c, txn := none }) 64 320 24 = none ∧ c.bit 26 4 = false ∧ c.u8 25 ≠ 0xFF ∧
      (monOf (viewOf d) (c.u8 24) (c.u8 25)).owner = none ∧ coveredBy (monRect c) [activeOf (viewOf d) (c.u8 24)] = true) ∧
    (Met fun _ d => ∃ (p : BitVec 320) (c : Cmd), c = secCmd p ∧ secUp d = true ∧
      fieldsCheck { d := d, view := d, c := c, txn := none } (specCvConfig.fields {
      d := d, view := d, c := c, txn := none }) 56 320 24 = none ∧ c.bit 25 0 = false ∧ c.u8 24 ≠ 0xFF ∧
      cvReserved d (c.u8 24) = false ∧ (((cvOf d (c.u8 24)).owner = none ∨ (cvOf d (c.u8 24)).owner = some .secure))) ∧
    (Met fun _ d => ∃ k : Nat, secUp d = true ∧ triggerRefusal d k 2 = none) ∧
    (Met fun _ d => ∃ (k : Nat) (v : Status × Nat), secUp d = true ∧ triggerRefusal d k 2 = some v) ∧
    (Met fun _ d => ∃ t : Nat, secUp d = true ∧ isDest t = true ∧ t / 4096 ≠ 5 ∧ t % 4096 < endCount (t / 4096) ∧
      d.audio.seized.contains t = false) ∧
    (Met fun _ d => ∃ p : BitVec 320, secUp d = true ∧ secFields specAudioRoute (secCmd p) d = true ∧
      secRouteOk (audioView d).audio ((secCmd p).u16 24) ((secCmd p).u16 26) = true ∧
      routeRoom (audioView d).audio ((secCmd p).u16 24) ((secCmd p).u16 26) = true ∧ (secCmd p).u16 26 / 4096 ≠ 6) ∧
    (Met fun _ d => ∃ e : Nat, secUp d = true ∧ isHardware e = true ∧ e % 4096 < endCount (e / 4096)) ∧
    (Met fun _ d => ∃ p : BitVec 320, secUp d = true ∧ (secCmd p).u8 24 < 8 ∧
      ((secCmd p).bit 25 0 = true ∨ ((secCmd p).u16 26 % 4096 < endCount ((secCmd p).u16 26 / 4096) ∧
      (secCmd p).u16 28 ≤ 10000))) ∧
    (Met fun _ d => ∃ a b n : Nat, secUp d = true ∧ a ≤ b ∧ b ≤ 8191 ∧ 10000 ≤ n ∧ n ≤ 1000000000) ∧
    (Met fun _ d => ∃ n : Nat, secUp d = true ∧ 10000 ≤ n ∧ n ≤ 1000000000) ∧
    (Met fun _ d => secUp d = true) ∧
    (Met fun _ d => ∃ (v : U32) (l : List (Nat × List Byte)), secUp d = true ∧ (secStores l d).sec.cvBusy = false ∧
      1 ≤ v.toNat % 8192 ∧ v.toNat % 8192 ≤ 4096) ∧
    (Met fun _ d => d.sec.cvBusy = true ∧ domainOn d 2 = true) :=
  ⟨met (withLayer 127 { newLayer 7 5 .manager with visible := true } dev1) ⟨127, true, _,
      (Option.some_get (by decide +kernel)).symm, by decide +kernel⟩,
    met ({ updOut 7 (moded mode1) dev1 with
      layers := [(126, some { newLayer 7 5 .manager with
      visible := true, src := some {
      format := 4, mem := 0, slot := 0, pitch := 256, plane0 := 0, plane1 := 0, w := 64, h := 64 }, crop := {
      x := 0, y := 0, w := 64, h := 64 }, dst := { x := 0, y := 0, w := 64, h := 64 } }), (127, some {
      newLayer 7 6 .manager with visible := true, src := some {
      format := 4, mem := 0, slot := 0, pitch := 256, plane0 := 0, plane1 := 0, w := 64, h := 64 }, crop := {
      x := 0, y := 0, w := 64, h := 64 }, dst := { x := 0, y := 0, w := 64, h := 64 } })] }) ⟨126, _,
      (Option.some_get (by decide +kernel)).symm, by decide +kernel⟩,
    met dev1 ⟨127, by decide +kernel⟩,
    met (updOut 7 (moded mode1) dev1) ⟨(BitVec.ofNat 320 (par [(24, 7), (25, 15), (26, 1), (27, 1), (28, 1919), (30,
      1079), (32, 1), (34, 1)])), _, rfl, by decide +kernel⟩,
    met dev1 ⟨(BitVec.ofNat 320 (par [(24, 15), (26, 64)])), _, rfl, by decide +kernel⟩,
    met (updHap 7 (fun h => { h with enabled := true, state := .idle }) dev1) ⟨7, by decide +kernel⟩,
    met dev1 ⟨7, (.notPermitted, 2), by decide +kernel⟩,
    met dev1 ⟨0x703F, by decide +kernel⟩,
    met (updAudio (fun a => { a with secureHeld := [0x2000, 0x703F] }) dev1) ⟨(BitVec.ofNat 320 (par [(24, 8192), (26,
      28735)])), by decide +kernel⟩,
    met dev1 ⟨0x703F, by decide +kernel⟩,
    met dev1 ⟨(BitVec.ofNat 320 (par [(24, 7), (26, 28735), (28, 10000)])), by decide +kernel⟩,
    met dev1 ⟨0, 8191, 1000000000, by decide +kernel⟩,
    met dev1 ⟨10000, by decide +kernel⟩,
    met dev1 (by decide +kernel),
    met dev1 ⟨4096, [], by decide +kernel⟩,
    met (updSec (fun x => { x with cvBusy := true }) dev1) (by decide +kernel)⟩

theorem test_meets_lifecycleAndGate :
    (Met fun s d => ∃ h : List Byte, secUp d = true ∧ lifecycleOf s.fuses = 0 ∧ h.length = 48) ∧
    (∃ (s : State) (d : Dev), s.dev = d ∧ secUp d = true ∧ lifecycleOf s.fuses = 1) ∧
    (Met fun s _ => lifecycleOf s.fuses ≠ 1) ∧
    (∃ (s : State) (d : Dev), s.dev = d ∧ secUp d = true ∧ s.fuses.rollback < 64) ∧
    (Met fun _ d => gateOpen d = true) ∧
    (∀ sig : List Byte, Config.ecdsaVerify (List.replicate 48 0) (Config.sha384 ([1] ++ (([] : List Byte) ++
      List.replicate 16 0).take 16 ++ leBytes 4 (0 : U32).toNat)) sig = true →
      ∃ (s : State) (d : Dev) (w : U32) (r g b : List Byte) (n : Nat), s.dev = d ∧ gateOpen d = true ∧
      d.sec.challenge = some (b, n) ∧ nowNs d ≤ n + 60000000000 ∧ gateVerifies s.fuses b w (r ++ g) = true) ∧
    (Met fun s d => ∃ (w : U32) (r g b : List Byte) (n : Nat), gateOpen d = true ∧ d.sec.challenge = some (b, n) ∧
      (n + 60000000000 < nowNs d ∨ gateVerifies s.fuses b w (r ++ g) = false)) ∧
    (Met fun _ d => gateOpen d = true ∧ d.sec.challenge = none) ∧
    (∃ (s : State) (d : Dev) (p : List Byte), s.dev = d ∧ gateOpen d = true ∧ 8 ≤ p.length ∧ p.length ≤ 64 ∧
      Config.sha384 ((s.fuses.salt ++ List.replicate 16 0).take 16 ++ p) = s.fuses.passHash) ∧
    (Met fun _ d => ∃ p : List Byte, gateOpen d = true ∧ (p.length < 8 ∨ 64 < p.length)) :=
  ⟨met dev1 ⟨List.replicate 48 0, by decide +kernel⟩,
    ⟨{ on dev1 with fuses := { Fuses.zero with ownerKey := some (List.replicate 48 0) } }, _, rfl, by decide +kernel,
      by decide +kernel⟩,
    met dev1 (by decide +kernel),
    ⟨{ on dev1 with fuses := { Fuses.zero with rollback := 63 } }, _, rfl, by decide +kernel, by decide +kernel⟩,
    met dev1 (by decide +kernel),
    fun sig h => ⟨{ on (updSec (fun x => { x with challenge := some ([1], 5) }) dev1) with
      fuses := { Fuses.zero with ownerKey := some (List.replicate 48 0) } }, _, 0, [], sig, [1], 5, rfl,
      by decide +kernel, by decide +kernel, by decide +kernel, h⟩,
    met (updSec (fun x => { x with challenge := some ([1], 5) }) dev1) ⟨0, [], [], [1], 5, by decide +kernel⟩,
    met dev1 (by decide +kernel),
    ⟨{ on dev1 with
      fuses := { Fuses.zero with passHash := Config.sha384 (List.replicate 16 0 ++ List.replicate 64 1) } }, _,
      List.replicate 64 1, rfl, by decide +kernel, by decide +kernel, by decide +kernel, rfl⟩,
    met dev1 ⟨List.replicate 65 1, by decide +kernel⟩⟩

theorem test_meets_resetsAndBoot :
    (Met fun _ _ => True) ∧
    (Met fun _ _ => True) ∧
    (∃ (s : State) (d : Dev), s.dev = d ∧ d.power.boot = .supplyHold) ∧
    (Met fun _ d => powered d = true) ∧
    (Met fun _ d => powered d = true) ∧
    (Met fun _ d => d.sec.wdRun = true ∧ d.sec.wdLeft ≤ nowNs d ∧ (d.power.boot = .running ∨ d.power.boot = .shutdown)) ∧
    (Met fun _ d => powered d = true ∧ d.power.boot ≠ .shutdown ∧ 1040 ≤ tmax d.power) ∧
    (Met fun _ d => ∃ t : Nat, d.power.boot = .shutdown ∧ d.power.coolSince = some t ∧ t + 1000000000 ≤ nowNs d) ∧
    (Met fun s d => ∃ (k : Nat) (a : List Byte), d.power.boot = .inReset ∧ k % 4 < 2 ∧
      imageFails s.fuses a (bootStart k d) = none) ∧
    (Met fun s d => ∃ (k : Nat) (a b : List Byte) (e : Nat), d.power.boot = .inReset ∧ k % 4 < 2 ∧
      imageFails s.fuses a (bootStart k d) = some e ∧ imageFails s.fuses b (bootStart k d) = none) ∧
    (Met fun s d => ∃ (k : Nat) (a b : List Byte) (e : Nat), d.power.boot = .inReset ∧ k % 4 < 2 ∧
      imageFails s.fuses a (bootStart k d) ≠ none ∧ imageFails s.fuses b (bootStart k d) = some e) ∧
    (Met fun _ d => ∃ k : Nat, d.power.boot = .inReset ∧ 2 ≤ k % 4) ∧
    (Met fun s d => ∃ (v : U32) (i : List Byte), i = memRead d.panMem 0 (min 16777216 d.power.bootLen.toNat) ∧
      d.power.boot = .awaitPush ∧ v.getLsbD 0 = true ∧ imageFails s.fuses i d = none) ∧
    (Met fun s d => ∃ (v : U32) (i : List Byte) (e : Nat), i = memRead d.panMem 0 (min 16777216 d.power.bootLen.toNat) ∧
      d.power.boot = .awaitPush ∧ v.getLsbD 0 = true ∧ imageFails s.fuses i d = some e) :=
  ⟨met dev0 trivial,
    met dev0 trivial,
    ⟨State.reset, _, rfl, by decide +kernel⟩,
    met dev0 (by decide +kernel),
    met dev0 (by decide +kernel),
    met (updSec (fun x => { x with wdRun := true }) (updPower (fun p => { p with boot := .shutdown }) dev0)) (by
      decide +kernel),
    met (updPower (fun p => { p with temps := List.replicate 10 0 ++ [1040] }) dev0) (by decide +kernel),
    met (updTide (fun t => { t with now := 65536 * 1000000005 }) (updPower (fun p => { p with
      boot := .shutdown, coolSince := some 5 }) dev0)) ⟨5, by decide +kernel⟩,
    met (updPower (fun p => { p with boot := .inReset }) dev0) ⟨1, image1, by decide +kernel⟩,
    met (updPower (fun p => { p with boot := .inReset }) dev0) ⟨1, [], image1, 1, by decide +kernel⟩,
    met (updPower (fun p => { p with boot := .inReset }) dev0) ⟨1, [], [], 1, by decide +kernel⟩,
    met (updPower (fun p => { p with boot := .inReset }) dev0) ⟨2, by decide +kernel⟩,
    met ({ updPower (fun p => { p with boot := .awaitPush, bootLen := 4096 }) dev0 with panMem := imageCells }) ⟨1, _,
      rfl, by decide +kernel⟩,
    met (updPower (fun p => { p with boot := .awaitPush, bootLen := 4096 }) dev0) ⟨1, _, 1, rfl, by decide +kernel⟩⟩

theorem test_meets_bandsFlow :
    (Met fun _ d => ∃ (o b : Nat) (f : Flight), (outOf d o).flights.find? (fun f => !f.retired && bandOpen f b &&
      !f.ready.testBit b && bandRead (outOf d o) (lineNow d o) f b) = some f) ∧
    (Met fun _ d => ∃ (o : Nat) (f : Flight) (b : Nat) (m n : Nat × List Nat),
      claimPart 8388608 ((d.staging.map (·.dram)).foldl (· + ·) 0) (((fetchOrder f b).filter (inPan · == false)).map fun
      fl => (fl.number, bandNeed f fl b)) = some m ∧ claimPart 2097152 ((d.staging.map (·.pan)).foldl (· + ·) 0)
      (((fetchOrder f b).filter (inPan · == true)).map fun fl => (fl.number, bandNeed f fl b)) = some n ∧
      firstBand d (fun o f b => (claimOf d o f.frame b).isNone) = some (o, f, b)) ∧
    (Met fun _ d => ∃ (p o : Nat) (f : Flight) (b : Nat), d.pipes[p]? = some none ∧ unitClosed d (0x220 + p) = false ∧
      firstBand d (fun _ f b => !f.taken.testBit b) = some (o, f, b)) ∧
    (Met fun _ d => ∃ (o : Nat) (n : U32) (b : Nat) (l : List Nat) (f : Flight) (c : Claim), flightOf d o n = some f ∧
      claimOf d o n b = some c ∧ bandOpen f b = true ∧ f.late.testBit b = false ∧ bandDeadline d o f b ≤ d.tide.now ∧
      (List.range b).any (fun k => bandOpen f k && !f.late.testBit k) = false ∧ ((∀ fl ∈ fetchOrder f b, fl.number ∈ l ∧
      c.data.any (·.layer == fl.number) = true ∧ earlierHave d o f fl b = true))) ∧
    (Met fun _ d => ∃ (o : Nat) (n : U32) (b : Nat) (f : Flight) (fl : FrameLayer), flightOf d o n = some f ∧
      (flightOf (updFlight o n (fun f => { f with late := f.late ||| 2 ^ b }) d) o n = some { f with
      late := f.late ||| 2 ^ b }) ∧ bandOpen f b = true ∧ f.late.testBit b = false ∧ bandDeadline d o f b ≤ d.tide.now ∧
      (List.range b).any (fun k => bandOpen f k && !f.late.testBit k) = false ∧ claimOf d o n b = none ∧
      d.power.paceNow < 1000 ∧ fetchOrder f b = [fl]) ∧
    (Met fun _ d => ∃ (p o : Nat) (n : U32) (b : Nat) (f : Flight), flightOf d o n = some f ∧
      d.pipes[p]? = some (some (o, n, b)) ∧ bandOpen f b = true ∧ unitClosed d (0x220 + p) = false ∧
      mayComplete d o f b = true ∧ nthD [] p d.pipeNeeds = [] ∧ f.harvest = []) ∧
    (Met fun _ d => ∃ (p o : Nat) (n : U32) (b : Nat) (f : Flight), flightOf d o n = some f ∧
      d.pipes[p]? = some (some (o, n, b)) ∧ bandOpen f b = false) ∧
    (Met fun _ d => ∃ (o : Nat) (n : U32) (b : Nat) (f : Flight), flightOf d o n = some f ∧ bandOpen f b = true ∧
      f.late.testBit b = true ∧ bandCutoff d o f b ≤ d.tide.now ∧ f.harvest = []) :=
  ⟨met (updOut 7 (fly flight1) dev1) ⟨7, 134, _, (Option.some_get (by decide +kernel)).symm⟩,
    met (updOut 7 (fly { flight1 with ready := 2 ^ 134 }) dev1) ⟨7, { flight1 with ready := 2 ^ 134 }, 134, _, _,
      (Option.some_get (by decide +kernel)).symm, (Option.some_get (by decide +kernel)).symm, by decide +kernel⟩,
    met ({ updOut 7 (fly { flight1 with ready := 2 ^ 134 }) dev1 with staging := [claim1] }) ⟨7, 7,
      { flight1 with ready := 2 ^ 134 }, 134, by decide +kernel⟩,
    met ({
      updTide (fun t => { t with now := 2 ^ 50 }) (updOut 7 (fun x => { fly flight1 x with
      scanning := true, frame := 9 }) dev1) with staging := [{ claim1 with data := [{ layer := 127, runs := [] }] }] })
      ⟨7, 9, 134, [127], _, _, (Option.some_get (by decide +kernel)).symm, (Option.some_get (by decide +kernel)).symm,
      by decide +kernel⟩,
    met (updPower (fun p => { p with paceNow := 999 }) (updTide (fun t => { t with now := 2 ^ 50 }) (updOut 7 (fun x => {
      fly flight1 x with scanning := true, frame := 9 }) dev1))) ⟨7, 9, 134, _, frameLayer1,
      (Option.some_get (by decide +kernel)).symm, by decide +kernel⟩,
    met ({ updOut 7 (fly { flight1 with start := 2 ^ 50, taken := 2 ^ 134 }) dev1 with
      pipes := List.replicate 7 none ++ [some (7, 9, 134)], staging := [{ claim1 with
      data := [{ layer := 127, runs := [] }] }] }) ⟨7, 7, 9, 134, _, (Option.some_get (by decide +kernel)).symm,
      by decide +kernel⟩,
    met ({ updOut 7 (fly { flight1 with written := 2 ^ 134 }) dev1 with
      pipes := List.replicate 7 none ++ [some (7, 9, 134)] }) ⟨7, 7, 9, 134, _,
      (Option.some_get (by decide +kernel)).symm, by decide +kernel⟩,
    met (updTide (fun t => { t with now := 2 ^ 50 }) (updOut 7 (fun x => { fly { flight1 with late := 2 ^ 134 } x with
      scanning := true, frame := 9 }) dev1)) ⟨7, 9, 134, _, (Option.some_get (by decide +kernel)).symm, by decide +kernel⟩⟩

theorem test_meets_framesOpenStartRetire :
    (Met fun _ d => ∃ o : Nat, (outOf d o).enabled = true ∧ (outOf d o).scanning = true ∧ wakeOwed d o = true) ∧
    (Met fun _ d => ∃ o : Nat, (outOf d o).enabled = true ∧ (outOf d o).scanning = true ∧ wakeOwed d o = false ∧
      (outOf d o).cutDone = false ∧ cutReached d o = true ∧ commitDue d = false) ∧
    (Met fun _ d => ∃ o : Nat, wakeOwed d o = false ∧
      (((outOf d o).cutDone = true ∨ cutReached d o = false ∨ commitDue d = true))) ∧
    (Met fun _ d => ∃ o : Nat, o < d.outputs.length ∧ (outOf d o).enabled = true ∧ (outOf d o).zeroed = false ∧
      (outOf d o).pages ≠ [] ∧ activeDone (outOf d o) = true ∧ (domainServes d (if o < 4 then 4 else 5) = true) ∧
      (outOf d o).cutDone = false ∧ (outOf d o).opening = true) ∧
    (Met fun _ d => ∃ (o : Nat) (m : Mode), o < d.outputs.length ∧ (outOf d o).mode = some m ∧ frameMayStart d o = true ∧
      lockOf d o = none) ∧
    (Met fun _ d => ∃ (o : Nat) (m : Mode) (k : Nat) (g : Group), o < d.outputs.length ∧ (outOf d o).mode = some m ∧
      frameMayStart d o = true ∧ lockOf d o = some (k, g)) ∧
    (Met fun _ d => ∃ (o : Nat) (n : U32) (k b r : Nat) (f : Flight) (fl : FrameLayer) (e : MemFail),
      flightOf d o n = some f ∧ f.layers.find? (·.number == k) = some fl ∧ f.composing = true ∧ isDropped f k = false ∧
      fl.layer.visible = true ∧ fetchFails d o f fl b r = some e ∧ ((e = .fault ∨ (outOf d o).holdPolicy = false))) ∧
    (Met fun _ d => ∃ (o : Nat) (n : U32) (k b r : Nat) (f : Flight) (fl : FrameLayer), flightOf d o n = some f ∧
      f.layers.find? (·.number == k) = some fl ∧ f.composing = true ∧ isDropped f k = false ∧ fl.layer.visible = true ∧
      fetchFails d o f fl b r = some .fenced ∧ (outOf d o).holdPolicy = true) ∧
    (Met fun _ d => ∃ (o : Nat) (n : U32) (k b r : Nat) (f : Flight) (fl : FrameLayer), flightOf d o n = some f ∧
      f.layers.find? (·.number == k) = some fl ∧ fetchFails d o f fl b r = none) ∧
    (Met fun _ d => ∃ (o : Nat) (f : Flight), (outOf d o).flights.find? (!·.retired) = some f ∧ allSettled f = true) ∧
    (Met fun _ d => ∃ (o : Nat) (f : Flight), (outOf d o).flights.find? (!·.retired) = some f ∧ allSettled f = false) ∧
    (Met fun _ d => ∃ (o : Nat) (m : Mode), o < d.outputs.length ∧ (outOf d o).scanMode = some m ∧
      (outOf d o).scanning = true ∧ (outOf d o).nextLine + 1 < m.vActive) ∧
    (Met fun _ d => ∃ (o m : Nat) (l : LiveMon) (md : Mode), (monOf d o m).live = some l ∧
      (outOf d o).scanMode = some md ∧ (outOf d o).scanning = true ∧ l.rect.y + l.rect.h ≤ (outOf d o).nextLine ∧
      (monOf d o m).owner = l.owner ∧ (monOf d o m).taking = false) ∧
    (Met fun _ d => ∃ o : Nat, (outOf d o).enabled = true ∧ (outOf d o).guardPending = true ∧
      (outOf d o).report = false ∧ ((∀ g, g < (outOf d o).guards.length →
      guardOk (nthD GuardPlane.zero g (outOf d o).guards).shadow (d.guardSize * 4096) = true))) :=
  ⟨met (updTide (fun t => { t with
      groups := [(63, some { Group.zero with t0 := 5, period := 65536000000, wakeIndex := some 9 })] }) (withTxn [{
      txn9 .sequenced with landings := [{ output := 7, how := .wakeCut, pending := true, frame := 9 }] }] (updOut 7 (fun
      x => { scan x with cutDone := true, group := some 63 }) dev1))) ⟨7, by decide +kernel⟩,
    met (updOut 7 (fun x => { scan x with nextLine := 810, lead := 270 }) dev1) ⟨7, by decide +kernel⟩,
    met (updOut 7 (fun x => { scan x with cutDone := true }) dev1) ⟨7, by decide +kernel⟩,
    met (updOut 7 (fun x => { scan x with zeroed := false, pages := [1], opening := true, nextLine := 1080 }) dev1) ⟨7,
      by decide +kernel⟩,
    met (updOut 7 (fun x => { scan x with cutDone := true, nextLine := 1080, link := { x.link with pllLock := true } })
      dev1) ⟨7, mode1, by decide +kernel⟩,
    met (updTide (fun t => { t with groups := [(63, some { Group.zero with t0 := 5, period := 65536000000 })] }) (updOut
      7 (fun x => { scan x with
      cutDone := true, nextLine := 1080, link := { x.link with pllLock := true }, group := some 63 }) dev1)) ⟨7, mode1,
      63, { Group.zero with t0 := 5, period := 65536000000 }, by decide +kernel⟩,
    met ({ updOut 7 (fly flight1) dev1 with
      staging := [{ claim1 with data := [{ layer := 127, runs := [(2 ^ 40, [1])] }] }] }) ⟨7, 9, 127, 134, 0, flight1,
      frameLayer1, .fault, by decide +kernel⟩,
    met ({
      updOut 7 (fun x => { fly flight1 x with holdPolicy := true }) { dev1 with
      dram := { dram1 with channels := List.replicate 8 Channel.zero } } with staging := [{ claim1 with
      data := [{ layer := 127, runs := [(0, [1])] }] }] }) ⟨7, 9, 127, 134, 0, flight1, frameLayer1, by decide +kernel⟩,
    met (updOut 7 (fun x => { fly flight1 x with holdPolicy := true }) dev1) ⟨7, 9, 127, 0, 0, _, _,
      (Option.some_get (by decide +kernel)).symm, (Option.some_get (by decide +kernel)).symm, by decide +kernel⟩,
    met (updOut 7 (fly { flight1 with written := 2 ^ 134 }) dev1) ⟨7, _, (Option.some_get (by decide +kernel)).symm,
      by decide +kernel⟩,
    met (updOut 7 (fly flight1) dev1) ⟨7, _, (Option.some_get (by decide +kernel)).symm, by decide +kernel⟩,
    met (updOut 7 (fun x => { scan x with nextLine := 1078 }) dev1) ⟨7, mode1, by decide +kernel⟩,
    met ({ updOut 7 (fun x => { scan x with nextLine := 1080 }) dev1 with
      monitors := [(127, { Monitor.zero with
      live := some { cfg := .zero, rect := { x := 0, y := 1079, w := 1, h := 1 }, gen := 1, owner := none } })] }) ⟨7,
      15, _, mode1, (Option.some_get (by decide +kernel)).symm, by decide +kernel⟩,
    met (updOut 7 (fun x => { scan x with guardPending := true }) dev1) ⟨7, by decide +kernel⟩⟩

theorem test_meets_linkEvents :
    (Met fun _ d => ∃ o : Nat, (outOf d o).link.hpd = false) ∧
    (Met fun _ _ => ∃ n : Nat, (n < 250000 ∨ 2000000 ≤ n)) ∧
    (Met fun _ d => ∃ o n : Nat, (outOf d o).link.hpd = true ∧ 250000 ≤ n ∧ n < 2000000 ∧ dpOn d o = true ∧
      (outOf d o).link.capsBusy = false ∧ (outOf d o).link.failed = false) ∧
    (Met fun _ d => ∃ o n : Nat, o < d.outputs.length ∧ (outOf d o).link.hpd = true ∧ 250000 ≤ n ∧ n < 2000000 ∧
      dpOn d o = true ∧ (outOf d o).link.capsBusy = false ∧ (outOf d o).link.trained = true) ∧
    (Met fun _ d => ∃ o : Nat, (outOf d o).link.hpd = true ∧ (outOf d o).link.up = false ∧
      (outOf d o).link.training = false ∧ o < d.outputs.length) ∧
    (Met fun _ d => ∃ o : Nat, (outOf d o).link.capsBusy = true ∧ dpOn d o = true ∧ (outOf d o).link.irqOwed = none ∧
      (outOf d o).enabled = false ∧ o < d.outputs.length) ∧
    (Met fun _ d => ∃ (o n : Nat) (j : AuxJob), auxJob d o = some j ∧ j.cmd.u8 25 % 2 = 0 ∧ j.cmd.u8 26 ≤ j.bytes + n) ∧
    (Met fun _ d => ∃ (o n : Nat) (j : AuxJob), auxJob d o = some j ∧ j.cmd.u8 25 % 2 = 1 ∧ j.cmd.u8 26 ≤ j.bytes + n) ∧
    (Met fun _ d => ∃ (o : Nat) (j : AuxJob), auxJob d o = some j ∧ j.tries < 7) ∧
    (Met fun _ d => ∃ (o : Nat) (j : AuxJob), auxJob d o = some j) ∧
    (Met fun _ d => ∃ (o : Nat) (j : AuxJob), auxJob d o = some j ∧ 7 ≤ j.tries) ∧
    (Met fun _ d => ∃ (o : Nat) (j : AuxJob), auxJob d o = some j ∧ j.tries < 7) ∧
    (Met fun _ d => ∃ (o : Nat) (x : PhaseEnd) (r l : Nat) (q : List (Nat × Nat)), o < d.outputs.length ∧
      dpOn d o = true ∧ (outOf d o).link.training = true ∧ (outOf d o).link.candidates = (r, l) :: q ∧ x.pass = true ∧
      x.phase ≠ 0) ∧
    (Met fun _ d => ∃ (o : Nat) (x : PhaseEnd) (r l : Nat) (c : Nat × Nat) (q : List (Nat × Nat)), dpOn d o = true ∧
      (outOf d o).link.training = true ∧ (outOf d o).link.candidates = (r, l) :: c :: q ∧ x.pass = false) ∧
    (Met fun _ d => ∃ (o : Nat) (x : PhaseEnd) (r l : Nat) (q : List (Nat × Nat)), dpOn d o = true ∧
      (outOf d o).link.training = true ∧ (outOf d o).link.candidates = (r, l) :: q ∧ x.pass = true ∧ x.phase = 0) ∧
    (Met fun _ d => ∃ o : Nat, (outOf d o).link.training = true) ∧
    (Met fun _ d => ∃ o : Nat, (outOf d o).enabled = true ∧ dpOn d o = true ∧ (outOf d o).link.relocking = false ∧
      (outOf d o).link.dead = false) ∧
    (Met fun _ d => ∃ o : Nat, (outOf d o).link.relocking = true ∧ (outOf d o).enabled = false) ∧
    (Met fun _ d => ∃ (o : Nat) (m : Mode), o < d.outputs.length ∧ (outOf d o).link.relocking = true ∧
      (outOf d o).enabled = true ∧ (outOf d o).mode = some m ∧ (outOf d o).zeroed = true ∧ (outOf d o).cutDone = false ∧
      (outOf d o).link.heldDown = true) ∧
    (Met fun _ d => ∃ o : Nat, o < d.outputs.length ∧ (outOf d o).link.relocking = true ∧ (outOf d o).link.relocks < 2) ∧
    (Met fun _ d => ∃ o : Nat, o < d.outputs.length ∧ (outOf d o).link.relocking = true ∧ (outOf d o).link.relocks = 2) :=
  ⟨met dev1 ⟨7, by decide +kernel⟩,
    met dev1 ⟨249999, by decide +kernel⟩,
    met (updOut 7 (fun x => { x with link := { x.link with hpd := true } }) dev1) ⟨7, 1999999, by decide +kernel⟩,
    met (updOut 7 (fun x => { scan x with link := { x.link with hpd := true, trained := true } }) dev1) ⟨7, 250000,
      by decide +kernel⟩,
    met (updOut 7 (fun x => { x with link := { x.link with hpd := true } }) dev1) ⟨7, by decide +kernel⟩,
    met (updOut 7 (fun x => { x with link := { x.link with capsBusy := true } }) dev1) ⟨7, by decide +kernel⟩,
    met { dev1 with aux := [aux1 0 [(25, 2), (26, 16)]] } ⟨7, 16, _, (Option.some_get (by decide +kernel)).symm,
      by decide +kernel⟩,
    met { dev1 with aux := [aux1 0 [(25, 1), (26, 16)]] } ⟨7, 16, _, (Option.some_get (by decide +kernel)).symm,
      by decide +kernel⟩,
    met { dev1 with aux := [aux1 6 []] } ⟨7, _, (Option.some_get (by decide +kernel)).symm, by decide +kernel⟩,
    met { dev1 with aux := [aux1 0 []] } ⟨7, _, (Option.some_get (by decide +kernel)).symm⟩,
    met { dev1 with aux := [aux1 7 []] } ⟨7, _, (Option.some_get (by decide +kernel)).symm, by decide +kernel⟩,
    met { dev1 with aux := [aux1 6 []] } ⟨7, _, (Option.some_get (by decide +kernel)).symm, by decide +kernel⟩,
    met (updOut 7 (fun x => { scan x with link := { x.link with training := true, candidates := [(7, 4)] } }) dev1) ⟨7,
      { phase := 3, pass := true }, 7, 4, [], by decide +kernel⟩,
    met (updOut 7 (fun x => { scan x with link := { x.link with training := true, candidates := [(7, 4), (6, 4)] } })
      dev1) ⟨7, { phase := 3, pass := false }, 7, 4, (6, 4), [], by decide +kernel⟩,
    met (updOut 7 (fun x => { scan x with link := { x.link with training := true, candidates := [(7, 4)] } }) dev1) ⟨7,
      { phase := 0, pass := true }, 7, 4, [], by decide +kernel⟩,
    met (updOut 7 (fun x => { scan x with link := { x.link with training := true } }) dev1) ⟨7, by decide +kernel⟩,
    met (updOut 7 scan dev1) ⟨7, by decide +kernel⟩,
    met (updOut 7 (fun x => { x with link := { x.link with relocking := true } }) dev1) ⟨7, by decide +kernel⟩,
    met (updOut 7 (fun x => { moded mode1 x with
      enabled := true, zeroed := true, link := { x.link with relocking := true, heldDown := true } }) dev1) ⟨7, mode1,
      by decide +kernel⟩,
    met (updOut 7 (fun x => { scan x with link := { x.link with relocking := true, relocks := 1 } }) dev1) ⟨7,
      by decide +kernel⟩,
    met (updOut 7 (fun x => { scan x with link := { x.link with relocking := true, relocks := 2 } }) dev1) ⟨7,
      by decide +kernel⟩⟩

theorem test_meets_touchEvents :
    (Met fun _ d => ∃ p n : Nat, (portOf d p).step = n ∧ (n = 1 ∨ n = 3)) ∧
    (Met fun _ d => ∃ p : Nat, (portOf d p).step = 4) ∧
    (Met fun _ d => ∃ (p : Nat) (a b x y : ℤ), (portOf d p).step = 2 ∧ ((∀ v ∈ [a, b, x, y], 0 ≤ v ∧ v ≤ 65535))) ∧
    (Met fun _ d => ∃ p : Nat, ((portOf d p).step = 1 ∨ (portOf d p).step = 2)) ∧
    (Met fun _ d => ∃ p : Nat, (portOf d p).step = 3) ∧
    (Met fun _ d => ∃ p : Nat, ((portOf d p).reading = true ∨ (portOf d p).step ≠ 0)) ∧
    (Met fun _ _ => True) ∧
    (Met fun _ d => ∃ (p k : Nat) (c : Contact), (portOf d p).contacts.find? (·.slot == k) = some c ∧
      (portOf d p).stuckS ≠ 0 ∧ c.since + (portOf d p).stuckS * 1000000000 ≤ nowNs d) ∧
    (Met fun _ d => ∃ p : Nat, (portOf d p).stuckS = 0) ∧
    (Met fun _ d => ∃ (p : Nat) (r : TouchReport), p < d.touch.length ∧ (portOf d p).state = .running ∧ r.empty = false ∧
      r.lengthOk = false ∧ (portOf d p).scan ≠ 2) ∧
    (Met fun _ d => ∃ (p : Nat) (r : TouchReport), p < d.touch.length ∧ (portOf d p).state = .running ∧ r.empty = false ∧
      r.lengthOk = true ∧ (portOf d p).scan = 0 ∧ (refill (nowNs d) (portOf d p)).tokens < 1000000000) ∧
    (Met fun _ d => ∃ (p : Nat) (r : TouchReport) (c : Contact) (t : TouchPoint), p < d.touch.length ∧
      (portOf d p).state = .running ∧ r.empty = false ∧ r.lengthOk = true ∧ (portOf d p).scan = 0 ∧
      1000000000 ≤ (refill (nowNs d) (portOf d p)).tokens ∧ r.hybrid = false ∧ (portOf d p).contacts = [c] ∧
      (portOf d p).ignored = [] ∧ r.points = [t] ∧ t.ident = c.ident ∧ t.tip = false) ∧
    (Met fun _ d => ∃ (p : Nat) (r : TouchReport), p < d.touch.length ∧ (portOf d p).state = .running ∧ r.empty = true ∧
      2 ≤ (portOf d p).emptyReads) :=
  ⟨met (updPort 7 (fun x => { x with step := 3 }) (updTide (fun t => { t with now := 65536 * 30000000000 }) dev0)) ⟨7, 3,
      by decide +kernel⟩,
    met (updPort 7 (fun x => { x with step := 4 }) (updTide (fun t => { t with now := 65536 * 30000000000 }) dev0)) ⟨7,
      by decide +kernel⟩,
    met (updPort 7 (fun x => { x with step := 2 }) (updTide (fun t => { t with now := 65536 * 30000000000 }) dev0)) ⟨7,
      0, 65535, 0, 65535, by decide +kernel⟩,
    met (updPort 7 (fun x => { x with step := 2 }) (updTide (fun t => { t with now := 65536 * 30000000000 }) dev0)) ⟨7,
      by decide +kernel⟩,
    met (updPort 7 (fun x => { x with step := 3 }) (updTide (fun t => { t with now := 65536 * 30000000000 }) dev0)) ⟨7,
      by decide +kernel⟩,
    met (updPort 7 (fun x => { x with reading := true }) (updTide (fun t => { t with now := 65536 * 30000000000 }) dev0))
      ⟨7, by decide +kernel⟩,
    met dev0 trivial,
    met (updPort 7 (fun x => { x with contacts := [contact9], stuckS := 30 }) (updTide (fun t => { t with
      now := 65536 * 30000000000 }) dev0)) ⟨7, 9, _, (Option.some_get (by decide +kernel)).symm, by decide +kernel⟩,
    met (updPort 7 (fun x => { x with stuckS := 0 }) (updTide (fun t => { t with now := 65536 * 30000000000 }) dev0)) ⟨7,
      by decide +kernel⟩,
    met (updPort 7 (fun x => { x with state := .running }) (updTide (fun t => { t with now := 65536 * 30000000000 })
      dev0)) ⟨7, { empty := false, lengthOk := false, hybrid := false, last := true, points := [] }, by decide +kernel⟩,
    met (updPort 7 (fun x => { x with state := .running, tokens := 0, tokensAt := 30000000000 }) (updTide (fun t => {
      t with now := 65536 * 30000000000 }) dev0)) ⟨7,
      { empty := false, lengthOk := true, hybrid := false, last := true, points := [] }, by decide +kernel⟩,
    met (updPort 7 (fun x => { x with state := .running, contacts := [contact9] }) (updTide (fun t => { t with
      now := 65536 * 30000000000 }) dev0)) ⟨7, {
      empty := false, lengthOk := true, hybrid := false, last := true, points := [{
      ident := 3, tip := false, x := 0, y := 0 }] }, contact9, { ident := 3, tip := false, x := 0, y := 0 },
      by decide +kernel⟩,
    met (updPort 7 (fun x => { x with state := .running, emptyReads := 2 }) (updTide (fun t => { t with
      now := 65536 * 30000000000 }) dev0)) ⟨7, {
      empty := true, lengthOk := true, hybrid := false, last := true, points := [] }, by decide +kernel⟩⟩

theorem test_meets_hapticEvents :
    (Met fun _ d => ∃ (k : Nat) (w : HapWait), (hapOf d k).waiting = some w ∧
      ((hapOf d k).state = .idle ∨ (hapOf d k).state = .pause ∨ (hapOf d k).state = .drive)) ∧
    (Met fun _ d => ∃ k : Nat, ((hapOf d k).waiting = none ∨ (hapOf d k).state = .brake)) ∧
    (Met fun _ d => ∃ (k : Nat) (m : HapMeasure) (r : Effect), (hapOf d k).run = some r ∧ k < d.haptic.channels.length ∧
      (hapOf d k).state = .drive ∧ (r.segments.head?.map (·.halfCycles)).getD 0 = 0 ∧ 20 < m.bemf ∧ m.freq = none) ∧
    (Met fun _ d => ∃ (k : Nat) (r : Effect) (g : Segment) (q : List Segment), (hapOf d k).run = some r ∧
      r.segments = g :: q ∧ r.segStart + g.time ≤ nowNs d ∧ (hapOf d k).state = .drive ∧ g.drive = true ∧
      g.halfCycles = 0) ∧
    (Met fun _ d => ∃ (k : Nat) (r : Effect) (g : Segment), (hapOf d k).run = some r ∧ r.segments = [g] ∧
      r.segStart + g.time ≤ nowNs d ∧ (hapOf d k).state = .pause ∧ g.drive = false) ∧
    (Met fun _ d => ∃ k : Nat, ((hapOf d k).state = .drive ∨ (hapOf d k).state = .brake) ∧ (hapOf d k).tripped = false ∧
      (hapOf d k).trips < 3) ∧
    (Met fun _ d => ∃ k : Nat, ((hapOf d k).state = .drive ∨ (hapOf d k).state = .brake) ∧ (hapOf d k).tripped = false ∧
      3 ≤ (hapOf d k).trips) ∧
    (Met fun _ d => ∃ k : Nat, ((hapOf d k).state = .drive ∨ (hapOf d k).state = .brake)) ∧
    (Met fun _ d => ∃ k : Nat, d.haptic.lowSupply.testBit k = false) ∧
    (Met fun _ d => ∃ k : Nat, d.haptic.lowSupply.testBit k = true) ∧
    (Met fun _ d => d.haptic.hot = false) ∧
    (Met fun _ d => d.haptic.hot = true) ∧
    (Met fun _ _ => True) ∧
    (Met fun _ _ => True) ∧
    (Met fun _ d => ∃ (k : Nat) (u : Bool) (r : Effect), (hapOf d k).run = some r ∧ k < d.haptic.channels.length ∧
      (hapOf d k).state = .drive ∧ ((if u then 5000 ≤ dutyMs (hapOf (accountHalf k d) k) (nowNs d) else 2000 ≤ contMs
      (hapOf (accountHalf k d) k) (nowNs d)))) ∧
    (Met fun _ d => ∃ k : Nat, (hapOf d k).state = .rest ∧ (hapOf d k).restDuty = false ∧
      (hapOf d k).restAt + ms 100 ≤ nowNs d) ∧
    (Met fun _ d => ∃ k : Nat, (hapOf d k).state = .rest ∧ (hapOf d k).restDuty = true ∧
      dutyMs (hapOf d k) (nowNs d) < 4000) ∧
    (Met fun _ d => ∃ (n : Nat) (up : Bool) (p : HapPin), p = nthD .zero n d.haptic.pins ∧ ((∀ t, p.lastEdge = some t →
      t + ms p.guard ≤ nowNs d)) ∧ p.enable = true ∧ (p.edge.testBit (if up then 0 else 1) = true)) ∧
    (Met fun _ d => ∃ n t : Nat, (nthD .zero n d.haptic.pins).lastEdge = some t ∧
      nowNs d < t + ms (nthD .zero n d.haptic.pins).guard) :=
  ⟨met (updHap 7 (fun h => { h with
      state := .idle, waiting := some {
      effect := 1, scale := 255, duration := 0, source := (eff1 0 []).source, txn := none } }) (updTide (fun t => {
      t with now := 65536 * 60000000000 }) dev0)) ⟨7, _, (Option.some_get (by decide +kernel)).symm, by decide +kernel⟩,
    met (updHap 7 (fun h => { h with state := .brake }) (updTide (fun t => { t with now := 65536 * 60000000000 }) dev0))
      ⟨7, by decide +kernel⟩,
    met (updHap 7 (fun h => { h with state := .drive, run := some (eff1 0 [{ seg1 with halfCycles := 0, time := 5 }]) })
      (updTide (fun t => { t with now := 65536 * 60000000000 }) dev0)) ⟨7,
      { hvdd := 5000, bemf := 21, freq := none, length := 3 }, _, (Option.some_get (by decide +kernel)).symm,
      by decide +kernel⟩,
    met (updHap 7 (fun h => { h with
      state := .drive, run := some (eff1 0 [{ seg1 with halfCycles := 0, time := 60000000000 }, seg1]) }) (updTide (fun t
      => { t with now := 65536 * 60000000000 }) dev0)) ⟨7, _, { seg1 with halfCycles := 0, time := 60000000000 }, [seg1],
      (Option.some_get (by decide +kernel)).symm, by decide +kernel⟩,
    met (updHap 7 (fun h => { h with
      state := .pause, run := some (eff1 0 [{ seg1 with drive := false, time := 60000000000 }]) }) (updTide (fun t => {
      t with now := 65536 * 60000000000 }) dev0)) ⟨7, _, { seg1 with drive := false, time := 60000000000 },
      (Option.some_get (by decide +kernel)).symm, by decide +kernel⟩,
    met (updHap 7 (fun h => { h with state := .drive, trips := 2 }) (updTide (fun t => { t with
      now := 65536 * 60000000000 }) dev0)) ⟨7, by decide +kernel⟩,
    met (updHap 7 (fun h => { h with state := .brake, trips := 3 }) (updTide (fun t => { t with
      now := 65536 * 60000000000 }) dev0)) ⟨7, by decide +kernel⟩,
    met (updHap 7 (fun h => { h with state := .drive }) (updTide (fun t => { t with now := 65536 * 60000000000 }) dev0))
      ⟨7, by decide +kernel⟩,
    met dev0 ⟨7, by decide +kernel⟩,
    met ({ dev0 with haptic := { dev0.haptic with lowSupply := 8 } }) ⟨3, by decide +kernel⟩,
    met dev0 (by decide +kernel),
    met ({ dev0 with haptic := { dev0.haptic with hot := true } }) (by decide +kernel),
    met dev0 trivial,
    met dev0 trivial,
    met (updHap 7 (fun h => { h with
      state := .drive, run := some (eff1 0 [seg1]), bins := [(59000, 5), (50000, 1)], contMs := 2000 }) (updTide (fun t
      => { t with now := 65536 * 60000000000 }) dev0)) ⟨7, false, _, (Option.some_get (by decide +kernel)).symm,
      by decide +kernel⟩,
    met (updHap 7 (fun h => { h with state := .rest, restAt := 59900000000 }) (updTide (fun t => { t with
      now := 65536 * 60000000000 }) dev0)) ⟨7, by decide +kernel⟩,
    met (updHap 7 (fun h => { h with state := .rest, restDuty := true, bins := [(55000, 3999)] }) (updTide (fun t => {
      t with now := 65536 * 60000000000 }) dev0)) ⟨7, by decide +kernel⟩,
    met ({ updTide (fun t => { t with now := 65536 * 60000000000 }) dev0 with
      haptic := { dev0.haptic with
      pins := List.replicate 7 .zero ++ [{ HapPin.zero with enable := true, edge := 2 }] } }) ⟨7, false, _, rfl,
      fun t h => (by cases (show (none : Option Nat) = some t from h)), by decide +kernel⟩,
    met ({ updTide (fun t => { t with now := 65536 * 60000000000 }) dev0 with
      haptic := { dev0.haptic with
      pins := List.replicate 7 .zero ++ [{ HapPin.zero with lastEdge := some 59999999999, guard := 1 }] } }) ⟨7, _,
      (Option.some_get (by decide +kernel)).symm, by decide +kernel⟩⟩

theorem test_meets_audioBlockBoundary :
    (Met fun _ d => audioOn d = true ∧ d.audio.lastBlock ≠ some (blockNs d)) ∧
    (Met fun _ d => ((audioOn d = false ∨ d.audio.lastBlock = some (blockNs d)))) ∧
    (Met fun _ d => ∃ w : AudioWait, d.audio.lastBlock ≠ some (blockNs d) ∧ domainOn d 10 = true ∧ islandOn d 11 = true ∧
      d.audio.waiting = [w] ∧ w.op = .audioStream ∧ w.cmd.u8 25 = 0 ∧ w.cmd.bit 26 0 = false ∧
      audObj w < d.audio.playback.length) ∧
    (Met fun _ d => ∃ w : AudioWait, d.audio.lastBlock ≠ some (blockNs d) ∧ domainOn d 10 = true ∧ islandOn d 11 = true ∧
      d.audio.waiting = [w] ∧ w.op = .audioStream ∧ w.cmd.u8 25 = 3 ∧ w.cmd.bit 26 0 = false ∧
      audObj w < d.audio.playback.length) ∧
    (Met fun _ d => ∃ w : AudioWait, d.audio.lastBlock ≠ some (blockNs d) ∧ domainOn d 10 = true ∧ islandOn d 11 = true ∧
      d.audio.waiting = [w] ∧ w.op = .audioStream ∧ w.cmd.u8 25 = 2 ∧
      (audObj w < (if w.cmd.bit 26 0 then d.audio.capture else d.audio.playback).length)) ∧
    (Met fun _ d => ∃ w : AudioWait, d.audio.lastBlock ≠ some (blockNs d) ∧ domainOn d 10 = true ∧ islandOn d 11 = true ∧
      d.audio.waiting = [w] ∧ w.op = .audioBus ∧ ((∀ x ∈ waitDsts w, dstBusy d.audio x = false)) ∧
      w.cmd.bit 25 0 = false ∧ audObj w < d.audio.buses.length) ∧
    (Met fun _ d => ∃ w : AudioWait, d.audio.lastBlock ≠ some (blockNs d) ∧ domainOn d 10 = true ∧ islandOn d 11 = true ∧
      d.audio.waiting = [w] ∧ w.op = .audioTone ∧ w.cmd.bit 25 0 = false ∧ audObj w < d.audio.tones.length) ∧
    (Met fun _ d => ∃ w : AudioWait, d.audio.lastBlock ≠ some (blockNs d) ∧ domainOn d 10 = true ∧ islandOn d 11 = true ∧
      d.audio.waiting = [w] ∧ w.op = .audioRoute ∧ ((∀ x ∈ waitDsts w, dstBusy d.audio x = false))) ∧
    (Met fun _ d => ∃ w : AudioWait, d.audio.lastBlock ≠ some (blockNs d) ∧ domainOn d 10 = true ∧ islandOn d 11 = true ∧
      d.audio.waiting = [w] ∧ w.op = .audioUnroute ∧ ((∀ x ∈ waitDsts w, dstBusy d.audio x = false))) ∧
    (Met fun _ d => ∃ w : AudioWait, d.audio.lastBlock ≠ some (blockNs d) ∧ domainOn d 10 = true ∧ islandOn d 11 = true ∧
      d.audio.waiting = [w] ∧ w.op = .audioMeter ∧ w.cmd.bit 25 0 = false ∧ w.cmd.u8 24 < d.audio.meters.length) ∧
    (Met fun _ d => ∃ w : AudioWait, d.audio.lastBlock ≠ some (blockNs d) ∧ domainOn d 10 = true ∧ islandOn d 11 = true ∧
      d.audio.waiting = [w] ∧ w.op = .audioPort ∧ w.cmd.u8 24 ≤ 3 ∧ d.audio.tdm.length = 4) ∧
    (Met fun _ d => ∃ w : AudioWait, d.audio.lastBlock ≠ some (blockNs d) ∧ domainOn d 10 = true ∧ islandOn d 11 = true ∧
      d.audio.waiting = [w] ∧ w.op = .audioPort ∧ w.cmd.u8 24 = 6) ∧
    (Met fun _ d => ∃ w : AudioWait, d.audio.lastBlock ≠ some (blockNs d) ∧ domainOn d 10 = true ∧ islandOn d 11 = true ∧
      d.audio.waiting = [w] ∧ w.op = .audioSidetone ∧ ((∀ x ∈ waitDsts w, dstBusy d.audio x = false)) ∧
      w.cmd.bit 25 0 = true ∧ w.cmd.u8 24 < d.audio.sides.length) :=
  ⟨met dev1 (by decide +kernel),
    met (updPower (fun p => { p with domains := 0 }) dev1) (by decide +kernel),
    met (withWait .audioStream [(24, 63), (25, 0)]) ⟨wait1 .audioStream [(24, 63), (25, 0)], by decide +kernel⟩,
    met (withWait .audioStream [(24, 63), (25, 3)]) ⟨wait1 .audioStream [(24, 63), (25, 3)], by decide +kernel⟩,
    met (withWait .audioStream [(24, 15), (25, 2), (26, 1)]) ⟨wait1 .audioStream [(24, 15), (25, 2), (26, 1)],
      by decide +kernel⟩,
    met (withWait .audioBus [(24, 31)]) ⟨wait1 .audioBus [(24, 31)], by decide +kernel⟩,
    met (withWait .audioTone [(24, 7)]) ⟨wait1 .audioTone [(24, 7)], by decide +kernel⟩,
    met (withWait .audioRoute [(26, 28735)]) ⟨wait1 .audioRoute [(26, 28735)], by decide +kernel⟩,
    met (withWait .audioUnroute [(26, 28735)]) ⟨wait1 .audioUnroute [(26, 28735)], by decide +kernel⟩,
    met (withWait .audioMeter [(24, 7)]) ⟨wait1 .audioMeter [(24, 7)], by decide +kernel⟩,
    met (withWait .audioPort [(24, 3)]) ⟨wait1 .audioPort [(24, 3)], by decide +kernel⟩,
    met (withWait .audioPort [(24, 6)]) ⟨wait1 .audioPort [(24, 6)], by decide +kernel⟩,
    met (withWait .audioSidetone [(24, 7), (25, 1), (28, 28672)]) ⟨wait1 .audioSidetone [(24, 7), (25, 1), (28, 28672)],
      by decide +kernel⟩⟩

theorem test_meets_audioPortEvents :
    (Met fun _ _ => True) ∧
    (Met fun _ d => ∃ k : Nat, (detOf d.audio k).active = true ∧ d.audio.holdMs * 48 ≤ (detOf d.audio k).quiet) ∧
    (Met fun _ d => ∃ (p : Nat) (x : Tdm), x = nthD Tdm.zero p d.audio.tdm ∧ x.enabled = true ∧ x.autoOff = true ∧
      x.off = false ∧ ((∀ k, k < 16 → inputUsed d.audio (0x2000 + p * 16 + k) = false ∧
      silentFor d.audio (0x7000 + p * 16 + k) x.offMs = true))) ∧
    (Met fun _ d => ∃ (o : Nat) (x : DpAudio), x = nthD DpAudio.zero o d.audio.dp ∧ x.enable = true ∧ x.off = false ∧
      ((∀ k, k < 8 → silentFor d.audio (0x6000 + o * 8 + k) x.offMs = true))) ∧
    (Met fun _ d => ∃ (p : Nat) (x : Tdm), x = nthD Tdm.zero p d.audio.tdm ∧ x.enabled = true ∧ x.master = false ∧
      x.clockOk = true) ∧
    (Met fun _ d => ∃ (p : Nat) (x : Tdm), x = nthD Tdm.zero p d.audio.tdm ∧ p < d.audio.tdm.length ∧ x.enabled = true ∧
      x.master = false ∧ x.clockOk = false) :=
  ⟨met dev1 trivial,
    met (updAudio (fun a => { a with detectors := [(0x2000, { active := true, quiet := 9600 })] }) dev1) ⟨0x2000,
      by decide +kernel⟩,
    met (updAudio (fun a => { a with
      tdm := List.replicate 3 .zero ++ [{ Tdm.zero with enabled := true, autoOff := true }] }) dev1) ⟨3, _, rfl,
      by decide +kernel⟩,
    met (updAudio (fun a => { a with dp := List.replicate 7 .zero ++ [{ DpAudio.zero with enable := true }] }) dev1) ⟨7,
      _, rfl, by decide +kernel⟩,
    met (updAudio (fun a => { a with
      tdm := List.replicate 3 .zero ++ [{ Tdm.zero with enabled := true, clockOk := true }] }) dev1) ⟨3, _, rfl,
      by decide +kernel⟩,
    met (updAudio (fun a => { a with tdm := List.replicate 3 .zero ++ [{ Tdm.zero with enabled := true }] }) dev1) ⟨3, _,
      rfl, by decide +kernel⟩⟩

theorem test_meets_dramEvents :
    (Met fun _ d => domainOn d 8 = true ∧ d.dram.trained = true) ∧
    (Met fun _ d => ∃ c r : Nat, (chanOf d c).state ≠ .selfRefresh ∧ (chanOf d c).state ≠ .fenced ∧
      d.dram.trained = true ∧ tget 0 (chanOf d c).owed (owedKey d.dram.allBank r (tget 0 (chanOf d c).pairs r)) < 8) ∧
    (Met fun _ d => ∃ c : Nat, (chanOf d c).state ≠ .selfRefresh ∧ (chanOf d c).state ≠ .fenced ∧ d.dram.trained = true) ∧
    (Met fun _ d => ∃ c : Nat, ((chanOf d c).state = .selfRefresh ∨ (chanOf d c).state = .fenced)) ∧
    (Met fun _ d => d.dram.channels.length = 8) ∧
    (Met fun _ d => ∃ c : Nat, d.dram.srIdle ≠ 0 ∧ (chanOf d c).state = .serving) ∧
    (Met fun _ d => ∃ c : Nat, (chanOf d c).state = .selfRefresh ∧ memOn d = true) ∧
    (Met fun _ d => ∃ c : Nat, ((chanOf d c).state = .serving ∨ (chanOf d c).state = .selfRefresh) ∧ memOn d = true ∧
      ((∀ y ∈ d.dram.channels, y.state ≠ .tracking ∧ y.state ≠ .retraining))) ∧
    (Met fun _ d => ∃ (c : Nat) (m p : Bool), (chanOf d c).state = .tracking ∧ (m = true ∨ p = false)) ∧
    (Met fun _ d => ∃ c : Nat, (chanOf d c).state = .tracking) ∧
    (Met fun _ d => ∃ c : Nat, (chanOf d c).state = .serving) ∧
    (Met fun _ d => ∃ c : Nat, (chanOf d c).state = .retraining) ∧
    (Met fun _ d => ∃ c : Nat, (chanOf d c).state = .retraining ∧ (chanOf d c).attempts < 3) ∧
    (Met fun _ d => ∃ c : Nat, (chanOf d c).state = .retraining ∧ 3 ≤ (chanOf d c).attempts) ∧
    (Met fun _ d => ∃ m r : Nat, d.power.boot = .running ∧ d.dram.trained = false ∧ m % 256 = 0 ∧
      nextBin d.dram.rate = some r) ∧
    (Met fun _ d => ∃ m : Nat, d.power.boot = .running ∧ d.dram.trained = false ∧ m % 256 = 255) ∧
    (Met fun _ d => ∃ t : Ticket, d.dram.remapping = some t) ∧
    (Met fun _ d => d.dram.remapping = none) ∧
    (Met fun _ d => ∃ t : List Byte, d.dram.shadow = some t) ∧
    (Met fun _ d => d.dram.shadow = none) ∧
    (Met fun _ d => nowNs d / 32000000 ≠ d.dram.window) ∧
    (Met fun _ d => nowNs d / 32000000 = d.dram.window) :=
  ⟨met dev1 (by decide +kernel),
    met (updDram (fun m => { m with channels := List.replicate 7 chan1 ++ [{ chan1 with owed := [(0, 7)] }] }) dev1) ⟨7,
      0, by decide +kernel⟩,
    met dev1 ⟨7, by decide +kernel⟩,
    met (updDram (fun m => { m with channels := List.replicate 7 chan1 ++ [{ chan1 with state := .fenced }] }) dev1) ⟨7,
      by decide +kernel⟩,
    met dev1 (by decide +kernel),
    met dev1 ⟨7, by decide +kernel⟩,
    met (updDram (fun m => { m with channels := List.replicate 7 chan1 ++ [{ chan1 with state := .selfRefresh }] }) dev1)
      ⟨7, by decide +kernel⟩,
    met dev1 ⟨7, by decide +kernel⟩,
    met (updDram (fun m => { m with channels := List.replicate 7 chan1 ++ [{ chan1 with state := .tracking }] }) dev1)
      ⟨7, false, false, by decide +kernel⟩,
    met (updDram (fun m => { m with channels := List.replicate 7 chan1 ++ [{ chan1 with state := .tracking }] }) dev1)
      ⟨7, by decide +kernel⟩,
    met dev1 ⟨7, by decide +kernel⟩,
    met (updDram (fun m => { m with channels := List.replicate 7 chan1 ++ [{ chan1 with state := .retraining }] }) dev1)
      ⟨7, by decide +kernel⟩,
    met (updDram (fun m => { m with
      channels := List.replicate 7 chan1 ++ [{ chan1 with state := .retraining, attempts := 2 }] }) dev1) ⟨7,
      by decide +kernel⟩,
    met (updDram (fun m => { m with
      channels := List.replicate 7 chan1 ++ [{ chan1 with state := .retraining, attempts := 3 }] }) dev1) ⟨7,
      by decide +kernel⟩,
    met (updDram (fun m => { m with trained := false, rate := 9600 }) dev1) ⟨256, 8533, by decide +kernel⟩,
    met (updDram (fun m => { m with trained := false }) dev1) ⟨255, by decide +kernel⟩,
    met (updDram (fun m => { m with remapping := some (tick 0 .memRemap) }) dev1) ⟨_,
      (Option.some_get (by decide +kernel)).symm⟩,
    met dev1 (by decide +kernel),
    met (updDram (fun m => { m with shadow := some [1] }) dev1) ⟨_, (Option.some_get (by decide +kernel)).symm⟩,
    met dev1 (by decide +kernel),
    met (updTide (fun t => { t with now := 65536 * 32000000 }) dev1) (by decide +kernel),
    met dev1 (by decide +kernel)⟩

theorem test_meets_panMemoryEvents :
    (Met fun _ d => ∃ (i : Issuer) (o n : Nat) (w : Option (List Byte)) (a : Nat), ((∀ b, w = some b → b.length = n)) ∧
      hostReaches d (portOfIssuer d i) = true ∧ 0 < n ∧ o % 4096 + n ≤ 4096 ∧ hostTarget d i false o w.isSome = .at_ a) ∧
    (Met fun _ d => ∃ (i : Issuer) (o n : Nat) (w : Option (List Byte)) (m : PanMeet) (a : Nat), ((∀ b, w = some b →
      b.length = n)) ∧ hostReaches d (portOfIssuer d i) = true ∧ 0 < n ∧ o % 4096 + n ≤ 4096 ∧
      hostTarget d i true o w.isSome = .at_ a ∧ ((∀ r ∈ d.pan.retries, r.requester ≠ portOfIssuer d i)) ∧
      ((m = .clear ∨ (m = .fRead ∧ w = none)))) ∧
    (Met fun _ d => ∃ (k : Nat) (p : Bool) (o n : Nat) (q : Bool), hostReaches d (portOfIssuer d (.inst k)) = true ∧
      0 < n ∧ o % 4096 + n ≤ 4096 ∧ hostTarget d (.inst k) p o false = .faulted q) ∧
    (Met fun _ d => ∃ (k : Nat) (p : Bool) (o n : Nat) (b : List Byte) (q : Bool),
      hostReaches d (portOfIssuer d (.inst k)) = true ∧ 0 < n ∧ o % 4096 + n ≤ 4096 ∧ b.length = n ∧
      hostTarget d (.inst k) p o true = .faulted q) ∧
    (Met fun _ d => ∃ (i : Issuer) (o n : Nat) (b : List Byte) (a : Nat), hostReaches d (portOfIssuer d i) = true ∧
      0 < n ∧ o % 4096 + n ≤ 4096 ∧ b.length = n ∧ hostTarget d i true o true = .at_ a ∧ ((∀ r ∈ d.pan.retries,
      r.requester ≠ portOfIssuer d i)) ∧ n ≤ 8 - a % 8) ∧
    (Met fun _ d => ∃ (i : Issuer) (o n a : Nat), hostReaches d (portOfIssuer d i) = true ∧ 0 < n ∧ o % 4096 + n ≤ 4096 ∧
      hostTarget d i true o false = .at_ a ∧ ((∀ r ∈ d.pan.retries, r.requester ≠ portOfIssuer d i))) ∧
    (Met fun _ d => ∃ (i : Issuer) (o n : Nat) (b : List Byte) (a : Nat), hostReaches d (portOfIssuer d i) = true ∧
      0 < n ∧ o % 4096 + n ≤ 4096 ∧ b.length = n ∧ hostTarget d i true o true = .at_ a ∧ ((∀ r ∈ d.pan.retries,
      r.requester ≠ portOfIssuer d i))) ∧
    (Met fun _ d => ∃ (r : PanRetry) (l : List PanRetry), d.pan.retries = r :: l) ∧
    (Met fun _ d => d.pan.testRunning = true ∧ d.pan.borrowed = none ∧ domainOn d 9 = true ∧ d.pan.retry = [] ∧
      d.pan.testPage ≤ d.pan.testLast) ∧
    (Met fun _ d => ∃ e : Nat × Nat, d.pan.testRunning = true ∧ d.pan.borrowed = none ∧ domainOn d 9 = true ∧
      d.pan.retry.find? (fun e => decide (e.2 + 1000000 ≤ nowNs d)) = some e) ∧
    (Met fun _ d => ∃ n : Nat, d.pan.borrowed = some n) ∧
    (Met fun _ _ => True) :=
  ⟨met dev1 ⟨.manager, 4095, 1, some [1], 4095, fun b h => (by cases h; rfl), by decide +kernel⟩,
    met dev1 ⟨.manager, 4088, 8, none, .fRead, 4088, fun b h => (by cases h), by decide +kernel⟩,
    met (withInst 511 inst1 dev1) ⟨511, true, 0, 4096, false, by decide +kernel⟩,
    met (withInst 511 { inst1 with pan := [(0, some (5, true))] } dev1) ⟨511, true, 0, 1, [1], true, by decide +kernel⟩,
    met dev1 ⟨.manager, 4088, 8, List.replicate 8 1, 4088, by decide +kernel⟩,
    met dev1 ⟨.manager, 4088, 8, 4088, by decide +kernel⟩,
    met dev1 ⟨.manager, 4095, 1, [1], 4095, by decide +kernel⟩,
    met (updPan (fun p => { p with
      retries := [{ requester := 0, issuer := .manager, addr := 0, write := none, len := 8 }] }) dev1) ⟨{
      requester := 0, issuer := .manager, addr := 0, write := none, len := 8 }, [], by decide +kernel⟩,
    met (updPan (fun p => { p with testRunning := true, testPage := 8191, testLast := 8191 }) dev1) (by decide +kernel),
    met (updTide (fun t => { t with now := 65536 * 1000000 }) (updPan (fun p => { p with
      testRunning := true, retry := [(8191, 0)] }) dev1)) ⟨(8191, 0), by decide +kernel⟩,
    met (updPan (fun p => { p with borrowed := some 8191 }) dev1) ⟨_, (Option.some_get (by decide +kernel)).symm⟩,
    met dev1 trivial⟩

theorem test_meets_instanceEvents :
    (Met fun _ _ => True) ∧
    (Met fun _ d => ∃ n : Nat, (instOf d n).exists_ = true ∧ (instOf d n).state = .quiescing ∧ windingDown d n = false) ∧
    (Met fun _ d => ∃ n : Nat, windingDown d n = true) ∧
    (Met fun _ d => ∃ n : Nat, (instOf d n).exists_ = true ∧ (instOf d n).state = .resetting ∧
      (instOf d n).destroying = false) ∧
    (Met fun _ d => ∃ n : Nat, (instOf d n).exists_ = true ∧ (instOf d n).destroying = true ∧
      (instOf d n).draining = [] ∧ ((∀ o, o < 8 → viewportsOf d n o = []))) ∧
    (Met fun _ d => ∃ n : Nat, (instOf d n).exists_ = true ∧ (instOf d n).flr = false ∧ (instOf d n).state = .active) ∧
    (Met fun _ d => ∃ n : Nat, ((instOf d n).exists_ = false ∨ (instOf d n).flr = true)) ∧
    (Met fun _ _ => True) ∧
    (Met fun _ d => d.power.cfg.split = true) ∧
    (Met fun _ d => d.power.cfg.split = false) ∧
    (Met fun _ d => nthD false 0 d.power.perst = false) ∧
    (Met fun _ d => d.power.cfg.split = false) ∧
    (Met fun _ _ => True) ∧
    (Met fun _ d => nthD false 0 d.power.perst = false ∧ domainOn d 0 = true ∧ d.power.boot ≠ .running) ∧
    (Met fun _ d => nthD false 0 d.power.perst = false ∧ domainOn d 0 = true ∧ d.power.boot = .running) ∧
    (Met fun _ d => ∃ n : Nat, nthD false 0 d.power.perst = false ∧ domainOn d 0 = true ∧ d.power.boot = .running ∧
      n ∈ barSizes ∧ nthD false 0 d.vfs = false) ∧
    (Met fun _ d => ∃ (u n : Nat) (j : RakeJob) (l : List RakeJob) (e : Dev) (r : RakeJob) (why : Option (Status × Nat)),
      rakeRun n j d = (e, r, why) ∧ (cvOf d u).jobs = j :: l ∧
      (((rakePieces j.start.toNat j.length).length ≤ j.pieces + n ∨ why.isSome = true))) ∧
    (Met fun _ d => ∃ u : Nat, (cvOf d u).jobs = []) ∧
    (Met fun _ d => ∃ (u n : Nat) (j : RakeJob) (l : List RakeJob) (e : Dev) (r : RakeJob), rakeRun n j d = (e, r,
      none) ∧ (cvOf d u).jobs = j :: l ∧ j.pieces + n < (rakePieces j.start.toNat j.length).length) :=
  ⟨met (withInst 511 inst1 dev1) trivial,
    met (withInst 511 { inst1 with state := .quiescing } dev1) ⟨511, by decide +kernel⟩,
    met (updAudio (fun a => { a with
      tones := List.replicate 7 .zero ++ [{ Tone.zero with owner := some (.inst 511), on := true }] }) (withInst 511 {
      inst1 with state := .quiescing } dev1)) ⟨511, by decide +kernel⟩,
    met (withInst 511 { inst1 with state := .resetting } dev1) ⟨511, by decide +kernel⟩,
    met (withInst 511 { inst1 with state := .quiesced, resetBy := some (tick 0 .instanceDestroy, true) } dev1) ⟨511,
      by decide +kernel⟩,
    met (withInst 511 inst1 dev1) ⟨511, by decide +kernel⟩,
    met (withInst 511 { inst1 with flr := true } dev1) ⟨511, by decide +kernel⟩,
    met dev1 trivial,
    met (updPower (fun p => { p with cfg := { p.cfg with split := true } }) dev1) (by decide +kernel),
    met dev1 (by decide +kernel),
    met dev1 (by decide +kernel),
    met dev1 (by decide +kernel),
    met dev1 trivial,
    met (updPower (fun p => { p with boot := .awaitPush }) dev1) (by decide +kernel),
    met dev1 (by decide +kernel),
    met dev1 ⟨16384, by decide +kernel⟩,
    met ({ dev1 with cv := List.replicate 15 .zero ++ [{ CvUnit.zero with jobs := [rake1] }] }) ⟨15, 1, rake1, [], _, _,
      _, rfl, by decide +kernel⟩,
    met dev1 ⟨15, by decide +kernel⟩,
    met ({ dev1 with cv := List.replicate 15 .zero ++ [{ CvUnit.zero with jobs := [rake1] }] }) ⟨15, 0, rake1, [], _, _,
      rfl, by decide +kernel⟩⟩

theorem test_meets_tideEvents :
    (Met fun _ _ => True) ∧
    (Met fun _ d => d.tide.refOk = false) ∧
    (Met fun _ d => d.tide.source ≠ 1) ∧
    (Met fun _ d => ∃ (a : Nat) (x : ℤ), x = ((d.tide.now : Int) - (a * 65536 : Nat)) % 65536000000000 ∧
      d.tide.source = 1 ∧ 2 * x ≤ 65536000000000 ∧ d.tide.ppsSeen = false ∧ d.tide.stepPermit = true ∧ 65536000000 ≤ x) ∧
    (Met fun _ d => ∃ (a : Nat) (x : ℤ), x = ((d.tide.now : Int) - (a * 65536 : Nat)) % 65536000000000 ∧
      d.tide.source = 1 ∧ (d.tide.ppsSeen = true ∨ d.tide.stepPermit = false) ∧ 65536000000 < x ∧
      x < 65536000000000 - 65536000000) ∧
    (Met fun _ d => ∃ (a : Nat) (x : ℤ), x = ((d.tide.now : Int) - (a * 65536 : Nat)) % 65536000000000 ∧
      d.tide.source = 1 ∧ x < 65536000000) ∧
    (Met fun _ d => (d.tide.now % 65536000000000 ≤ 327680 ∨ 65536000000000 ≤ d.tide.now % 65536000000000 + 327680)) ∧
    (Met fun _ d => 327680 < d.tide.now % 65536000000000 ∧ d.tide.now % 65536000000000 + 327680 < 65536000000000) ∧
    (Met fun _ d => d.tide.ppsOut = true ∧ 99000 * 65536 ≤ d.tide.now - d.tide.ppsAt ∧
      d.tide.now - d.tide.ppsAt ≤ 101000 * 65536) ∧
    (Met fun _ d => d.tide.now - d.tide.ppsAt < 99000 * 65536) ∧
    (Met fun _ d => d.tide.role = .master) ∧
    (Met fun _ d => ∃ (p n h : Nat) (x : Int), onTree d p = true ∧ d.tide.parent = some p ∧ d.tide.source = 2 ∧
      d.tide.electing = false ∧ d.tide.masterNode = n ∧ h + 1 ≤ 32 ∧ (x - meanDelay (oxPortOf d p)).natAbs < 65536000000) ∧
    (Met fun _ d => ∃ (p n h : Nat) (x : Int), onTree d p = true ∧ d.tide.parent = some p ∧ d.tide.source = 2 ∧
      d.tide.electing = false ∧ d.tide.masterNode = n ∧ h + 1 ≤ 32 ∧
      65536000000 ≤ (x - meanDelay (oxPortOf d p)).natAbs ∧ d.tide.joining = true ∧ d.tide.stepPermit = true ∧
      x - meanDelay (oxPortOf d p) ≤ d.tide.now) ∧
    (Met fun _ d => ∃ (p n h : Nat) (x : Int), onTree d p = true ∧ d.tide.parent = some p ∧ d.tide.source = 2 ∧
      d.tide.electing = false ∧ d.tide.masterNode = n ∧ h + 1 ≤ 32 ∧
      65536000000 ≤ (x - meanDelay (oxPortOf d p)).natAbs ∧ d.tide.joining = true ∧ d.tide.stepPermit = false) ∧
    (Met fun _ d => ∃ p : Nat, onTree d p = false) ∧
    (Met fun _ _ => True) ∧
    (Met fun _ d => ∃ (p : Nat) (b : Bool), oxUp d p = true ∧ ((dykePort d p = false ∨ b = true))) ∧
    (Met fun _ d => ∃ p : Nat, ((oxUp d p = false ∨ dykePort d p = true))) ∧
    (Met fun _ d => d.tide.role = .member) ∧
    (Met fun _ d => d.tide.electing = true) :=
  ⟨met dev1 trivial,
    met dev1 (by decide +kernel),
    met (updTide (fun t => { t with source := 2 }) dev1) (by decide +kernel),
    met (updTide (fun t => { t with source := 1, stepPermit := true, now := 65536000000 }) dev1) ⟨0, _, rfl,
      by decide +kernel⟩,
    met (updTide (fun t => { t with source := 1, now := 65536000001 }) dev1) ⟨0, _, rfl, by decide +kernel⟩,
    met (updTide (fun t => { t with source := 1, now := 65535999999 }) dev1) ⟨0, _, rfl, by decide +kernel⟩,
    met dev1 (by decide +kernel),
    met (updTide (fun t => { t with now := 327681 }) dev1) (by decide +kernel),
    met (updTide (fun t => { t with now := 99000 * 65536, ppsOut := true, ppsAt := 0 }) dev1) (by decide +kernel),
    met dev1 (by decide +kernel),
    met (updTide (fun t => { t with role := .master }) dev1) (by decide +kernel),
    met (updTide (fun t => { t with
      ports := modifyAt (fun x => { x with state := .up }) 3 t.ports, parent := some 3, source := 2, masterNode := 5 })
      dev1) ⟨3, 5, 31, 65535999999, by decide +kernel⟩,
    met (updTide (fun t => { t with
      ports := modifyAt (fun x => { x with state := .up }) 3 t.ports, parent := some 3, source := 2, masterNode := 5,
      joining := true, stepPermit := true, now := 65536000000 }) dev1) ⟨3, 5, 31, 65536000000, by decide +kernel⟩,
    met (updTide (fun t => { t with
      ports := modifyAt (fun x => { x with state := .up }) 3 t.ports, parent := some 3, source := 2, masterNode := 5,
      joining := true }) dev1) ⟨3, 5, 31, -65536000000, by decide +kernel⟩,
    met dev1 ⟨3, by decide +kernel⟩,
    met dev1 trivial,
    met (updTide (fun t => { t with ports := modifyAt (fun x => { x with state := .up }) 3 t.ports, role := .master })
      dev1) ⟨3, true, by decide +kernel⟩,
    met (updTide (fun t => { t with
      ports := modifyAt (fun x => { x with state := .up, hops := 0 }) 3 t.ports, role := .master }) dev1) ⟨3,
      by decide +kernel⟩,
    met (updTide (fun t => { t with role := .member }) dev1) (by decide +kernel),
    met (updTide (fun t => { t with electing := true }) dev1) (by decide +kernel)⟩

theorem test_meets_oxtasEvents :
    (Met fun _ d => ∃ p : Nat, linkOn d = true ∧ (oxPortOf d p).enable = true ∧ (oxPortOf d p).state = .down ∧
      (oxPortOf d p).hold = false) ∧
    (Met fun _ d => ∃ p : Nat, linkOn d = true ∧ (oxPortOf d p).enable = true ∧ (oxPortOf d p).state = .down ∧
      (oxPortOf d p).hold = true) ∧
    (Met fun _ d => ∃ p : Nat, (oxPortOf d p).hold = true ∧ (oxPortOf d p).signalSeen = true ∧
      (oxPortOf d p).enable = true ∧ (oxPortOf d p).state = .down) ∧
    (Met fun _ d => ∃ p : Nat, linkOn d = true ∧ (oxPortOf d p).state = .signal) ∧
    (Met fun _ d => ∃ p k : Nat, linkOn d = true ∧ (oxPortOf d p).state = .aligned ∧ k ≤ 64) ∧
    (Met fun _ d => ∃ p k : Nat, (oxPortOf d p).state = .aligned ∧ 64 < k) ∧
    (Met fun _ d => ∃ p : Nat, linkOn d = true ∧ (oxPortOf d p).state = .hello) ∧
    (Met fun _ d => ∃ p : Nat, linkOn d = true ∧ (oxPortOf d p).state = .measured ∧ 16 ≤ (oxPortOf d p).delays.length) ∧
    (Met fun _ d => ∃ p : Nat, (oxPortOf d p).state = .measured ∧ (oxPortOf d p).delays.length < 16) ∧
    (Met fun _ d => ∃ p : Nat, (oxPortOf d p).state ≠ .down ∧ (oxPortOf d p).state ≠ .up ∧ (oxPortOf d p).stopped = false) ∧
    (Met fun _ d => ∃ p : Nat, (((oxPortOf d p).state = .up ∨ (oxPortOf d p).stopped = true))) ∧
    (Met fun _ d => ∃ p : Nat, (oxPortOf d p).state ≠ .up ∧ (oxPortOf d p).stopped = false) ∧
    (Met fun _ d => ∃ p : Nat, ((oxPortOf d p).state = .measured ∨ (oxPortOf d p).state = .up)) ∧
    (Met fun _ d => ∃ p m : Nat, onTree d p = true ∧ m = d.tide.node ∧ m < 16384) ∧
    (Met fun _ d => ∃ p m : Nat, onTree d p = true ∧ m ≠ d.tide.node ∧ 16384 ≤ m) ∧
    (Met fun _ d => ∃ p m : Nat, onTree d p = true ∧ m ≠ d.tide.node ∧ m < 16384) ∧
    (Met fun _ d => ∃ p : Nat, onTree d p = false) ∧
    (Met fun _ d => ∃ (p : Nat) (m : CommitMsg), onTree d p = true ∧ m.dest = d.tide.node) ∧
    (Met fun _ d => ∃ (p : Nat) (m : CommitMsg), onTree d p = true ∧ m.dest ≠ d.tide.node) ∧
    (Met fun _ d => ∃ p : Nat, onTree d p = false) ∧
    (Met fun _ d => ∃ p g : Nat, onTree d p = true ∧ groupOf d g = none) ∧
    (Met fun _ d => ∃ p g : Nat, onTree d p = true ∧ (groupOf d g).map (·.leaderNode) = some d.tide.node) ∧
    (Met fun _ d => ∃ p g : Nat, onTree d p = true ∧ (groupOf d g).map (·.leaderNode) = some d.tide.node) ∧
    (Met fun _ d => ∃ p : Nat, onTree d p = true) ∧
    (Met fun _ d => ∃ p : Nat, onTree d p = true) ∧
    (Met fun _ d => ∃ p g : Nat, onTree d p = true ∧ (groupOf d g).map (·.leaderNode) = some d.tide.node) ∧
    (Met fun _ d => ∃ p g : Nat, onTree d p = true ∧ (groupOf d g).map (·.leaderNode) ≠ some d.tide.node) ∧
    (Met fun _ d => ∃ p : Nat, onTree d p = false) ∧
    (Met fun _ d => ∃ (p k : Nat) (b : List Byte) (i : Import) (m : Nat), importOf d k = some i ∧ i.port = p ∧
      oxUp d p = true ∧ b.length ≤ i.size ∧ [0, 1, 2].find? (fun m => i.latest != some m && !(importBusy d k).contains m)
      = some m ∧ locFail d (issuerOf i.owner) false true (importBuf i m) b.length = none) ∧
    (Met fun _ d => ∃ (k : Nat) (b : List Byte) (i : Import), importOf d k = some i ∧ i.size < b.length) ∧
    (Met fun _ d => ∃ (k : Nat) (i : Import), importOf d k = some i ∧ i.lost = false) ∧
    (Met fun _ d => ∃ (k : Nat) (i : Export), exportOf d k = some i ∧ i.lost = false) :=
  ⟨met (updTide (fun t => { t with ports := modifyAt (fun x => { x with enable := true }) 3 t.ports }) dev1) ⟨3,
      by decide +kernel⟩,
    met (updTide (fun t => { t with ports := modifyAt (fun x => { x with enable := true, hold := true }) 3 t.ports })
      dev1) ⟨3, by decide +kernel⟩,
    met (updTide (fun t => { t with
      ports := modifyAt (fun x => { x with enable := true, hold := true, signalSeen := true }) 3 t.ports }) dev1) ⟨3,
      by decide +kernel⟩,
    met (updTide (fun t => { t with ports := modifyAt (fun x => { x with state := .signal }) 3 t.ports }) dev1) ⟨3,
      by decide +kernel⟩,
    met (updTide (fun t => { t with ports := modifyAt (fun x => { x with state := .aligned }) 3 t.ports }) dev1) ⟨3, 64,
      by decide +kernel⟩,
    met (updTide (fun t => { t with ports := modifyAt (fun x => { x with state := .aligned }) 3 t.ports }) dev1) ⟨3, 65,
      by decide +kernel⟩,
    met (updTide (fun t => { t with ports := modifyAt (fun x => { x with state := .hello }) 3 t.ports }) dev1) ⟨3,
      by decide +kernel⟩,
    met (updTide (fun t => { t with
      ports := modifyAt (fun x => { x with state := .measured, delays := List.replicate 16 1200 }) 3 t.ports }) dev1) ⟨3,
      by decide +kernel⟩,
    met (updTide (fun t => { t with ports := modifyAt (fun x => { x with state := .measured }) 3 t.ports }) dev1) ⟨3,
      by decide +kernel⟩,
    met (updTide (fun t => { t with ports := modifyAt (fun x => { x with state := .hello }) 3 t.ports }) dev1) ⟨3,
      by decide +kernel⟩,
    met (updTide (fun t => { t with ports := modifyAt (fun x => { x with state := .up }) 3 t.ports }) dev1) ⟨3,
      by decide +kernel⟩,
    met dev1 ⟨3, by decide +kernel⟩,
    met (updTide (fun t => { t with ports := modifyAt (fun x => { x with state := .measured }) 3 t.ports }) dev1) ⟨3,
      by decide +kernel⟩,
    met (updTide (fun t => { t with ports := modifyAt (fun x => { x with state := .up }) 3 t.ports, node := 16383 })
      dev1) ⟨3, 16383, by decide +kernel⟩,
    met (updTide (fun t => { t with ports := modifyAt (fun x => { x with state := .up }) 3 t.ports }) dev1) ⟨3, 32767,
      by decide +kernel⟩,
    met (updTide (fun t => { t with ports := modifyAt (fun x => { x with state := .up }) 3 t.ports }) dev1) ⟨3, 16383,
      by decide +kernel⟩,
    met dev1 ⟨3, by decide +kernel⟩,
    met (updTide (fun t => { t with ports := modifyAt (fun x => { x with state := .up }) 3 t.ports }) dev1) ⟨3,
      { ballot := 1, node := 5, status := 0, isResult := true, dest := 0 }, by decide +kernel⟩,
    met (updTide (fun t => { t with ports := modifyAt (fun x => { x with state := .up }) 3 t.ports }) dev1) ⟨3,
      { ballot := 1, node := 5, status := 0, isResult := true, dest := 16383 }, by decide +kernel⟩,
    met dev1 ⟨3, by decide +kernel⟩,
    met (updTide (fun t => { t with ports := modifyAt (fun x => { x with state := .up }) 3 t.ports }) dev1) ⟨3, 63,
      by decide +kernel⟩,
    met (updTide (fun t => { t with
      ports := modifyAt (fun x => { x with state := .up }) 3 t.ports, groups := [(63, some { Group.zero with
      leaderNode := 0 })] }) dev1) ⟨3, 63, by decide +kernel⟩,
    met (updTide (fun t => { t with
      ports := modifyAt (fun x => { x with state := .up }) 3 t.ports, groups := [(63, some { Group.zero with
      leaderNode := 0 })] }) dev1) ⟨3, 63, by decide +kernel⟩,
    met (updTide (fun t => { t with ports := modifyAt (fun x => { x with state := .up }) 3 t.ports }) dev1) ⟨3,
      by decide +kernel⟩,
    met (updTide (fun t => { t with ports := modifyAt (fun x => { x with state := .up }) 3 t.ports }) dev1) ⟨3,
      by decide +kernel⟩,
    met (updTide (fun t => { t with
      ports := modifyAt (fun x => { x with state := .up }) 3 t.ports, groups := [(63, some { Group.zero with
      leaderNode := 0 })] }) dev1) ⟨3, 63, by decide +kernel⟩,
    met (updTide (fun t => { t with
      ports := modifyAt (fun x => { x with state := .up, child := true }) 3 t.ports, groups := [(63, some {
      Group.zero with leaderNode := 5 })] }) dev1) ⟨3, 63, by decide +kernel⟩,
    met dev1 ⟨3, by decide +kernel⟩,
    met (updTide (fun t => { t with
      ports := modifyAt (fun x => { x with state := .up }) 3 t.ports, imports := [(3, some import3)] }) dev1) ⟨3, 3, [1,
      2, 3, 4], _, 0, (Option.some_get (by decide +kernel)).symm, by decide +kernel⟩,
    met (updTide (fun t => { t with imports := [(3, some import3)] }) dev1) ⟨3, [1, 2, 3, 4, 5], _,
      (Option.some_get (by decide +kernel)).symm, by decide +kernel⟩,
    met (updTide (fun t => { t with imports := [(3, some import3)] }) dev1) ⟨3, _,
      (Option.some_get (by decide +kernel)).symm, by decide +kernel⟩,
    met (updTide (fun t => { t with
      exports := [(3, some {
      port := 0, channel := 7, compact := true, node := 0, lastFrame := 0, lastSent := [], lost := false })] }) dev1) ⟨3,
      _, (Option.some_get (by decide +kernel)).symm, by decide +kernel⟩⟩

theorem test_meets_powerEvents :
    (Met fun _ d => ∃ n : Nat, n ≤ 7 ∧ (n ≠ 6 ∨ instantNear d = true) ∧ d.power.boot = .running) ∧
    (Met fun _ d => ∃ (b : Bool) (n : Nat), d.power.pendOn.contains (b, n) = true) ∧
    (Met fun _ d => ∃ l : List ℤ, d.power.boot ≠ .dark ∧ l.length = 12) ∧
    (Met fun _ d => d.power.boot = .running) ∧
    (Met fun _ d => d.power.boot = .running ∧ d.power.avsFault = false ∧ d.power.paceAvs = none) ∧
    (Met fun _ d => ∃ n : Nat, d.power.paceAvs = some n ∧ d.power.boot = .running ∧ d.power.avsFault = false ∧ n < 1000) ∧
    (Met fun _ d => ∃ n : Nat, d.power.paceAvs = some n ∧ d.power.boot = .running ∧ d.power.avsFault = false ∧ 1000 ≤ n ∧
      n < d.power.target) ∧
    (Met fun _ d => ∃ n : Nat, d.power.paceAvs = some n ∧ d.power.boot = .running ∧ d.power.avsFault = false ∧ 1000 ≤ n ∧
      104 * d.power.target < 100 * n ∧ 9 ≤ d.power.paceHigh) ∧
    (Met fun _ d => d.power.boot = .running ∧ d.power.avsFault = false ∧ d.power.avsBad < 2) ∧
    (Met fun _ d => d.power.boot = .running ∧ d.power.avsFault = false ∧ 2 ≤ d.power.avsBad) ∧
    (Met fun _ d => d.power.avsFault = true) ∧
    (Met fun _ d => d.power.avsFault = true) ∧
    (Met fun _ d => ∃ u : Nat, d.power.boot = .running ∧ populated.contains u = true ∧ unitOff d u = false ∧
      (unitOf d u).isolated = false ∧ (unitOf d u).recovering = false ∧ recentStalls d (unitOf d u) = []) ∧
    (Met fun _ d => ∃ (u a b : Nat) (l : List Nat), d.power.boot = .running ∧ populated.contains u = true ∧
      unitOff d u = false ∧ (u < 0x310 ∨ 0x317 < u) ∧ (unitOf d u).isolated = false ∧ (unitOf d u).recovering = false ∧
      recentStalls d (unitOf d u) = a :: b :: l) ∧
    (Met fun _ d => ∃ u : Nat, (unitOf d u).recovering = true) ∧
    (Met fun _ d => ∃ (x : Entering) (t : Ticket), d.power.entering = some x ∧ x.ticket = some t ∧ d.aux = [] ∧ ((∀ o,
      o < 8 → (outOf d o).enabled = true → activeDone (outOf d o) = true))) ∧
    (Met fun _ d => d.aux ≠ []) ∧
    (Met fun _ d => d.power.entering = none) :=
  ⟨met dev1 ⟨7, by decide +kernel⟩,
    met (updPower (fun p => { p with pendOn := [(true, 12)] }) dev1) ⟨true, 12, by decide +kernel⟩,
    met dev1 ⟨List.replicate 12 0, by decide +kernel⟩,
    met dev1 (by decide +kernel),
    met dev1 (by decide +kernel),
    met (updPower (fun p => { p with paceAvs := some 999 }) dev1) ⟨_, (Option.some_get (by decide +kernel)).symm,
      by decide +kernel⟩,
    met (updPower (fun p => { p with paceAvs := some 1000, target := 1001 }) dev1) ⟨_,
      (Option.some_get (by decide +kernel)).symm, by decide +kernel⟩,
    met (updPower (fun p => { p with paceAvs := some 1041, target := 1000, paceHigh := 9 }) dev1) ⟨_,
      (Option.some_get (by decide +kernel)).symm, by decide +kernel⟩,
    met (updPower (fun p => { p with avsBad := 1 }) dev1) (by decide +kernel),
    met (updPower (fun p => { p with avsBad := 2 }) dev1) (by decide +kernel),
    met (updPower (fun p => { p with avsFault := true }) dev1) (by decide +kernel),
    met (updPower (fun p => { p with avsFault := true }) dev1) (by decide +kernel),
    met dev1 ⟨0x904, by decide +kernel⟩,
    met (updTide (fun t => { t with now := 65536 * 1000000001 }) (updPower (fun p => { p with
      units := [(0x904, { UnitRec.zero with recent := [3, 2, 1] })] }) dev1)) ⟨0x904, 3, 2, [], by decide +kernel⟩,
    met (updPower (fun p => { p with units := [(0x904, { UnitRec.zero with recovering := true })] }) dev1) ⟨0x904,
      by decide +kernel⟩,
    met (updPower (fun p => { p with entering := some { target := .off, ticket := some (tick 0 .powerState) } }) dev1) ⟨{
      target := .off, ticket := some (tick 0 .powerState) }, tick 0 .powerState, by decide +kernel⟩,
    met { dev1 with aux := [aux1 0 []] } (by decide +kernel),
    met dev1 (by decide +kernel)⟩

end Sys2Proof.Machine
end

