-- ==== Sys2Proof/Tests/General.lean ====
section
/-! SUPPORT. Devices that meet the hypotheses of the statements on the whole machine. -/

namespace Sys2Proof.Machine
open Sys2Proof
set_option Elab.async false

theorem test_meets_stepRunsTheFrontCommand :
    (∃ s : State, s.pending = []) ∧
    (∃ t : Tide, t.rate = 0 ∧ t.slew = 0 ∧ 0 ≤ t.resid ∧ t.resid < 100000000000) :=
  ⟨⟨State.reset, rfl⟩,
    ⟨{ Tide.zero with resid := 99999999999 }, by decide +kernel, by decide +kernel, by decide +kernel, by decide +kernel⟩⟩

theorem test_meets_fusesStayLegalAndOnlyGain :
    ∃ s t : State, s.fuses.Legal ∧ step s = .next t :=
  ⟨{ on dev1 with
      fuses := { Fuses.zero with ownerKey := some (List.replicate 48 0), rollback := 63 },
      pending := [.antiRollbackAdvance] }, _, ⟨by decide +kernel, fun h e => (by cases e; rfl), fun h => (nomatch h),
      fun h => (nomatch h)⟩, rfl⟩

theorem test_meets_memoriesKeepTheirForm :
    ∃ s t : State, s.dev.MemoriesWf ∧ step s = .next t :=
  ⟨{ on { dev1 with panMem := [(0, 1), (4095, 255)] } with
      pending := [.hostWindowAccess .manager true 4095 1 (some [0]) ⟨.clear, []⟩] }, _, ⟨by decide +kernel,
      by decide +kernel, by decide +kernel, by decide +kernel⟩, rfl⟩

theorem test_meets_failedCommandsChangeNothing :
    (∃ s : State, enginesRun s.dev = false) ∧
    (∃ (op : Op) (c : Cmd) (s : State), enginesRun s.dev = true ∧ pageState (takenDev op c s) c.issuer ≠ .active) ∧
    (∃ (op : Op) (c : Cmd) (s : State) (d : Dev) (st : Status) (n : Nat), enginesRun s.dev = true ∧
      pageState (takenDev op c s) c.issuer = .active ∧ validate op c (takenDev op c s) = (d, .error (st, n)) ∧
      op ≠ .commit ∧ op ≠ .prepare) :=
  ⟨⟨State.reset, by decide +kernel⟩,
    ⟨.nop, ic 511 .nop [], on (withInst 511 { inst1 with state := .quiesced } dev1), by decide +kernel, by decide +kernel⟩,
    ⟨.layerPlace, mg .layerPlace [(24, 127), (26, 1024)], on dev1, _, .outOfRange, 26, by decide +kernel,
      by decide +kernel, rfl, by decide +kernel, by decide +kernel⟩⟩

theorem test_meets_stagedCommandsJoinTheirTransaction :
    ∃ (op : Op) (c : Cmd) (s : State) (d : Dev) (b : List Byte) (x : Txn), enginesRun s.dev = true ∧
      pageState (takenDev op c s) c.issuer = .active ∧ validate op c (takenDev op c s) = (d, .ok b) ∧ c.inTxn = true ∧
      namedTxn d c = some x :=
  ⟨.layerBlend, { mg .layerBlend [(24, 127)] with pkt := { pkt .layerBlend [(24, 127)] with flags := 4, handle := 9 } },
      on (withTxn [txn9 .openT] (withLayer 127 (newLayer 7 5 .manager) dev1)), _, [], _, by decide +kernel,
      by decide +kernel, rfl, by decide +kernel, (Option.some_get (by decide +kernel)).symm⟩

theorem test_meets_layerCommandsNeedTheirLayer :
    (∃ (op : Op) (c : Cmd) (s : State) (d : Dev) (b : List Byte), op ∈ [Op.layerDestroy, .layerSource, .layerPlace,
      .layerBlend, .layerEnable, .layerRate, .layerPalette, .layerClick, .layerQuery] ∧ Accepted op c s d b) ∧
    (∃ (c : Cmd) (s : State) (d : Dev) (b : List Byte) (n : Nat), Accepted .layerQuery c s d b ∧ c.issuer = .inst n) :=
  ⟨⟨.layerQuery, mg .layerQuery [(24, 127)], on (withLayer 127 (newLayer 7 5 .manager) dev1), _, _, by decide +kernel,
      accepted_of _ _ _ (by decide +kernel)⟩,
    ⟨ic 511 .layerQuery [(24, 127)], on (withInst 511 inst1 (withLayer 127 (newLayer 7 5 (.inst 511)) dev1)), _, _, 511,
      accepted_of _ _ _ (by decide +kernel), rfl⟩⟩

theorem test_meets_repliesReachTheirRing :
    ∃ (t : Ticket) (d : Dev) (q : SubQueue) (a : Nat) (ro : Bool), t.orphan = false ∧
      queueOf (pageOf d (pageKey t.issuer)) (b2n t.urgent) = q ∧ q.running = true ∧ q.rloc = false ∧
      locFail d t.issuer false true (q.rqBase.toNat + q.rqTail * 32) 32 = none ∧
      mapByte d t.issuer false (q.rqBase.toNat + q.rqTail * 32) = .ok (a, ro) ∧
      (q.rqBase.toNat + q.rqTail * 32) % 2097152 ≤ 2097120 ∧ Memory.wf d.dramMem :=
  ⟨tick 0 .nop, withPage 512 { Page.zero with
      q0 := { q16 with loc := false, rloc := false, rqTail := 15, rqBase := 2097152 - 512 } } dev1, _, 2097120, false,
      by decide +kernel, rfl, by decide +kernel, by decide +kernel, by decide +kernel, by decide +kernel,
      by decide +kernel, by decide +kernel⟩

theorem test_meets_eventsReachTheirQueue :
    (∃ (k : Nat) (e : Event) (d : Dev), (pageOf d k).eventMask.getLsbD (e.code / 256) = false) ∧
    (∃ (k : Nat) (e : Event) (d : Dev), (pageOf d k).eventMask.getLsbD (e.code / 256) = true ∧
      ((pageOf d k).eq.running = false ∨ ((pageOf d k).eq.tail + 1) % (pageOf d k).eq.depth = (pageOf d k).eq.head)) ∧
    (∃ (k : Nat) (e : Event) (d : Dev) (a : Nat) (ro : Bool), (pageOf d k).eventMask.getLsbD (e.code / 256) = true ∧
      (pageOf d k).eq.running = true ∧ ((pageOf d k).eq.tail + 1) % (pageOf d k).eq.depth ≠ (pageOf d k).eq.head ∧
      (pageOf d k).eq.loc = false ∧ locFail d (issuerOfKey k) false true ((pageOf d k).eq.base.toNat + (pageOf d
      k).eq.tail * 32) 32 = none ∧ mapByte d (issuerOfKey k) false ((pageOf d k).eq.base.toNat + (pageOf d k).eq.tail *
      32) = .ok (a, ro) ∧ ((pageOf d k).eq.base.toNat + (pageOf d k).eq.tail * 32) % 2097152 ≤ 2097120 ∧
      Memory.wf d.dramMem) :=
  ⟨⟨512, { code := 0x0100, shared := true, subject := 0, stamp := 0, payload := [] },
      withPage 512 { Page.zero with eventMask := 0 } dev1, by decide +kernel⟩,
    ⟨512, { code := 0x0D02, shared := true, subject := 0, stamp := 0, payload := [] }, dev1, by decide +kernel⟩,
    ⟨512, { code := 0x0D02, shared := true, subject := 0, stamp := 0, payload := [] },
      withPage 512 { Page.zero with eq := { e16 with loc := false, base := 2097152 - 512, tail := 15, head := 5 } } dev1,
      2097120, false, by decide +kernel⟩⟩

theorem test_meets_newLayerTakesNoPart :
    (Landed .layerCreate fun _ _ _ _ => True) ∧
    (∃ l : Layer, (l.src = none ∨ l.crop.w = 0 ∨ l.crop.h = 0 ∨ l.dst.w = 0 ∨ l.dst.h = 0)) ∧
    (∃ fl : FrameLayer, fl.clips = []) ∧
    (∃ (d : Dev) (o : Nat) (fl : FrameLayer), fl ∈ frameLayers d o ∧
      (fl.layer.src = none ∨ fl.layer.crop.w = 0 ∨ fl.layer.crop.h = 0 ∨ fl.layer.dst.w = 0 ∨ fl.layer.dst.h = 0)) :=
  ⟨landed .layerCreate (mg .layerCreate [(24, 7), (26, 1023)]) dev1 (by decide +kernel) trivial,
    ⟨newLayer 7 5 .manager, by decide +kernel⟩,
    ⟨{ frameLayer1 with clips := [] }, by decide +kernel⟩,
    ⟨withLayer 127 (newLayer 7 5 .manager) dev1, 7,
      (frameLayers (withLayer 127 (newLayer 7 5 .manager) dev1) 7).headD frameLayer1, by decide +kernel⟩⟩

theorem test_meets_panAddressesSelectBankWordByte :
    (∃ a b : Nat, a < 2 ^ 25 ∧ b < 2 ^ 25 ∧ panBank a = panBank b ∧ panWord a = panWord b ∧ a % 8 = b % 8) ∧
    (∃ a b : Nat, a / 4096 = b / 4096) ∧
    (∃ p q : Nat, p < q ∧ q < p + 64) :=
  ⟨⟨2 ^ 25 - 1, 2 ^ 25 - 1, by decide +kernel⟩,
    ⟨4095, 0, by decide +kernel⟩,
    ⟨0, 63, by decide +kernel⟩⟩

theorem test_meets_bandsOfAnOutput :
    (∃ (m : Mode) (b : Nat), 8 * b < m.vActive) ∧
    (∃ m : Mode, m.hActive = 3840 ∧ m.vActive = 2160) ∧
    (∃ m : Mode, m.hActive = 7680 ∧ m.vActive = 4320) :=
  ⟨⟨mode1, 134, by decide +kernel⟩,
    ⟨{ mode1 with hActive := 3840, vActive := 2160 }, by decide +kernel⟩,
    ⟨{ mode1 with hActive := 7680, vActive := 4320 }, by decide +kernel⟩⟩

theorem test_meets_windowFaultsReadOnesAndDropWrites :
    (Met fun _ d => ∃ (k : Nat) (p : Bool) (o n : Nat) (x : MemFail), hostReaches d (portOfIssuer d (.inst k)) = true ∧
      d.power.boot = .running ∧ (instOf d k).exists_ = true ∧ 0 < n ∧ o % 4096 + n ≤ 4096 ∧
      (o < (if p then panBytes else bar2Bytes d (portOfIssuer d (.inst k)))) ∧ mapByte d (.inst k) p o = .error x) ∧
    (Met fun _ d => ∃ (k : Nat) (p : Bool) (o n : Nat) (b : List Byte) (x : MemFail),
      hostReaches d (portOfIssuer d (.inst k)) = true ∧ d.power.boot = .running ∧ (instOf d k).exists_ = true ∧ 0 < n ∧
      o % 4096 + n ≤ 4096 ∧ (o < (if p then panBytes else bar2Bytes d (portOfIssuer d (.inst k)))) ∧ b.length = n ∧
      mapByte d (.inst k) p o = .error x) ∧
    (Met fun _ d => ∃ (k : Nat) (p : Bool) (o n : Nat) (b : List Byte) (a : Nat),
      hostReaches d (portOfIssuer d (.inst k)) = true ∧ d.power.boot = .running ∧ (instOf d k).exists_ = true ∧ 0 < n ∧
      o % 4096 + n ≤ 4096 ∧ (o < (if p then panBytes else bar2Bytes d (portOfIssuer d (.inst k)))) ∧ b.length = n ∧
      mapByte d (.inst k) p o = .ok (a, true)) :=
  ⟨met (withInst 511 inst1 dev1) ⟨511, true, 33550336, 4096, .fault, by decide +kernel⟩,
    met (withInst 511 inst1 dev1) ⟨511, true, 33554431, 1, [1], .fault, by decide +kernel⟩,
    met (withInst 511 { inst1 with pan := [(8191, some (5, true))] } dev1) ⟨511, true, 33554431, 1, [1], 5 * 4096 + 4095,
      by decide +kernel⟩⟩

theorem test_meets_managerWindowsBoundedAndSecure :
    (Met fun _ d => ∃ o n : Nat, hostReaches d 0 = true ∧ d.power.boot = .running ∧ 0 < n ∧ o % 4096 + n ≤ 4096 ∧
      o < 2 ^ 36 ∧ dramCapacity d.dram ≤ o) ∧
    (Met fun _ d => ∃ (o n : Nat) (b : List Byte), hostReaches d 0 = true ∧ d.power.boot = .running ∧ 0 < n ∧
      o % 4096 + n ≤ 4096 ∧ o < 2 ^ 36 ∧ b.length = n ∧ dramCapacity d.dram ≤ o) ∧
    (Met fun _ d => ∃ o n : Nat, hostReaches d 0 = true ∧ d.power.boot = .running ∧ 0 < n ∧ o % 4096 + n ≤ 4096 ∧
      o < panBytes ∧ securePage d (o / 4096) = true) ∧
    (Met fun _ d => ∃ (o n : Nat) (b : List Byte), hostReaches d 0 = true ∧ d.power.boot = .running ∧ 0 < n ∧
      o % 4096 + n ≤ 4096 ∧ o < panBytes ∧ b.length = n ∧ securePage d (o / 4096) = true) ∧
    (Met fun _ d => ∃ o n : Nat, hostReaches d 0 = true ∧ d.power.boot = .running ∧ 0 < n ∧ o % 4096 + n ≤ 4096 ∧
      o < dramCapacity d.dram ∧ dramCapacity d.dram ≤ 2 ^ 36 ∧ isFenced d.dram (decodeAddr d.dram o).channel = true) ∧
    (Met fun _ d => d.power.boot ≠ .awaitPush) :=
  ⟨met dev1 ⟨dramCapacity dram1, 4096, by decide +kernel⟩,
    met dev1 ⟨2 ^ 36 - 1, 1, [1], by decide +kernel⟩,
    met dev1 ⟨33554431, 1, by decide +kernel⟩,
    met dev1 ⟨8176 * 4096, 1, [1], by decide +kernel⟩,
    met (updDram (fun m => { m with channels := List.replicate 8 Channel.zero }) dev1) ⟨0, 4096, by decide +kernel⟩,
    met dev1 (by decide +kernel)⟩

theorem test_meets_masterIsLowestAndParentNearest :
    Met fun _ d => d.tide.electing = true ∧ d.tide.source = 2 :=
  met (updTide (fun t => { t with electing := true, source := 2 }) dev1) (by decide +kernel)

theorem test_meets_lockedFramesFollowTheGrid :
    Met fun _ d => ∃ (o : Nat) (m : Mode) (k : Nat) (g : Group), o < d.outputs.length ∧ (outOf d o).mode = some m ∧
      frameMayStart d o = true ∧ lockOf d o = some (k, g) :=
  met (updTide (fun t => { t with groups := [(63, some { Group.zero with t0 := 5, period := 65536000000 })] }) (updOut 7
      (fun x => { scan x with
      cutDone := true, nextLine := 1080, link := { x.link with pllLock := true }, group := some 63 }) dev1)) ⟨7, mode1,
      63, { Group.zero with t0 := 5, period := 65536000000 }, by decide +kernel⟩

theorem test_meets_changingCommandsAreSequenced :
    ∃ (op : Op) (c : Cmd) (s : State) (d : Dev) (b : List Byte) (ch : Change), Accepted op c s d b ∧ d.txns = [] ∧
      prepareChanges (ownTxn op c s d b) { d with nextTxn := d.nextTxn + 1, txns := [ownTxn op c s d b] } = .ok [ch] ∧
      (opKind op = .d ∨ opKind op = .n) :=
  ⟨.layerPlace, mg .layerPlace [(24, 127), (26, 1023)], on (withLayer 127 (newLayer 7 5 .manager) dev1), _, _, _,
      accepted_of _ _ _ (by decide +kernel), by decide +kernel, (lands_of .layerPlace _ _ (by decide +kernel)).ready,
      by decide +kernel⟩

theorem test_meets_readingCommandsAnswer :
    ∃ (op : Op) (c : Cmd) (s : State) (d e : Dev) (b res : List Byte), Accepted op c s d b ∧
      (opSpec op).read s.fuses d c = (e, .ok res) ∧ (opSpec op).step10 d c = none ∧ opKind op = .r :=
  ⟨.layerQuery, mg .layerQuery [(24, 127), (26, 3)], on (withLayer 127 (newLayer 7 5 .manager) dev1), _, _, _, _,
      accepted_of _ _ _ (by decide +kernel), rfl, by decide +kernel⟩

theorem test_meets_jobCommandsStart :
    ∃ (op : Op) (c : Cmd) (s : State) (d : Dev) (b : List Byte), Accepted op c s d b ∧ opKind op = .j :=
  ⟨.powerState, mg .powerState [(24, 1)], on dev1, _, _, accepted_of _ _ _ (by decide +kernel), by decide +kernel⟩

end Sys2Proof.Machine
end

