-- ==== Sys2Proof/Tests/Slice0.lean ====
section
/-! SUPPORT. The model's own tests: ill-formed terms that WellFormed refuses, and the spec's worked examples. -/

namespace Sys2Proof.Machine
open Sys2Proof
set_option Elab.async false

/-! ## WellFormed refuses one ill-formed term for each of its checks -/

/-- Whether every term of a list is refused. -/
def ill (l : List Instr) : Bool := l.all (!·.wf)

theorem test_wf_senders : ill [.nop (ic 512 .nop []), .tideLoRead (.inst 512), .queueEnable .manager 3 0,
    .queueDisable (.inst 512) 0, .sqTailDoorbell .manager 2 0, .rqHeadDoorbell .manager 2 0, .eqHeadDoorbell (.inst 512) 0,
    .engineTakeEntry (.inst 512) true, .queueDrainEnd .manager 2, .irqModIntervalEnd .manager 1] = true := by decide
theorem test_wf_registers : ill [.registerWrite (.page (.inst 512)) ⟨0, 4⟩ 0, .registerWrite .bar0 ⟨0, 3⟩ 0, .resultLoRead ⟨true, 16⟩,
    .valueLoRead 8 0 ⟨false, 0⟩, .valueLoRead 0 16 ⟨false, 0⟩, .valueLoRead 0 0 ⟨true, 4⟩, .hwPosLoRead true 16, .hwPosLoRead false 64,
    .guardCommitWrite 8, .supRead 0 0 65, .supRead 0 0 0] = true := by decide
theorem test_wf_secure : ill [.secureClassChange 128 true, .secureHapticPlay 8 1 1 0, .audioSeize 65536 true,
    .panTestControl (.start 8192 0 0), .panTestControl (.pace (2 ^ 32)), .secureAudioControl (.hold 65536 true),
    .lifecycleAdvance (.ownerKey (List.replicate 47 0))] = true := by decide
theorem test_wf_strings : ill [.gateResponse 0 [] (List.replicate 48 0), .gateResponse 0 (List.replicate 48 0) [],
    .gatePassword (List.replicate 7 0), .gatePassword (List.replicate 65 0), .cvCountWrite 0 [(33554432, [0])],
    .s2nDoorbellWrite 0 [(33554432, [0])]] = true := by decide +kernel
theorem test_wf_hostAccess : ill [.hostWindowAccess .manager false 0 0 none ⟨.clear, []⟩,
    .hostWindowAccess .manager false 0 4097 none ⟨.clear, []⟩, .hostWindowAccess (.inst 512) false 0 1 none ⟨.clear, []⟩,
    .hostWindowAccess .manager false 0 2 (some [1]) ⟨.clear, []⟩, .hostWindowAccess .manager true 0 1 none ⟨.clear, [7]⟩,
    .vfFlr 512, .pcieConfigRequest 2 .read, .pcieConfigRequest 0 (.msixEnable (.inst 512) true)] = true := by decide
theorem test_wf_display : ill [.outputCut 8, .outputFrameStart 8, .guardLatch 8, .scanoutLineStart 8 ⟨[], []⟩,
    .scanoutLineStart 0 ⟨[128], []⟩, .scanoutLineStart 0 ⟨[], [(64, 0)]⟩, .monitorResultComplete 0 16, .bandReady 8 0,
    .pipeTakesBand 8, .bandDeadline 0 0 0 [128], .layerFetchFault 0 0 128 0 0, .bandComplete 8, .bandWriteCutoff 8 0 0,
    .configRetire 8, .partitionZeroed 8, .bandFetchStart 8 0 0] = true := by decide
theorem test_wf_links : ill [.dpPllLocked 8, .hpdRise 8, .hpdUnplug 8, .hpdLowEnd 0 0 (List.replicate 17 0) false 0,
    .capabilityReadDone 8 none, .auxTransactionEnd 0 (.ack 17 []), .auxTransactionEnd 0 (.ack 0 (List.replicate 17 0)),
    .auxReplyTimeout 8, .trainPhaseEnd 0 ⟨2, true⟩, .trainSequenceTimeout 8, .dpPllRelock 8, .pllRelockTimeout 8,
    .dpAudioOff 8] = true := by decide
theorem test_wf_sense : ill [.tpIrqAssert 8, .touchReportArrival 8 ⟨true, false, true, true, []⟩, .touchTransferTimeout 8,
    .touchBringupStepDone 8 .done, .touchResetTimeout 8, .touchStuckTimeout 8 0, .touchStuckTimeout 7 32, .hapTrigEdge 8 true,
    .hapticSegmentEnd 8, .hapticOvercurrent 8, .hapticHardCurrent 8, .hvddLow 4, .hapticSupplyRecover (some 4),
    .hapticLimit 8 true, .hapticRestEnd 8, .silenceHoldExpiry 65536, .tdmPortOff 4, .tdmClockLost 4, .tdmClockRestored 4,
    .audioStreamFault true 16 .fault, .audioStreamFault false 64 .fault] = true := by decide
theorem test_wf_memory : ill [.refreshDue 8 0 false, .refreshDue 0 2 false, .dramSlotArbitration [⟨0, 8, 0, 0⟩],
    .dramSlotArbitration [⟨0, 0, 128, 0⟩], .mr4Read [32], .mr4Read (List.replicate 9 0), .dramTrackingDue 8 0,
    .trackingPassEnd 8 true true, .linkEccFail 8, .retrainEnd 8 true, .selfRefreshIdle 8, .selfRefreshExit 8,
    .dramTrainingDone 256, .memRemapped 256 0, .windowUnmapDrained 512, .panBorrowRelease [⟨512, 0, 0⟩],
    .panBorrowRelease [⟨0, 72, 0⟩], .rakeJobEnd 16 0] = true := by decide
theorem test_wf_power : ill [.domainSwitchedOn false 12, .domainSwitchedOn true 13, .thermalSample (List.replicate 13 0),
    .stallSentinelExpiry 0 65536, .quiesceComplete 512, .resetComplete 512, .perstAssert 2, .perstRelease 2,
    .resetNRelease 4 [] [], .pinGlitchDiscard 28, .tidePpsEdge (10 ^ 9)] = true := by decide
theorem test_wf_oxtas : ill [.oxSignalDetect 4, .oxBringupStageDone ⟨0, 0⟩ 16384 0 0, .oxBringupStageDone ⟨0, 0⟩ 0 65536 0,
    .oxBringupStageDone ⟨0, 0⟩ 0 0 256, .oxBringupLimit 4, .oxLinkDown 4 0, .oxDownHoldEnd 4, .oxSyncReceived 0 16384 0 0 0,
    .oxSyncReceived 0 0 0 256 0, .oxAnnounceReceived 0 16384 0 ⟨0, true⟩, .oxDelayMeasure 0 (2 ^ 80) 0 0 0,
    .oxEventReceived 0 16384 0 0 0 [], .oxEventReceived 0 0 0 0 256 [], .oxEventReceived 0 0 0 0 0 (List.replicate 33 0),
    .oxCommitReceived 4 ⟨0, 0, 0, false, 0⟩, .oxLockReceived 0 256 (.busy 0 0), .oxStreamFrameReceived 0 16 0 0 0 [],
    .streamLost true 16] = true := by decide

/-! ## Worked examples of the spec -/

/-- Chapter 3: the COMMIT with a passed instant, byte by byte. -/
theorem test_commit_packet :
    let p := packetOf ([0x03, 0x02, 0x09, 0x00, 0x34, 0x12, 0, 0, 0xC3, 0xA1, 0x02, 0, 0, 0, 0, 0, 0x00, 0xF2, 0x05, 0x2A,
      0x01, 0, 0, 0] ++ List.replicate 40 0)
    p.flags = 0x09 ∧ p.len = 0 ∧ p.tag = 0x1234 ∧ p.handle = 0x2A1C3 ∧ p.instant = 5000000000 := by decide +kernel

/-- Chapter 2: one measurement of a delay of 150 ns, in units of 1/8 ns. -/
theorem test_delay_example :
    (match execOxDelayMeasure 3 4000000000 4000000749 4000004749 4000005200
        (on (updTide (fun t => { t with ports := modifyAt (fun x => { x with state := .up }) 3 t.ports }) dev0)) with
      | .next s => (oxPortOf s.dev 3).delays
      | _ => []) = [1200] := by decide +kernel

/-- CRC-32 as R313 lists it. -/
def crc32 : CvCfg := { width := 32, poly := 0x04C11DB7, init := 0xFFFFFFFF, xorout := 0xFFFFFFFF, refin := true, refout := true }

/-- Chapter 10: CRC-32 over zero, four and eight bytes after the fold block. -/
theorem test_rake_example :
    cvValue crc32 (rakeFold 0x10000 1 7) = 0x20C99204 ∧
    cvValue crc32 (rakeFold 0x10000 1 7 ++ [0, 1, 2, 3]) = 0xDB1A3115 ∧
    cvValue crc32 (rakeFold 0x10000 1 7 ++ [0, 1, 2, 3, 4, 5, 6, 7]) = 0x83916108 := by decide +kernel

/-- Chapter 10: the fold block of a watched total. -/
theorem test_monitor_fold : monFold 3 10 123456 { x := 1200, y := 900, w := 320, h := 64 } =
    [0x03, 0x0A, 0, 0, 0x40, 0xE2, 0x01, 0, 0xB0, 0x04, 0x84, 0x03, 0x40, 0x01, 0x40, 0x00] := by decide +kernel

/-- Chapter 11: contact A through the default calibration, in 1/16 pixel. -/
theorem test_touch_example :
    mapTouch [30720, 0, 0, 0, 17280, 0, 0, 0, 65536] 2560 3000 = some (16 * 1200, 16 * 791) := by decide +kernel

/-- Chapter 6: the step of a 2:1 reduction. -/
theorem test_scaler_step : scalerStep 3840 1920 = 0x200000 := by decide

/-- R195: the SINC weights at phase 16, worked out by hand from the kernel's formula. -/
theorem test_sinc_phase16 :
    (List.range 8).map (coefOf false (.builtin 1) 16) = [-15, 57, -156, 914, 290, -94, 32, -4] := by decide +kernel

/-- Chapter 13: the voice comes in at 0.02454 with the first sample of its fade, whichever neighbour is taken. -/
theorem test_fade_example : ∀ up : Bool, |grid32 up (sinPi (1 / 128)) - 2454 / 100000| < 1 / 200000 := by
  decide +kernel

/-- R390: 6 dB less is a factor just above one half, whichever neighbour is taken. -/
theorem test_gain_example : ∀ up : Bool, |gain32 up (-1536) - 5011872 / 10000000| < 1 / 10000000 := by
  decide +kernel

/-- Chapter 9: the candidates of 3,840 × 2,160 at 144 Hz and 10 bpc, for a sink of UHBR20 on four lanes. -/
theorem test_train_candidates :
    candidatesOf { Link.zero with capsRead := true, sink128 := true, sinkRate := 7, sinkLanes := 4 }
      { mode1 with rate := 0, lanes := 0, bpc10 := true, clock := 1254275 } = [(7, 4), (6, 4), (5, 4), (7, 2)] := by
  decide +kernel

/-- Chapter 12: power factors while the click's overdrive half cycle is planned, in mW: 1,910 too many. -/
theorem test_rescale_example :
    rescale [(0, 500), (0, 500), (0, 1410), (5, 500), (5, 500), (5, 500), (5, 500)] 2500 =
      [1 - 410 / 2410, 1, 1, 1, 1, 1 / 4, 1, 1] := by decide +kernel

/-- Chapter 15: the bank and the word of pan address 0x420010. -/
theorem test_pan_example : panBank 0x420010 = 32 ∧ panWord 0x420010 = 8194 := by decide

/-- Chapter 16: engine fractions of eight instances of weight 64 and sixteen of weight 16. -/
theorem test_share_example :
    fillShares 25 16 ((List.range 8).map (fun n => (n, 64)) ++ (List.range 16).map fun n => (n + 8, 16)) =
      (List.range 8).map (fun n => (n, (1 : Rat))) ++ (List.range 16).map fun n => (n + 8, (1 / 2 : Rat)) := by
  decide +kernel

/-- The host's decoding interface: the opcode table gives its rows no bits (log 1). -/
theorem test_decode_none : decodeTableWord 16 0x0101 = none := by decide

end Sys2Proof.Machine
end

section
/-! Register accesses (R13, R15, R43, R83, R319, R419, R517, R574 to R587): what a write by each agent reaches and does, what a
read of a low word latches and for whom, and the rows of the supervisory port. -/

namespace Sys2Proof.Machine

/-- A row's meaning in the words of the statements: its effect on the device, then the step's events (R102). -/
theorem onDev_eq (f : Fuses → Dev → Dev) (s : State) : onDev f s = .next (s.after (f s.fuses s.dev)) := rfl

/-! ## Register writes -/

/-- The agents whose accesses are held to R13's width and alignment; the supervisory port writes words. -/
def onBus : Agent → Bool
  | .page _ | .bar0 | .secureCtl => true
  | .supOpen | .supSecure => false

/-- Whether an agent's accesses reach the device. -/
def agentReaches (d : Dev) : Agent → Bool
  | .page i => pageReached d i
  | .bar0 => hostReaches d 0
  | .secureCtl => secUp d
  | .supOpen | .supSecure => supAlive d

/-- What an agent's write to an address does once it reaches the device. -/
def agentWrite (a : Nat) (v : U32) : Agent → Dev → Dev
  | .page i => pageWrite i a v
  | .bar0 => bar0Write false a v
  | .secureCtl => bar0Write true a v
  | .supOpen => openWrite a v
  | .supSecure => secureWrite a v

theorem wordAccess_four {a : Nat} (h : a % 4 = 0) : wordAccess a 4 = true := by simp [wordAccess, h]

theorem wordAccess_eq_false {a n : Nat} (h : n ≠ 4 ∨ a % 4 ≠ 0) : wordAccess a n = false := by
  simpa [wordAccess, or_iff_not_imp_left] using h

theorem onBus_of_eq {g : Agent} (h : g = .bar0 ∨ g = .secureCtl ∨ ∃ i, g = .page i) : onBus g = true := by
  obtain rfl | rfl | ⟨i, rfl⟩ := h <;> rfl

/-- REGISTER_WRITE, for every agent: R13's check on the bus, then whether the access reaches the device, then the write. -/
theorem exec_registerWrite (g : Agent) (r : RegAccess) (v : U32) (s : State) :
    exec (.registerWrite g r v) s = .next (s.after (
      if onBus g && !wordAccess r.addr r.width then s.dev
      else if agentReaches s.dev g then agentWrite r.addr v g s.dev else s.dev)) := by
  cases g <;> rfl

theorem exec_registerWrite_misshapen {g : Agent} {r : RegAccess} {s : State} (v : U32) (hg : onBus g = true)
    (hr : wordAccess r.addr r.width = false) : exec (.registerWrite g r v) s = .next (s.after s.dev) := by
  rw [exec_registerWrite, if_pos (by simp [hg, hr])]

theorem exec_registerWrite_word {g : Agent} {a : Nat} {s : State} (v : U32) (hg : agentReaches s.dev g = true)
    (ha : a % 4 = 0) : exec (.registerWrite g ⟨a, 4⟩ v) s = .next (s.after (agentWrite a v g s.dev)) := by
  rw [exec_registerWrite, if_neg (by simp [wordAccess_four ha]), if_pos hg]

theorem exec_registerWrite_sup {g : Agent} {s : State} (r : RegAccess) (v : U32) (hg : onBus g = false)
    (hs : agentReaches s.dev g = true) :
    exec (.registerWrite g r v) s = .next (s.after (agentWrite r.addr v g s.dev)) := by
  rw [exec_registerWrite, if_neg (by simp [hg]), if_pos hs]

/-- EVENT_MASK (R83): bit 1 stays set, and bits 31 to 17 and 0 stay clear. -/
theorem pageWrite_eventMask (i : Issuer) (v : U32) (d : Dev) :
    pageWrite i 0x0008 v d = updPage (pageKey i) (fun p => { p with eventMask := (v &&& 0x0001FFFE) ||| 2 }) d := rfl

/-- ERR (R83) clears where 1 is written. -/
theorem pageWrite_err (i : Issuer) (v : U32) (d : Dev) :
    pageWrite i 0x0004 v d = updPage (pageKey i) (fun p => { p with err := p.err &&& ~~~(v.setWidth 4) }) d := rfl

/-! ## Reads that latch -/

/-- A device on which a host read has just returned `v`. -/
def hostSees (v : U64) (d : Dev) : Dev := { d with out := { d.out with host := some v } }

/-- The condition under which a latching read of a claimable object is answered and latches: the secure controller's while its
firmware runs, any other reader's of an object that is not the secure world's (R316, R517). -/
theorem latchRead_answered {q up : Bool} {w : Option Owner} (h : if q = true then up = true else w ≠ some .secure) :
    (q && !up) = false ∧ (w == some .secure && !q) = false := by
  cases q with
  | true => simpa using h
  | false => simpa using h

/-- What RESULT_LO_READ latches of a unit (R319). -/
def latchResult (x : CvUnit) : CvUnit :=
  { x with
    latchHi := BitVec.ofNat 32 (x.result.toNat / 2 ^ 32), latchDoneLo := BitVec.ofNat 32 x.done,
    latchDoneHi := BitVec.ofNat 32 (x.done / 2 ^ 32) }

theorem exec_resultLoRead_answered {q : Bool} {u : Nat} {s : State}
    (h : if q = true then secUp s.dev = true else (cvOf s.dev u).owner ≠ some .secure) :
    exec (.resultLoRead ⟨q, u⟩) s =
      .next (s.after (updCv u latchResult (hostSees ((nthD 0 8 (cvRecord s.dev q u)).setWidth 64) s.dev))) := by
  obtain ⟨hup, hown⟩ := latchRead_answered h
  show execResultLoRead ⟨q, u⟩ s = _
  simp only [execResultLoRead, onDev_eq, hup, hown, Bool.false_eq_true, if_false]
  rfl

theorem cvRecord_hidden {d : Dev} {u : Nat} (h : (cvOf d u).owner = some .secure) :
    cvRecord d false u = List.replicate 16 0 := by
  simp [cvRecord, h]

theorem exec_resultLoRead_hidden {u : Nat} {s : State} (h : (cvOf s.dev u).owner = some .secure) :
    exec (.resultLoRead ⟨false, u⟩) s = .next (s.after (hostSees 0 s.dev)) := by
  show execResultLoRead ⟨false, u⟩ s = _
  simp only [execResultLoRead, onDev_eq, cvRecord_hidden h, h, Bool.false_and, Bool.false_eq_true, if_false, beq_self_eq_true,
    Bool.not_false, Bool.and_self, if_true]
  rfl

/-- What VALUE_LO_READ of history entry `e` latches of a monitor. -/
def latchValue (e : Nat) (x : Monitor) : Monitor :=
  { x with
    latch := modifyAt (fun _ =>
      (BitVec.ofNat 32 ((nthD .zero e x.history).value.toNat / 2 ^ 32), (nthD .zero e x.history).frame,
        monFlags (nthD .zero e x.history))) e (if x.latch.isEmpty then List.replicate 4 (0, 0, 0) else x.latch) }

theorem exec_valueLoRead_answered {q : Bool} {o m e : Nat} {s : State}
    (h : if q = true then secUp s.dev = true else (monOf s.dev o m).owner ≠ some .secure) (he : e < 4) :
    exec (.valueLoRead o m ⟨q, e⟩) s = .next (s.after (updMon o m (latchValue e)
      (hostSees ((nthD 0 (16 + 4 * e) (monRecord s.dev q o m)).setWidth 64) s.dev))) := by
  obtain ⟨hup, hown⟩ := latchRead_answered h
  show execValueLoRead o m ⟨q, e⟩ s = _
  simp only [execValueLoRead, onDev_eq, hup, hown, Nat.not_le.mpr he, decide_false, Bool.or_false, Bool.false_eq_true, if_false]
  rfl

theorem exec_hwPosLoRead_open {k : Bool} {n : Nat} {s : State} (h : (streamOf s.dev.audio k n).owner ≠ some .secure) :
    exec (.hwPosLoRead k n) s = .next (s.after (
      updStream k n (fun x => { x with latchHi := BitVec.ofNat 32 ((streamOf s.dev.audio k n).hwPos.toNat / 2 ^ 32) })
        (hostSees (BitVec.ofNat 64 ((streamOf s.dev.audio k n).hwPos.toNat % 2 ^ 32)) s.dev))) := by
  show execHwPosLoRead k n s = _
  simp only [execHwPosLoRead, onDev_eq, beq_eq_false_iff_ne.mpr h, Bool.false_eq_true, if_false]
  rfl

/-! ## The supervisory port -/

/-- What SUP_READ shows of a window: `n` words of it from byte address `a` on, wrapping at its end (R576). -/
def windowShown (a : Byte) (n : Nat) (w : List U32) : List U32 :=
  (List.range n).map fun k => nthD 0 ((a.toNat / 4 + k) % 64) w

/-- SUP_READ of a well-formed read command shows the window that its bit 5 names (R574, R585). -/
theorem exec_supRead_shows {c a : Byte} {n : Nat} {s : State} {w : List U32} (hs : supAlive s.dev = true)
    (hrd : c.getLsbD 7 = true) (hlow : c &&& 0x1F = 0)
    (hw : (c.getLsbD 5 = false ∧ w = openWindow s.dev) ∨
      (c.getLsbD 5 = true ∧ windowBound s.dev = true ∧ w = secureWindow s.dev)) :
    exec (.supRead c a n) s =
      .next (s.after { s.dev with out := { s.dev.out with sup := windowShown a n w } }) := by
  show execSupRead c a n s = _
  simp only [execSupRead, onDev_eq, hs, hrd, hlow, bne_self_eq_false, Bool.not_true, Bool.or_self, Bool.false_eq_true, if_false]
  obtain ⟨h5, rfl⟩ | ⟨h5, hb, rfl⟩ := hw
  · simp only [h5, Bool.not_false, if_true, windowShown]
  · simp only [h5, hb, Bool.not_true, Bool.false_eq_true, if_false, if_true, windowShown]

/-- SUP_CS_TIMEOUT always counts one in SUP_ERRORS: the model's reading of R577 and R578 (log 108). -/
theorem exec_supCsTimeout {s : State} (h : supAlive s.dev = true) :
    exec .supCsTimeout s = .next (s.after (supError s.dev)) := by
  show execSupCsTimeout s = _
  simp only [execSupCsTimeout, onDev_eq, h, if_true]

/-- The device as SAFE_HOLD_SET finds it once the hold is on and counted (R581). -/
def holdOn (d : Dev) : Dev := { d with sup := { d.sup with safeHold := true, sets := min 32767 (d.sup.sets + 1) } }

/-- The device as SAFE_HOLD_CLEAR finds it once the hold is off. -/
def holdOff (d : Dev) : Dev := { d with sup := { d.sup with safeHold := false } }

theorem exec_safeHoldSet {s : State} (h : supAlive s.dev = true) (hoff : s.dev.sup.safeHold = false) :
    exec .safeHoldSet s = .next (s.after (safeHoldEvent true
      ((heldOutputs (holdOn s.dev)).foldl (fun d o => stopHarvestOn o 4 (stopComposing o d)) (holdOn s.dev)))) := by
  show execSafeHoldSet s = _
  simp only [execSafeHoldSet, onDev_eq, h, hoff, Bool.not_true, Bool.or_self, Bool.false_eq_true, if_false]
  rfl

theorem exec_safeHoldClear {s : State} (h : supAlive s.dev = true) (hon : s.dev.sup.safeHold = true) :
    exec .safeHoldClear s = .next (s.after (safeHoldEvent false
      ((heldOutputs (holdOff s.dev)).foldl (fun d o => damageAll o d) (holdOff s.dev)))) := by
  show execSafeHoldClear s = _
  simp only [execSafeHoldClear, onDev_eq, h, hon, Bool.not_true, Bool.or_self, Bool.false_eq_true, if_false]
  rfl

theorem exec_supWakeWrite {s : State} (v : U32) (h : s.dev.power.boot = .running) :
    exec (.supWakeWrite v) s = .next (s.after (wakeDevice 5 s.dev)) := by
  show execSupWakeWrite v s = _
  simp only [execSupWakeWrite, onDev_eq, h, beq_self_eq_true, if_true]

theorem exec_inSeqWrite {s : State} (v : U32) (h : supAlive s.dev = true) (hb : windowBound s.dev = true) :
    exec (.inSeqWrite v) s = .next (s.after (updSec (fun x => { x with intStatus := x.intStatus ||| 8 })
      { s.dev with sup := { s.dev.sup with inSeq := v } })) := by
  show execInSeqWrite v s = _
  simp only [execInSeqWrite, onDev_eq, h, hb, Bool.not_true, Bool.false_eq_true, if_false]

/-- Settles O20: a lemma for each kind of access, each at the state's own device. -/
theorem registerAccesses : Obligations.RegisterAccesses := by
  unfold Obligations.RegisterAccesses
  refine ⟨?pageWord, ?misshapen, ?eventMask, ?err, ?bar0, ?secureCtl, ?supOpen, ?supSecure, ?tideNow, ?tidePage, ?result,
    ?resultHidden, ?value, ?hwPos, ?readOpen, ?readSecure, ?timeout, ?holdSet, ?holdClear, ?wake, ?inSeq, ?glitch⟩
  case pageWord => rintro s _ i a v rfl hp ha; exact exec_registerWrite_word (g := .page i) v hp ha
  case misshapen =>
    rintro s _ g a n v rfl hg ha
    exact exec_registerWrite_misshapen v (onBus_of_eq hg) (wordAccess_eq_false ha)
  case eventMask =>
    rintro s _ i v rfl hp
    rw [exec_registerWrite_word (g := .page i) v hp rfl, agentWrite, pageWrite_eventMask]
  case err =>
    rintro s _ i v rfl hp
    rw [exec_registerWrite_word (g := .page i) v hp rfl, agentWrite, pageWrite_err]
  case bar0 => rintro s _ a v rfl hh ha; exact exec_registerWrite_word (g := .bar0) v hh ha
  case secureCtl => rintro s _ a v rfl hu ha; exact exec_registerWrite_word (g := .secureCtl) v hu ha
  case supOpen => rintro s _ a n v rfl hs; exact exec_registerWrite_sup (g := .supOpen) ⟨a, n⟩ v rfl hs
  case supSecure => rintro s _ a n v rfl hs; exact exec_registerWrite_sup (g := .supSecure) ⟨a, n⟩ v rfl hs
  case tideNow => rintro s _ rfl; rfl
  case tidePage => rintro s _ i rfl; rfl
  case result => rintro s _ q u rfl h; exact exec_resultLoRead_answered h
  case resultHidden => rintro s _ u rfl h; exact exec_resultLoRead_hidden h
  case value => rintro s _ q o m e rfl h he; exact exec_valueLoRead_answered h he
  case hwPos => rintro s _ k n rfl h; exact exec_hwPosLoRead_open h
  case readOpen => rintro s _ c a n rfl hs hrd hlow h5; exact exec_supRead_shows hs hrd hlow (.inl ⟨h5, rfl⟩)
  case readSecure => rintro s _ c a n rfl hs hrd hlow h5 hb; exact exec_supRead_shows hs hrd hlow (.inr ⟨h5, hb, rfl⟩)
  case timeout => rintro s _ rfl h; exact exec_supCsTimeout h
  case holdSet => rintro s _ rfl h hoff; exact exec_safeHoldSet h hoff
  case holdClear => rintro s _ rfl h hon; exact exec_safeHoldClear h hon
  case wake => rintro s _ v rfl h; exact exec_supWakeWrite v h
  case inSeq => rintro s _ v rfl h hb; exact exec_inSeqWrite v h hb
  case glitch => rintro s _ g rfl; rfl

end Sys2Proof.Machine
end

section
/-! Chapter 18's events (R27, R539, R545, R546, R561 to R567): waking, a target's return, thermal and Pace samples, AVS steps
and retries, stalls and recoveries, and the switch of the device state. -/

namespace Sys2Proof.Machine

section Rows

variable {s : State}

@[simp] theorem raise_power (code sub pl pg sec) (d : Dev) : (raise code sub pl pg sec d).power = d.power := rfl

/-! ## Waking and switching on -/

theorem exec_wakeEvent {n : Nat} (hn : n ≤ 7) (h6 : n ≠ 6 ∨ instantNear s.dev = true) (h : s.dev.power.boot = .running) :
    exec (.wakeEvent n) s = .next (s.after (wakeDevice n s.dev)) := by
  show execWakeEvent n s = _
  have hnear : (decide (n = 6) && !instantNear s.dev) = false := by
    rcases h6 with h6 | h6 <;> simp [h6]
  simp only [execWakeEvent, onDev_eq, h, hnear, bne_self_eq_false, Nat.not_lt.2 hn, decide_false, Bool.or_self,
    Bool.false_eq_true, if_false]

theorem exec_domainSwitchedOn {b : Bool} {n : Nat} (h : s.dev.power.pendOn.contains (b, n) = true) :
    exec (.domainSwitchedOn b n) s = .next (s.after (targetResumes b n (markTarget b n true s.dev))) := by
  show execDomainSwitchedOn b n s = _
  simp only [execDomainSwitchedOn, onDev_eq, h, Bool.not_true, Bool.false_eq_true, if_false]

/-! ## Temperature and Pace -/

theorem exec_thermalSample {l : List Int} (hb : s.dev.power.boot ≠ .dark) (hl : l.length = 12) :
    ∃ e : Dev, exec (.thermalSample l) s = .next (s.after e) ∧ e.power.temps = l.map (clampInt (-32768) 32767) ∧
      e.power.maxSeen = max s.dev.power.maxSeen (tmax e.power) ∧
      e.power.level = thermalLevel s.dev.power.level (tmax e.power) ∧
      e.power.vceil = thermalCeiling e.power.level (tmax e.power) := by
  show ∃ e : Dev, execThermalSample l s = _ ∧ _
  have hguard : ¬((s.dev.power.boot == .dark || decide (l.length ≠ 12)) = true) := by simp [hb, hl]
  simp only [execThermalSample, onDev_eq, if_neg hguard]
  refine ⟨_, rfl, ?_⟩
  simp only [apply_ite Dev.power, raise_power, ite_self]
  exact ⟨rfl, rfl, rfl, rfl⟩

theorem exec_paceSample (n : Nat) (h : s.dev.power.boot = .running) :
    ∃ e : Dev, exec (.paceSample n) s = .next (s.after e) ∧ e.power.paceNow = min 65535 n ∧
      e.power.paceHist = (min 65535 n :: s.dev.power.paceHist).take 100 ∧ e.power.vcore = s.dev.power.vcore := by
  show ∃ e : Dev, execPaceSample n s = _ ∧ _
  simp only [execPaceSample, onDev_eq, h, bne_self_eq_false, Bool.false_eq_true, if_false]
  refine ⟨_, rfl, ?_⟩
  split
  · exact ⟨rfl, rfl, rfl⟩
  · exact ⟨rfl, rfl, rfl⟩

/-! ## AVS steps (R562, R564) -/

/-- PACE steps in a row above 104 % of the target, once a step has seen the lowest sample `v`. -/
def avsHigh (p : Power) (v : Nat) : Nat := if 104 * p.target < 100 * v then min 10 (p.paceHigh + 1) else 0

/-- VCORE in mV that a clean step asks for, before its limits, having seen the lowest sample `v`. -/
def avsCore (p : Power) (v : Nat) : Nat :=
  if v < 1000 then p.vcore + 20 else if v < p.target then p.vcore + 5
  else if avsHigh p v = 10 then p.vcore - 5 else p.vcore

theorem avsCore_low {p : Power} {v : Nat} (h : v < 1000) : avsCore p v = p.vcore + 20 := if_pos h

theorem avsCore_below_target {p : Power} {v : Nat} (h : 1000 ≤ v) (ht : v < p.target) : avsCore p v = p.vcore + 5 := by
  rw [avsCore, if_neg (Nat.not_lt.2 h), if_pos ht]

theorem avsCore_above_target {p : Power} {v : Nat} (h : 1000 ≤ v) (ht : 104 * p.target < 100 * v) (hh : 9 ≤ p.paceHigh) :
    avsCore p v = p.vcore - 5 := by
  have hten : avsHigh p v = 10 := by rw [avsHigh, if_pos ht]; omega
  rw [avsCore, if_neg (Nat.not_lt.2 h), if_neg (by omega), if_pos hten]

/-- The registers after a clean step that has seen the lowest sample `v`. -/
def avsMoved (v : Nat) (p : Power) : Power :=
  { p with avsBad := 0, paceHigh := avsHigh p v, paceAvs := none, vcore := clampCore p (avsCore p v) }

/-- The registers after a clean step. -/
def avsStepped (p : Power) : Power :=
  match p.paceAvs with
  | none => { p with avsBad := 0 }
  | some v => avsMoved v p

theorem avsStepped_idle {p : Power} (h : p.paceAvs = none) : avsStepped p = { p with avsBad := 0 } := by rw [avsStepped, h]

theorem avsStepped_sampled {p : Power} {v : Nat} (h : p.paceAvs = some v) : avsStepped p = avsMoved v p := by
  rw [avsStepped, h]

theorem updPower_congr {f g : Power → Power} {d : Dev} (h : f d.power = g d.power) : updPower f d = updPower g d :=
  congrArg (fun p => { d with power := p }) h

theorem exec_avsStep_clean (h : s.dev.power.boot = .running) (hf : s.dev.power.avsFault = false) :
    exec (.avsStep true) s = .next (s.after (updPower avsStepped s.dev)) := by
  show execAvsStep true s = _
  simp only [execAvsStep, onDev_eq, h, hf, bne_self_eq_false, Bool.not_true, Bool.or_self, Bool.false_eq_true, if_false]
  rfl

theorem exec_avsStep_idle (h : s.dev.power.boot = .running) (hf : s.dev.power.avsFault = false)
    (hn : s.dev.power.paceAvs = none) :
    exec (.avsStep true) s = .next (s.after (updPower (fun p => { p with avsBad := 0 }) s.dev)) := by
  rw [exec_avsStep_clean h hf, updPower_congr (g := fun p => { p with avsBad := 0 }) (avsStepped_idle hn)]

theorem exec_avsStep_sampled {v : Nat} (h : s.dev.power.boot = .running) (hf : s.dev.power.avsFault = false)
    (hv : s.dev.power.paceAvs = some v) :
    exec (.avsStep true) s = .next (s.after (updPower (avsMoved v) s.dev)) := by
  rw [exec_avsStep_clean h hf, updPower_congr (avsStepped_sampled hv)]

theorem exec_avsStep_failed (h : s.dev.power.boot = .running) (hf : s.dev.power.avsFault = false)
    (hb : s.dev.power.avsBad < 2) :
    exec (.avsStep false) s =
      .next (s.after (updPower (fun p => { p with avsErrors := p.avsErrors + 1, avsBad := p.avsBad + 1 }) s.dev)) := by
  show execAvsStep false s = _
  have hlt : s.dev.power.avsBad + 1 < 3 := by omega
  simp only [execAvsStep, onDev_eq, updPower_power, h, hf, hlt, bne_self_eq_false, Bool.not_false, Bool.or_self,
    Bool.false_eq_true, if_false, if_true]

theorem exec_avsStep_faults (h : s.dev.power.boot = .running) (hf : s.dev.power.avsFault = false)
    (hb : 2 ≤ s.dev.power.avsBad) :
    exec (.avsStep false) s = .next (s.after (avsEvent true
      (updPower (fun p => { p with avsErrors := p.avsErrors + 1, avsBad := p.avsBad + 1, avsFault := true }) s.dev))) := by
  show execAvsStep false s = _
  have hge : ¬ s.dev.power.avsBad + 1 < 3 := by omega
  simp only [execAvsStep, onDev_eq, updPower_power, h, hf, hge, bne_self_eq_false, Bool.not_false, Bool.or_self,
    Bool.false_eq_true, if_false, if_true]
  rfl

theorem exec_avsRetry_clean (hf : s.dev.power.avsFault = true) :
    exec (.avsRetry true) s =
      .next (s.after (avsEvent false (updPower (fun p => { p with avsFault := false, avsBad := 0 }) s.dev))) := by
  show execAvsRetry true s = _
  simp only [execAvsRetry, onDev_eq, hf, Bool.not_true, Bool.false_eq_true, if_false, if_true]

theorem exec_avsRetry_failed (hf : s.dev.power.avsFault = true) :
    exec (.avsRetry false) s = .next (s.after (updPower (fun p => { p with avsErrors := p.avsErrors + 1 }) s.dev)) := by
  show execAvsRetry false s = _
  simp only [execAvsRetry, onDev_eq, hf, Bool.not_true, Bool.false_eq_true, if_false]

/-! ## What a stall ends leaves the units' records, the time and the supervisory port alone -/

/-- The units' records, the tide time, and the supervisory port's state apart from FAULT_SUMMARY, which events set. -/
def Dev.stallView (d : Dev) : Tab UnitRec × Nat × Sup := (d.power.units, d.tide.now, { d.sup with faults := 0 })

theorem unitOf_eq_of_stallView {d e : Dev} (h : d.stallView = e.stallView) (u : Nat) : unitOf d u = unitOf e u :=
  congrArg (fun v : Tab UnitRec × Nat × Sup => tget UnitRec.zero v.1 u) h

theorem nowNs_eq_of_stallView {d e : Dev} (h : d.stallView = e.stallView) : nowNs d = nowNs e :=
  congrArg (fun v : Tab UnitRec × Nat × Sup => v.2.1 / 65536) h

theorem lastUnit_eq_of_stallView {d e : Dev} (h : d.stallView = e.stallView) : d.sup.lastUnit = e.sup.lastUnit :=
  congrArg (fun v : Tab UnitRec × Nat × Sup => v.2.2.lastUnit) h

theorem stalls_eq_of_stallView {d e : Dev} (h : d.stallView = e.stallView) : d.sup.stalls = e.sup.stalls :=
  congrArg (fun v : Tab UnitRec × Nat × Sup => v.2.2.stalls) h

/-- What writes only replies and events leaves the view alone. -/
theorem stallView_eq_of_quiet {d e : Dev} (h : d.quiet = e.quiet) : d.stallView = e.stallView :=
  show d.quiet.stallView = e.quiet.stallView by rw [h]

@[simp] theorem raise_stallView (code sub pl pg sec d) : (raise code sub pl pg sec d).stallView = d.stallView :=
  stallView_eq_of_quiet (raise_quiet ..)
@[simp] theorem finish_stallView (t st det res d) : (finish t st det res d).stallView = d.stallView :=
  stallView_eq_of_quiet (finish_quiet ..)
@[simp] theorem finishAll_stallView (ts st det res d) : (finishAll ts st det res d).stallView = d.stallView :=
  stallView_eq_of_quiet (finishAll_quiet ..)
@[simp] theorem updCv_stallView (u f d) : (updCv u f d).stallView = d.stallView := rfl
@[simp] theorem updTxn_stallView (n f d) : (updTxn n f d).stallView = d.stallView := rfl
@[simp] theorem updLink_stallView (o f d) : (updLink o f d).stallView = d.stallView := rfl
@[simp] theorem markLinkDown_stallView (o d) : (markLinkDown o d).stallView = d.stallView := rfl
@[simp] theorem loseFetched_stallView (u d) : (loseFetched u d).stallView = d.stallView := rfl
@[simp] theorem logFault_stallView (u k n d) : (logFault u k n d).stallView = d.stallView := rfl
@[simp] theorem addVote_stallView (b n st r d) : (addVote b n st r d).stallView = d.stallView := rfl

@[simp] theorem endAux_stallView (j st det res d) : (endAux j st det res d).stallView = d.stallView := by
  rw [endAux, finish_stallView]
  rfl

@[simp] theorem sendOx_stallView (k c ports d) : (sendOx k c ports d).stallView = d.stallView := by
  refine foldl_keeps Dev.stallView _ (fun d p => ?_) ports d
  split
  · rfl
  · rfl

@[simp] theorem sendBallot_stallView (b c st r d) : (sendBallot b c st r d).stallView = d.stallView := by
  unfold sendBallot
  split
  · rfl
  · split
    · exact addVote_stallView ..
    · exact sendOx_stallView ..

@[simp] theorem settleTxn_stallView (id d) : (settleTxn id d).stallView = d.stallView := by
  unfold settleTxn
  cases txnOf d id with
  | none => rfl
  | some t =>
    dsimp only
    split
    · rfl
    · have hrecord : ∀ said : Status, (if t.own = true then { d with txns := d.txns.filter (·.id != id) }
          else updTxn id (fun t => { t with state := .landed, commit := none, lastStatus := said }) d).stallView =
            d.stallView := fun said => by split <;> rfl
      cases t.commit with
      | none => rw [sendBallot_stallView, hrecord]
      | some c => rw [finish_stallView, sendBallot_stallView, hrecord]

@[simp] theorem landingDone_stallView (id d) : (landingDone id d).stallView = d.stallView := by simp [landingDone]

@[simp] theorem popJob_stallView (u d) : (popJob u d).stallView = d.stallView := by
  unfold popJob
  dsimp only
  split
  · split
    · exact updCv_stallView ..
    · simp
  · exact updCv_stallView ..

@[simp] theorem endRake_stallView (u j why d) : (endRake u j why d).stallView = d.stallView := by simp [endRake]

@[simp] theorem stallRakes_stallView (u d) : (stallRakes u d).stallView = d.stallView := by
  refine foldl_keeps Dev.stallView _ (fun d k => ?_) _ d
  split
  · rfl
  · split
    · split
      · exact endRake_stallView ..
      · rfl
    · rfl

@[simp] theorem grantGang_stallView (g d) : (grantGang g d).stallView = d.stallView := by
  unfold grantGang
  dsimp only
  split
  · rfl
  · rfl

@[simp] theorem leaveScalers_stallView (p d) : (leaveScalers p d).stallView = d.stallView := by
  rw [leaveScalers, foldl_keeps Dev.stallView _ fun d g => grantGang_stallView g d]
  rfl

@[simp] theorem endTraining_stallView (o ok d) : (endTraining o ok d).stallView = d.stallView := by simp [endTraining]

@[simp] theorem failTraining_stallView (o ph d) : (failTraining o ph d).stallView = d.stallView := by simp [failTraining]

@[simp] theorem pllUnlockEvent_stallView (o fin d) : (pllUnlockEvent o fin d).stallView = d.stallView := raise_stallView ..

@[simp] theorem dpStalled_stallView (o d) : (dpStalled o d).stallView = d.stallView := by
  unfold dpStalled
  split
  · rfl
  · simp only [pllUnlockEvent_stallView, updLink_stallView, apply_ite Dev.stallView, failTraining_stallView,
      markLinkDown_stallView, ite_self]

/-- What a fetch unit that stalls loses. -/
def stallFetch (u : Nat) (d : Dev) : Dev := if 0x210 ≤ u && u < 0x220 then loseFetched (u - 0x210) d else d

/-- What a blend pipe that stalls gives up. -/
def stallPipe (u : Nat) (d : Dev) : Dev :=
  if 0x220 ≤ u && u < 0x228 then
    leaveScalers (u - 0x220) { d with pipes := modifyAt (fun _ => none) (u - 0x220) d.pipes }
  else d

/-- The AUX job that a DP island that stalls ends. -/
def stallAux (u : Nat) (d : Dev) : Dev :=
  if 0x310 ≤ u && u < 0x318 then
    match auxJob d (u - 0x310) with
    | some j => endAux j .stalled u [] d
    | none => d
  else d

theorem stallOps_eq (u d) : stallOps u d = stallAux u (stallPipe u (stallFetch u (stallRakes u d))) := by
  unfold stallOps stallAux stallPipe stallFetch
  rfl

@[simp] theorem stallFetch_stallView (u d) : (stallFetch u d).stallView = d.stallView := by
  unfold stallFetch
  split
  · exact loseFetched_stallView ..
  · rfl

@[simp] theorem stallPipe_stallView (u d) : (stallPipe u d).stallView = d.stallView := by
  unfold stallPipe
  split
  · rw [leaveScalers_stallView]
    rfl
  · rfl

@[simp] theorem stallAux_stallView (u d) : (stallAux u d).stallView = d.stallView := by
  unfold stallAux
  split
  · split
    · exact endAux_stallView ..
    · rfl
  · rfl

@[simp] theorem stallOps_stallView (u d) : (stallOps u d).stallView = d.stallView := by simp [stallOps_eq]

/-! ## Stalls and recoveries (R27, R309, R566) -/

/-- Whether one more stall isolates a unit: a third within a second of a unit that is no DP island. -/
def stallIsolates (d : Dev) (u : Nat) : Bool :=
  !(decide (0x310 ≤ u) && decide (u ≤ 0x317)) && decide (3 ≤ (nowNs d :: recentStalls d (unitOf d u)).length)

theorem stallIsolates_first {d : Dev} {u : Nat} (h : recentStalls d (unitOf d u) = []) : stallIsolates d u = false := by
  simp [stallIsolates, h]

theorem stallIsolates_third {d : Dev} {u a b : Nat} {l : List Nat} (hu : u < 0x310 ∨ 0x317 < u)
    (h : recentStalls d (unitOf d u) = a :: b :: l) : stallIsolates d u = true := by
  have hdp : (decide (0x310 ≤ u) && decide (u ≤ 0x317)) = false := by simp; omega
  rw [stallIsolates, hdp, h]
  simp

theorem unitOf_updUnit_of_ne {f : UnitRec → UnitRec} {u : Nat} {d : Dev} (h : f (unitOf d u) ≠ .zero) :
    unitOf (updUnit u f d) u = f (unitOf d u) := tget_tput_of_ne _ _ _ _ h

theorem recentStalls_eq_of_stallView {d e : Dev} (h : d.stallView = e.stallView) (r : UnitRec) :
    recentStalls d r = recentStalls e r := by simp only [recentStalls, nowNs_eq_of_stallView h]

/-- A unit's record after a stall (R566). -/
def stalledRec (isolates : Bool) (recent : List Nat) (now : U32) (r : UnitRec) : UnitRec :=
  { r with recovering := !isolates, isolated := isolates, recent := recent, total := min 0xFFFFFFFF (r.total + 1),
           lastStall := now }

theorem stalledRec_ne_zero (isolates : Bool) (recent : List Nat) (now : U32) (r : UnitRec) :
    stalledRec isolates recent now r ≠ .zero := by cases isolates <;> simp [stalledRec, UnitRec.zero]

/-- The stall in its unit's record and in the supervisory counts (R580). -/
def recordStall (u : Nat) (isolates : Bool) (recent : List Nat) (d : Dev) : Dev :=
  let d := updUnit u (stalledRec isolates recent (now32 d)) d
  { d with sup := { d.sup with stalls := min 65535 (d.sup.stalls + 1), lastUnit := u } }

theorem unitOf_recordStall (u : Nat) (isolates : Bool) (recent : List Nat) (d : Dev) :
    unitOf (recordStall u isolates recent d) u = stalledRec isolates recent (now32 d) (unitOf d u) :=
  unitOf_updUnit_of_ne (stalledRec_ne_zero _ _ _ _)

/-- A stall closes its unit, to recover or for good. -/
theorem exec_stallSentinelExpiry {u h : Nat} (hb : s.dev.power.boot = .running) (hp : populated.contains u = true)
    (ho : unitOff s.dev u = false) (hi : (unitOf s.dev u).isolated = false) (hr : (unitOf s.dev u).recovering = false) :
    ∃ e : Dev, exec (.stallSentinelExpiry u h) s = .next (s.after e) ∧
      (unitOf e u).recovering = (!stallIsolates s.dev u) ∧ (unitOf e u).isolated = stallIsolates s.dev u ∧
      e.sup.lastUnit = u ∧ e.sup.stalls = min 65535 (s.dev.sup.stalls + 1) := by
  have hops : (stallOps u s.dev).stallView = s.dev.stallView := stallOps_stallView u s.dev
  obtain ⟨e, hexec, hview⟩ : ∃ e : Dev, exec (.stallSentinelExpiry u h) s = .next (s.after e) ∧ e.stallView =
      (recordStall u (stallIsolates s.dev u) (nowNs s.dev :: recentStalls s.dev (unitOf s.dev u))
        (stallOps u s.dev)).stallView := by
    show ∃ e : Dev, execStallSentinelExpiry u h s = _ ∧ _
    simp only [execStallSentinelExpiry, onDev_eq, hb, hp, ho, hi, hr, bne_self_eq_false, Bool.not_true, Bool.or_self,
      Bool.false_eq_true, if_false, nowNs_eq_of_stallView hops, recentStalls_eq_of_stallView hops]
    refine ⟨_, rfl, ?_⟩
    simp only [apply_ite Dev.stallView, dpStalled_stallView, raise_stallView, logFault_stallView, ite_self]
    rfl
  refine ⟨e, hexec, ?_⟩
  rw [unitOf_eq_of_stallView hview, lastUnit_eq_of_stallView hview, stalls_eq_of_stallView hview, unitOf_recordStall,
    ← stalls_eq_of_stallView hops]
  exact ⟨rfl, rfl, rfl, rfl⟩

theorem exec_unitRecovered {u : Nat} (h : (unitOf s.dev u).recovering = true) :
    exec (.unitRecovered u) s = .next (s.after (updUnit u (fun r => { r with recovering := false }) s.dev)) := by
  show execUnitRecovered u s = _
  simp only [execUnitRecovered, onDev_eq, h, if_true]

/-! ## The state switch (R545) -/

theorem exec_powerStateSwitch_ready {x : Entering} {t : Ticket} (he : s.dev.power.entering = some x)
    (ht : x.ticket = some t) (ha : s.dev.aux = [])
    (hl : ∀ o, o < 8 → (outOf s.dev o).enabled = true → activeDone (outOf s.dev o) = true) :
    exec .powerStateSwitch s =
      .next (s.after (sleepDevice x.target (finish t .ok 0 (le8 (devCode x.target)) s.dev))) := by
  show execPowerStateSwitch s = _
  have hlines : (List.range 8).any (fun o => (outOf s.dev o).enabled && !activeDone (outOf s.dev o)) = false := by
    simpa using hl
  simp only [execPowerStateSwitch, onDev_eq, he, ht, ha, hlines, List.isEmpty_nil, Bool.not_true, Bool.or_self,
    Bool.false_eq_true, if_false]

theorem exec_powerStateSwitch_aux (ha : s.dev.aux ≠ []) : exec .powerStateSwitch s = .next (s.after s.dev) := by
  show execPowerStateSwitch s = _
  cases he : s.dev.power.entering with
  | none => simp only [execPowerStateSwitch, onDev_eq, he]
  | some x => simp [execPowerStateSwitch, onDev_eq, he, ha]

/-- With nothing entering the row finds nothing to switch (DESIGN CHOICE, log 5). -/
theorem exec_powerStateSwitch_none (he : s.dev.power.entering = none) :
    exec .powerStateSwitch s = .next (s.after s.dev) := by
  show execPowerStateSwitch s = _
  simp only [execPowerStateSwitch, onDev_eq, he]

end Rows

/-- Settles O37: a lemma for each event, each at the state's own device. -/
theorem powerEvents : Obligations.PowerEvents := by
  unfold Obligations.PowerEvents
  refine ⟨?wake, ?resume, ?thermal, ?pace, ?avsIdle, ?avsLow, ?avsBelow, ?avsAbove, ?avsFailed, ?avsFaults, ?retryClean,
    ?retryFailed, ?stallFirst, ?stallThird, ?recovered, ?switchReady, ?switchAux, ?switchNone⟩
  case wake => rintro s _ n rfl hn h6 h; exact exec_wakeEvent hn h6 h
  case resume => rintro s _ b n rfl h; exact exec_domainSwitchedOn h
  case thermal =>
    rintro s _ l rfl hb hl
    obtain ⟨e, he, htemps, hmax, hlevel, hceil⟩ := exec_thermalSample hb hl
    exact ⟨e, he, htemps, hmax ▸ le_max_left .., hmax ▸ le_max_right .., hlevel, hceil⟩
  case pace => rintro s _ n rfl h; exact exec_paceSample n h
  case avsIdle => rintro s _ rfl h hf hn; exact exec_avsStep_idle h hf hn
  case avsLow =>
    rintro s _ n rfl h hf hv hn
    exact ⟨_, exec_avsStep_sampled h hf hv, congrArg (clampCore s.dev.power) (avsCore_low hn), rfl, rfl⟩
  case avsBelow =>
    rintro s _ n rfl h hf hv hn ht
    exact ⟨_, exec_avsStep_sampled h hf hv, congrArg (clampCore s.dev.power) (avsCore_below_target hn ht), rfl, rfl⟩
  case avsAbove =>
    rintro s _ n rfl h hf hv hn ht hh
    exact ⟨_, exec_avsStep_sampled h hf hv, congrArg (clampCore s.dev.power) (avsCore_above_target hn ht hh), rfl⟩
  case avsFailed => rintro s _ rfl h hf hb; exact exec_avsStep_failed h hf hb
  case avsFaults => rintro s _ rfl h hf hb; exact exec_avsStep_faults h hf hb
  case retryClean => rintro s _ rfl hf; exact exec_avsRetry_clean hf
  case retryFailed => rintro s _ rfl hf; exact exec_avsRetry_failed hf
  case stallFirst =>
    rintro s _ u h rfl hb hp ho hi hr hrecent
    obtain ⟨e, he, hrec, hiso, hlast, hstalls⟩ := exec_stallSentinelExpiry (h := h) hb hp ho hi hr
    rw [stallIsolates_first hrecent] at hrec hiso
    exact ⟨e, he, hrec, hiso, hlast, hstalls⟩
  case stallThird =>
    rintro s _ u h a b l rfl hb hp ho hu hi hr hrecent
    obtain ⟨e, he, hrec, hiso, hlast, -⟩ := exec_stallSentinelExpiry (h := h) hb hp ho hi hr
    rw [stallIsolates_third hu hrecent] at hrec hiso
    exact ⟨e, he, hrec, hiso, hlast⟩
  case recovered => rintro s _ u rfl h; exact exec_unitRecovered h
  case switchReady => rintro s _ x t rfl he ht ha hl; exact exec_powerStateSwitch_ready he ht ha hl
  case switchAux => rintro s _ rfl ha; exact exec_powerStateSwitch_aux ha
  case switchNone => rintro s _ rfl he; exact exec_powerStateSwitch_none he

end Sys2Proof.Machine
end

section
/-! Rules of the state that chapter 2's rows share: an entry of a list after an update, a port and an output after one, and
what holdover's event and messages handed to ports leave alone. -/

namespace Sys2Proof.Machine

/-! ## An entry of a list after an update -/

section Entries

variable {α : Type} (z : α)

theorem length_modifyAt (f : α → α) (i : Nat) (l : List α) : (modifyAt f i l).length = l.length := by
  induction l generalizing i with
  | nil => cases i <;> rfl
  | cons a l ih =>
    cases i with
    | zero => rfl
    | succ i => simp [modifyAt, ih]

theorem nthD_modifyAt_self (f : α → α) {i : Nat} {l : List α} (h : i < l.length) :
    nthD z i (modifyAt f i l) = f (nthD z i l) := by
  induction l generalizing i with
  | nil => simp at h
  | cons a l ih =>
    cases i with
    | zero => rfl
    | succ i => exact ih (Nat.lt_of_succ_lt_succ h)

theorem nthD_modifyAt_keeps {β : Type} (p : α → β) {f : α → α} (h : ∀ x, p (f x) = p x) (i j : Nat) (l : List α) :
    p (nthD z j (modifyAt f i l)) = p (nthD z j l) := by
  induction l generalizing i j with
  | nil => cases i <;> rfl
  | cons a l ih =>
    cases i with
    | zero =>
      cases j with
      | zero => exact h a
      | succ j => rfl
    | succ i =>
      cases j with
      | zero => rfl
      | succ j => exact ih i j

theorem modifyAt_congr {f g : α → α} {i : Nat} {l : List α} (h : f (nthD z i l) = g (nthD z i l)) :
    modifyAt f i l = modifyAt g i l := by
  induction l generalizing i with
  | nil => cases i <;> rfl
  | cons a l ih =>
    cases i with
    | zero => exact congrArg (· :: l) h
    | succ i => exact congrArg (a :: ·) (ih h)

end Entries

variable {d : Dev}

/-! ## Ports and outputs -/

theorem oxPortOf_updOx_self {p : Nat} (f : OxPort → OxPort) (h : p < d.tide.ports.length) :
    oxPortOf (updOx p f d) p = f (oxPortOf d p) := nthD_modifyAt_self _ f h

theorem oxPortOf_updOx_keeps {β : Type} (g : OxPort → β) {f : OxPort → OxPort} {p q : Nat} (h : ∀ x, g (f x) = g x) :
    g (oxPortOf (updOx p f d) q) = g (oxPortOf d q) := nthD_modifyAt_keeps _ g h p q _

/-- Two updates of a port that agree on the port as it stands are one. -/
theorem updOx_congr {p : Nat} {f g : OxPort → OxPort} (h : f (oxPortOf d p) = g (oxPortOf d p)) :
    updOx p f d = updOx p g d :=
  congrArg (fun l => updTide (fun t => { t with ports := l }) d) (modifyAt_congr _ h)

theorem outOf_updOut_self {o : Nat} (f : Output → Output) (h : o < d.outputs.length) :
    outOf (updOut o f d) o = f (outOf d o) := nthD_modifyAt_self _ f h

theorem outOf_updOut_keeps {β : Type} (g : Output → β) {f : Output → Output} {o q : Nat} (h : ∀ x, g (f x) = g x) :
    g (outOf (updOut o f d) q) = g (outOf d q) := nthD_modifyAt_keeps _ g h o q _

/-- Two updates of an output that agree on the output as it stands are one. -/
theorem updOut_congr {o : Nat} {f g : Output → Output} (h : f (outOf d o) = g (outOf d o)) :
    updOut o f d = updOut o g d := congrArg (fun l => { d with outputs := l }) (modifyAt_congr _ h)

/-! ## Holdover's event and messages -/

@[simp] theorem raise_tide (code sub pl pg sec) : (raise code sub pl pg sec d).tide = d.tide := rfl

/-- Tide's records but for HOLDOVER, the domain's part in it, and the ports: what its event and messages leave alone. -/
def Tide.course (t : Tide) : Tide := { t with holdover := false, domainLost := false, ports := [] }

theorem Tide.eq_of_course {t u : Tide} (h : t.course = u.course) :
    ∃ b c l, t = { u with holdover := b, domainLost := c, ports := l } :=
  ⟨t.holdover, t.domainLost, t.ports,
    congrArg (fun v : Tide => { v with holdover := t.holdover, domainLost := t.domainLost, ports := t.ports }) h⟩

theorem recheckHoldover_tide (d : Dev) : ∃ b, (recheckHoldover d).tide = { d.tide with holdover := b } := by
  unfold recheckHoldover
  dsimp only
  split
  · exact ⟨d.tide.holdover, rfl⟩
  · exact ⟨_, rfl⟩

@[simp] theorem recheckHoldover_course (d : Dev) : (recheckHoldover d).tide.course = d.tide.course := by
  obtain ⟨b, h⟩ := recheckHoldover_tide d
  rw [h]
  rfl

@[simp] theorem recheckHoldover_ports (d : Dev) : (recheckHoldover d).tide.ports = d.tide.ports := by
  obtain ⟨b, h⟩ := recheckHoldover_tide d
  rw [h]

@[simp] theorem sendOx_course (k c ports d) : (sendOx k c ports d).tide.course = d.tide.course :=
  foldl_keeps (fun d => d.tide.course) _ (fun d p => by split <;> rfl) ports d

@[simp] theorem sendOx_outputs (k c ports d) : (sendOx k c ports d).outputs = d.outputs :=
  foldl_keeps Dev.outputs _ (fun d p => by split <;> rfl) ports d

end Sys2Proof.Machine
end

section
/-! R62 and R67: the master is the lowest of those announced, and the parent the UP port nearest to it, the lowest port
among equals. -/

namespace Sys2Proof.Machine

/-! ## The lowest master -/

/-- R62's order of masters is the lexicographic one: priority, then node number. -/
theorem masterBefore_iff (a b : Nat × Nat) : masterBefore a b = true ↔ toLex a < toLex b := by
  simp [masterBefore, Prod.Lex.toLex_lt_toLex]

theorem masterBefore_eq_false_iff (a b : Nat × Nat) : masterBefore a b = false ↔ toLex b ≤ toLex a := by
  rw [← Bool.not_eq_true, masterBefore_iff, not_lt]

/-- The master a device chooses from itself and the paths its UP ports announce. -/
def lowestMaster (self : Nat × Nat) (paths : List (Nat × (Nat × Nat) × Nat)) : Nat × Nat :=
  paths.foldl (fun m e => if masterBefore e.2.1 m then e.2.1 else m) self

theorem lowestMaster_le (self : Nat × Nat) (paths : List (Nat × (Nat × Nat) × Nat)) :
    toLex (lowestMaster self paths) ≤ toLex self ∧ ∀ e ∈ paths, toLex (lowestMaster self paths) ≤ toLex e.2.1 := by
  induction paths generalizing self with
  | nil => simp [lowestMaster]
  | cons a l ih =>
    obtain ⟨hself, hl⟩ := ih (if masterBefore a.2.1 self then a.2.1 else self)
    have hstep : toLex (if masterBefore a.2.1 self then a.2.1 else self) ≤ toLex self ∧
        toLex (if masterBefore a.2.1 self then a.2.1 else self) ≤ toLex a.2.1 := by
      split
      next h => exact ⟨((masterBefore_iff ..).mp h).le, le_rfl⟩
      next h => exact ⟨le_rfl, (masterBefore_eq_false_iff ..).mp (Bool.not_eq_true _ ▸ h)⟩
    exact ⟨hself.trans hstep.1, List.forall_mem_cons.mpr ⟨hself.trans hstep.2, hl⟩⟩

/-! ## The shortest path, the lowest port among equals -/

/-- What `bestPath` does at one more path. -/
def nearer (best : Option (Nat × Nat)) (e : Nat × (Nat × Nat) × Nat) : Option (Nat × Nat) :=
  match best with
  | none => some (e.1, e.2.2)
  | some b => if e.2.2 < b.2 then some (e.1, e.2.2) else best

/-- From a path at hand and others at rising ports beyond it, `nearer` ends with one of them, and none is shorter, or equal by
a lower port. -/
theorem foldl_nearer (l : List (Nat × (Nat × Nat) × Nat)) (b : Nat × Nat)
    (hl : (b :: l.map fun e => (e.1, e.2.2)).Pairwise (·.1 < ·.1)) :
    ∃ r ∈ b :: l.map (fun e => (e.1, e.2.2)), l.foldl nearer (some b) = some r ∧
      ∀ x ∈ b :: l.map (fun e => (e.1, e.2.2)), r.2 < x.2 ∨ (r.2 = x.2 ∧ r.1 ≤ x.1) := by
  induction l generalizing b with
  | nil => exact ⟨b, by simp, rfl, by simp⟩
  | cons a l ih =>
    simp only [List.map_cons, List.pairwise_cons, List.forall_mem_cons] at hl ih ⊢
    obtain ⟨⟨hba, hbl⟩, hal, hl⟩ := hl
    rw [List.foldl_cons]
    by_cases hlt : a.2.2 < b.2
    · obtain ⟨r, hr, hfold, hra, hrl⟩ := ih (a.1, a.2.2) ⟨hal, hl⟩
      exact ⟨r, List.mem_cons_of_mem _ hr, by simpa [nearer, hlt] using hfold, by dsimp only at hra; omega, hra, hrl⟩
    · obtain ⟨r, hr, hfold, hrb, hrl⟩ := ih b ⟨hbl, hl⟩
      have hmem : r ∈ b :: (a.1, a.2.2) :: l.map fun e => (e.1, e.2.2) := by
        rcases List.mem_cons.mp hr with rfl | hr <;> simp [*]
      exact ⟨r, hmem, by simpa [nearer, hlt] using hfold, hrb, by omega, hrl⟩

/-- The best path is one of those to its master, and no other such is shorter, or equal by a lower port. -/
theorem bestPath_least {m r : Nat × Nat} {l : List (Nat × (Nat × Nat) × Nat)} (hl : l.Pairwise (·.1 < ·.1))
    (h : bestPath m l = some r) :
    (r.1, m, r.2) ∈ l ∧ ∀ q h', (q, m, h') ∈ l → r.2 < h' ∨ (r.2 = h' ∧ r.1 ≤ q) := by
  have hmem : ∀ q h', (q, m, h') ∈ l ↔ (q, h') ∈ (l.filter (·.2.1 == m)).map fun e => (e.1, e.2.2) := by
    simp
  simp only [hmem]
  change (l.filter (·.2.1 == m)).foldl nearer none = some r at h
  have hrise := hl.filter (·.2.1 == m)
  cases hf : l.filter (·.2.1 == m) with
  | nil => rw [hf] at h; cases h
  | cons a l' =>
    rw [hf] at h hrise
    have hpairs : ((a :: l').map fun e => (e.1, e.2.2)).Pairwise (·.1 < ·.1) := List.pairwise_map.mpr hrise
    obtain ⟨r', hr', hfold, hmin⟩ := foldl_nearer l' (a.1, a.2.2) hpairs
    cases hfold.symm.trans h
    exact ⟨hr', fun q h' hq => hmin (q, h') hq⟩

theorem masterPaths_rise (d : Dev) : (masterPaths d).Pairwise (·.1 < ·.1) := by
  refine List.pairwise_filterMap.mpr ((List.pairwise_lt_range.filter _).imp fun {p q} hpq a ha b hb => ?_)
  have hport : ∀ {p : Nat} {a : Nat × (Nat × Nat) × Nat},
      (if (oxPortOf d p).hops = 0x3F then none
        else some (p, ((oxPortOf d p).masterPriority, (oxPortOf d p).masterNode), (oxPortOf d p).hops + 1)) = some a →
      a.1 = p := by
    intro p a h
    split at h
    · cases h
    · cases h; rfl
  rw [hport ha, hport hb]
  exact hpq

/-! ## What an election leaves -/

@[simp] theorem recheckHoldover_parent (d : Dev) : (recheckHoldover d).tide.parent = d.tide.parent := by
  obtain ⟨b, h⟩ := recheckHoldover_tide d
  rw [h]

@[simp] theorem tooFar_parent (n : Nat) (d : Dev) : (tooFar n d).tide.parent = none := by
  unfold tooFar
  dsimp only
  split <;> rfl

/-- A device with source DOMAIN that takes a parent takes the best path to the lowest master. -/
theorem chooseMaster_parent {d : Dev} {p : Nat} (h : (chooseMaster d).tide.parent = some p)
    (he : d.tide.electing = false) (hs : d.tide.source = 2) :
    ∃ hops, hops ≤ 32 ∧
      bestPath (lowestMaster (d.tide.priority, d.tide.node) (masterPaths d)) (masterPaths d) = some (p, hops) ∧
      ((chooseMaster d).tide.masterPriority, (chooseMaster d).tide.masterNode) =
        lowestMaster (d.tide.priority, d.tide.node) (masterPaths d) := by
  generalize hc : chooseMaster d = c at h ⊢
  unfold chooseMaster at hc
  simp only [he, hs, Bool.false_eq_true, if_false, ne_eq, not_true] at hc
  change (if (upPorts d).isEmpty = true then _ else
    match bestPath (lowestMaster (d.tide.priority, d.tide.node) (masterPaths d)) (masterPaths d) with
    | none => _
    | some (p, hops) => _) = c at hc
  split at hc
  next => subst hc; simp [outsideDomain] at h
  next =>
    split at hc
    next => subst hc; simp at h
    next q hops hbest =>
      split at hc
      next => subst hc; simp at h
      next =>
        split at hc
        next => subst hc; simp at h
        next hhops =>
          subst hc
          cases h
          exact ⟨hops, Nat.not_lt.mp hhops, hbest, rfl⟩

theorem exec_oxElectionEnd {s : State} (h : s.dev.tide.electing = true) :
    exec .oxElectionEnd s = .next (s.after (chooseMaster (updTide (fun t => { t with electing := false }) s.dev))) := by
  show execOxElectionEnd s = _
  simp only [execOxElectionEnd, onDev_eq, h, Bool.not_true, Bool.false_eq_true, if_false]

/-- Settles O54: the parent is the best path's port, and the paths are those of the state before the election's end. -/
theorem masterIsLowestAndParentNearest : Obligations.MasterIsLowestAndParentNearest := by
  unfold Obligations.MasterIsLowestAndParentNearest
  rintro s _ rfl he hs
  refine ⟨_, exec_oxElectionEnd he, fun p hp => ?_⟩
  obtain ⟨hops, hle, hbest, hmaster⟩ := chooseMaster_parent hp rfl hs
  obtain ⟨hmem, hmin⟩ := bestPath_least (masterPaths_rise _) hbest
  obtain ⟨hself, hpaths⟩ := lowestMaster_le (s.dev.tide.priority, s.dev.tide.node) (masterPaths s.dev)
  rw [hmaster]
  refine ⟨hops, hmem, hle, (masterBefore_eq_false_iff ..).mpr hself, fun q m h' hq => ?_⟩
  exact ⟨(masterBefore_eq_false_iff ..).mpr (hpaths _ hq), fun hm => hmin q h' (hm ▸ hq)⟩

end Sys2Proof.Machine
end

section
/-! R70: a frame of an output in a lock group starts with the number of its nearest grid instant. What a frame's start does
after it has numbered the frame leaves the number and the line of scan-out alone. -/

namespace Sys2Proof.Machine

/-! ## What leaves the frame in scan-out alone -/

/-- The number and the next line of the frame in scan-out on an output. -/
def frameLine (d : Dev) (o : Nat) : U32 × Nat := ((outOf d o).frame, (outOf d o).nextLine)

theorem frameLine_of_outputs {d e : Dev} (h : d.outputs = e.outputs) (o : Nat) : frameLine d o = frameLine e o :=
  congrArg (fun l => ((nthD Output.zero o l).frame, (nthD Output.zero o l).nextLine)) h

theorem updOut_frameLine {f : Output → Output} {o q : Nat} {d : Dev}
    (h : ∀ x, ((f x).frame, (f x).nextLine) = (x.frame, x.nextLine)) : frameLine (updOut o f d) q = frameLine d q :=
  outOf_updOut_keeps (fun x => (x.frame, x.nextLine)) h

@[simp] theorem updLink_frameLine (o f q d) : frameLine (updLink o f d) q = frameLine d q := by
  unfold updLink
  exact updOut_frameLine fun _ => rfl

theorem outputs_eq_of_quiet {d e : Dev} (h : d.quiet = e.quiet) : d.outputs = e.outputs :=
  show d.quiet.outputs = e.quiet.outputs by rw [h]

@[simp] theorem panScan_quiet (r a n d) : (panScan r a n d).1.quiet = d.quiet := by
  unfold panScan
  rw [foldl_fst_quiet]
  · exact touchPan_quiet ..
  · intro d w
    dsimp only
    split
    · exact (raise_quiet ..).trans rfl
    · split <;> rfl

theorem foldl_snd_keeps {α β γ : Type} (p : Dev → γ) (f : β × Dev → α → β × Dev) (h : ∀ d a, p (f d a).2 = p d.2)
    (l : List α) (d : β × Dev) : p (l.foldl f d).2 = p d.2 := by
  induction l generalizing d with
  | nil => rfl
  | cons a l ih => rw [List.foldl_cons, ih, h]

@[simp] theorem readGuardLine_outputs (o line d) : (readGuardLine o line d).2.outputs = d.outputs := by
  refine foldl_snd_keeps Dev.outputs _ (fun acc e => ?_) _ _
  dsimp only
  split
  · rfl
  · split
    · exact outputs_eq_of_quiet (panScan_quiet ..)
    · exact outputs_eq_of_quiet ((panScan_quiet ..).trans (panScan_quiet ..))

@[simp] theorem bufferGuardLine_frameLine (o line q d) : frameLine (bufferGuardLine o line d) q = frameLine d q := by
  unfold bufferGuardLine
  refine Eq.trans ?_ (frameLine_of_outputs (readGuardLine_outputs o line d) q)
  exact updOut_frameLine fun _ => rfl

@[simp] theorem startGuardLines_frameLine (o q d) : frameLine (startGuardLines o d) q = frameLine d q := by
  unfold startGuardLines
  rw [foldl_keeps (frameLine · q) _ fun d l => bufferGuardLine_frameLine o l q d]
  exact updOut_frameLine fun _ => rfl

@[simp] theorem updGroup_outputs (g f d) : (updGroup g f d).outputs = d.outputs := by
  unfold updGroup
  split <;> rfl

@[simp] theorem distributeGroup_outputs (g d) : (distributeGroup g d).outputs = d.outputs := by
  unfold distributeGroup sendLock
  split
  · rfl
  · dsimp only
    split <;> simp

@[simp] theorem refreshCutOffset_frameLine (o q d) : frameLine (refreshCutOffset o d) q = frameLine d q := by
  refine frameLine_of_outputs ?_ q
  unfold refreshCutOffset
  split
  · rfl
  · split <;> simp

@[simp] theorem raise_frameLine (code sub pl pg sec q d) : frameLine (raise code sub pl pg sec d) q = frameLine d q := rfl

@[simp] theorem trackGrid_frameLine (o n q d) : frameLine (trackGrid o n d) q = frameLine d q := by
  unfold trackGrid
  split
  · dsimp only [drawNat]
    split <;>
    · simp only [raise_frameLine, updLink_frameLine]
      exact updOut_frameLine fun _ => rfl
  · rfl

/-! ## The start of a locked output's frame -/

theorem renumber_length (o n n' d) : (renumber o n n' d).outputs.length = d.outputs.length := by
  unfold renumber
  split
  · rfl
  · exact length_modifyAt ..

theorem leaveStill_length (o cause d) : (leaveStill o cause d).outputs.length = d.outputs.length := by
  unfold leaveStill
  dsimp only
  split
  · rfl
  · exact length_modifyAt ..

/-- R70: the frame takes the grid's number and starts at line 0. -/
theorem exec_outputFrameStart_locked {s : State} {o k : Nat} {m : Mode} {g : Group} (ho : o < s.dev.outputs.length)
    (hm : (outOf s.dev o).mode = some m) (hmay : frameMayStart s.dev o = true) (hlock : lockOf s.dev o = some (k, g)) :
    ∃ e : Dev, exec (.outputFrameStart o) s = .next (s.after e) ∧
      frameLine e o = (BitVec.ofNat 32 (gridNear g s.dev.tide.now), 0) := by
  show ∃ e : Dev, execOutputFrameStart o s = _ ∧ _
  unfold execOutputFrameStart
  refine ⟨_, onDev_eq _ s, ?_⟩
  extract_lets x now n stillNow enters left numbered y shown
  have hx : x.mode = some m := hm
  simp -zeta only [hx, hmay, Bool.not_true, Bool.false_eq_true, if_false]
  extract_lets started told monitored linked power powered
  have hlen : numbered.outputs.length = s.dev.outputs.length := by
    refine (renumber_length ..).trans ?_
    simp only [left]
    split
    · exact leaveStill_length ..
    · rfl
  have hn : n = BitVec.ofNat 32 (gridNear g s.dev.tide.now) := by
    simp only [n, hlock]
    rfl
  calc
    frameLine (refreshCutOffset o (trackGrid o n powered)) o = frameLine powered o := by
      rw [refreshCutOffset_frameLine, trackGrid_frameLine]
    _ = frameLine linked o := by simp only [powered, frameLine, outOf]
    _ = frameLine monitored o := by
      simp only [linked, refreshDpAudio, updLink_frameLine]
    _ = frameLine told o := startGuardLines_frameLine ..
    _ = frameLine started o := by simp only [told, apply_ite (frameLine · o), raise_frameLine, ite_self]
    _ = (n, 0) := by rw [frameLine, outOf_updOut_self _ (hlen ▸ ho)]
    _ = (BitVec.ofNat 32 (gridNear g s.dev.tide.now), 0) := by rw [hn]

/-- Settles O55: the grid instant is the definition's; the frame's number and line are those that its start sets. -/
theorem lockedFramesFollowTheGrid : Obligations.LockedFramesFollowTheGrid := by
  unfold Obligations.LockedFramesFollowTheGrid
  refine ⟨?instant, ?start⟩
  case instant => intro g k; rfl
  case start =>
    rintro s _ o m k g rfl ho hm hmay hlock
    obtain ⟨e, hexec, he⟩ := exec_outputFrameStart_locked ho hm hmay hlock
    exact ⟨e, hexec, congrArg Prod.fst he, congrArg Prod.snd he⟩

end Sys2Proof.Machine
end

section
/-! R40, R44 and R46: a step runs the command at the front of its queue, and on an empty queue one reference cycle passes. -/

namespace Sys2Proof.Machine

/-- With no correction and no slew a reference cycle is 4 ns, and what is left of a unit stays left. -/
theorem tideTick_steady {t : Tide} (hrate : t.rate = 0) (hslew : t.slew = 0) (hlo : 0 ≤ t.resid)
    (hhi : t.resid < 100000000000) :
    tideTick t = { t with now := (t.now + 4 * 65536) % 2 ^ 80, ports := t.ports.map tickPort } := by
  have hcarry : t.resid / 100000000000 = 0 := Int.ediv_eq_zero_of_lt hlo hhi
  have hleft : t.resid % 100000000000 = t.resid := Int.emod_eq_of_lt hlo hhi
  have hstep : clampInt (-52) 52 0 = 0 := rfl
  have hnow : ((t.now : Int) + 262144).toNat = t.now + 4 * 65536 := by omega
  simp only [tideTick, hrate, hslew, hstep, mul_zero, add_zero, sub_zero, hcarry, hleft, hnow]

/-- Settles O38: a step is exec of the command in front, and on an empty queue `tickDev`. -/
theorem stepRunsTheFrontCommand : Obligations.StepRunsTheFrontCommand := by
  unfold Obligations.StepRunsTheFrontCommand
  refine ⟨?front, ?empty, ?steady⟩
  case front => intro c r s; rfl
  case empty =>
    intro s hs
    unfold step
    rw [hs]
    rfl
  case steady => intro t hrate hslew hlo hhi; exact tideTick_steady hrate hslew hlo hhi

end Sys2Proof.Machine
end

section
/-! Chapter 2's time (R44 to R51, R60 to R67): references and PPS edges, SYNC and ANNOUNCE, and the loss of a master. -/

namespace Sys2Proof.Machine

section Rows

variable {s : State}

/-! ## The reference (R44, R45) -/

/-- A reference that has come back is slewed to, by no more than the 1 ms that slewing covers. -/
def slewBack (d : Dev) : Dev :=
  updTide (fun t => { t with refOk := true, returning := true, slew := ((drawNat d).1 % 131072000001 : Nat) - oneMs })
    (drawNat d).2

theorem exec_tideRefRecover (h : s.dev.tide.refOk = false) :
    exec .tideRefRecover s = .next (s.after (slewBack s.dev)) := by
  show execTideRefRecover s = _
  simp only [execTideRefRecover, onDev_eq, h, Bool.false_eq_true, if_false]
  rfl

theorem slewBack_within (d : Dev) : (slewBack d).tide.slew.natAbs ≤ 65536000000 := by
  have h : (slewBack d).tide.slew = ((drawNat d).1 % 131072000001 : Nat) - 65536000000 := rfl
  omega

/-! ## PPS edges (R48, R49) -/

/-- How far an edge `ago` nanoseconds before now lies past the nearest whole second of tide time, in 2^-16 ns. -/
def ppsOffset (d : Dev) (ago : Nat) : Int :=
  let r := ((d.tide.now : Int) - (ago * 65536 : Nat)) % 65536000000000
  if 2 * r ≤ 65536000000000 then r else r - 65536000000000

/-- A PPS edge of the source in force steps tide, is rejected, or steers. -/
theorem exec_tidePpsEdge (a : Nat) (h : s.dev.tide.source = 1) :
    exec (.tidePpsEdge a) s = .next (s.after (
      if !s.dev.tide.ppsSeen && s.dev.tide.stepPermit && decide (oneMs ≤ ((ppsOffset s.dev a).natAbs : Int)) then
        stepTide (-ppsOffset s.dev a) (updTide (fun t => { t with ppsSeen := true }) s.dev)
      else if decide (oneMs < ((ppsOffset s.dev a).natAbs : Int)) then
        updTide (fun t => { t with ppsReject := true, ppsRejects := t.ppsRejects + 1 }) s.dev
      else steer 1310720 (ppsOffset s.dev a) (updTide (fun t => { t with ppsSeen := true }) s.dev))) := by
  show execTidePpsEdge a s = _
  simp only [execTidePpsEdge, onDev_eq, h, ne_eq, not_true, if_false]
  rfl

theorem exec_tidePpsEdge_otherSource (a : Nat) (h : s.dev.tide.source ≠ 1) :
    exec (.tidePpsEdge a) s = .next (s.after s.dev) := by
  show execTidePpsEdge a s = _
  simp only [execTidePpsEdge, onDev_eq, if_pos h]

theorem ppsOffset_of_le {d : Dev} {a : Nat} {x : Int}
    (hx : x = ((d.tide.now : Int) - (a * 65536 : Nat)) % 65536000000000) (h : 2 * x ≤ 65536000000000) :
    ppsOffset d a = x := by
  rw [ppsOffset, ← hx]
  exact if_pos h

/-- What lies more than 1 ms from both whole seconds around it is off by more than 1 ms. -/
theorem oneMs_lt_ppsOffset {d : Dev} {a : Nat} {x : Int}
    (hx : x = ((d.tide.now : Int) - (a * 65536 : Nat)) % 65536000000000) (hlo : 65536000000 < x)
    (hhi : x < 65536000000000 - 65536000000) : oneMs < ((ppsOffset d a).natAbs : Int) := by
  rw [ppsOffset, ← hx, oneMs]
  split <;> omega

/-! ## The PPS output (R51) -/

theorem exec_tidePpsOutSecond (s : State) : exec .tidePpsOutSecond s = .next (s.after (
    if decide (s.dev.tide.now % 65536000000000 ≤ 327680) ||
        decide (65536000000000 ≤ s.dev.tide.now % 65536000000000 + 327680) then
      updTide (fun t => { t with ppsOut := true, ppsAt := t.now }) s.dev
    else s.dev)) := rfl

theorem exec_tidePpsOutEnd (s : State) : exec .tidePpsOutEnd s = .next (s.after (
    if s.dev.tide.ppsOut && decide (99000 * 65536 ≤ s.dev.tide.now - s.dev.tide.ppsAt) &&
        decide (s.dev.tide.now - s.dev.tide.ppsAt ≤ 101000 * 65536) then
      updTide (fun t => { t with ppsOut := false }) s.dev
    else s.dev)) := rfl

/-! ## SYNC (R47, R60, R63 to R65) -/

/-- What a device makes of the announced master of a port whose SYNC it has heard. -/
def heardSync (p n q h : Nat) : Dev → Dev :=
  updOx p (fun x => { x with masterNode := n, masterPriority := q, hops := h })

theorem meanDelay_heardSync (p n q h : Nat) (d : Dev) :
    meanDelay (oxPortOf (heardSync p n q h d) p) = meanDelay (oxPortOf d p) := by
  unfold heardSync
  exact oxPortOf_updOx_keeps meanDelay fun _ => rfl

/-- A member `h` hops from its master. -/
def asMember (h : Nat) : Dev → Dev :=
  updTide fun t => { t with role := .member, isoCause := 0, hops := h, joining := false }

/-- What follows a member's measurement: the domain's holdover ends with LOCKED, and SYNC goes on along the tree. -/
def passSync (p : Nat) (d : Dev) : Dev :=
  let d := if d.tide.locked then updTide (fun t => { t with domainLost := false }) d else d
  let d := recheckHoldover d
  sendSync (otherPorts d p) d

@[simp] theorem passSync_course (p : Nat) (d : Dev) : (passSync p d).tide.course = d.tide.course := by
  unfold passSync
  dsimp only
  refine (sendOx_course ..).trans ((recheckHoldover_course _).trans ?_)
  split <;> rfl

/-- A device that its parent's SYNC isolates, for the step it may not take (R65). -/
def refusedStep (n : Nat) (offset : Int) (role : Role) (cause : Nat) (d : Dev) : Dev :=
  let d := updTide (fun t => { t with role := .isolated, isoCause := 2, hops := 0x3F, joining := true }) d
  if role == .isolated && cause == 2 then d
  else raise 0x0B06 0 (le16 n ++ le64 (offset.natAbs / 65536)) [512] false d

/-- SYNC from the parent, no more than 32 hops from the master: a refused step, a step, or steering. -/
theorem exec_oxSyncReceived_parent {p n q h : Nat} {x : Int} (ht : onTree s.dev p = true)
    (hp : s.dev.tide.parent = some p) (hs : s.dev.tide.source = 2) (he : s.dev.tide.electing = false)
    (hm : s.dev.tide.masterNode = n) (hh : h + 1 ≤ 32) :
    exec (.oxSyncReceived p n q h x) s = .next (s.after (
      if (s.dev.tide.joining || s.dev.tide.role != .member) &&
          decide (oneMs ≤ ((x - meanDelay (oxPortOf s.dev p)).natAbs : Int)) && !s.dev.tide.stepPermit then
        refusedStep n (x - meanDelay (oxPortOf s.dev p)) s.dev.tide.role s.dev.tide.isoCause (heardSync p n q h s.dev)
      else passSync p (
        if (s.dev.tide.joining || s.dev.tide.role != .member) &&
            decide (oneMs ≤ ((x - meanDelay (oxPortOf s.dev p)).natAbs : Int)) then
          stepTide (-(x - meanDelay (oxPortOf s.dev p))) (asMember (h + 1) (heardSync p n q h s.dev))
        else steer (2 * (h + 1) * 65536) (x - meanDelay (oxPortOf s.dev p))
          (asMember (h + 1) (heardSync p n q h s.dev))))) := by
  rw [← meanDelay_heardSync p n q h]
  show execOxSyncReceived p n q h x s = _
  unfold execOxSyncReceived
  rw [onDev_eq]
  simp only [ht, Bool.not_true, Bool.false_eq_true, if_false]
  rw [if_neg (by simp [updOx, hp, hs, he, hm]), if_neg (by omega)]
  rfl

theorem exec_oxSyncReceived_offTree {p n q h : Nat} {x : Int} (ht : onTree s.dev p = false) :
    exec (.oxSyncReceived p n q h x) s = .next (s.after s.dev) := by
  show execOxSyncReceived p n q h x s = _
  simp only [execOxSyncReceived, onDev_eq, ht, Bool.not_false, if_true]

/-- One measurement moves only LOCKED and its counts. -/
theorem measureLock_eq (limit : Nat) (off : Int) (t : Tide) :
    ∃ i o l, measureLock limit off t = { t with lockIn := i, lockOut := o, locked := l } := by
  unfold measureLock
  split <;> split <;> exact ⟨_, _, _, rfl⟩

theorem steer_tide (limit : Nat) (off : Int) (d : Dev) : ∃ i o l r,
    (steer limit off d).tide = { d.tide with lockIn := i, lockOut := o, locked := l, slew := -off, rate := r } := by
  obtain ⟨i, o, l, hlock⟩ := measureLock_eq limit off d.tide
  refine ⟨i, o, l, ((drawNat d).1 % 40000001 : Nat) - 20000000, ?_⟩
  exact congrArg (fun t : Tide => { t with
    slew := -off, rate := ((drawNat d).1 % 40000001 : Nat) - 20000000 }) hlock

/-- A member that steers takes its place and slews the offset away; its time goes on. -/
theorem passSync_steer_asMember (p h limit : Nat) (off : Int) (d : Dev) :
    (passSync p (steer limit off (asMember h d))).tide.role = .member ∧
      (passSync p (steer limit off (asMember h d))).tide.hops = h ∧
      (passSync p (steer limit off (asMember h d))).tide.slew = -off ∧
      (passSync p (steer limit off (asMember h d))).tide.now = d.tide.now ∧
      (passSync p (steer limit off (asMember h d))).tide.parent = d.tide.parent := by
  obtain ⟨b, c, ports, hpass⟩ := Tide.eq_of_course (passSync_course p (steer limit off (asMember h d)))
  obtain ⟨i, o, l, r, hsteer⟩ := steer_tide limit off (asMember h d)
  rw [hpass, hsteer]
  exact ⟨rfl, rfl, rfl, rfl, rfl⟩

/-- A member that steps takes its place and the time that the step leaves. -/
theorem passSync_step_asMember (p h : Nat) (delta : Int) (d : Dev) :
    (passSync p (stepTide delta (asMember h d))).tide.role = .member ∧
      (passSync p (stepTide delta (asMember h d))).tide.hops = h ∧
      (passSync p (stepTide delta (asMember h d))).tide.now = ((d.tide.now : Int) + delta).toNat % 2 ^ 80 ∧
      (passSync p (stepTide delta (asMember h d))).tide.stepSeen = true := by
  obtain ⟨b, c, ports, hpass⟩ := Tide.eq_of_course (passSync_course p (stepTide delta (asMember h d)))
  rw [hpass]
  exact ⟨rfl, rfl, rfl, rfl⟩

theorem cast_stepped {now : Nat} {off : Int} (h : off ≤ now) :
    ((((now : Int) + -off).toNat % 2 ^ 80 : Nat) : Int) = ((now : Int) - off) % 2 ^ 80 := by
  rw [Int.natCast_emod, Int.toNat_of_nonneg (by omega), ← sub_eq_add_neg]
  rfl

theorem refusedStep_tide (n : Nat) (off : Int) (role : Role) (cause : Nat) (d : Dev) :
    (refusedStep n off role cause d).tide =
      { d.tide with role := .isolated, isoCause := 2, hops := 0x3F, joining := true } := by
  unfold refusedStep
  split <;> rfl

/-! ## ANNOUNCE and the loss of the master (R56, R62, R63, R66, R67) -/

theorem exec_oxSyncSend (h : s.dev.tide.role = .master) :
    exec .oxSyncSend s = .next (s.after (sendSync (treePorts s.dev) s.dev)) := by
  show execOxSyncSend s = _
  simp only [execOxSyncSend, onDev_eq, h, beq_self_eq_true, if_true]

/-- An announcement is heard on a port in UP, and on a dyke port only from a neighbour that takes this device as its parent. -/
theorem exec_oxAnnounceReceived (p n q : Nat) (place : TreePlace) :
    exec (.oxAnnounceReceived p n q place) s = .next (s.after (
      if oxUp s.dev p && (!dykePort s.dev p || place.child) then
        chooseMaster (updOx p (fun x => { x with
          masterNode := n, masterPriority := q, hops := place.hops, child := place.child }) s.dev)
      else s.dev)) := by
  show execOxAnnounceReceived p n q place s = _
  simp only [execOxAnnounceReceived, onDev_eq]
  cases oxUp s.dev p <;> cases dykePort s.dev p <;> cases place.child <;> rfl

theorem exec_masterLost (h : s.dev.tide.role = .member) :
    exec .masterLost s = .next (s.after (recheckHoldover (raise 0x0B07 0 (le16 s.dev.tide.masterNode) [512] true
      (updTide (fun t => { t with
        electing := true, domainLost := true, locked := false, lockIn := 0, lockOut := 0, parent := none,
        ports := t.ports.map fun x => { x with hops := 0x3F, child := false } }) s.dev)))) := by
  show execMasterLost s = _
  simp only [execMasterLost, onDev_eq, h, bne_self_eq_false, Bool.false_eq_true, if_false]

end Rows

/-- Settles O35: a lemma for each event, each at the state's own device. The rate that steering then holds is a free value
(log 112), the bytes of SYNC and ANNOUNCE are log 163's, and a lost master clears LOCKED by log 141. -/
theorem tideEvents : Obligations.TideEvents := by
  unfold Obligations.TideEvents
  refine ⟨?refFail, ?refRecover, ?ppsOther, ?ppsSteps, ?ppsRejected, ?ppsSteers, ?outSecond, ?outElsewhere, ?outEnd,
    ?outStays, ?syncSend, ?syncSteers, ?syncSteps, ?syncRefused, ?syncOffTree, ?announceSend, ?announce, ?announceUnheard,
    ?masterLost, ?electionEnd⟩
  case refFail => rintro s _ rfl; rfl
  case refRecover =>
    rintro s _ rfl h
    exact ⟨_, exec_tideRefRecover h, rfl, rfl, slewBack_within s.dev, rfl, rfl, rfl⟩
  case ppsOther => rintro s _ a rfl h; exact exec_tidePpsEdge_otherSource a h
  case ppsSteps =>
    rintro s _ a x rfl h hx hnear hseen hpermit hbig
    have hstep : decide (oneMs ≤ (x.natAbs : Int)) = true := decide_eq_true (by rw [oneMs]; omega)
    rw [exec_tidePpsEdge a h, ppsOffset_of_le hx hnear, if_pos (by rw [hseen, hpermit, hstep]; rfl)]
  case ppsRejected =>
    rintro s _ a x rfl h hx hno hlo hhi
    rw [exec_tidePpsEdge a h, if_neg (by rcases hno with h | h <;> simp [h]),
      if_pos (decide_eq_true (oneMs_lt_ppsOffset hx hlo hhi))]
  case ppsSteers =>
    rintro s _ a x rfl h hx hlt
    have hsmall : (x.natAbs : Int) < oneMs := by rw [oneMs]; omega
    rw [exec_tidePpsEdge a h, ppsOffset_of_le hx (by omega), decide_eq_false (not_le.mpr hsmall),
      decide_eq_false (not_lt.mpr hsmall.le), Bool.and_false, if_neg Bool.false_ne_true, if_neg Bool.false_ne_true]
  case outSecond =>
    rintro s _ rfl h
    rw [exec_tidePpsOutSecond, if_pos (by simpa using h)]
  case outElsewhere =>
    rintro s _ rfl hlo hhi
    rw [exec_tidePpsOutSecond, if_neg (by simp; omega)]
  case outEnd =>
    rintro s _ rfl hon hlo hhi
    rw [exec_tidePpsOutEnd, if_pos (by simp only [hon, Bool.true_and, Bool.and_eq_true, decide_eq_true_eq]; exact ⟨hlo, hhi⟩)]
  case outStays =>
    rintro s _ rfl h
    rw [exec_tidePpsOutEnd, if_neg]
    simp only [Bool.and_eq_true, decide_eq_true_eq]
    omega
  case syncSend => rintro s _ rfl h; exact exec_oxSyncSend h
  case syncSteers =>
    rintro s _ p n q h x rfl ht hp hs he hm hh hsmall
    have hbig : decide (oneMs ≤ ((x - meanDelay (oxPortOf s.dev p)).natAbs : Int)) = false :=
      decide_eq_false (by rw [oneMs]; omega)
    obtain ⟨hrole, hhops, hslew, hnow, hparent⟩ := passSync_steer_asMember p (h + 1) (2 * (h + 1) * 65536)
      (x - meanDelay (oxPortOf s.dev p)) (heardSync p n q h s.dev)
    refine ⟨_, ?_, hrole, hhops, hslew, hnow, hparent.trans hp⟩
    rw [exec_oxSyncReceived_parent ht hp hs he hm hh, hbig, Bool.and_false, Bool.false_and,
      if_neg Bool.false_ne_true, if_neg Bool.false_ne_true]
  case syncSteps =>
    rintro s _ p n q h x rfl ht hp hs he hm hh hlarge hj hpermit hpast
    have hbig : decide (oneMs ≤ ((x - meanDelay (oxPortOf s.dev p)).natAbs : Int)) = true :=
      decide_eq_true (by rw [oneMs]; omega)
    obtain ⟨hrole, hhops, hnow, hseen⟩ := passSync_step_asMember p (h + 1) (-(x - meanDelay (oxPortOf s.dev p)))
      (heardSync p n q h s.dev)
    refine ⟨_, ?_, hrole, hhops, (congrArg Nat.cast hnow).trans (cast_stepped hpast), hseen⟩
    rw [exec_oxSyncReceived_parent ht hp hs he hm hh, hbig, hj, hpermit, if_neg (by simp), if_pos (by simp)]
  case syncRefused =>
    rintro s _ p n q h x rfl ht hp hs he hm hh hlarge hj hpermit
    have hbig : decide (oneMs ≤ ((x - meanDelay (oxPortOf s.dev p)).natAbs : Int)) = true :=
      decide_eq_true (by rw [oneMs]; omega)
    refine ⟨refusedStep n (x - meanDelay (oxPortOf s.dev p)) s.dev.tide.role s.dev.tide.isoCause
      (heardSync p n q h s.dev), ?_, ?_⟩
    · rw [exec_oxSyncReceived_parent ht hp hs he hm hh, hbig, hj, hpermit, if_pos (by simp)]
    · rw [refusedStep_tide]
      exact ⟨rfl, rfl, rfl⟩
  case syncOffTree => rintro s _ p n q h x rfl ht; exact exec_oxSyncReceived_offTree ht
  case announceSend => rintro s _ rfl; rfl
  case announce =>
    rintro s _ p n q h b rfl hup hheard
    rw [exec_oxAnnounceReceived, if_pos (by rcases hheard with h | h <;> simp [hup, h])]
  case announceUnheard =>
    rintro s _ p n q h rfl hno
    rw [exec_oxAnnounceReceived, if_neg (by rcases hno with h | h <;> simp [h])]
  case masterLost => rintro s _ rfl h; exact exec_masterLost h
  case electionEnd => rintro s _ rfl h; exact exec_oxElectionEnd h

end Sys2Proof.Machine
end

section
/-! Oxtas ports and what they carry (R56 to R63, R69 to R81, R141 to R144): bring-up and loss of a link, events, votes, lock
messages and stream frames. -/

namespace Sys2Proof.Machine

section Rows

variable {s : State} {p : Nat}

/-! ## Bring-up (R56, R58 to R61) -/

theorem exec_oxSignalDetect (hon : linkOn s.dev = true) (he : (oxPortOf s.dev p).enable = true)
    (hd : (oxPortOf s.dev p).state = .down) :
    exec (.oxSignalDetect p) s = .next (s.after (
      if (oxPortOf s.dev p).hold then updOx p (fun x => { x with signalSeen := true }) s.dev
      else updOx p (fun x => { x with state := .signal }) s.dev)) := by
  show execOxSignalDetect p s = _
  simp only [execOxSignalDetect, onDev_eq, hon, he, hd, Bool.not_true, bne_self_eq_false, Bool.or_self, Bool.false_eq_true,
    if_false]

/-- A port that has seen signal while it was held in DOWN goes on at once. -/
theorem exec_oxDownHoldEnd_seen (hh : (oxPortOf s.dev p).hold = true) (hs : (oxPortOf s.dev p).signalSeen = true)
    (he : (oxPortOf s.dev p).enable = true) (hd : (oxPortOf s.dev p).state = .down) :
    exec (.oxDownHoldEnd p) s =
      .next (s.after (updOx p (fun x => { x with hold := false, signalSeen := false, state := .signal }) s.dev)) := by
  show execOxDownHoldEnd p s = _
  simp only [execOxDownHoldEnd, onDev_eq, hh, Bool.not_true, Bool.false_eq_true, if_false]
  refine congrArg (fun d => Host.Outcome.next (s.after d)) (updOx_congr ?_)
  simp only [hs, he, hd, beq_self_eq_true, Bool.and_self, if_true]

/-- What the end of a bring-up stage does to a powered port (R58 to R61). -/
def stageDone (p skew node domain priority : Nat) (d : Dev) : Dev :=
  match (oxPortOf d p).state with
  | .signal => updOx p (fun x => { x with state := .aligned }) d
  | .aligned => if 64 < skew then d else updOx p (fun x => { x with state := .hello, known := false, clashed := false }) d
  | .hello =>
    decideHello p
      (updOx p (fun x => { x with peerNode := node, peerDomain := domain, peerPriority := priority, known := true }) d)
  | .measured =>
    if (oxPortOf d p).delays.length < 16 then d
    else chooseMaster (updOx p (fun x => { x with state := .up, hops := 0x3F }) d)
  | .down | .up => d

theorem exec_oxBringupStageDone (k n m q : Nat) :
    exec (.oxBringupStageDone ⟨p, k⟩ n m q) s = .next (s.after (
      if linkOn s.dev then stageDone p k n m q s.dev else s.dev)) := by
  show execOxBringupStageDone ⟨p, k⟩ n m q s = _
  unfold stageDone
  simp only [execOxBringupStageDone, onDev_eq]
  cases linkOn s.dev
  · rfl
  · cases (oxPortOf s.dev p).state <;> rfl

section Stages

variable {d : Dev} {k n m q : Nat}

theorem stageDone_signal (h : (oxPortOf d p).state = .signal) :
    stageDone p k n m q d = updOx p (fun x => { x with state := .aligned }) d := by
  rw [stageDone, h]

theorem stageDone_aligned (h : (oxPortOf d p).state = .aligned) : stageDone p k n m q d =
    if 64 < k then d else updOx p (fun x => { x with state := .hello, known := false, clashed := false }) d := by
  rw [stageDone, h]

theorem stageDone_hello (h : (oxPortOf d p).state = .hello) : stageDone p k n m q d =
    decideHello p (updOx p (fun x => { x with peerNode := n, peerDomain := m, peerPriority := q, known := true }) d) := by
  rw [stageDone, h]

theorem stageDone_measured (h : (oxPortOf d p).state = .measured) : stageDone p k n m q d =
    if (oxPortOf d p).delays.length < 16 then d
    else chooseMaster (updOx p (fun x => { x with state := .up, hops := 0x3F }) d) := by
  rw [stageDone, h]

end Stages

theorem exec_oxBringupLimit (hd : (oxPortOf s.dev p).state ≠ .down) (hu : (oxPortOf s.dev p).state ≠ .up)
    (hs : (oxPortOf s.dev p).stopped = false) : exec (.oxBringupLimit p) s = .next (s.after (portToDown p s.dev)) := by
  show execOxBringupLimit p s = _
  simp only [execOxBringupLimit, onDev_eq, beq_eq_false_iff_ne.mpr hd, beq_eq_false_iff_ne.mpr hu, hs, Bool.or_self,
    Bool.false_eq_true, if_false]

/-- A silent link takes down a port that is UP or stopped in HELLO; what it still held is lost. -/
theorem exec_oxLinkDown (n : Nat) : exec (.oxLinkDown p n) s = .next (s.after (
    if (oxPortOf s.dev p).state == .up || (oxPortOf s.dev p).stopped then
      portToDown p (linkDownEvent p (dropTx p (updOx p (fun x => { x with lostMsgs := x.lostMsgs + BitVec.ofNat 32 n }) s.dev)))
    else s.dev)) := by
  show execOxLinkDown p n s = _
  simp only [execOxLinkDown, onDev_eq]
  cases (oxPortOf s.dev p).state == .up || (oxPortOf s.dev p).stopped <;> rfl

theorem exec_oxDelayMeasure {a b x y : Int} (h : (oxPortOf s.dev p).state = .measured ∨ (oxPortOf s.dev p).state = .up) :
    exec (.oxDelayMeasure p a b x y) s = .next (s.after (
      updOx p (fun q => { q with delays := (((y - a) - (x - b)) :: q.delays).take 16 }) s.dev)) := by
  show execOxDelayMeasure p a b x y s = _
  simp only [execOxDelayMeasure, onDev_eq]
  rw [if_pos (by simpa using h)]

/-! ## Events and votes (R63, R76, R77, R141, R144) -/

/-- What an EVENT message that has come by port `p` does: delivered here, passed on unless it was for this device alone. -/
def hearEvent (p sender dest : Nat) (stamp : U64) (c : Nat) (b : List Byte) (d : Dev) : Dev :=
  let e := if decide (16384 ≤ dest) || dest == d.tide.node then deliverMessage c sender stamp.toNat b d else d
  if dest == d.tide.node then e
  else sendOx 0x55 (eventMessage c dest sender stamp.toNat b) (otherPorts e p) e

theorem exec_oxEventReceived (n m : Nat) (t : U64) (c : Nat) (b : List Byte) :
    exec (.oxEventReceived p n m t c b) s = .next (s.after (
      if onTree s.dev p then hearEvent p n m t c b s.dev else s.dev)) := by
  show execOxEventReceived p n m t c b s = _
  simp only [execOxEventReceived, onDev_eq]
  cases onTree s.dev p <;> rfl

section Event

variable {d : Dev} {n m : Nat} {t : U64} {c : Nat} {b : List Byte}

theorem hearEvent_here (h : m = d.tide.node) : hearEvent p n m t c b d = deliverMessage c n t.toNat b d := by
  simp only [hearEvent, h, beq_self_eq_true, Bool.or_true, if_true]

theorem hearEvent_all (h : m ≠ d.tide.node) (hall : 16384 ≤ m) : hearEvent p n m t c b d =
    sendOx 0x55 (eventMessage c m n t.toNat b) (otherPorts (deliverMessage c n t.toNat b d) p)
      (deliverMessage c n t.toNat b d) := by
  simp only [hearEvent, decide_eq_true hall, beq_eq_false_iff_ne.mpr h, Bool.true_or, if_true, Bool.false_eq_true, if_false]

theorem hearEvent_elsewhere (h : m ≠ d.tide.node) (hone : m < 16384) : hearEvent p n m t c b d =
    sendOx 0x55 (eventMessage c m n t.toNat b) (otherPorts d p) d := by
  simp only [hearEvent, decide_eq_false (Nat.not_le.mpr hone), beq_eq_false_iff_ne.mpr h, Bool.or_self, Bool.false_eq_true,
    if_false]

end Event

theorem exec_oxCommitReceived (m : CommitMsg) :
    exec (.oxCommitReceived p m) s = .next (s.after (
      if onTree s.dev p then
        if m.dest = s.dev.tide.node then addVote m.ballot m.node m.status m.isResult s.dev
        else sendOx 0x66 (le8 (b2n m.isResult) ++ le32 m.ballot.toNat ++ le16 m.dest ++ le16 m.node ++ le16 m.status)
          (otherPorts s.dev p) s.dev
      else s.dev)) := by
  show execOxCommitReceived p m s = _
  simp only [execOxCommitReceived, onDev_eq]
  cases onTree s.dev p <;> rfl

/-! ## Lock messages (R63, R69, R71, R74, R75, R138) -/

theorem exec_oxLockReceived_offTree (g : Nat) (m : LockMsg) (ht : onTree s.dev p = false) :
    exec (.oxLockReceived p g m) s = .next (s.after s.dev) := by
  show execOxLockReceived p g m s = _
  simp only [execOxLockReceived, onDev_eq, ht, Bool.not_false, if_true]

/-- A definition of a group that this device does not hold is kept, as heard from another, and goes on along the tree. -/
theorem exec_oxLockReceived_define {g a b n o c : Nat} (ht : onTree s.dev p = true) (hg : groupOf s.dev g = none) :
    exec (.oxLockReceived p g (.define a b n o c)) s = .next (s.after (
      sendLock g (.define a b n o c) (otherPorts s.dev p) (updTide (fun t => { t with
        groups := tput none t.groups g (some { Group.zero with
          t0 := a, period := b, leaderNode := n, leaderOutput := o, cutOffset := c, heard := true }) }) s.dev))) := by
  show execOxLockReceived p g (.define a b n o c) s = _
  simp only [execOxLockReceived, onDev_eq, ht, hg, Bool.not_true, Bool.false_eq_true, if_false]
  rfl

theorem exec_oxLockReceived_stillEnter {g m k : Nat} (ht : onTree s.dev p = true) :
    exec (.oxLockReceived p g (.stillEnter m k)) s = .next (s.after (
      let e := updGroup g (fun x => { x with still := true, divisor := m, fromIndex := k, wakeIndex := none }) s.dev
      sendLock g (.stillEnter m k) (otherPorts e p) e)) := by
  show execOxLockReceived p g (.stillEnter m k) s = _
  simp only [execOxLockReceived, onDev_eq, ht, Bool.not_true, Bool.false_eq_true, if_false]

theorem exec_oxLockReceived_wake {g k : Nat} (ht : onTree s.dev p = true) :
    exec (.oxLockReceived p g (.wake k)) s =
      .next (s.after (wakeGroupAt g k (sendLock g (.wake k) (otherPorts s.dev p) s.dev))) := by
  show execOxLockReceived p g (.wake k) s = _
  simp only [execOxLockReceived, onDev_eq, ht, Bool.not_true, Bool.false_eq_true, if_false]

/-- A message to the leader that has reached it: counted, or answered, and passed no further. -/
def leaderHears (g : Nat) (d : Dev) : LockMsg → Dev
  | .quiet node output lo hi => leaderQuiet g (node * 8 + output) hi lo d
  | .busy node output => updGroup g (fun x => { x with quiet := x.quiet.filter (·.1 != node * 8 + output) }) d
  | .wakeAsk _ _ landed => leaderWake g landed d
  | .define .. | .stillEnter .. | .wake _ => d

/-- The messages that go to a group's leader. -/
def goesToLeader : LockMsg → Bool
  | .quiet .. | .busy .. | .wakeAsk .. => true
  | .define .. | .stillEnter .. | .wake _ => false

theorem exec_oxLockReceived_toLeader {g : Nat} {m : LockMsg} (ht : onTree s.dev p = true) (hm : goesToLeader m = true) :
    exec (.oxLockReceived p g m) s = .next (s.after (
      if (groupOf s.dev g).map (·.leaderNode) = some s.dev.tide.node then leaderHears g s.dev m
      else sendLock g m (otherPorts s.dev p) s.dev)) := by
  show execOxLockReceived p g m s = _
  simp only [execOxLockReceived, onDev_eq, ht, Bool.not_true, Bool.false_eq_true, if_false]
  cases m with
  | define | stillEnter | wake => cases hm
  | quiet | busy | wakeAsk => simp only [beq_iff_eq]; rfl

/-! ## Streams (R80, R81) -/

/-- An imported frame that fits and finds a free buffer which its owner may write is written there and is the latest. -/
theorem exec_oxStreamFrameReceived_free {k w h : Nat} {n : U32} {b : List Byte} {i : Import} {m : Nat}
    (hi : importOf s.dev k = some i) (hp : i.port = p) (hup : oxUp s.dev p = true) (hlen : b.length ≤ i.size)
    (hfree : [0, 1, 2].find? (fun m => i.latest != some m && !(importBusy s.dev k).contains m) = some m)
    (hloc : locFail s.dev (issuerOf i.owner) false true (importBuf i m) b.length = none) :
    exec (.oxStreamFrameReceived p k w h n b) s = .next (s.after (updImport k (some { i with
      latest := some m, frames := i.frames + 1, lastFrame := n, lost := false,
      sizes := modifyAt (fun _ => (w, h)) m (if i.sizes.isEmpty then List.replicate 3 (0, 0) else i.sizes) })
      (locWrite s.dev (issuerOf i.owner) false (importBuf i m) b))) := by
  show execOxStreamFrameReceived p k w h n b s = _
  have hok : (decide (i.port ≠ p) || !oxUp s.dev p || decide (i.size < b.length)) = false := by
    simp [hp, hup, hlen]
  simp only [execOxStreamFrameReceived, onDev_eq, hi, hok, hfree, hloc, Option.isSome_none, Bool.false_eq_true, if_false]

theorem exec_oxStreamFrameReceived_tooLarge {k w h : Nat} {n : U32} {b : List Byte} {i : Import}
    (hi : importOf s.dev k = some i) (hlen : i.size < b.length) :
    exec (.oxStreamFrameReceived p k w h n b) s = .next (s.after s.dev) := by
  show execOxStreamFrameReceived p k w h n b s = _
  simp only [execOxStreamFrameReceived, onDev_eq, hi, hlen, decide_true, Bool.or_true, if_true]

theorem exec_streamLost_import {k : Nat} {i : Import} (hi : importOf s.dev k = some i) (hl : i.lost = false) :
    exec (.streamLost true k) s = .next (s.after (raise 0x0B09 k (le8 k ++ le8 i.port ++ le32 i.lastFrame.toNat)
      (512 :: ownerPages i.owner).eraseDups false (updImport k (some { i with lost := true }) s.dev))) := by
  show execStreamLost true k s = _
  simp only [execStreamLost, onDev_eq, loseStream, hi, hl, Bool.false_eq_true, if_false, if_true]

theorem exec_streamLost_export {k : Nat} {i : Export} (hi : exportOf s.dev k = some i) (hl : i.lost = false) :
    exec (.streamLost false k) s = .next (s.after (raise 0x0B09 k (le8 k ++ le8 i.port ++ le32 i.lastFrame.toNat)
      [512] false (updExport k (some { i with lost := true }) s.dev))) := by
  show execStreamLost false k s = _
  simp only [execStreamLost, onDev_eq, loseStream, hi, hl, Bool.false_eq_true, if_false]

end Rows

/-- Settles O36: a lemma for each event, each at the state's own device. The bytes of messages and payloads, their routing and
the count of lost messages are the model's choices (logs 13, 115, 163, 165). -/
theorem oxtasEvents : Obligations.OxtasEvents := by
  unfold Obligations.OxtasEvents
  refine ⟨?signal, ?signalHeld, ?holdEnd, ?aligned, ?hello, ?skewed, ?identity, ?up, ?tooFew, ?limit, ?linkDown, ?linkKept,
    ?delay, ?eventHere, ?eventAll, ?eventOn, ?eventOff, ?vote, ?voteOn, ?voteOff, ?define, ?quiet, ?busy, ?stillEnter, ?wake,
    ?wakeAsk, ?wakeAskOn, ?lockOff, ?frame, ?frameLarge, ?importLost, ?exportLost⟩
  case signal =>
    rintro s _ p rfl hon he hd hh
    rw [exec_oxSignalDetect hon he hd, hh, if_neg Bool.false_ne_true]
  case signalHeld =>
    rintro s _ p rfl hon he hd hh
    rw [exec_oxSignalDetect hon he hd, if_pos hh]
  case holdEnd => rintro s _ p rfl hh hs he hd; exact exec_oxDownHoldEnd_seen hh hs he hd
  case aligned =>
    rintro s _ p n m q k rfl hon hs
    rw [exec_oxBringupStageDone, if_pos hon, stageDone_signal hs]
  case hello =>
    rintro s _ p n m q k rfl hon hs hk
    rw [exec_oxBringupStageDone, if_pos hon, stageDone_aligned hs, if_neg (Nat.not_lt.mpr hk)]
  case skewed =>
    rintro s _ p n m q k rfl hs hk
    rw [exec_oxBringupStageDone, stageDone_aligned hs, if_pos hk, ite_self]
  case identity =>
    rintro s _ p n m q k rfl hon hs
    rw [exec_oxBringupStageDone, if_pos hon, stageDone_hello hs]
  case up =>
    rintro s _ p n m q k rfl hon hs hn
    rw [exec_oxBringupStageDone, if_pos hon, stageDone_measured hs, if_neg (Nat.not_lt.mpr hn)]
  case tooFew =>
    rintro s _ p n m q k rfl hs hn
    rw [exec_oxBringupStageDone, stageDone_measured hs, if_pos hn, ite_self]
  case limit => rintro s _ p rfl hd hu hs; exact exec_oxBringupLimit hd hu hs
  case linkDown =>
    rintro s _ p n rfl h
    rw [exec_oxLinkDown, if_pos (by simpa using h)]
  case linkKept =>
    rintro s _ p n rfl hu hs
    rw [exec_oxLinkDown, if_neg (by simp [hu, hs])]
  case delay => rintro s _ p a b x y rfl h; exact exec_oxDelayMeasure h
  case eventHere =>
    rintro s _ p n m t c b rfl ht hm hlt
    rw [exec_oxEventReceived, if_pos ht, hearEvent_here hm]
  case eventAll =>
    rintro s _ p n m t c b rfl ht hm hle
    rw [exec_oxEventReceived, if_pos ht, hearEvent_all hm hle]
  case eventOn =>
    rintro s _ p n m t c b rfl ht hm hlt
    rw [exec_oxEventReceived, if_pos ht, hearEvent_elsewhere hm hlt]
  case eventOff =>
    rintro s _ p n m t c b rfl ht
    rw [exec_oxEventReceived, ht, if_neg Bool.false_ne_true]
  case vote =>
    rintro s _ p m rfl ht hm
    rw [exec_oxCommitReceived, if_pos ht, if_pos hm]
  case voteOn =>
    rintro s _ p m rfl ht hm
    rw [exec_oxCommitReceived, if_pos ht, if_neg hm]
  case voteOff =>
    rintro s _ p m rfl ht
    rw [exec_oxCommitReceived, ht, if_neg Bool.false_ne_true]
  case define => rintro s _ p g a b n o c rfl ht hg; exact exec_oxLockReceived_define ht hg
  case quiet =>
    rintro s _ p g n o a b rfl ht hg
    rw [exec_oxLockReceived_toLeader ht rfl, if_pos hg, leaderHears]
  case busy =>
    rintro s _ p g n o rfl ht hg
    rw [exec_oxLockReceived_toLeader ht rfl, if_pos hg, leaderHears]
  case stillEnter => rintro s _ p g m k rfl ht; exact exec_oxLockReceived_stillEnter ht
  case wake => rintro s _ p g k rfl ht; exact exec_oxLockReceived_wake ht
  case wakeAsk =>
    rintro s _ p g a b t rfl ht hg
    rw [exec_oxLockReceived_toLeader ht rfl, if_pos hg, leaderHears]
  case wakeAskOn =>
    rintro s _ p g a b t rfl ht hg
    rw [exec_oxLockReceived_toLeader ht rfl, if_neg hg]
  case lockOff => rintro s _ p g x rfl ht; exact exec_oxLockReceived_offTree g x ht
  case frame =>
    rintro s _ p k w h n b i m rfl hi hp hup hlen hfree hloc
    exact exec_oxStreamFrameReceived_free hi hp hup hlen hfree hloc
  case frameLarge => rintro s _ p k w h n b i rfl hi hlen; exact exec_oxStreamFrameReceived_tooLarge hi hlen
  case importLost => rintro s _ k i rfl hi hl; exact exec_streamLost_import hi hl
  case exportLost => rintro s _ k i rfl hi hl; exact exec_streamLost_export hi hl

end Sys2Proof.Machine
end

section
/-! Chapter 2's landings do not look at the list of transactions, and leave it as it is. -/

namespace Sys2Proof.Machine

variable (t : List Txn) (d : Dev)

@[simp] theorem updTide_withTxns (f) : updTide f (withTxns t d) = withTxns t (updTide f d) := rfl
@[simp] theorem updOx_withTxns (p f) : updOx p f (withTxns t d) = withTxns t (updOx p f d) := rfl
@[simp] theorem dropTx_withTxns (p) : dropTx p (withTxns t d) = withTxns t (dropTx p d) := rfl
@[simp] theorem oxUp_withTxns (p) : oxUp (withTxns t d) p = oxUp d p := rfl
@[simp] theorem upPorts_withTxns : upPorts (withTxns t d) = upPorts d := rfl
@[simp] theorem treePorts_withTxns : treePorts (withTxns t d) = treePorts d := rfl
@[simp] theorem masterPaths_withTxns : masterPaths (withTxns t d) = masterPaths d := rfl
@[simp] theorem groupOf_withTxns (g) : groupOf (withTxns t d) g = groupOf d g := rfl
@[simp] theorem groupOutputs_withTxns (g) : groupOutputs (withTxns t d) g = groupOutputs d g := rfl
@[simp] theorem exportOf_withTxns (k) : exportOf (withTxns t d) k = exportOf d k := rfl
@[simp] theorem importOf_withTxns (k) : importOf (withTxns t d) k = importOf d k := rfl
@[simp] theorem outsideDomain_withTxns (r c) : outsideDomain r c (withTxns t d) = withTxns t (outsideDomain r c d) := rfl
@[simp] theorem updExport_withTxns (k e) : updExport k e (withTxns t d) = withTxns t (updExport k e d) := rfl
@[simp] theorem updImport_withTxns (k e) : updImport k e (withTxns t d) = withTxns t (updImport k e d) := rfl
@[simp] theorem updEvChan_withTxns (c f) : updEvChan c f (withTxns t d) = withTxns t (updEvChan c f d) := rfl
@[simp] theorem nextNumber_withTxns (o) : nextNumber (withTxns t d) o = nextNumber d o := rfl
@[simp] theorem nextStart_withTxns (o w) : nextStart (withTxns t d) o w = nextStart d o w := rfl
@[simp] theorem ownCutOffset_withTxns (o) : ownCutOffset (withTxns t d) o = ownCutOffset d o := rfl

theorem ite_withTxns {c : Prop} [Decidable c] (a b : Dev) :
    (if c then withTxns t a else withTxns t b) = withTxns t (if c then a else b) := (apply_ite (withTxns t) c a b).symm

/-! ## The domain (R62 to R68) -/

@[simp] theorem recheckHoldover_withTxns : recheckHoldover (withTxns t d) = withTxns t (recheckHoldover d) := by
  simp only [recheckHoldover, updTide_withTxns, raise_withTxns, ite_withTxns]
  rfl

@[simp] theorem tooFar_withTxns (n) : tooFar n (withTxns t d) = withTxns t (tooFar n d) := by
  simp only [tooFar, outsideDomain_withTxns, raise_withTxns, ite_withTxns]
  rfl

@[simp] theorem chooseMaster_withTxns : chooseMaster (withTxns t d) = withTxns t (chooseMaster d) := by
  unfold chooseMaster
  simp only [withTxns_tide, upPorts_withTxns, masterPaths_withTxns, updTide_withTxns, outsideDomain_withTxns,
    recheckHoldover_withTxns, tooFar_withTxns]
  cases bestPath _ (masterPaths d) <;> simp only [ite_withTxns]

/-! ## Ports (R58, R59, R61, R66, R81) -/

@[simp] theorem loseStream_withTxns (im k) : loseStream im k (withTxns t d) = withTxns t (loseStream im k d) := by
  unfold loseStream
  simp only [importOf_withTxns, exportOf_withTxns]
  cases importOf d k <;> cases exportOf d k <;>
    simp only [updImport_withTxns, updExport_withTxns, raise_withTxns, ite_withTxns]

@[simp] theorem loseStreamsOn_withTxns (p) : loseStreamsOn p (withTxns t d) = withTxns t (loseStreamsOn p d) :=
  foldl_withTxns _ (fun d k t => by
    simp only [importOf_withTxns, exportOf_withTxns, loseStream_withTxns, ite_withTxns]) _ d t

@[simp] theorem afterPortLoss_withTxns (p) : afterPortLoss p (withTxns t d) = withTxns t (afterPortLoss p d) := by
  unfold afterPortLoss
  simp only [updOx_withTxns, loseStreamsOn_withTxns, withTxns_tide, updTide_withTxns, masterPaths_withTxns]
  cases bestPath _ (masterPaths _) <;>
    simp only [recheckHoldover_withTxns, chooseMaster_withTxns, ite_withTxns]

@[simp] theorem leaveUp_withTxns (p f) : leaveUp p f (withTxns t d) = withTxns t (leaveUp p f d) := by
  simp only [leaveUp, oxUp_withTxns, dropTx_withTxns, updOx_withTxns, afterPortLoss_withTxns, ite_withTxns]

@[simp] theorem decideHello_withTxns (p) : decideHello p (withTxns t d) = withTxns t (decideHello p d) := by
  simp only [decideHello, updOx_withTxns, raise_withTxns, ite_withTxns]
  rfl

@[simp] theorem recheckPorts_withTxns : recheckPorts (withTxns t d) = withTxns t (recheckPorts d) :=
  foldl_withTxns _ (fun d p t => by
    simp only [leaveUp_withTxns, decideHello_withTxns, ite_withTxns]
    rfl) _ d t

/-! ## Messages and lock groups (R69 to R77) -/

@[simp] theorem sendOx_withTxns (k c ports) : sendOx k c ports (withTxns t d) = withTxns t (sendOx k c ports d) :=
  foldl_withTxns _ (fun d p t => by simp only [updOx_withTxns, ite_withTxns]; rfl) ports d t

@[simp] theorem deliverMessage_withTxns (c n st b) :
    deliverMessage c n st b (withTxns t d) = withTxns t (deliverMessage c n st b d) := by
  simp only [deliverMessage, updEvChan_withTxns, raiseAt_withTxns, ite_withTxns]
  rfl

@[simp] theorem updGroup_withTxns (g f) : updGroup g f (withTxns t d) = withTxns t (updGroup g f d) := by
  unfold updGroup
  rw [groupOf_withTxns]
  cases groupOf d g <;> rfl

@[simp] theorem distributeGroup_withTxns (g) : distributeGroup g (withTxns t d) = withTxns t (distributeGroup g d) := by
  unfold distributeGroup sendLock
  rw [groupOf_withTxns]
  cases groupOf d g with
  | none => rfl
  | some x =>
    simp only [withTxns_tide, updGroup_withTxns, treePorts_withTxns, ownCutOffset_withTxns, sendOx_withTxns, ite_withTxns]

@[simp] theorem renumber_withTxns (o n n') : renumber o n n' (withTxns t d) = withTxns t (renumber o n n' d) := by
  unfold renumber
  split <;> rfl

@[simp] theorem restart_withTxns (o w) : restart o w (withTxns t d) = withTxns t (restart o w d) := by
  simp only [restart, outOf_withTxns, nextNumber_withTxns, nextStart_withTxns, renumber_withTxns, updOut_withTxns, ite_withTxns]
  rfl

@[simp] theorem leaveGroup_withTxns (o) : leaveGroup o (withTxns t d) = withTxns t (leaveGroup o d) := by
  unfold leaveGroup
  rw [outOf_withTxns]
  cases (outOf d o).group with
  | none => rfl
  | some g =>
    simp only [updOut_withTxns, withTxns_tide, updGroup_withTxns, groupOf_withTxns, groupOutputs_withTxns, updTide_withTxns]
    cases groupOf _ g <;> simp only [ite_withTxns]

@[simp] theorem landLockGroup_withTxns (ch) : landLockGroup ch (withTxns t d) = withTxns t (landLockGroup ch d) := by
  simp only [landLockGroup, outOf_withTxns, leaveGroup_withTxns, ite_withTxns, groupOf_withTxns, groupOutputs_withTxns,
    updTide_withTxns, updOut_withTxns, distributeGroup_withTxns, restart_withTxns]

end Sys2Proof.Machine
end

section
/-! Chapter 2's commands (R48, R49, R56, R58, R61, R69 to R72, R75 to R80, R82): what each landing makes of the device. -/

namespace Sys2Proof.Machine

variable {c : Cmd} {s : State} {d : Dev} {b : List Byte} {ch : Change}

/-! ## The shapes of the proofs -/

/-- The change that a command lands is the command itself. -/
theorem Lands.cmd_eq {op : Op} (h : Lands op c s d b ch) : ch.cmd = c :=
  (prepareChanges_one _ _ op c b ch rfl h.ready).2.1

/-- A command without results whose landing leaves the transactions alone does what its row's landing does. -/
theorem does_silent {op : Op} {L : Dev} (hk : opKind op = .d ∨ opKind op = .n) (h : Lands op c s d b ch)
    (hres : (opSpec op).results = fun _ _ => [])
    (hl : ∀ n t e, (opSpec op).land n ch (withTxns t e) = withTxns t ((opSpec op).land n ch e))
    (hL : (opSpec op).land d.nextTxn ch d.opened = L) : Does (instrOf op c) (ticketOf op c s) s [] L :=
  does_lands op c s d b ch [] L hk h (fun t => hl ..) (fun t => by rw [hres]) (fun _ _ => hL) (fun _ _ => by rw [hres])

/-- An accepted command's parameter fields have passed their checks (step 7 of R94). -/
theorem Accepted.fieldsCheck_eq_none {op : Op} (h : Accepted op c s d b) :
    ∃ x : Ctx, x.c = c ∧ fieldsCheck x ((opSpec op).fields x) (24 + 8 * (opSpec op).len) 320 24 = none := by
  have hvalid := h.valid
  unfold validate at hvalid
  dsimp only at hvalid
  split at hvalid
  · cases hvalid
  next hnone =>
    simp only [firstFail, List.findSome?_eq_none_iff, List.forall_mem_cons, id] at hnone
    exact ⟨_, rfl, hnone.2.2.2.2.1⟩

/-- A field that the walk over a command's bytes has come to was checked, and the walk goes on after it. -/
theorem fieldsCheck_eq_none_of_find {x : Ctx} {fs : List Field} {stop n off : Nat} {f : Field} (hoff : off < stop)
    (hf : fs.find? (·.off == off) = some f) (h : fieldsCheck x fs stop (n + 1) off = none) :
    f.ok x (x.c.field f.off f.n) = none ∧ fieldsCheck x fs stop n (off + max 1 f.n) = none := by
  rw [fieldsCheck, if_neg (Nat.not_le.mpr hoff), hf] at h
  dsimp only at h
  split at h
  · cases h
  next hok => exact ⟨hok, h⟩

/-! ## The source, the ports and the identity (R48, R49, R56, R58, R61) -/

theorem land_tideSource (n : Nat) (ch : Change) (d : Dev) : (opSpec .tideSource).land n ch d =
    if ch.cmd.u8 24 = d.tide.source then
      updTide (fun t => { t with source := ch.cmd.u8 24, stepPermit := ch.cmd.u8 25 == 1 }) d
    else chooseMaster (recheckHoldover (updTide (fun t => { t with
      source := ch.cmd.u8 24, stepPermit := ch.cmd.u8 25 == 1, ppsSeen := false, locked := false, lockIn := 0, lockOut := 0,
      slew := if ch.cmd.u8 24 = 0 then 0 else t.slew, rate := if ch.cmd.u8 24 = 0 then 0 else t.rate,
      domainLost := t.domainLost && ch.cmd.u8 24 == 2 }) d)) := by
  by_cases h : ch.cmd.u8 24 = d.tide.source
  · rw [if_pos h]
    exact if_pos (by simp [h])
  · rw [if_neg h]
    exact if_neg (by simpa using h)

theorem land_tideSource_withTxns (n : Nat) (t : List Txn) (e : Dev) :
    (opSpec .tideSource).land n ch (withTxns t e) = withTxns t ((opSpec .tideSource).land n ch e) := by
  simp only [land_tideSource, updTide_withTxns, recheckHoldover_withTxns, chooseMaster_withTxns, ite_withTxns]
  rfl

theorem land_oxPort_withTxns (n : Nat) (t : List Txn) (e : Dev) :
    (opSpec .oxPort).land n ch (withTxns t e) = withTxns t ((opSpec .oxPort).land n ch e) := by
  simp only [opSpec, specOxPort, updOx_withTxns, leaveUp_withTxns, ite_withTxns]

theorem tooFar_ports (n : Nat) (d : Dev) : (tooFar n d).tide.ports = d.tide.ports := by
  unfold tooFar
  dsimp only
  split <;> rfl

theorem chooseMaster_ports (d : Dev) : (chooseMaster d).tide.ports = d.tide.ports := by
  have hout : ∀ r c, (outsideDomain r c d).tide.ports = d.tide.ports := fun _ _ => rfl
  unfold chooseMaster
  dsimp only
  cases bestPath _ (masterPaths d) <;>
    simp only [apply_ite (fun d : Dev => d.tide.ports), recheckHoldover_ports, updTide_tide, tooFar_ports, hout, ite_self]

theorem loseStream_ports (im : Bool) (k : Nat) (d : Dev) : (loseStream im k d).tide.ports = d.tide.ports := by
  have himport : ∀ i, (updImport k i d).tide.ports = d.tide.ports := fun _ => rfl
  have hexport : ∀ e, (updExport k e d).tide.ports = d.tide.ports := fun _ => rfl
  unfold loseStream
  cases importOf d k <;> cases exportOf d k <;>
    simp only [apply_ite (fun d : Dev => d.tide.ports), raise_tide, himport, hexport, ite_self]

theorem loseStreamsOn_ports (p : Nat) (d : Dev) : (loseStreamsOn p d).tide.ports = d.tide.ports := by
  unfold loseStreamsOn
  refine foldl_keeps (fun d : Dev => d.tide.ports) _ (fun d k => ?_) _ d
  simp only [apply_ite (fun d : Dev => d.tide.ports), loseStream_ports, ite_self]

theorem afterPortLoss_ports (p : Nat) (d : Dev) :
    (afterPortLoss p d).tide.ports = (updOx p (fun x => { x with hops := 0x3F }) d).tide.ports := by
  unfold afterPortLoss
  dsimp only
  cases bestPath _ (masterPaths _) <;>
    simp only [apply_ite (fun d : Dev => d.tide.ports), recheckHoldover_ports, updTide_tide, chooseMaster_ports, ite_self,
      loseStreamsOn_ports]

/-- What a port shows of its state when it leaves UP, or any other state, for the one that `f` gives. -/
theorem leaveUp_state {p : Nat} {f : OxPort → OxPort} {st : OxState} (hf : ∀ x, (f x).state = st)
    (hp : p < d.tide.ports.length) : (oxPortOf (leaveUp p f d) p).state = st := by
  have hset : (oxPortOf (updOx p (fun x => f { x with child := false }) (dropTx p d)) p).state = st := by
    rw [oxPortOf_updOx_self _ (by simpa [dropTx, updOx, length_modifyAt] using hp)]
    exact hf _
  unfold leaveUp
  dsimp only
  split
  · rw [oxPortOf, afterPortLoss_ports]
    refine Eq.trans ?_ hset
    exact oxPortOf_updOx_keeps OxPort.state fun _ => rfl
  · exact hset

theorem land_domainSet_withTxns (n : Nat) (t : List Txn) (e : Dev) :
    (opSpec .domainSet).land n ch (withTxns t e) = withTxns t ((opSpec .domainSet).land n ch e) := by
  simp only [opSpec, specDomainSet, updTide_withTxns, recheckPorts_withTxns, chooseMaster_withTxns]

@[simp] theorem outOf_updTide (f : Tide → Tide) (d : Dev) (o : Nat) : outOf (updTide f d) o = outOf d o := rfl

/-! ## Lock groups (R69 to R72, R75) -/

/-- LOCK_GROUP's bit byte holds bit 0 alone, so that `leave` is the byte's value. -/
theorem lockGroup_leave (h : Accepted .lockGroup c s d b) : c.bit 26 0 = decide (c.u8 26 = 1) := by
  obtain ⟨x, rfl, hcheck⟩ := h.fieldsCheck_eq_none
  have hok : ∀ {v : Nat}, (fBits 26 1).ok x v = none → v ≤ 1 := by simp [fBits]
  have hbits : x.c.u8 26 ≤ 1 := by
    change fieldsCheck x (if x.c.bit 26 0 then _ else _) 48 320 24 = none at hcheck
    cases hleave : x.c.bit 26 0 with
    | true =>
      rw [hleave, if_pos rfl] at hcheck
      have h25 := (fieldsCheck_eq_none_of_find (f := fRange 24 1 0 7) (by decide) rfl hcheck).2
      have h26 := (fieldsCheck_eq_none_of_find (f := fAny 25 1) (by decide) rfl h25).2
      exact hok (fieldsCheck_eq_none_of_find (f := fBits 26 1) (by decide) rfl h26).1
    | false =>
      rw [hleave, if_neg Bool.false_ne_true] at hcheck
      have h25 := (fieldsCheck_eq_none_of_find (f := fRange 24 1 0 7) (by decide) rfl hcheck).2
      have h26 := (fieldsCheck_eq_none_of_find (f := fRange 25 1 0 63) (by decide) rfl h25).2
      exact hok (fieldsCheck_eq_none_of_find (f := fBits 26 1) (by decide) rfl h26).1
  rw [Cmd.bit]
  rcases Nat.le_one_iff_eq_zero_or_eq_one.mp hbits with h | h <;> rw [h] <;> rfl

theorem land_lockGroup_withTxns (n : Nat) (t : List Txn) (e : Dev) :
    (opSpec .lockGroup).land n ch (withTxns t e) = withTxns t ((opSpec .lockGroup).land n ch e) :=
  landLockGroup_withTxns ..

/-- A group's definition as LOCK_GROUP gives it, with the margin that the group had. -/
def definedGroup (c : Cmd) (margin : Nat) : Group :=
  { Group.zero with margin := margin, t0 := c.u64 32, period := c.u64 40, leaderNode := c.u16 28, leaderOutput := c.u8 30 }

/-- An output that is in no group joins one that has no definition yet. -/
theorem landLockGroup_defines (hbit : ch.cmd.bit 26 0 = false) (hnone : (outOf d (ch.cmd.u8 24)).group = none)
    (hzero : ((groupOf d (ch.cmd.u8 25)).getD .zero).period = 0) : landLockGroup ch d =
      restart (ch.cmd.u8 24) false (distributeGroup (ch.cmd.u8 25)
        (updOut (ch.cmd.u8 24) (fun y => { y with group := some (ch.cmd.u8 25), locked := false })
          (updTide (fun t => { t with
            groups := tput none t.groups (ch.cmd.u8 25)
              (some (definedGroup ch.cmd ((groupOf d (ch.cmd.u8 25)).getD .zero).margin)) }) d))) := by
  have hleft : leaveGroup (ch.cmd.u8 24) d = d := by rw [leaveGroup, hnone]
  unfold landLockGroup
  simp only [hbit, hnone, hleft, hzero, Bool.false_eq_true, reduceCtorEq, if_false, decide_true, Bool.true_or, if_true]
  refine congrArg (fun e => restart _ false (distributeGroup _ e)) (updOut_congr ?_)
  simp only [outOf_updTide, hnone, Option.none_beq_some, Bool.and_false, Bool.false_and]

/-! ## Events, streams and the wake margin (R75 to R80) -/

theorem land_eventSend_withTxns (n : Nat) (t : List Txn) (e : Dev) :
    (opSpec .eventSend).land n ch (withTxns t e) = withTxns t ((opSpec .eventSend).land n ch e) := by
  simp only [opSpec, specEventSend, sendOx_withTxns, deliverMessage_withTxns, ite_withTxns]
  rfl

theorem land_streamExport_withTxns (n : Nat) (t : List Txn) (e : Dev) :
    (opSpec .streamExport).land n ch (withTxns t e) = withTxns t ((opSpec .streamExport).land n ch e) := by
  simp only [opSpec, specStreamExport, loseStream_withTxns, updExport_withTxns, ite_withTxns]

theorem land_streamImport_withTxns (n : Nat) (t : List Txn) (e : Dev) :
    (opSpec .streamImport).land n ch (withTxns t e) = withTxns t ((opSpec .streamImport).land n ch e) := by
  simp only [opSpec, specStreamImport, updImport_withTxns, ite_withTxns]

/-- What EVENT_SUBSCRIBE makes of a channel for one guest (R76, R77). -/
def subscribedInst (n flags : Nat) (x : EvChan) : EvChan :=
  { x with
    subs := x.subs.filter (· != .inst n) ++ (if flags % 2 == 1 then [.inst n] else [])
    grants := x.grants.filter (· != n) ++ (if flags / 2 % 2 == 1 then [n] else []) }

/-- What EVENT_SUBSCRIBE for the manager makes of a channel. -/
def subscribedManager (flags : Nat) (x : EvChan) : EvChan :=
  { x with subs := x.subs.filter (· != .manager) ++ (if flags % 2 == 1 then [.manager] else []) }

theorem land_eventSubscribe (n : Nat) (ch : Change) (d : Dev) : (opSpec .eventSubscribe).land n ch d =
    updEvChan (ch.cmd.u8 24) (
      if ch.cmd.u8 25 / 4 % 2 = 1 then fun x => { x with secure := ch.cmd.u8 25 % 2 == 1 }
      else if ch.cmd.u16 26 = 0xFFFF then subscribedManager (ch.cmd.u8 25)
      else subscribedInst (ch.cmd.u16 26) (ch.cmd.u8 25)) d := by
  simp only [opSpec, specEventSubscribe]
  congr 1
  funext x
  by_cases hsecure : ch.cmd.u8 25 / 4 % 2 = 1
  · simp only [if_pos hsecure]
  · by_cases hmanager : ch.cmd.u16 26 = 0xFFFF
    · simp only [if_neg hsecure, if_pos hmanager, subscribedManager]
    · simp only [if_neg hsecure, if_neg hmanager, subscribedInst]

/-- Settles O13: each landing leaves the transactions alone, and does what its clause says of the opened device. The spec is
silent on what FREE and a new source clear and on who hears a message: logs 118, 141 and 115. -/
theorem tideCommandsLand : Obligations.TideCommandsLand := by
  unfold Obligations.TideCommandsLand
  refine ⟨?read, ?sourceSame, ?sourceNew, ?portOn, ?portOff, ?domain, ?leave, ?define, ?sendHere, ?sendAway, ?broadcast,
    ?subscribe, ?subscribeManager, ?subscribeSecure, ?exportOn, ?exportOff, ?importOn, ?importOff, ?margin⟩
  case read => intro c s d b h; exact exec_read .tideRead c s d b rfl h
  case sourceSame =>
    intro c s d b ch h hsame
    cases h.cmd_eq
    exact does_silent (by decide) h rfl land_tideSource_withTxns ((land_tideSource ..).trans (if_pos hsame))
  case sourceNew =>
    intro c s d b ch h hnew
    cases h.cmd_eq
    exact does_silent (by decide) h rfl land_tideSource_withTxns ((land_tideSource ..).trans (if_neg hnew))
  case portOn =>
    intro c s d b ch h hp hon
    cases h.cmd_eq
    have hstate : (oxPortOf (updOx (ch.cmd.u8 24) (fun x => { x with enable := true }) d.opened) (ch.cmd.u8 24)).state =
        (oxPortOf d (ch.cmd.u8 24)).state := oxPortOf_updOx_keeps (d := d.opened) OxPort.state fun _ => rfl
    exact does_lands .oxPort _ s d b ch _ _ (by decide) h (fun t => land_oxPort_withTxns ..) (fun t => rfl)
      (fun _ _ => if_pos hon) (fun _ _ => congrArg (fun st => le8 (oxCode st)) hstate)
  case portOff =>
    intro c s d b ch h hp hoff
    cases h.cmd_eq
    exact does_lands .oxPort _ s d b ch _ _ (by decide) h (fun t => land_oxPort_withTxns ..) (fun t => rfl)
      (fun _ _ => if_neg (by omega))
      (fun _ _ => congrArg (fun st => le8 (oxCode st)) (leaveUp_state (d := d.opened) (fun _ => rfl) hp))
  case domain =>
    intro c s d b ch h
    cases h.cmd_eq
    exact does_silent (by decide) h rfl land_domainSet_withTxns rfl
  case leave =>
    intro c s d b ch h hleave
    cases h.cmd_eq
    exact does_silent (by decide) h rfl land_lockGroup_withTxns (if_pos ((lockGroup_leave h.acc).trans (decide_eq_true hleave)))
  case define =>
    intro c s d b ch h hjoin hnone hzero
    cases h.cmd_eq
    have hbit := (lockGroup_leave h.acc).trans (decide_eq_false hjoin)
    exact does_silent (by decide) h rfl land_lockGroup_withTxns (landLockGroup_defines (d := d.opened) hbit hnone hzero)
  case sendHere =>
    intro c s d b ch h hone hnode
    cases h.cmd_eq
    exact does_silent (op := .eventSend) (by decide) h rfl land_eventSend_withTxns ((if_neg (by omega)).trans (if_pos hnode))
  case sendAway =>
    intro c s d b ch h hone hnode
    cases h.cmd_eq
    exact does_silent (op := .eventSend) (by decide) h rfl land_eventSend_withTxns ((if_neg (by omega)).trans (if_neg hnode))
  case broadcast =>
    intro c s d b ch h hall
    cases h.cmd_eq
    exact does_silent (op := .eventSend) (by decide) h rfl land_eventSend_withTxns (if_pos hall)
  case subscribe =>
    intro c s d b ch h hopen hinst
    cases h.cmd_eq
    refine does_silent (by decide) h rfl (fun _ _ _ => rfl) ?_
    rw [land_eventSubscribe, if_neg (by omega), if_neg hinst]
    rfl
  case subscribeManager =>
    intro c s d b ch h hopen hmanager
    cases h.cmd_eq
    refine does_silent (by decide) h rfl (fun _ _ _ => rfl) ?_
    rw [land_eventSubscribe, if_neg (by omega), if_pos hmanager]
    rfl
  case subscribeSecure =>
    intro c s d b ch h hsecure
    cases h.cmd_eq
    refine does_silent (by decide) h rfl (fun _ _ _ => rfl) ?_
    rw [land_eventSubscribe, if_pos hsecure]
  case exportOn =>
    intro c s d b ch h hon
    cases h.cmd_eq
    exact does_silent (by decide) h rfl land_streamExport_withTxns (if_neg (by omega))
  case exportOff =>
    intro c s d b ch h hoff
    cases h.cmd_eq
    exact does_silent (by decide) h rfl land_streamExport_withTxns (if_pos hoff)
  case importOn =>
    intro c s d b ch h hon
    cases h.cmd_eq
    exact does_silent (by decide) h rfl land_streamImport_withTxns (if_neg (by omega))
  case importOff =>
    intro c s d b ch h hoff
    cases h.cmd_eq
    exact does_silent (by decide) h rfl land_streamImport_withTxns (if_pos hoff)
  case margin =>
    rintro c s d b ch _ h rfl
    cases h.cmd_eq
    exact does_silent (by decide) h rfl (fun _ _ _ => rfl) rfl

end Sys2Proof.Machine
end

section
/-! What becomes of an accepted queue command (R94 to R98): a staged one joins its transaction, a read answers, a job
starts. -/

namespace Sys2Proof.Machine

variable {c : Cmd} {s : State} {d e : Dev} {b : List Byte}

/-! ## Reads (R97) -/

/-- A read whose late checks pass replies with what its row reads. -/
theorem readCmd_ok {f : Fuses} {op : Op} {res : List Byte} (t : Ticket) (hlate : (opSpec op).step10 d c = none)
    (hread : (opSpec op).read f d c = (e, .ok res)) : readCmd f op t c d = finish t .ok 0 res e := by
  simp only [readCmd, hlate, hread]

/-- An accepted read whose row reads results replies with them at once. -/
theorem exec_read_ok {op : Op} {res : List Byte} (hk : opKind op = .r) (h : Accepted op c s d b)
    (hlate : (opSpec op).step10 d c = none) (hread : (opSpec op).read s.fuses d c = (e, .ok res)) :
    exec (instrOf op c) s = .next (s.after (finish (ticketOf op c s) .ok 0 res e)) := by
  rw [exec_read op c s d b hk h, readCmd_ok _ hlate hread]

/-- Settles O57: an accepted read is `readCmd` on the device its checks left. -/
theorem readingCommandsAnswer : Obligations.ReadingCommandsAnswer := by
  unfold Obligations.ReadingCommandsAnswer
  intro op c s d b e res hk h hlate hread
  exact exec_read_ok hk h hlate hread

/-! ## Jobs (R98, R318) -/

/-- Settles O58: with no launch asked for, an accepted job is `startJob` with the configuration as it stands. -/
theorem jobCommandsStart : Obligations.JobCommandsStart := by
  unfold Obligations.JobCommandsStart
  intro op c s d b hk h
  rw [exec_job op c s d b hk h]
  simp only [beq_iff_eq]

/-- A job whose late checks pass starts as its row says, but for the four that the engines start themselves. -/
theorem startJob_start {op : Op} (cfg : CvCfg) (t : Ticket) (hlate : (opSpec op).step10 d c = none)
    (hop : op ≠ .instanceQuiesce ∧ op ≠ .instanceReset ∧ op ≠ .instanceDestroy ∧ op ≠ .rakeJob) :
    startJob op cfg t c d = (opSpec op).start t c d := by
  obtain ⟨hq, hr, hd, hk⟩ := hop
  simp only [startJob, hlate]

/-! ## Staged commands (R119, R121) -/

/-- The change that a staged command stands for until PREPARE gives it an object. -/
def stagedChange (op : Op) (c : Cmd) (b : List Byte) : Change :=
  { act := .cmd op, cmd := c, table := b, obj := 0xFFFF, outs := [] }

theorem stageCmd_named {op : Op} {x : Txn} (t : Ticket) (h : namedTxn d c = some x) :
    stageCmd op t c b d = finish t .ok x.changes.length (stagedResults op x.changes.length (stagedChange op c b))
      (updTxn x.id (fun x => { x with changes := x.changes ++ [stagedChange op c b] }) d) := by
  simp only [stageCmd, h]
  rfl

/-- A command of a transaction that passes its checks is staged (R96). -/
theorem engineRun_staged {op : Op} (f : Fuses) (hactive : pageState (takenDev op c s) c.issuer = .active)
    (hvalid : validate op c (takenDev op c s) = (d, .ok b)) (htxn : c.inTxn = true) :
    engineRun f op c s.dev = stageCmd op (ticketOf op c s) c b d := by
  unfold takenDev at hactive hvalid
  simp [engineRun, hactive, hvalid, htxn, ticketOf]

/-- Settles O44. The index that R121 answers is that of the change's place in its transaction (log 20). -/
theorem stagedCommandsJoinTheirTransaction : Obligations.StagedCommandsJoinTheirTransaction := by
  unfold Obligations.StagedCommandsJoinTheirTransaction
  intro op c s d b x hruns hactive hvalid htxn hx
  rw [exec_instrOf, queueCommand, onDev_eq, if_pos hruns, engineRun_staged _ hactive hvalid htxn, stageCmd_named _ hx]
  rfl

/-! ## Every row answers (R94, R97) -/

/-- Settles O39: each row's meaning is an effect on the device, and on the fuses for some; EVENT_SEND has one for each of
its two senders. -/
theorem everyCommandAnswersNext : Obligations.EveryCommandAnswersNext := by
  unfold Obligations.EveryCommandAnswersNext
  intro i s
  cases i
  case eventSend e => cases e <;> exact ⟨_, rfl, rfl⟩
  all_goals exact ⟨_, rfl, rfl⟩

/-- Settles O48: what a reply and an event write is what `Dev.quiet` sets aside, memory and command pages among it. -/
theorem repliesAndEventsTouchNothingElse : Obligations.RepliesAndEventsTouchNothingElse :=
  ⟨finish_quiet, flushEvents_quiet⟩

end Sys2Proof.Machine
end

section
/-! Self-service and diagnostics (R106, R107, R111, R498, R499) and the mailbox requests of family 0x10 (R521 to R523). -/

namespace Sys2Proof.Machine

variable {c : Cmd} {s : State} {d : Dev} {b : List Byte}

/-! ## FENCE (R111) -/

/-- The commands that a FENCE waits for: those of its issuer that are unfinished, but for itself. -/
def olderTickets (t : Ticket) (d : Dev) : List Nat :=
  (d.tickets.filter fun u => u.issuer == t.issuer && u.no != t.no).map (·.no)

theorem olderTickets_eq_nil_iff {t : Ticket} :
    olderTickets t d = [] ↔ ∀ u ∈ d.tickets, u.issuer = t.issuer → u.no = t.no := by
  simp [olderTickets]

theorem exec_fence (h : Accepted .fence c s d b) : exec (.fence c) s = .next (s.after (fenceCmd (ticketOf .fence c s) d)) :=
  exec_accepted .fence c s d b h

theorem fenceCmd_idle {t : Ticket} (h : olderTickets t d = []) : fenceCmd t d = finish t .ok 0 (le32 0) d :=
  if_pos (List.isEmpty_iff.mpr h)

theorem fenceCmd_waits {t : Ticket} (h : olderTickets t d ≠ []) : fenceCmd t d =
    { d with fences := d.fences ++ [{ ticket := t, waits := olderTickets t d, count := (olderTickets t d).length }] } :=
  if_neg fun hempty => h (List.isEmpty_iff.mp hempty)

/-- Settles O8: five reads and the two ends of FENCE. The manager's own row of INSTANCE_INFO is log 60's. -/
theorem selfServiceAnswers : Obligations.SelfServiceAnswers := by
  unfold Obligations.SelfServiceAnswers
  refine ⟨?nop, ?fenceIdle, ?fenceWaits, ?infoInst, ?infoManager, ?viewports, ?stats⟩
  case nop =>
    intro c s d b ch h
    exact does_silent (op := .nop) (by decide) h rfl (fun _ _ _ => rfl) rfl
  case fenceIdle =>
    intro c s d b h hnone
    rw [exec_fence h, fenceCmd_idle (olderTickets_eq_nil_iff.mpr hnone)]
  case fenceWaits =>
    intro c s d b u h hu hissuer hno
    rw [exec_fence h, fenceCmd_waits fun hnil => hno (olderTickets_eq_nil_iff.mp hnil u hu hissuer)]
    rfl
  case infoInst =>
    intro c s d b n h hissuer
    exact exec_read_ok (op := .instanceInfo) rfl h rfl (by simp only [opSpec, specInstanceInfo, hissuer])
  case infoManager =>
    intro c s d b h hissuer
    exact exec_read_ok (op := .instanceInfo) rfl h rfl (by simp only [opSpec, specInstanceInfo, hissuer])
  case viewports =>
    intro c s d b n h hissuer
    exact exec_read_ok (op := .viewportList) rfl h rfl (by simp only [opSpec, specViewportList, hissuer])
  case stats => intro c s d b h; exact exec_read_ok (op := .queueStats) rfl h rfl rfl

/-! ## Requests to the secure controller (R521 to R523) -/

/-- The REQUEST that a family 0x10 command becomes. -/
def requestOf (op : Op) (c : Cmd) (d : Dev) : List Byte :=
  n2sMessage 1 d.sec.nextMail.toNat (mailIssuer c.issuer) (opCode op) c.pkt.tag.toNat (nowNs d) (leBytes 40 c.pkt.params.toNat)

/-- A device that has given out a mailbox ticket to a command that now waits for its ANSWER. -/
def awaitAnswer (op : Op) (t : Ticket) (d : Dev) : Dev :=
  updSec (fun v => { v with
    nextMail := if v.nextMail + 1 = 0 then 1 else v.nextMail + 1,
    waits := v.waits ++ [{ mail := v.nextMail, ticket := t, op := op }] }) d

theorem secRequest_eq (op : Op) (t : Ticket) (c : Cmd) (d : Dev) :
    secRequest op t c d = sendN2S (requestOf op c d) (awaitAnswer op t d) := by
  simp only [secRequest, takeMail, BitVec.ofNat_toNat, BitVec.setWidth_eq]
  rfl

@[simp] theorem failIf_false (st : Status) (n : Nat) : failIf false st n = none := rfl
@[simp] theorem Chk.none_or (k : Chk) : Chk.or none k = k := rfl

/-- A family 0x10 command that passes its late checks is sent. -/
theorem exec_secure {op : Op} (hk : opKind op = .j) (hstart : (opSpec op).start = secRequest op) (h : Accepted op c s d b)
    (hlate : (opSpec op).step10 d c = none)
    (hop : op ≠ .instanceQuiesce ∧ op ≠ .instanceReset ∧ op ≠ .instanceDestroy ∧ op ≠ .rakeJob) :
    exec (instrOf op c) s = .next (s.after (sendN2S (requestOf op c d) (awaitAnswer op (ticketOf op c s) d))) := by
  rw [exec_job op c s d b hk h, startJob_start _ _ hlate hop, hstart, secRequest_eq]

/-- Settles O17. That mailbox tickets skip 0 as they wrap is log 25's. -/
theorem diagnosticsAndRequests : Obligations.DiagnosticsAndRequests := by
  unfold Obligations.DiagnosticsAndRequests
  refine ⟨?counters, ?clear, ?logEntry, ?logNone, ?unitState, ?promptOpen, ?promptClose, ?watch, ?unwatch, ?message⟩
  case counters => intro c s d b h; exact exec_read_ok (op := .diagCounters) rfl h rfl rfl
  case clear =>
    intro c s d b ch h
    cases h.cmd_eq
    exact does_silent (op := .diagCounterClear) (by decide) h rfl (fun _ _ _ => rfl) rfl
  case logEntry =>
    intro c s d b e h he
    exact exec_read_ok (op := .diagFaultLog) rfl h rfl (by simp only [opSpec, specDiagFaultLog, he])
  case logNone =>
    intro c s d b h he
    exact exec_read_ok (op := .diagFaultLog) rfl h rfl (by simp only [opSpec, specDiagFaultLog, he])
  case unitState => intro c s d b h; exact exec_read_ok (op := .diagUnitState) rfl h rfl rfl
  case promptOpen =>
    intro c s d b h hview hready
    exact exec_secure (op := .securePromptOpen) rfl rfl h
      (by simp only [opSpec, specPromptOpen, hview, Bool.not_true, failIf_false, Chk.none_or, hready]) (by decide)
  case promptClose => intro c s d b h hready; exact exec_secure (op := .securePromptClose) rfl rfl h hready (by decide)
  case watch =>
    intro c s d b h howner hready
    exact exec_secure (op := .watchRequest) rfl rfl h
      (by simp only [opSpec, specWatchRequest, howner, bne_self_eq_false, failIf_false, Chk.none_or, hready]) (by decide)
  case unwatch => intro c s d b h hready; exact exec_secure (op := .watchRelease) rfl rfl h hready (by decide)
  case message => intro c s d b h hready; exact exec_secure (op := .secureMessage) rfl rfl h hready (by decide)

end Sys2Proof.Machine
end

section
/-! Layers and who may name them (R94, R104, R145): step 7 leaves a number of a layer, step 8 a layer open to the issuer. -/

namespace Sys2Proof.Machine

variable {c : Cmd} {s : State} {d : Dev} {b : List Byte} {op : Op}

/-- What the checks of R94 see of a command outside any transaction, as its engine has taken it. -/
def takenCtx (op : Op) (c : Cmd) (s : State) : Ctx :=
  { d := takenDev op c s, view := viewOf (takenDev op c s), c := c, txn := none }

/-- An accepted command has passed the checks of its fields and of ownership (steps 7 and 8 of R94). -/
theorem Accepted.checked (h : Accepted op c s d b) :
    fieldsCheck (takenCtx op c s) ((opSpec op).fields (takenCtx op c s)) (24 + 8 * (opSpec op).len) 320 24 = none ∧
      (opSpec op).own (takenCtx op c s) = none := by
  have hvalid := h.valid
  unfold validate at hvalid
  simp only [h.alone, Bool.false_eq_true, if_false] at hvalid
  split at hvalid
  · cases hvalid
  next hearly =>
    simp only [firstFail, List.findSome?_eq_none_iff, List.forall_mem_cons, id] at hearly
    obtain ⟨-, -, -, -, hfields, -⟩ := hearly
    refine ⟨hfields, ?_⟩
    cases hown : (opSpec op).own (takenCtx op c s) with
    | none => rfl
    | some e =>
      unfold takenCtx at hown
      simp only [hown] at hvalid
      generalize Prod.snd (match (opSpec op).copy with | none => _ | some f => _) = r at hvalid
      cases r <;> cases hvalid

/-- A layer field of a command outside any transaction holds the number of one of the 128 layers. -/
theorem fLayer_lt {x : Ctx} {off v : Nat} (htxn : x.txn = none) (h : (fLayer off).ok x v = none) : v < 128 := by
  by_contra hv
  simp [fLayer, isProv, htxn, hv] at h

/-- Step 8 passes for a layer number only where the layer exists and is open to the issuer. -/
theorem exists_layer_of_ownLayer {x : Ctx} {off : Nat} (hv : x.c.u16 off < 0x8000) (h : ownLayer x off = none) :
    ∃ l, layerOf x.view (x.c.u16 off) = some l ∧ mayName l.owner x.c.issuer = true := by
  simp only [ownLayer, if_neg (Nat.not_le.mpr hv)] at h
  split at h
  next l hl =>
    split at h
    next hname => exact ⟨l, hl, hname⟩
    · cases h
  · cases h

/-- Instances may name their own objects alone. -/
theorem mayName_inst_iff {ow : Owner} {n : Nat} : mayName ow (.inst n) = true ↔ ow = .inst n := by
  simp [mayName, ownerOf]

/-- A row whose first field is its layer, which step 8 requires to be open to the issuer. -/
structure NamesLayer (op : Op) : Prop where
  carries : 0 < (opSpec op).len
  first : ∀ x, ((opSpec op).fields x).find? (·.off == 24) = some (fLayer 24)
  owned : ∀ x, (opSpec op).own x = none → ownLayer x 24 = none

theorem Chk.left_eq_none {a k : Chk} (h : a.or k = none) : a = none := by
  cases a with
  | none => rfl
  | some e => cases h

/-- Family 0x03's commands on a layer that exists (R145). -/
theorem namesLayer_of_mem (h : op ∈ [Op.layerDestroy, .layerSource, .layerPlace, .layerBlend, .layerEnable, .layerRate,
    .layerPalette, .layerClick, .layerQuery]) : NamesLayer op := by
  cases op
  case layerSource | layerClick => exact ⟨by decide, fun _ => rfl, fun _ => Chk.left_eq_none⟩
  case layerDestroy | layerPlace | layerBlend | layerEnable | layerRate | layerPalette | layerQuery =>
    exact ⟨by decide, fun _ => rfl, fun _ => id⟩
  all_goals exact absurd h (by decide)

/-- An accepted command on a layer names one that is there and open to its issuer. -/
theorem Accepted.exists_layer (hop : NamesLayer op) (h : Accepted op c s d b) :
    ∃ l, layerOf (viewOf (takenDev op c s)) (c.u16 24) = some l ∧ mayName l.owner c.issuer = true := by
  obtain ⟨hfields, hown⟩ := h.checked
  obtain ⟨hfield, -⟩ := fieldsCheck_eq_none_of_find (by have := hop.carries; omega) (hop.first _) hfields
  have hv : c.u16 24 < 128 := fLayer_lt rfl hfield
  exact exists_layer_of_ownLayer (x := takenCtx op c s) (Nat.lt_of_lt_of_le hv (by decide)) (hop.owned _ hown)

/-- Settles O45. That the manager may name every layer but the secure world's is log 18's reading of R104. -/
theorem layerCommandsNeedTheirLayer : Obligations.LayerCommandsNeedTheirLayer := by
  unfold Obligations.LayerCommandsNeedTheirLayer
  intro op c s d b hop h
  obtain ⟨l, hl, hname⟩ := h.exists_layer (namesLayer_of_mem hop)
  exact ⟨l, hl, hname, fun n hn => mayName_inst_iff.mp (hn ▸ hname)⟩

end Sys2Proof.Machine
end

section
/-! Rings in local DRAM (R90, R97, R100, R101, R112): where a slot lies, what writing one leaves alone, and what becomes of
the queue whose slot it is. -/

namespace Sys2Proof.Machine

variable {d : Dev} {i : Issuer} {k : Nat}

/-! ## Bytes written and read back -/

@[simp] theorem leBytes_length (n v : Nat) : (leBytes n v).length = n := by
  induction n generalizing v with
  | zero => rfl
  | succ n ih => simp [leBytes, ih]

theorem replyBytes_length (r : Reply) : (replyBytes r).length = 32 := by simp [replyBytes]

theorem eventBytes_length (e : Event) (lost : Bool) : (eventBytes e lost).length = 32 := by simp [eventBytes]

/-- A range reads as it was written. -/
theorem memRead_memWrite {m : List Host.Cell} {n : Nat} {l : List Byte} (a : Nat) (h : Memory.wf m) (hl : l.length = n) :
    memRead (memWrite m a l) a n = l := by
  subst hl
  refine List.ext_getElem (by simp [memRead, rangeFrom]) fun n hn hl => ?_
  simpa [memRead, rangeFrom] using memGet_memWrite m a l n h hl

/-! ## A range inside one 2 MiB window page (R490) -/

/-- The next byte of a window page lies at the next device address. -/
theorem mapByte_succ {off a : Nat} {ro : Bool} (hpage : off % 2097152 + 1 < 2097152) (h : mapByte d i false off = .ok (a, ro)) :
    mapByte d i false (off + 1) = .ok (a + 1, ro) := by
  cases i with
  | inst n =>
    have hdiv : (off + 1) / 2097152 = off / 2097152 := by omega
    simp only [mapByte, Bool.false_eq_true, if_false, hdiv] at h ⊢
    split at h
    · cases h
    next p _ hp =>
      obtain ⟨rfl, rfl⟩ := Prod.mk.inj (Except.ok.inj h)
      rw [show p * 2097152 + (off + 1) % 2097152 = p * 2097152 + off % 2097152 + 1 by omega]
  | manager | delegate =>
    obtain ⟨rfl, rfl⟩ := Prod.mk.inj (Except.ok.inj h)
    rfl

/-- A device with bytes written to its local DRAM. -/
def putDram (a : Nat) (l : List Byte) (d : Dev) : Dev := { d with dramMem := memWrite d.dramMem a l }

@[simp] theorem putDram_dramMem (a l) : (putDram a l d).dramMem = memWrite d.dramMem a l := rfl
@[simp] theorem putDram_pageOf (a l) : pageOf (putDram a l d) k = pageOf d k := rfl

/-- Bytes written through a window to local DRAM, within one window page, lie together there. -/
theorem locWrite_dram {off a : Nat} {ro : Bool} {l : List Byte} (hpage : off % 2097152 + l.length ≤ 2097152)
    (h : mapByte d i false off = .ok (a, ro)) : locWrite d i false off l = putDram a l d := by
  induction l generalizing d off a with
  | nil => rfl
  | cons b l ih =>
    simp only [List.length_cons] at hpage
    rw [locWrite, h]
    cases l with
    | nil => rfl
    | cons b' l =>
      simp only [List.length_cons] at hpage ih
      have hnext := mapByte_succ (by omega) h
      exact ih (d := { d with dramMem := memPut d.dramMem a b }) (by omega) hnext

theorem putLoc_dram {req off a : Nat} {ro : Bool} {l : List Byte} (hpage : off % 2097152 + l.length ≤ 2097152)
    (h : mapByte d i false off = .ok (a, ro)) : putLoc req i false off l d = putDram a l d :=
  locWrite_dram hpage h

/-! ## A page and its queues after an update -/

theorem pageOf_updPage_of_ne {f : Page → Page} (h : f (pageOf d k) ≠ .zero) : pageOf (updPage k f d) k = f (pageOf d k) :=
  tget_tput_of_ne _ _ _ _ h

theorem Page.ne_zero_of_events {p : Page} (h : p.eq.running = true) : p ≠ .zero := by
  rintro rfl
  cases h

theorem Page.ne_zero_of_queue {p : Page} {q : Nat} (h : (queueOf p q).running = true) : p ≠ .zero := by
  rintro rfl
  unfold queueOf at h
  split at h
  · cases h
  · cases h

@[simp] theorem signalVec_queueOf (v q : Nat) (p : Page) : queueOf (signalVec v p) q = queueOf p q := by
  unfold signalVec updVec
  split
  · rfl
  · split <;> rfl

@[simp] theorem signalVec_events (v : Nat) (p : Page) : (signalVec v p).eq = p.eq := by
  unfold signalVec updVec
  split
  · rfl
  · split <;> rfl

/-- A page with one submission queue changed. -/
def setQueue (q : Nat) (f : SubQueue → SubQueue) (p : Page) : Page :=
  if q = 0 then { p with q0 := f p.q0 } else { p with q1 := f p.q1 }

theorem updQueue_eq (q : Nat) (f : SubQueue → SubQueue) : updQueue k q f d = updPage k (setQueue q f) d := rfl

theorem queueOf_setQueue (q : Nat) (f : SubQueue → SubQueue) (p : Page) : queueOf (setQueue q f p) q = f (queueOf p q) := by
  by_cases hq : q = 0 <;> simp [queueOf, setQueue, hq]

/-- A queue that runs after an update is what the update made of it. -/
theorem queueOf_updQueue {q : Nat} {f : SubQueue → SubQueue} (h : (f (queueOf (pageOf d k) q)).running = true) :
    queueOf (pageOf (updQueue k q f d) k) q = f (queueOf (pageOf d k) q) := by
  rw [updQueue_eq, pageOf_updPage_of_ne (Page.ne_zero_of_queue (q := q) (by rwa [queueOf_setQueue])), queueOf_setQueue]

/-! ## A reply in its ring (R97, R112) -/

/-- A submission queue whose next reply has been written. -/
def repliedQueue (q : SubQueue) : SubQueue :=
  { q with rqTail := (q.rqTail + 1) % q.depth, promised := q.promised - 1, replied := q.replied + 1 }

/-- A reply to a running queue whose ring in DRAM can be written takes the slot at the ring's tail. -/
theorem writeReply_dram {t : Ticket} {r : Reply} {q : SubQueue} {a : Nat} {ro : Bool} (horphan : t.orphan = false)
    (hq : queueOf (pageOf d (pageKey t.issuer)) (b2n t.urgent) = q) (hrun : q.running = true) (hrloc : q.rloc = false)
    (hfail : locFail d t.issuer false true (q.rqBase.toNat + q.rqTail * 32) 32 = none)
    (hmap : mapByte d t.issuer false (q.rqBase.toNat + q.rqTail * 32) = .ok (a, ro))
    (hpage : (q.rqBase.toNat + q.rqTail * 32) % 2097152 ≤ 2097120) :
    writeReply t r d = updPage (pageKey t.issuer) (signalVec (if t.soon || t.urgent then 1 else 0))
      (updQueue (pageKey t.issuer) (b2n t.urgent) repliedQueue (putDram a (replyBytes r) d)) := by
  have hput := putLoc_dram (req := 4) (l := replyBytes r) (by rw [replyBytes_length]; omega) hmap
  simp only [writeReply, hq, horphan, hrun, hrloc, hfail, hput, Bool.not_true, Bool.or_self, Bool.false_eq_true, if_false]
  rfl

/-- Settles O46: the reply goes through `putDram` to the slot that the window names, and only the ring's tail moves on. -/
theorem repliesReachTheirRing : Obligations.RepliesReachTheirRing := by
  unfold Obligations.RepliesReachTheirRing
  intro t r d q a ro horphan hq hrun hrloc hfail hmap hpage hwf
  rw [writeReply_dram horphan hq hrun hrloc hfail hmap hpage]
  simp only [updPage_dramMem, updQueue_dramMem, putDram_dramMem]
  refine ⟨memRead_memWrite a hwf (replyBytes_length r), ?others, ?tail, rfl, rfl, rfl⟩
  case others =>
    intro j hj
    exact memGet_memWrite_other _ _ _ _ (by rw [replyBytes_length]; exact hj)
  case tail =>
    subst hq
    have hqueue : queueOf (pageOf (updQueue (pageKey t.issuer) (b2n t.urgent) repliedQueue (putDram a (replyBytes r) d))
        (pageKey t.issuer)) (b2n t.urgent) = repliedQueue (queueOf (pageOf d (pageKey t.issuer)) (b2n t.urgent)) :=
      queueOf_updQueue hrun
    rw [pageOf_updPage_of_ne (Page.ne_zero_of_queue (q := b2n t.urgent) (by rw [signalVec_queueOf, hqueue]; exact hrun)),
      signalVec_queueOf, hqueue]
    rfl

/-! ## An event in its queue (R100, R101) -/

/-- An event queue that has lost one more event. -/
def lostEvent (p : Page) : Page := { p with eq := { p.eq with lost := p.eq.lost + 1, lostPending := true } }

/-- A page whose event queue has taken an event, and signals it. -/
def storedEvent (p : Page) : Page :=
  signalVec 2 { p with eq := { p.eq with tail := (p.eq.tail + 1) % p.eq.depth, lostPending := false } }

theorem storedEvent_events (p : Page) :
    (storedEvent p).eq = { p.eq with tail := (p.eq.tail + 1) % p.eq.depth, lostPending := false } := signalVec_events ..

section Events

variable {e : Event}

theorem writeEvent_masked (hmask : (pageOf d k).eventMask.getLsbD (e.code / 256) = false) : writeEvent k e d = d := by
  simp only [writeEvent, hmask, Bool.not_false, if_true]

theorem writeEvent_lost (hmask : (pageOf d k).eventMask.getLsbD (e.code / 256) = true)
    (hfull : (pageOf d k).eq.running = false ∨ ((pageOf d k).eq.tail + 1) % (pageOf d k).eq.depth = (pageOf d k).eq.head) :
    writeEvent k e d = updPage k lostEvent d := by
  have hlost : (!(pageOf d k).eq.running || ((pageOf d k).eq.tail + 1) % (pageOf d k).eq.depth == (pageOf d k).eq.head) = true := by
    simpa using hfull
  simp only [writeEvent, hmask, hlost, Bool.not_true, Bool.false_eq_true, if_false, if_true]
  rfl

/-- An event for a running queue with room, in DRAM that can be written, takes the slot at the tail. -/
theorem writeEvent_dram {a : Nat} {ro : Bool} (hmask : (pageOf d k).eventMask.getLsbD (e.code / 256) = true)
    (hrun : (pageOf d k).eq.running = true) (hroom : ((pageOf d k).eq.tail + 1) % (pageOf d k).eq.depth ≠ (pageOf d k).eq.head)
    (hloc : (pageOf d k).eq.loc = false)
    (hfail : locFail d (issuerOfKey k) false true ((pageOf d k).eq.base.toNat + (pageOf d k).eq.tail * 32) 32 = none)
    (hmap : mapByte d (issuerOfKey k) false ((pageOf d k).eq.base.toNat + (pageOf d k).eq.tail * 32) = .ok (a, ro))
    (hpage : ((pageOf d k).eq.base.toNat + (pageOf d k).eq.tail * 32) % 2097152 ≤ 2097120) :
    writeEvent k e d = updPage k storedEvent (putDram a (eventBytes e (pageOf d k).eq.lostPending) d) := by
  have hput := putLoc_dram (req := 4) (l := eventBytes e (pageOf d k).eq.lostPending) (by rw [eventBytes_length]; omega) hmap
  have hlost :
      (!(pageOf d k).eq.running || ((pageOf d k).eq.tail + 1) % (pageOf d k).eq.depth == (pageOf d k).eq.head) = false := by
    simpa [hrun] using hroom
  simp only [writeEvent, hmask, hlost, hloc, hfail, hput, Bool.not_true, Bool.false_eq_true, if_false]
  rfl

end Events

/-- Settles O47, by what `writeEvent` does in each of its three cases. -/
theorem eventsReachTheirQueue : Obligations.EventsReachTheirQueue := by
  unfold Obligations.EventsReachTheirQueue
  refine ⟨fun k e d => writeEvent_masked, fun k e d => writeEvent_lost, ?stored⟩
  case stored =>
    intro k e d a ro hmask hrun hroom hloc hfail hmap hpage hwf
    rw [writeEvent_dram hmask hrun hroom hloc hfail hmap hpage]
    have hev : (pageOf (updPage k storedEvent (putDram a (eventBytes e (pageOf d k).eq.lostPending) d)) k).eq =
        { (pageOf d k).eq with tail := ((pageOf d k).eq.tail + 1) % (pageOf d k).eq.depth, lostPending := false } := by
      rw [pageOf_updPage_of_ne (Page.ne_zero_of_events (by rw [storedEvent_events]; exact hrun))]
      exact storedEvent_events _
    simp only [updPage_dramMem, putDram_dramMem]
    refine ⟨memRead_memWrite a hwf (eventBytes_length ..), ?others, ?tail, ?lost, rfl⟩
    case others =>
      intro j hj
      exact memGet_memWrite_other _ _ _ _ (by rw [eventBytes_length]; exact hj)
    case tail => rw [hev]
    case lost => rw [hev]

end Sys2Proof.Machine
end

section
/-! The registers of a command page's queues (R85, R86, R89, R103): what an enable, a disable, a doorbell and the end of a
moderation interval make of the queue as it stands. -/

namespace Sys2Proof.Machine

variable {d : Dev} {s : State} {i : Issuer} {k q : Nat} {v : U32}

/-- Two updates of a page that agree on the page as it stands are one. -/
theorem updPage_congr {f g : Page → Page} (h : f (pageOf d k) = g (pageOf d k)) : updPage k f d = updPage k g d := by
  simp only [updPage, h]

/-- Two updates of a submission queue that agree on the queue as it stands are one. -/
theorem updQueue_congr {f g : SubQueue → SubQueue} (h : f (queueOf (pageOf d k) q) = g (queueOf (pageOf d k) q)) :
    updQueue k q f d = updQueue k q g d := by
  refine updPage_congr ?_
  by_cases hq : q = 0
  · simp only [queueOf, if_pos hq] at h
    simp only [if_pos hq, h]
  · simp only [queueOf, if_neg hq] at h
    simp only [if_neg hq, h]

/-! ## Enabling (R85) -/

/-- A submission queue with the locations and DEPTH that a value of Q_CFG gives it. -/
def configuredQueue (v : U32) (x : SubQueue) : SubQueue :=
  { x with loc := v.getLsbD 30, rloc := v.getLsbD 29, depth := v.toNat % 8192 }

/-- R85's checks of a submission queue. -/
def queueChecks (d : Dev) (i : Issuer) (x : SubQueue) : Status :=
  enableFails d i x.depth 1024 [(x.loc, x.sqBase.toNat, x.depth * 64, false), (x.rloc, x.rqBase.toNat, x.depth * 32, true)]

theorem exec_queueEnable_sub (hr : pageReached s.dev i = true) (hq : q < 2) (hv : v.getLsbD 31 = true) :
    exec (.queueEnable i q v) s = .next (s.after (enableQueue i q v s.dev)) := by
  show execQueueEnable i q v s = _
  have hin : ¬ 2 < q := by omega
  have hsub : q ≠ 2 := by omega
  simp only [execQueueEnable, onDev_eq, hr, hv, hin, hsub, Bool.not_true, decide_false, Bool.or_self, Bool.false_eq_true, if_false]

theorem exec_queueEnable_events (hr : pageReached s.dev i = true) (hv : v.getLsbD 31 = true) :
    exec (.queueEnable i 2 v) s = .next (s.after (enableEvents i v s.dev)) := by
  show execQueueEnable i 2 v s = _
  simp only [execQueueEnable, onDev_eq, hr, hv, Nat.lt_irrefl, Bool.not_true, decide_false, Bool.or_self, Bool.false_eq_true,
    if_false, if_true]

/-- A submission queue that R85's checks let run. -/
def startedQueue (x : SubQueue) : SubQueue :=
  { x with enable := true, running := true, lastStatus := 0, sqTail := 0, sqHead := 0, rqHead := 0, rqTail := 0, promised := 0 }

/-- A submission queue that stays off, with the status that failed. -/
def refusedQueue (st : Status) (x : SubQueue) : SubQueue := { x with enable := false, lastStatus := statusCode st }

section Enable

variable {x : SubQueue} (he : (queueOf (pageOf d (pageKey i)) q).enable = false)
  (hd : (queueOf (pageOf d (pageKey i)) q).draining = false) (hx : x = configuredQueue v (queueOf (pageOf d (pageKey i)) q))
include he hd hx

theorem enableQueue_off : enableQueue i q v d = updQueue (pageKey i) q (fun _ =>
    if queueChecks d i x == .ok then startedQueue x else refusedQueue (queueChecks d i x) x) d := by
  subst hx
  exact if_neg (by simp [he, hd])

theorem enableQueue_ok (hok : queueChecks d i x = .ok) :
    enableQueue i q v d = updQueue (pageKey i) q (fun _ => startedQueue x) d := by
  rw [enableQueue_off he hd hx, hok]
  rfl

theorem enableQueue_refused {st : Status} (hst : queueChecks d i x = st) (hbad : st ≠ .ok) :
    enableQueue i q v d = updQueue (pageKey i) q (fun _ => refusedQueue st x) d := by
  rw [enableQueue_off he hd hx, hst, if_neg (by simpa using hbad)]

end Enable

theorem enableEvents_ok {x : EventQueue} (he : (pageOf d (pageKey i)).eq.enable = false)
    (hx : x = { (pageOf d (pageKey i)).eq with loc := v.getLsbD 30, depth := v.toNat % 8192 })
    (hok : enableFails d i x.depth 4096 [(x.loc, x.base.toNat, x.depth * 32, true)] = .ok) :
    enableEvents i v d = updPage (pageKey i) (fun p => { p with eq := { x with
      enable := true, running := true, lastStatus := 0, head := 0, tail := 0 } }) d := by
  subst hx
  simp only [enableEvents, he, hok, Bool.false_eq_true, if_false, beq_self_eq_true, if_true]

/-! ## Disabling (R86) -/

theorem exec_queueDisable_sub (hr : pageReached s.dev i = true) (hq : q < 2)
    (he : (queueOf (pageOf s.dev (pageKey i)) q).enable = true) :
    exec (.queueDisable i q) s = .next (s.after (
      updQueue (pageKey i) q (fun x => { x with enable := false, draining := true }) s.dev)) := by
  show execQueueDisable i q s = _
  have hin : ¬ 2 < q := by omega
  have hsub : q ≠ 2 := by omega
  simp only [execQueueDisable, onDev_eq, hr, hin, hsub, Bool.not_true, decide_false, Bool.or_self, Bool.false_eq_true, if_false]
  exact congrArg (fun e => Host.Outcome.next (s.after e)) (updQueue_congr (if_pos he))

theorem exec_queueDisable_events (hr : pageReached s.dev i = true) :
    exec (.queueDisable i 2) s = .next (s.after (
      updPage (pageKey i) (fun p => { p with eq := { p.eq with enable := false, running := false } }) s.dev)) := by
  show execQueueDisable i 2 s = _
  simp only [execQueueDisable, onDev_eq, hr, Nat.lt_irrefl, Bool.not_true, decide_false, Bool.or_self, Bool.false_eq_true,
    if_false, if_true]

theorem exec_queueDrainEnd (hq : q < 2) (hd : (queueOf (pageOf s.dev (pageKey i)) q).draining = true)
    (hp : (queueOf (pageOf s.dev (pageKey i)) q).promised = 0) :
    exec (.queueDrainEnd i q) s = .next (s.after (
      updQueue (pageKey i) q (fun x => { x with draining := false, running := false }) s.dev)) := by
  show execQueueDrainEnd i q s = _
  have hin : ¬ 1 < q := by omega
  simp only [execQueueDrainEnd, onDev_eq, hin, if_false]
  exact congrArg (fun e => Host.Outcome.next (s.after e)) (updQueue_congr (if_pos (by simp [hd, hp])))

/-! ## Doorbells (R89) -/

theorem doorbellOk_iff {depth current avail n : Nat} :
    doorbellOk depth current avail n = true ↔ n < depth ∧ ringSteps depth current n ≤ avail := by
  simp [doorbellOk]

theorem exec_sqTailDoorbell (hr : pageReached s.dev i = true) (hq : q < 2) {x : SubQueue}
    (hx : x = queueOf (pageOf s.dev (pageKey i)) q) (hrun : x.running = true) :
    exec (.sqTailDoorbell i q v) s = .next (s.after (
      if doorbellOk x.depth x.sqTail (x.depth - 1 - ringSteps x.depth x.sqHead x.sqTail) v.toNat = true then
        updQueue (pageKey i) q (fun x => { x with sqTail := v.toNat }) s.dev
      else dbRange i q v s.dev)) := by
  show execSqTailDoorbell i q v s = _
  subst hx
  have hin : ¬ 1 < q := by omega
  simp only [execSqTailDoorbell, onDev_eq, hr, hin, hrun, Bool.not_true, decide_false, Bool.or_self, Bool.false_eq_true, if_false]

theorem exec_rqHeadDoorbell (hr : pageReached s.dev i = true) (hq : q < 2) {x : SubQueue}
    (hx : x = queueOf (pageOf s.dev (pageKey i)) q) (hrun : x.running = true) :
    exec (.rqHeadDoorbell i q v) s = .next (s.after (
      if doorbellOk x.depth x.rqHead (ringSteps x.depth x.rqHead x.rqTail) v.toNat = true then
        updQueue (pageKey i) q (fun x => { x with rqHead := v.toNat }) s.dev
      else dbRange i q v s.dev)) := by
  show execRqHeadDoorbell i q v s = _
  subst hx
  have hin : ¬ 1 < q := by omega
  simp only [execRqHeadDoorbell, onDev_eq, hr, hin, hrun, Bool.not_true, decide_false, Bool.or_self, Bool.false_eq_true, if_false]

theorem exec_eqHeadDoorbell (hr : pageReached s.dev i = true) {x : EventQueue} (hx : x = (pageOf s.dev (pageKey i)).eq)
    (hrun : x.running = true) :
    exec (.eqHeadDoorbell i v) s = .next (s.after (
      if doorbellOk x.depth x.head (ringSteps x.depth x.head x.tail) v.toNat = true then
        updPage (pageKey i) (fun p => { p with eq := { p.eq with head := v.toNat } }) s.dev
      else dbRange i 2 v s.dev)) := by
  show execEqHeadDoorbell i v s = _
  subst hx
  simp only [execEqHeadDoorbell, onDev_eq, hr, hrun, Bool.not_true, Bool.or_self, Bool.false_eq_true, if_false]

/-! ## Moderation (R103) -/

theorem exec_irqModIntervalEnd {n : Nat} (hn : n = 0 ∨ n = 2) :
    exec (.irqModIntervalEnd i n) s = .next (s.after (updPage (pageKey i) (updVec n fun x => if !x.moderated then x
      else if x.owed then { fireVec x with owed := false } else { x with moderated := false }) s.dev)) := by
  show execIrqModIntervalEnd i n s = _
  have hvec : (n != 0 && n != 2) = false := by simpa [or_iff_not_imp_left] using hn
  simp only [execIrqModIntervalEnd, onDev_eq, hvec, Bool.false_eq_true, if_false]

/-- Settles O18. That a disabled event queue stops at once is log 39's. -/
theorem queueRegisters : Obligations.QueueRegisters := by
  unfold Obligations.QueueRegisters
  refine ⟨?enable, ?refuse, ?enableEvents, ?disable, ?disableEvents, ?drain, ?tail, ?tailRange, ?replyHead, ?eventHead,
    ?interval⟩
  case enable =>
    rintro s _ i q v x rfl hr hq hv he hd hx hok
    rw [exec_queueEnable_sub hr hq hv, enableQueue_ok he hd hx hok]
    rfl
  case refuse =>
    rintro s _ i q v x st rfl hr hq hv he hd hx hst hbad
    rw [exec_queueEnable_sub hr hq hv, enableQueue_refused he hd hx hst hbad]
    rfl
  case enableEvents =>
    rintro s _ i v x rfl hr hv he hx hok
    rw [exec_queueEnable_events hr hv, enableEvents_ok he hx hok]
  case disable => rintro s _ i q rfl hr hq he; exact exec_queueDisable_sub hr hq he
  case disableEvents => rintro s _ i rfl hr; exact exec_queueDisable_events hr
  case drain => rintro s _ i q rfl hq hd hp; exact exec_queueDrainEnd hq hd hp
  case tail =>
    rintro s _ i q v x rfl hr hq hx hrun hv hsteps
    rw [exec_sqTailDoorbell hr hq hx hrun, if_pos (doorbellOk_iff.mpr ⟨hv, hsteps⟩)]
  case tailRange =>
    rintro s _ i q v x rfl hr hq hx hrun hout
    rw [exec_sqTailDoorbell hr hq hx hrun, if_neg fun hok => ?_]
    obtain ⟨hv, hsteps⟩ := doorbellOk_iff.mp hok
    exact absurd (hout hv) (Nat.not_lt.mpr hsteps)
  case replyHead =>
    rintro s _ i q v x rfl hr hq hx hrun hv hsteps
    rw [exec_rqHeadDoorbell hr hq hx hrun, if_pos (doorbellOk_iff.mpr ⟨hv, hsteps⟩)]
  case eventHead =>
    rintro s _ i v x rfl hr hx hrun hv hsteps
    rw [exec_eqHeadDoorbell hr hx hrun, if_pos (doorbellOk_iff.mpr ⟨hv, hsteps⟩)]
  case interval => rintro s _ i n rfl hn; exact exec_irqModIntervalEnd hn

end Sys2Proof.Machine
end

section
/-! The engines at work (R50 to R54, R92, R93, R109, R113, R114): the entry that one takes, the start of a round, and a launch
whose instant has come. -/

namespace Sys2Proof.Machine

variable {d e : Dev} {s : State} {i : Issuer} {u : Bool}

/-! ## Taking an entry (R92, R93, R109) -/

/-- Whether the engine may take an entry of a page's queue now: a normal one waits for the urgent ones. -/
def takesNow (d : Dev) (i : Issuer) (u : Bool) : Bool :=
  mayTake (queueOf (pageOf d (pageKey i)) (b2n u)) && (u || !mayTake (pageOf d (pageKey i)).q1)

/-- The entry at a queue's head, read through its issuer's window. -/
def readEntry (i : Issuer) (u : Bool) (d : Dev) : Dev × Except MemFail (List Byte) :=
  let q := queueOf (pageOf d (pageKey i)) (b2n u)
  readLoc 4 i q.loc (q.sqBase.toNat + q.sqHead * 64) 64 d

/-- The head moves past an entry that was taken. -/
def passEntry (i : Issuer) (u : Bool) : Dev → Dev :=
  updQueue (pageKey i) (b2n u) fun q => { q with sqHead := (q.sqHead + 1) % q.depth }

/-- The command that an entry's 64 bytes spell. -/
def entryCmd (i : Issuer) (u : Bool) (b : List Byte) : Cmd := { issuer := i, urgent := u, pkt := packetOf b }

/-- An entry whose opcode is unknown takes a NOP's ticket and replies BAD_OPCODE, or QUIESCED from a page that is not active. -/
def rejectEntry (i : Issuer) (u : Bool) (b : List Byte) (d : Dev) : Dev :=
  let r := enlist .nop (entryCmd i u b) d
  if pageState r.2 i != .active then
    finish r.1 .quiesced 0 [] (updQueue (pageKey i) (b2n u) (fun q => { q with quiesced := q.quiesced + 1 }) r.2)
  else finish r.1 .badOpcode 0 [] r.2

/-- What an engine that serves a page does with one of its queues. -/
def takeEntry (f : Fuses) (i : Issuer) (u : Bool) (d : Dev) : Dev :=
  if !takesNow d i u then d else
  match readEntry i u d with
  | (e, .error why) => stopQueue (pageKey i) (b2n u) why e
  | (e, .ok b) =>
    match opOfCode (leNat (b.take 2)) with
    | some op => engineRun f op (entryCmd i u b) (passEntry i u e)
    | none => rejectEntry i u b (passEntry i u e)

theorem exec_engineTakeEntry (hruns : enginesRun s.dev = true) (hserved : served s.dev i = true) :
    exec (.engineTakeEntry i u) s = .next (s.after (takeEntry s.fuses i u s.dev)) := by
  have hmay : ∀ q p : Bool, (!q || (!u && p)) = !(q && (u || !p)) := by cases u <;> simp
  show execEngineTakeEntry i u s = _
  cases i with
  | inst n =>
    simp only [execEngineTakeEntry, onDev_eq, hruns, hserved, hmay, Bool.not_true, Bool.false_or, Bool.false_eq_true, if_false,
      if_true]
    rfl
  | manager | delegate =>
    simp only [execEngineTakeEntry, onDev_eq, hruns, hserved, hmay, Bool.not_true, Bool.false_or, Bool.false_eq_true, if_false]
    rfl

theorem takesNow_of_mayTake {q : SubQueue} (hq : q = queueOf (pageOf d (pageKey i)) (b2n u)) (hmay : mayTake q = true)
    (hturn : (u || !mayTake (pageOf d (pageKey i)).q1) = true) : takesNow d i u = true := by
  subst hq
  rw [takesNow, hmay, hturn, Bool.and_self]

theorem takeEntry_read {f : Fuses} {b : List Byte} (htake : takesNow d i u = true) (hread : readEntry i u d = (e, .ok b)) :
    takeEntry f i u d = match opOfCode (leNat (b.take 2)) with
      | some op => engineRun f op (entryCmd i u b) (passEntry i u e)
      | none => rejectEntry i u b (passEntry i u e) := by
  simp only [takeEntry, htake, hread, Bool.not_true, Bool.false_eq_true, if_false]

theorem takeEntry_lost {f : Fuses} {why : MemFail} (htake : takesNow d i u = true)
    (hread : readEntry i u d = (e, .error why)) : takeEntry f i u d = stopQueue (pageKey i) (b2n u) why e := by
  simp only [takeEntry, htake, hread, Bool.not_true, Bool.false_eq_true, if_false]

/-- A normal entry waits while an urgent one may be taken. -/
theorem takeEntry_waits {f : Fuses} (hurgent : mayTake (pageOf d (pageKey i)).q1 = true) : takeEntry f i false d = d :=
  if_pos (by simp [takesNow, hurgent])

theorem rejectEntry_active {b : List Byte} (h : pageState (enlist .nop (entryCmd i u b) d).2 i = .active) :
    rejectEntry i u b d =
      finish (enlist .nop (entryCmd i u b) d).1 .badOpcode 0 [] (enlist .nop (entryCmd i u b) d).2 :=
  if_neg (by simp [h])

/-! ## A round over one of the instances, or over none (R113, R114, R501, R502) -/

section Round

variable {n : Nat} {y : Instance}

theorem instOf_single (h : d.insts = [(n, y)]) : instOf d n = y := by simp [instOf, h, tget]

theorem updInst_single {f : Instance → Instance} (h : d.insts = [(n, y)]) (hf : f y ≠ .zero) :
    (updInst n f d).insts = [(n, f y)] := by
  simp [updInst, instOf_single h, h, tput, hf]

theorem Instance.ne_zero_of_exists (h : y.exists_ = true) : y ≠ .zero := by
  rintro rfl
  cases h

/-- A context's own weight comes into force for the round that starts (R114). -/
def forceWeight (x : Instance) : Instance := { x with inForce := x.weight }

/-- A context is owed its fraction, in units of 1/65536 round (R502). -/
def oweRound (r : Rat) (x : Instance) : Instance := { x with share := x.share + (r * 65536).floor }

/-- A context that runs in a round has had that round. -/
def spendRound (x : Instance) : Instance := { x with share := x.share - 65536, rounds := x.rounds + 1 }

theorem readyInsts_single (h : d.insts = [(n, y)]) (hex : y.exists_ = true) (hact : y.state = .active) (hw : y.inForce ≠ 0)
    (hentry : pageHasEntry (pageOf d n) = true) : readyInsts d = [n] := by
  simp [readyInsts, tkeys, h, instOf_single h, hex, hact, hw, hentry]

/-- A context that alone is ready has an engine for the whole round (R502). -/
theorem engineShares_single : engineShares d [n] = [(n, 1)] := by simp [engineShares, fillShares]

theorem pickRound_single : pickRound d 1 [n] = [n] := by simp [pickRound, furthestBelow]

theorem oweRound_one : oweRound 1 = fun x => { x with share := x.share + 65536 } := by
  funext x
  simp only [oweRound, one_mul]
  rfl

end Round

/-- What a round's start records: who runs, how many were ready, and the scheduler's heartbeat. -/
def recordRound (run : List Nat) (ready : Nat) (d : Dev) : Dev :=
  { d with running := run, ready := ready, rounds := d.rounds + 1, sup := { d.sup with hbSched := d.sup.hbSched + 1 } }

theorem exec_schedRoundStart_none (halive : alive s.dev = true) (hnone : s.dev.insts = []) :
    exec .schedRoundStart s = .next (s.after (recordRound [] 0 s.dev)) := by
  show execSchedRoundStart s = _
  simp [execSchedRoundStart, onDev_eq, halive, hnone, tkeys, readyInsts, engineShares, fillShares, pickRound, recordRound]

theorem exec_schedRoundStart_one {n : Nat} {y : Instance} (halive : alive s.dev = true) (hone : s.dev.insts = [(n, y)])
    (hex : y.exists_ = true) (hact : y.state = .active) (hw : y.weight ≠ 0) (hentry : pageHasEntry (pageOf s.dev n) = true) :
    exec .schedRoundStart s =
      .next (s.after (recordRound [n] 1 (updInst n spendRound (updInst n (oweRound 1) (updInst n forceWeight s.dev))))) := by
  have hinsts := updInst_single (f := forceWeight) hone (Instance.ne_zero_of_exists hex)
  have hready : readyInsts (updInst n forceWeight s.dev) = [n] := readyInsts_single hinsts hex hact hw hentry
  show execSchedRoundStart s = _
  have hkeys : tkeys s.dev.insts = [n] := by rw [hone]; rfl
  have hkeys' : tkeys (updInst n forceWeight s.dev).insts = [n] := by rw [hinsts]; rfl
  have hengines : min 16 1 = 1 := rfl
  unfold forceWeight at hkeys' hready
  simp only [execSchedRoundStart, onDev_eq, halive, hkeys, hkeys', hready, List.foldl_cons, List.foldl_nil, List.contains_cons,
    beq_self_eq_true, Bool.true_or, if_true, engineShares_single, List.length_singleton, hengines, pickRound_single,
    Bool.not_true, Bool.false_eq_true, if_false]
  rfl

/-! ## Launches (R50, R53, R54) -/

/-- A held launch goes once its instant has come and no other of its queue goes before it. -/
theorem exec_launchInstantReached_due {k : Nat} {h : Held} (halive : alive s.dev = true)
    (hfind : (heldLaunches s.dev).find? (·.ticket.no == k) = some h) (hpassed : h.passed = false)
    (hnow : h.instant ≤ nowNs s.dev) (hfirst : ∀ x ∈ heldLaunches s.dev, goesBefore x h = false) :
    exec (.launchInstantReached k) s = .next (s.after (launchNow k (cutsBefore h.instant s.dev))) := by
  have hnone : (heldLaunches s.dev).any (goesBefore · h) = false := by simpa using hfirst
  show execLaunchInstantReached k s = _
  simp only [execLaunchInstantReached, onDev_eq, hfind, halive, hpassed, hnow, hnone, decide_true, Bool.not_true, Bool.or_true,
    Bool.or_self, Bool.false_and, Bool.false_eq_true, if_false]

/-- A launch whose instant was stepped over fails where it may not be late (R53). -/
theorem exec_launchInstantReached_late {k : Nat} {h : Held} (halive : alive s.dev = true)
    (hfind : (heldLaunches s.dev).find? (·.ticket.no == k) = some h) (hpassed : h.passed = true)
    (hlate : h.ticket.lateOk = false) (hfirst : ∀ x ∈ heldLaunches s.dev, goesBefore x h = false) :
    exec (.launchInstantReached k) s = .next (s.after (launchTooLate k s.dev)) := by
  have hnone : (heldLaunches s.dev).any (goesBefore · h) = false := by simpa using hfirst
  show execLaunchInstantReached k s = _
  simp only [execLaunchInstantReached, onDev_eq, hfind, halive, hpassed, hlate, hnone, Bool.true_or, Bool.not_true, Bool.not_false,
    Bool.or_self, Bool.and_self, Bool.false_eq_true, if_false, if_true]

/-- Settles O19. Rounds are counted as log 97 has it; an entry is read as memory stands (log 160), and each launch goes by its
own row (log 35). -/
theorem enginesTakeEntries : Obligations.EnginesTakeEntries := by
  unfold Obligations.EnginesTakeEntries
  refine ⟨?run, ?badOpcode, ?lost, ?urgentFirst, ?roundNone, ?roundOne, ?due, ?late⟩
  case run =>
    rintro s _ i u q e b op rfl hruns hserved hq hmay hturn hread hop
    subst hq
    rw [exec_engineTakeEntry hruns hserved, takeEntry_read (takesNow_of_mayTake rfl hmay hturn) hread, hop]
    rfl
  case badOpcode =>
    rintro s _ i u q e b rfl hruns hserved hq hmay hturn hread hop hactive
    subst hq
    rw [exec_engineTakeEntry hruns hserved, takeEntry_read (takesNow_of_mayTake rfl hmay hturn) hread, hop]
    exact congrArg (fun e => Host.Outcome.next (s.after e)) (rejectEntry_active hactive)
  case lost =>
    rintro s _ i u q e why rfl hruns hserved hq hmay hturn hread
    subst hq
    rw [exec_engineTakeEntry hruns hserved, takeEntry_lost (takesNow_of_mayTake rfl hmay hturn) hread]
  case urgentFirst =>
    rintro s _ i rfl hruns hserved hurgent
    rw [exec_engineTakeEntry hruns hserved, takeEntry_waits hurgent]
  case roundNone => rintro s _ rfl halive hnone; exact exec_schedRoundStart_none halive hnone
  case roundOne =>
    rintro s _ n y rfl halive hone hex hact hw hentry
    rw [exec_schedRoundStart_one halive hone hex hact hw hentry, oweRound_one]
    rfl
  case due =>
    rintro s _ k h rfl halive - hfind hpassed hnow hfirst
    exact exec_launchInstantReached_due halive hfind hpassed hnow hfirst
  case late =>
    rintro s _ k h rfl halive hfind hpassed hlate hfirst
    exact exec_launchInstantReached_late halive hfind hpassed hlate hfirst

end Sys2Proof.Machine
end

section
/-! Transactions under command (R99, R117 to R124, R131, R140 to R144): a single command's own transaction goes to the
sequencer, and BEGIN, PREPARE, COMMIT, ROLLBACK and TXN_STATUS move a kept one. -/

namespace Sys2Proof.Machine

variable {c : Cmd} {s : State} {d e : Dev} {b : List Byte} {t : Ticket} {x : Txn}

/-! ## No launch asked for (R52, R53) -/

/-- Step 9 of R94 is about launches: it passes a command that asks for none. -/
theorem launchFail_of_now (h : c.launch = false) : launchFail d c = none := by simp [launchFail, h]

theorem instantPassed_of_now (h : c.launch = false) : instantPassed d c = false := by simp [instantPassed, h]

/-! ## A single command's own transaction (R99, R131) -/

/-- A command whose PREPARE checks pass goes to the sequencer as a prepared transaction of its one change. -/
theorem singleCmd_sequenced {op : Op} {ch : Change} (h : Accepted op c s d b) (hnone : d.txns = [])
    (hready : prepareChanges (ownTxn op c s d b) { d with nextTxn := d.nextTxn + 1, txns := [ownTxn op c s d b] } = .ok [ch]) :
    singleCmd op (ticketOf op c s) c b d = sequenceTxn d.nextTxn { d with
      nextTxn := d.nextTxn + 1, txns := [{ ownTxn op c s d b with state := .prepared, resolved := [ch] }] } := by
  have hprep : prepareTxn d.nextTxn { d with nextTxn := d.nextTxn + 1, txns := d.txns ++ [ownTxn op c s d b] } =
      (none, { d with
        nextTxn := d.nextTxn + 1, txns := [{ ownTxn op c s d b with state := .prepared, resolved := [ch] }] }) := by
    rw [hnone]
    exact prepareTxn_one _ (ownTxn op c s d b) [ch] rfl rfl rfl hready
  unfold ownTxn at hprep ⊢
  simp only [singleCmd, launchFail_of_now h.now, instantPassed_of_now h.now, h.now, hprep, Bool.false_and, Bool.false_eq_true,
    if_false]

/-- Settles O56: a command of kind D or N is `singleCmd`, whatever output its change concerns. -/
theorem changingCommandsAreSequenced : Obligations.ChangingCommandsAreSequenced := by
  unfold Obligations.ChangingCommandsAreSequenced
  intro op c s d b ch hkind h hnone hready
  rw [← singleCmd_sequenced h hnone hready, exec_accepted op c s d b h]
  rcases hkind with hkind | hkind <;> rw [hkind]

/-! ## Commands of kind X (R97) -/

/-- An accepted command of kind X leaves what `controlCmd` makes of the device its checks left. -/
theorem exec_control {op : Op} (hk : opKind op = .x) (h : Accepted op c s d b)
    (hrun : controlCmd op (ticketOf op c s) c d = e) : exec (instrOf op c) s = .next (s.after e) := by
  rw [exec_accepted op c s d b h, hk, ← hrun]

/-! ## BEGIN (R117, R118, R120) -/

/-- The records of an issuer's transactions, those of its single commands apart. -/
def keptTxns (i : Issuer) (d : Dev) : List Txn := d.txns.filter fun x => !x.own && x.issuer == i

/-- The transaction that BEGIN opens. -/
def begunTxn (i : Issuer) (d : Dev) : Txn :=
  { id := d.nextTxn, issuer := i, own := false, handle := freshHandle d, state := .openT, changes := [], resolved := [],
    landings := [], lastStatus := .ok, failIndex := 0xFFFF, ballot := 0, coord := 0, commit := none, wait := none,
    passed := false, seqNo := 0, waits := 0, verdict := none, out := [], cause := none }

/-- The device with a transaction begun beside the records `kept`. -/
def withBegun (i : Issuer) (kept : List Txn) (d : Dev) : Dev :=
  { d with free := d.free + 1, nextTxn := d.nextTxn + 1, txns := kept ++ [begunTxn i d] }

/-- The lesser of a number found so far and a transaction's. -/
def lesserId (found : Option Nat) (x : Txn) : Option Nat :=
  match found with
  | none => some x.id
  | some i => some (min i x.id)

/-- The ended record that BEGIN reuses, if it needs one (log 34). -/
def reusedId (i : Issuer) (d : Dev) : Option Nat :=
  if (keptTxns i d).length < 4 then none else ((keptTxns i d).filter (!isOpen ·)).foldl lesserId none

theorem beginCmd_eq (t : Ticket) (d : Dev) : beginCmd t d =
    if 4 ≤ ((keptTxns t.issuer d).filter isOpen).length then finish t .txnLimit 0 [] d
    else finish t .ok 0 (le32 (freshHandle d).toNat)
      (withBegun t.issuer (d.txns.filter fun x => some x.id != reusedId t.issuer d) d) := by
  unfold beginCmd reusedId
  rfl

/-- The fold over `lesserId` finds the least number: that of a transaction that none precedes. -/
theorem foldl_lesserId {e : Txn} {l : List Txn} {found : Option Nat} (hfound : ∀ i ∈ found, e.id ≤ i)
    (hleast : ∀ x ∈ l, e.id ≤ x.id) (he : found = some e.id ∨ e ∈ l) : l.foldl lesserId found = some e.id := by
  induction l generalizing found with
  | nil => simpa using he
  | cons x xs ih =>
    obtain ⟨hx, hxs⟩ := List.forall_mem_cons.mp hleast
    cases found with
    | none =>
      refine ih (by simpa [lesserId] using hx) hxs ?_
      obtain rfl | he := List.mem_cons.mp (he.resolve_left nofun)
      · exact .inl rfl
      · exact .inr he
    | some i =>
      have hi : e.id ≤ i := hfound i rfl
      refine ih (by simp [lesserId, hi, hx]) hxs ?_
      rcases he with he | he
      · cases he
        exact .inl (by simp [lesserId, hx])
      · obtain rfl | he := List.mem_cons.mp he
        · exact .inl (by simp [lesserId, hi])
        · exact .inr he

theorem reusedId_of_room {i : Issuer} (h : (keptTxns i d).length < 4) : reusedId i d = none := if_pos h

theorem reusedId_of_oldest {i : Issuer} {e : Txn} (hfull : 4 ≤ (keptTxns i d).length)
    (he : e ∈ (keptTxns i d).filter (!isOpen ·)) (hleast : ∀ x ∈ (keptTxns i d).filter (!isOpen ·), e.id ≤ x.id) :
    reusedId i d = some e.id := by
  rw [reusedId, if_neg (by omega)]
  exact foldl_lesserId (by simp) hleast (.inr he)

theorem beginCmd_full (h : 4 ≤ ((keptTxns t.issuer d).filter isOpen).length) :
    beginCmd t d = finish t .txnLimit 0 [] d := by rw [beginCmd_eq, if_pos h]

/-- With a slot that holds no record, every record stays. -/
theorem beginCmd_room (h : (keptTxns t.issuer d).length < 4) :
    beginCmd t d = finish t .ok 0 (le32 (freshHandle d).toNat) (withBegun t.issuer d.txns d) := by
  have hopen : ((keptTxns t.issuer d).filter isOpen).length ≤ (keptTxns t.issuer d).length := List.length_filter_le ..
  have hall : (d.txns.filter fun x => some x.id != reusedId t.issuer d) = d.txns := by simp [reusedId_of_room h]
  rw [beginCmd_eq, if_neg (by omega), hall]

/-- With a record in every slot, the oldest ended one goes. -/
theorem beginCmd_reuses {e : Txn} (hfull : 4 ≤ (keptTxns t.issuer d).length)
    (hopen : ((keptTxns t.issuer d).filter isOpen).length < 4) (he : e ∈ (keptTxns t.issuer d).filter (!isOpen ·))
    (hleast : ∀ x ∈ (keptTxns t.issuer d).filter (!isOpen ·), e.id ≤ x.id) :
    beginCmd t d = finish t .ok 0 (le32 (freshHandle d).toNat) (withBegun t.issuer (d.txns.filter (·.id != e.id)) d) := by
  have hgone : (d.txns.filter fun x => some x.id != reusedId t.issuer d) = d.txns.filter (·.id != e.id) := by
    rw [reusedId_of_oldest hfull he hleast]; rfl
  rw [beginCmd_eq, if_neg (by omega), hgone]

theorem mem_endedTxns {i : Issuer} :
    x ∈ (keptTxns i d).filter (!isOpen ·) ↔ x ∈ d.txns ∧ isOpen x = false ∧ x.own = false ∧ x.issuer = i := by
  simp [keptTxns]

/-- The open ones among an issuer's records, counted in one pass. -/
theorem filter_isOpen_keptTxns (i : Issuer) (d : Dev) :
    (keptTxns i d).filter isOpen = d.txns.filter fun x => (!x.own && x.issuer == i) && isOpen x := by
  simp [keptTxns, List.filter_filter, Bool.and_comm]

/-! ## PREPARE, COMMIT and ROLLBACK (R123, R125, R140) -/

/-- A PREPARE with no ballot sends no vote (R141). -/
theorem sendVote_of_no_ballot (st : Status) (h : c.u32 24 = 0) : sendVote c st d = d := by
  simp [sendVote, sendBallot, h]

/-- What PREPARE replies: the first failing check, or the affected mask and the count of staged changes (R122). -/
def prepareReply (t : Ticket) (x : Txn) (failed : Option Fail) (d : Dev) : Dev :=
  match failed with
  | some f => finish t f.status f.idx [] d
  | none => finish t .ok 0 (le8 (((txnOf d x.id).map fun x => affected x d).getD 0) ++ [0] ++ le16 x.changes.length) d

/-- The checks that PREPARE runs with no ballot: their failure and the device they leave. -/
def prepareUnballoted (c : Cmd) (x : Txn) (d : Dev) : Option Fail × Dev :=
  prepareTxn x.id (updTxn x.id (fun x => { x with ballot := 0, coord := c.u16 28 }) d)

theorem prepareCmd_of_no_ballot (hx : namedTxn d c = some x) (h : c.u32 24 = 0) : prepareCmd t c d =
    prepareReply t x (prepareUnballoted c x d).1 (prepareUnballoted c x d).2 := by
  simp only [prepareCmd, hx, sendVote_of_no_ballot _ h, h]
  rfl

/-- A COMMIT without an instant of a PREPARED transaction sequences it; the COMMIT replies when it has landed. -/
theorem commitCmd_of_prepared (hnow : c.launch = false) (hx : namedTxn d c = some x) (hstate : x.state = .prepared) :
    commitCmd t c d = sequenceTxn x.id (updTxn x.id (fun x => { x with commit := some t }) d) := by
  simp [commitCmd, hx, launchFail_of_now hnow, instantPassed_of_now hnow, hstate, hnow]

/-- A transaction rolled back: it holds no reservation, and TXN_UNKNOWN is the last status where a COMMIT waited (R122). -/
def rolledBackTxn (x : Txn) : Txn :=
  { x with state := .rolledBack, resolved := [], commit := none, wait := none, passed := false,
           lastStatus := if x.commit.isSome then .txnUnknown else x.lastStatus }

theorem rollbackCmd_of_idle (hx : namedTxn d c = some x) (hcommit : x.commit = none) :
    rollbackCmd t c d = finish t .ok 0 [] (updTxn x.id rolledBackTxn d) := by
  simp only [rollbackCmd, hx, hcommit]
  rfl

/-- A COMMIT that waits for its instant ends with TXN_UNKNOWN, its ballot's result before it (R143). -/
theorem rollbackCmd_of_waiting {k : Ticket} (hx : namedTxn d c = some x) (hcommit : x.commit = some k) :
    rollbackCmd t c d = finish t .ok 0 [] (finish k .txnUnknown 0 []
      (sendBallot x.ballot x.coord (statusCode .txnUnknown) true (updTxn x.id rolledBackTxn d))) := by
  simp only [rollbackCmd, hx, hcommit]
  rfl

/-! ## TXN_STATUS (R122, R144) -/

theorem statusCmd_state (hmode : c.u8 24 = 0) (hx : namedTxn d c = some x) : statusCmd t c d =
    finish t .ok 0 (le8 (txnCode x.state) ++ le8 (affected x d) ++ le16 x.changes.length ++
      le32 (landingFrame d x (c.u8 25)) ++ le16 (statusCode x.lastStatus) ++ le16 x.failIndex ++ le32 x.ballot.toNat) d := by
  simp [statusCmd, hmode, hx]

theorem statusCmd_tally {y : Tally} (hmode : c.u8 24 = 1) (hy : d.tallies.find? (·.ballot.toNat == c.u32 28) = some y) :
    statusCmd t c d = finish t .ok 0 (tallyBytes y) d := by
  simp only [statusCmd, hmode, hy, if_true]

theorem statusCmd_created (hmode : c.u8 24 = 2) (hx : namedTxn d c = some x) :
    statusCmd t c d = finish t .ok 0 ((createdNumbers x (c.u8 25)).flatMap le16) d := by
  simp [statusCmd, hmode, hx]

/-- Settles O9. The record reused is that begun first (log 34); PREPARE, COMMIT and ROLLBACK follow the table of R123. -/
theorem transactionControl : Obligations.TransactionControl := by
  unfold Obligations.TransactionControl
  refine ⟨?begins, ?reuses, ?limit, ?prepare, ?commit, ?rollback, ?rollbackWaiting, ?state, ?tally, ?created⟩
  case begins =>
    intro c s d b h hroom
    exact exec_control rfl h (beginCmd_room hroom)
  case reuses =>
    intro c s d b e h hfull hopen he hown hissuer hended hleast
    rw [← filter_isOpen_keptTxns] at hopen
    refine exec_control rfl h
      (beginCmd_reuses hfull hopen (mem_endedTxns.mpr ⟨he, hended, hown, hissuer⟩) fun x hx => ?_)
    obtain ⟨hmem, hended, hown, hissuer⟩ := mem_endedTxns.mp hx
    exact hleast x hmem hown hissuer hended
  case limit =>
    intro c s d b h hopen
    rw [← filter_isOpen_keptTxns] at hopen
    exact exec_control rfl h (beginCmd_full hopen)
  case prepare =>
    intro c s d b x h hx hballot
    exact exec_control rfl h (prepareCmd_of_no_ballot hx hballot)
  case commit =>
    intro c s d b x h hx hstate
    exact exec_control rfl h (commitCmd_of_prepared h.now hx hstate)
  case rollback =>
    intro c s d b x h hx hcommit
    exact exec_control rfl h (rollbackCmd_of_idle hx hcommit)
  case rollbackWaiting =>
    intro c s d b x k h hx hcommit
    exact exec_control rfl h (rollbackCmd_of_waiting hx hcommit)
  case state =>
    intro c s d b x h hmode hx
    exact exec_control rfl h (statusCmd_state hmode hx)
  case tally =>
    intro c s d b y h hmode hy
    exact exec_control rfl h (statusCmd_tally hmode hy)
  case created =>
    intro c s d b x h hmode hx
    exact exec_control rfl h (statusCmd_created hmode hx)

end Sys2Proof.Machine
end

section
/-! Layers (R145 to R150, R180, R181, R234, R357): what each landing makes of the device, and which layers show nothing. -/

namespace Sys2Proof.Machine

variable {c : Cmd} {s : State} {d : Dev} {b : List Byte} {ch : Change} {l : Layer} {n : Nat}

/-! ## Operations on a layer that exists -/

theorem updLayer_of_layer {f : Layer → Layer} (h : layerOf d n = some l) : updLayer n f d = putLayer n (some (f l)) d := by
  simp only [updLayer, h]

theorem destroyLayer_of_layer (h : layerOf d n = some l) :
    destroyLayer n d = putLayer n none (if l.visible then damageRects l.output (visibleRects d l) d else d) := by
  simp only [destroyLayer, h]

/-! ## Landings (R148, R150, R180, R181) -/

theorem landLayerEnable_of_layer (h : layerOf d (ch.cmd.u16 24) = some l) : landLayerEnable ch d =
    if l.visible = ch.cmd.bit 26 0 then updLayer (ch.cmd.u16 24) (fun l => { l with input := ch.cmd.bit 26 1 }) d
    else changeLayer (ch.cmd.u16 24) (fun l => { l with visible := ch.cmd.bit 26 0, input := ch.cmd.bit 26 1 }) d := by
  simp only [landLayerEnable, h, beq_iff_eq]

theorem landLayerEnable_withTxns (t : List Txn) (d : Dev) :
    landLayerEnable ch (withTxns t d) = withTxns t (landLayerEnable ch d) := by
  cases h : layerOf d (ch.cmd.u16 24) with
  | none => simp only [landLayerEnable, layerOf_withTxns, h]
  | some l =>
    rw [landLayerEnable_of_layer (layerOf_withTxns t d _ ▸ h), landLayerEnable_of_layer h, updLayer_withTxns,
      changeLayer_withTxns, ite_withTxns]

/-- The palette that LAYER_PALETTE gives a layer: its entries from the first one named on. -/
def paletteLoaded (ch : Change) (l : Layer) : Layer :=
  { l with palette := (List.range (ch.cmd.u16 30)).foldl (fun p k =>
      tput 0 p (ch.cmd.u16 28 + k) (leNat ((ch.table.drop (4 * k)).take 4))) l.palette }

/-- A palette damages only a layer whose source is indexed. -/
theorem land_layerPalette_of_layer {id : Nat} (h : layerOf d (ch.cmd.u16 24) = some l) :
    (opSpec .layerPalette).land id ch d =
      (if l.src.map (·.format) = some 0x20 then changeLayer else updLayer) (ch.cmd.u16 24) (paletteLoaded ch) d := by
  simp only [opSpec, specLayerPalette, h, beq_iff_eq]
  split <;> rfl

theorem land_layerPalette_withTxns (id : Nat) (t : List Txn) (d : Dev) :
    (opSpec .layerPalette).land id ch (withTxns t d) = withTxns t ((opSpec .layerPalette).land id ch d) := by
  cases h : layerOf d (ch.cmd.u16 24) with
  | none => simp only [opSpec, specLayerPalette, layerOf_withTxns, h]
  | some l =>
    rw [land_layerPalette_of_layer (layerOf_withTxns t d _ ▸ h), land_layerPalette_of_layer h]
    split
    · exact changeLayer_withTxns ..
    · exact updLayer_withTxns ..

/-- The part of a layer's visible part that the damage rectangle of its LAYER_SOURCE reaches (R181). -/
def damagedRects (c : Cmd) (d : Dev) (l : Layer) : List Rect :=
  (visibleRects d l).map
    ((mapDamage l { x := c.u16 52, y := c.u16 54, w := c.u16 56, h := c.u16 58 }).meet ·)

/-- With DAMAGE_VALID the new source damages no more than its damage rectangle, mapped by the new source's layer. -/
theorem landLayerSource_damage {m : Layer} (hbit : ch.cmd.bit 27 4 = true) (h : layerOf d (ch.cmd.u16 24) = some l)
    (hm : m = { l with src := some (sourceOf d ch.cmd) }) : landLayerSource ch d =
      if m.visible then damageRects m.output (damagedRects ch.cmd (putLayer (ch.cmd.u16 24) (some m) d) m)
        (putLayer (ch.cmd.u16 24) (some m) d)
      else putLayer (ch.cmd.u16 24) (some m) d := by
  subst hm
  simp only [landLayerSource, hbit, if_true, updLayer_of_layer h, layerOf_putLayer]
  cases l.visible <;> rfl

theorem landLayerSource_whole (hbit : ch.cmd.bit 27 4 = false) : landLayerSource ch d =
    changeLayer (ch.cmd.u16 24) (fun l => { l with src := some (sourceOf d ch.cmd) }) d := by
  simp only [landLayerSource, hbit, Bool.false_eq_true, if_false]

@[simp] theorem sourceOf_withTxns (t : List Txn) (d : Dev) : sourceOf (withTxns t d) c = sourceOf d c := rfl

theorem landLayerSource_withTxns (t : List Txn) (d : Dev) :
    landLayerSource ch (withTxns t d) = withTxns t (landLayerSource ch d) := by
  simp only [landLayerSource, sourceOf_withTxns, updLayer_withTxns, changeLayer_withTxns, layerOf_withTxns,
    visibleRects_withTxns, damageRects_withTxns]
  cases layerOf (updLayer (ch.cmd.u16 24) _ d) (ch.cmd.u16 24) <;> simp only [ite_withTxns]

/-- LAYER_CREATE makes the layer that PREPARE numbered, and answers its number. -/
theorem does_layerCreate (h : Lands .layerCreate c s d b ch) :
    Does (.layerCreate c) (ticketOf .layerCreate c s) s (le16 ch.obj)
      (putLayer ch.obj (some (newLayer (c.u8 24) (c.u16 26) (ownerOf c.issuer))) d.opened) := by
  cases h.cmd_eq
  exact does_lands .layerCreate _ s d b ch _ _ (by decide) h (fun _ => rfl) (fun _ => rfl) (fun _ _ => rfl) (fun _ _ => rfl)

/-! ## Layers that show nothing (R148, R162) -/

theorem visibleRects_eq_nil (h : l.src = none ∨ l.crop.w = 0 ∨ l.crop.h = 0 ∨ l.dst.w = 0 ∨ l.dst.h = 0) :
    visibleRects d l = [] := by
  refine if_pos ?_
  simpa only [Rect.empty, Bool.or_eq_true, Option.isNone_iff_eq_none, beq_iff_eq, or_assoc] using h

theorem meetsBand_of_no_clips {m : Mode} {fl : FrameLayer} {k : Nat} (h : fl.clips = []) : meetsBand m fl k = false := by
  simp only [meetsBand, h, List.any_nil, Bool.and_false]

theorem clips_eq_nil_of_mem_frameLayers {o : Nat} {fl : FrameLayer} (hmem : fl ∈ frameLayers d o)
    (h : visibleRects d fl.layer = []) : fl.clips = [] := by
  obtain ⟨⟨n, l⟩, -, rfl⟩ := List.mem_map.mp hmem
  exact (ite_congr rfl (fun _ => rfl) fun _ => h).trans (ite_self _)

/-- Devices that agree apart from released buffers and events have the same layers. -/
theorem layerOf_of_apart {E L : Dev} (h : E.apart = L.apart) (n : Nat) : layerOf E n = layerOf L n :=
  (congrArg (layerOf · n) h :)

/-- Settles O49: the landing puts `newLayer`; without a source or an extent no rectangle is visible, so none is clipped. -/
theorem newLayerTakesNoPart : Obligations.NewLayerTakesNoPart := by
  unfold Obligations.NewLayerTakesNoPart
  refine ⟨?created, ?hidden, ?noBand, ?noClips⟩
  case created =>
    intro c s d b ch h
    obtain ⟨E, hexec, hE⟩ := does_layerCreate h
    exact ⟨E, hexec, _, (layerOf_of_apart hE _).trans (layerOf_putLayer ..), rfl, rfl, rfl, rfl, rfl, rfl, rfl, rfl, rfl⟩
  case hidden => intro d l h; exact visibleRects_eq_nil h
  case noBand => intro m fl k h; exact meetsBand_of_no_clips h
  case noClips => intro d o fl hmem h; exact clips_eq_nil_of_mem_frameLayers hmem (visibleRects_eq_nil h)

/-! ## Family 0x03's commands (R150) -/

/-- Settles O1: each landing leaves the transactions alone, and does what its clause says of the opened device. -/
theorem layerCommandsLand : Obligations.LayerCommandsLand := by
  unfold Obligations.LayerCommandsLand
  refine ⟨?create, ?destroy, ?place, ?blend, ?enable, ?rate, ?palette, ?click⟩
  case create => intro c s d b ch h; exact does_layerCreate h
  case destroy =>
    intro c s d b ch l h hl
    cases h.cmd_eq
    exact does_silent (op := .layerDestroy) (by decide) h rfl (fun _ _ _ => destroyLayer_withTxns ..)
      (destroyLayer_of_layer (d := d.opened) hl)
  case place =>
    intro c s d b ch h
    cases h.cmd_eq
    exact does_silent (op := .layerPlace) (by decide) h rfl (fun _ _ _ => changeLayer_withTxns ..) rfl
  case blend =>
    intro c s d b ch h
    cases h.cmd_eq
    exact does_silent (op := .layerBlend) (by decide) h rfl (fun _ _ _ => changeLayer_withTxns ..) rfl
  case enable =>
    intro c s d b ch l h hl
    cases h.cmd_eq
    exact does_silent (op := .layerEnable) (by decide) h rfl (fun _ _ _ => landLayerEnable_withTxns ..)
      (landLayerEnable_of_layer (d := d.opened) hl)
  case rate =>
    intro c s d b ch h
    cases h.cmd_eq
    exact does_silent (op := .layerRate) (by decide) h rfl (fun _ _ _ => updLayer_withTxns ..) rfl
  case palette =>
    intro c s d b ch l h hl
    cases h.cmd_eq
    exact does_silent (op := .layerPalette) (by decide) h rfl land_layerPalette_withTxns
      (land_layerPalette_of_layer (d := d.opened) hl)
  case click =>
    intro c s d b ch h
    cases h.cmd_eq
    exact does_silent (op := .layerClick) (by decide) h rfl (fun _ _ _ => updLayer_withTxns ..) rfl

/-- Settles O2: DAMAGE_VALID says which rectangles a new source damages; LAYER_QUERY is a read. An import-slot source takes
its slot's size as log 142 has it. -/
theorem layerSourceLands : Obligations.LayerSourceLands := by
  unfold Obligations.LayerSourceLands
  refine ⟨?whole, ?damage, ?query⟩
  case whole =>
    intro c s d b ch h hbit
    cases h.cmd_eq
    exact does_silent (op := .layerSource) (by decide) h rfl (fun _ _ _ => landLayerSource_withTxns ..)
      (landLayerSource_whole (d := d.opened) hbit)
  case damage =>
    intro c s d b ch l h hbit hl
    cases h.cmd_eq
    exact does_silent (op := .layerSource) (by decide) h rfl (fun _ _ _ => landLayerSource_withTxns ..)
      (landLayerSource_damage (d := d.opened) hbit hl rfl)
  case query => intro c s d b h; exact exec_read_ok (op := .layerQuery) rfl h rfl rfl

end Sys2Proof.Machine
end

section
/-! The bands of an output (R171). -/

namespace Sys2Proof.Machine

/-- The last line of a band is its eighth, or the last active line where that comes first. -/
theorem bandRect_end {m : Mode} {b : Nat} (h : 8 * b < m.vActive) :
    (bandRect m b).y + (bandRect m b).h = min (8 * b + 7) (m.vActive - 1) + 1 := by
  change 8 * b + min 8 (m.vActive - 8 * b) = _
  omega

/-- Settles O51: a band's extent is its rectangle's, and the count is `ceilDiv` by 8. -/
theorem bandsOfAnOutput : Obligations.BandsOfAnOutput := by
  unfold Obligations.BandsOfAnOutput
  refine ⟨?extent, ?count, ?count2160, ?count4320⟩
  case extent => intro m b h; exact ⟨rfl, rfl, rfl, bandRect_end h⟩
  case count => intro m; rfl
  case count2160 => intro m _ hv; simp only [bandCount, hv, ceilDiv]
  case count4320 => intro m _ hv; simp only [bandCount, hv, ceilDiv]

end Sys2Proof.Machine
end

section
/-! Scalers and colour (R186, R187, R194, R197, R202, R205, R206, R209): what each landing of family 0x04 makes of the
device. -/

namespace Sys2Proof.Machine

variable {c : Cmd} {s : State} {d : Dev} {b : List Byte} {ch : Change} {k : Binding}

/-! ## Coefficient sets (R194, R197) -/

@[simp] theorem bindingOf_withTxns (kind obj : Nat) (t : List Txn) (d : Dev) :
    bindingOf (withTxns t d) kind obj = bindingOf d kind obj := rfl

/-- The binding after a SCALER_COEFF: each set that its mask names is the built-in one, or the table's, where the horizontal
set's 512 entries come first. -/
def coefsSet (ch : Change) (k : Binding) : Binding :=
  let c := ch.cmd
  { k with
    hset := if c.bit 27 0 then (if c.u8 28 = 0 then .loaded ((tableInts ch.table).take 512) else .builtin (c.u8 28)) else k.hset,
    vset := if c.bit 27 1 then (if c.u8 28 = 0 then .loaded ((tableInts ch.table).drop (if c.bit 27 0 then 512 else 0))
      else .builtin (c.u8 28)) else k.vset }

theorem land_scalerCoeff_of_binding {id : Nat} (h : bindingOf d (ch.cmd.u8 26) (ch.cmd.u16 24) = some k) :
    (opSpec .scalerCoeff).land id ch d = setBinding (ch.cmd.u8 26) (ch.cmd.u16 24) (some (coefsSet ch k)) d := by
  simp only [opSpec, specScalerCoeff, h, coefsSet]
  cases ch.cmd.bit 27 0 <;> cases ch.cmd.bit 27 1 <;> rfl

theorem land_scalerCoeff_withTxns (id : Nat) (t : List Txn) (d : Dev) :
    (opSpec .scalerCoeff).land id ch (withTxns t d) = withTxns t ((opSpec .scalerCoeff).land id ch d) := by
  cases h : bindingOf d (ch.cmd.u8 26) (ch.cmd.u16 24) with
  | none => simp only [opSpec, specScalerCoeff, bindingOf_withTxns, h]
  | some k =>
    rw [land_scalerCoeff_of_binding ((bindingOf_withTxns ..).trans h), land_scalerCoeff_of_binding h, setBinding_withTxns]

/-! ## LUTs (R206, R209) -/

@[simp] theorem damageAll_withTxns (o : Nat) (t : List Txn) (d : Dev) :
    damageAll o (withTxns t d) = withTxns t (damageAll o d) := rfl

theorem land_lutLoad_input {id : Nat} (h : ch.cmd.u8 26 = 0) : (opSpec .lutLoad).land id ch d =
    changeLayer (ch.cmd.u16 24) (fun l => { l with lut := loadLut ch.cmd ch.table l.lut }) d := by
  simp only [opSpec, specLutLoad, h]

theorem land_lutLoad_store {id : Nat} (h : ch.cmd.u8 26 = 1) : (opSpec .lutLoad).land id ch d =
    damageAll (ch.cmd.u16 24)
      (updOut (ch.cmd.u16 24) (fun o => { o with storeLut := loadLut ch.cmd ch.table o.storeLut }) d) := by
  simp only [opSpec, specLutLoad, h]

theorem land_lutLoad_panel {id : Nat} (h : 2 ≤ ch.cmd.u8 26) : (opSpec .lutLoad).land id ch d =
    updOut (ch.cmd.u16 24) (fun o => { o with panelLut := loadLut ch.cmd ch.table o.panelLut }) d := by
  obtain ⟨n, hn⟩ := Nat.exists_eq_add_of_le' h
  simp only [opSpec, specLutLoad, hn]

theorem land_lutLoad_withTxns (id : Nat) (t : List Txn) (d : Dev) :
    (opSpec .lutLoad).land id ch (withTxns t d) = withTxns t ((opSpec .lutLoad).land id ch d) := by
  obtain h | h | h : ch.cmd.u8 26 = 0 ∨ ch.cmd.u8 26 = 1 ∨ 2 ≤ ch.cmd.u8 26 := by omega
  · rw [land_lutLoad_input h, land_lutLoad_input h, changeLayer_withTxns]
  · rw [land_lutLoad_store h, land_lutLoad_store h, updOut_withTxns, damageAll_withTxns]
  · rw [land_lutLoad_panel h, land_lutLoad_panel h, updOut_withTxns]

/-! ## Family 0x04's commands (R214) -/

/-- Settles O3: SCALER_BIND answers the scaler that PREPARE assigned; the other landings are silent, and do what their clauses
say of the opened device. -/
theorem scalerAndColourLand : Obligations.ScalerAndColourLand := by
  unfold Obligations.ScalerAndColourLand
  refine ⟨?bind, ?release, ?coeff, ?inputLut, ?storeLut, ?panelLut, ?matrix, ?chroma⟩
  case bind =>
    intro c s d b ch h
    cases h.cmd_eq
    exact does_lands .scalerBind _ s d b ch _ _ (by decide) h (fun _ => setBinding_withTxns ..) (fun _ => rfl)
      (fun _ _ => rfl) (fun _ _ => rfl)
  case release =>
    intro c s d b ch h
    cases h.cmd_eq
    exact does_silent (op := .scalerRelease) (by decide) h rfl (fun _ _ _ => setBinding_withTxns ..) rfl
  case coeff =>
    intro c s d b ch k h hk
    cases h.cmd_eq
    exact does_silent (op := .scalerCoeff) (by decide) h rfl land_scalerCoeff_withTxns
      (land_scalerCoeff_of_binding (d := d.opened) hk)
  case inputLut =>
    intro c s d b ch h htarget
    cases h.cmd_eq
    exact does_silent (op := .lutLoad) (by decide) h rfl land_lutLoad_withTxns (land_lutLoad_input htarget)
  case storeLut =>
    intro c s d b ch h htarget
    cases h.cmd_eq
    exact does_silent (op := .lutLoad) (by decide) h rfl land_lutLoad_withTxns (land_lutLoad_store htarget)
  case panelLut =>
    intro c s d b ch h htarget
    cases h.cmd_eq
    exact does_silent (op := .lutLoad) (by decide) h rfl land_lutLoad_withTxns (land_lutLoad_panel htarget.ge)
  case matrix =>
    intro c s d b ch h
    cases h.cmd_eq
    exact does_silent (op := .matrixSet) (by decide) h rfl (fun _ _ _ => changeLayer_withTxns ..) rfl
  case chroma =>
    intro c s d b ch h
    cases h.cmd_eq
    exact does_silent (op := .chromaSet) (by decide) h rfl (fun _ _ _ => changeLayer_withTxns ..) rfl

end Sys2Proof.Machine
end

section
/-! # The four memories keep their one form (O42)

`f_wf` says that `f` keeps local DRAM, pan memory and both frame stores in their form; `execX_wf` says it of the
step of a command or event. Only the few operations that store bytes (`locWrite`, `panWrite`, `storeWrite`, host
stores, the zeroing of a partition, boot and the resets) have something to show, by the laws of `memPut` and
`memWrite`. The rest hand their argument's memories on, and their lemmas follow the branches of their definitions. -/

namespace Sys2Proof.Machine

variable {d : Dev} {α β : Type}

/-! ### Keeping the form through a branch, a pair, a fold -/

/-- `f` keeps the four memories in their one form. -/
def Keeps (f : Dev → Dev) : Prop := ∀ ⦃d⦄, d.MemoriesWf → (f d).MemoriesWf

theorem ite_wf {c : Prop} [Decidable c] {a b : Dev} (ha : a.MemoriesWf) (hb : b.MemoriesWf) :
    (if c then a else b).MemoriesWf := by
  split <;> assumption

theorem ite_fst_wf {c : Prop} [Decidable c] {a b : Dev × α} (ha : a.1.MemoriesWf) (hb : b.1.MemoriesWf) :
    (if c then a else b).1.MemoriesWf := by
  split <;> assumption

theorem ite_snd_wf {c : Prop} [Decidable c] {a b : α × Dev} (ha : a.2.MemoriesWf) (hb : b.2.MemoriesWf) :
    (if c then a else b).2.MemoriesWf := by
  split <;> assumption

/-- An update that leaves the four memories alone keeps their form. It is stated for every other field at once: the
unifier then matches a record update field by field and never unfolds what was updated. -/
theorem with_wf {e : Dev}
    {tide pages insts delegFirst delegCount reserved bar2 vfs lifecycle nextTicket nextTxn nextSeq free tickets
    fences launches txns tallies baselines running ready rounds layers uses outputs staging pipes pipeNeeds
    gangs harvest aux cv monitors touch serials haptic audio dram pan sec power sup guardBase guardSize
    regionRefused raised cause result out}
    (h : e.MemoriesWf) :
    ({ e with
        tide := tide, pages := pages, insts := insts, delegFirst := delegFirst, delegCount := delegCount,
        reserved := reserved, bar2 := bar2, vfs := vfs, lifecycle := lifecycle, nextTicket := nextTicket,
        nextTxn := nextTxn, nextSeq := nextSeq, free := free, tickets := tickets, fences := fences,
        launches := launches, txns := txns, tallies := tallies, baselines := baselines, running := running,
        ready := ready, rounds := rounds, layers := layers, uses := uses, outputs := outputs,
        staging := staging, pipes := pipes, pipeNeeds := pipeNeeds, gangs := gangs, harvest := harvest,
        aux := aux, cv := cv, monitors := monitors, touch := touch, serials := serials, haptic := haptic,
        audio := audio, dram := dram, pan := pan, sec := sec, power := power, sup := sup,
        guardBase := guardBase, guardSize := guardSize, regionRefused := regionRefused, raised := raised,
        cause := cause, result := result, out := out } : Dev).MemoriesWf :=
  h

theorem when_wf {c : Prop} [Decidable c] {f : Dev → Dev} (hf : Keeps f) (h : d.MemoriesWf) :
    (if c then f d else d).MemoriesWf :=
  ite_wf (hf h) h

theorem fst_wf {p : Dev × α} {x : α} (hp : p.1.MemoriesWf) (h : p = (d, x)) : d.MemoriesWf := by
  subst h
  exact hp

theorem snd_wf {p : α × Dev} {x : α} (hp : p.2.MemoriesWf) (h : p = (x, d)) : d.MemoriesWf := by
  subst h
  exact hp

/-- Every step of a fold over devices keeps the form. -/
def KeepsEach (f : Dev → α → Dev) : Prop := ∀ a ⦃d⦄, d.MemoriesWf → (f d a).MemoriesWf

/-- `KeepsEach` for a fold whose device is paired with a second result. -/
def KeepsEachFst (f : Dev × β → α → Dev × β) : Prop := ∀ a ⦃p⦄, p.1.MemoriesWf → (f p a).1.MemoriesWf

/-- `KeepsEach` for a fold whose device is paired with a first result. -/
def KeepsEachSnd (f : β × Dev → α → β × Dev) : Prop := ∀ a ⦃p⦄, p.2.MemoriesWf → (f p a).2.MemoriesWf

theorem foldl_wf {f : Dev → α → Dev} {l : List α} (hf : KeepsEach f) (h : d.MemoriesWf) :
    (l.foldl f d).MemoriesWf :=
  List.foldlRecOn (motive := Dev.MemoriesWf) l f h fun _ hd a _ => hf a hd

theorem foldl_fst_wf {f : Dev × β → α → Dev × β} {l : List α} {p : Dev × β} (hf : KeepsEachFst f)
    (h : p.1.MemoriesWf) : (l.foldl f p).1.MemoriesWf :=
  List.foldlRecOn (motive := fun p => p.1.MemoriesWf) l f h fun _ hp a _ => hf a hp

theorem foldl_snd_wf {f : β × Dev → α → β × Dev} {l : List α} {p : β × Dev} (hf : KeepsEachSnd f)
    (h : p.2.MemoriesWf) : (l.foldl f p).2.MemoriesWf :=
  List.foldlRecOn (motive := fun p => p.2.MemoriesWf) l f h fun _ hp a _ => hf a hp

/-! ### A single memory -/

theorem memFilter_wf {m : List Host.Cell} {p : Host.Cell → Bool} (h : Memory.wf m) : Memory.wf (m.filter p) := by
  obtain ⟨hrise, hall⟩ := (wf_iff m).mp h
  exact (wf_iff _).mpr ⟨keysRise_filter m p hrise, fun e he => hall e (List.mem_of_mem_filter he)⟩

theorem memZeros_wf {m : List Host.Cell} {l : List Nat} (h : Memory.wf m) :
    Memory.wf (l.foldl (fun m p => memZero m (p * 1048576) 1048576) m) :=
  List.foldlRecOn (motive := Memory.wf) l _ h fun _ hm _ _ => memZero_wf _ _ _ hm

/-! ### Stores to local DRAM and pan memory -/

theorem updPanBank_wf {b f} : Keeps (updPanBank b f) := fun _ h => h

theorem locWrite_wf {i pan off bytes} (h : d.MemoriesWf) : (locWrite d i pan off bytes).MemoriesWf := by
  induction bytes generalizing d off with
  | nil => exact h
  | cons b r ih =>
    obtain ⟨hdram, hpan, hfs⟩ := h
    rw [locWrite]
    split
    · exact ih ⟨hdram, hpan, hfs⟩
    · exact ih (ite_wf ⟨hdram, memPut_wf _ _ _ hpan, hfs⟩ ⟨memPut_wf _ _ _ hdram, hpan, hfs⟩)

/-! ### Pan-memory bank ports -/

theorem portAccess_wf {req a len} : Keeps (portAccess req a len) :=
  fun _ h => ite_wf h (foldl_wf (fun _ _ h' => h') h)

theorem servePorts_wf : Keeps servePorts := fun _ h => foldl_wf (fun _ _ h' => h') h

/-! ### Shared operations: events, replies, tickets -/

theorem updPage_wf {k f} : Keeps (updPage k f) := fun _ h => h

theorem updInst_wf {n f} : Keeps (updInst n f) := fun _ h => h

theorem updOut_wf {o f} : Keeps (updOut o f) := fun _ h => h

theorem updQueue_wf {k q f} : Keeps (updQueue k q f) := fun _ h => h

theorem raiseAt_wf {stamp code subject payload pages secure} :
    Keeps (raiseAt stamp code subject payload pages secure) := fun _ h => h

theorem raise_wf {code subject payload pages secure} : Keeps (raise code subject payload pages secure) :=
  fun _ h => h

theorem raiseOwner_wf {code subject payload o} : Keeps (raiseOwner code subject payload o) := fun _ h => h

theorem abandonBorrow_wf : Keeps abandonBorrow := by
  intro d h
  simp only [abandonBorrow]
  split <;> exact h

theorem touchPan_wf {req a len} : Keeps (touchPan req a len) := by
  intro d h
  simp only [touchPan]
  split
  · exact when_wf abandonBorrow_wf (portAccess_wf h)
  · exact portAccess_wf h

theorem panScan_wf {req a len} (h : d.MemoriesWf) :
    (panScan req a len d).1.MemoriesWf :=
  foldl_fst_wf (fun _ _ h' => ite_fst_wf h' (ite_fst_wf h' h')) (touchPan_wf h)

theorem panWordWrite_wf {req w whole} (h : d.MemoriesWf) :
    (panWordWrite req w whole d).1.MemoriesWf := ite_fst_wf h h

theorem panWrite_wf {req a bytes} : Keeps (panWrite req a bytes) := by
  intro d h
  refine foldl_wf (fun w e he => ?_) (touchPan_wf h)
  obtain ⟨hdram, hpan, hfs⟩ := panWordWrite_wf he
  exact ite_wf ⟨hdram, memWrite_wf _ _ _ hpan, hfs⟩ ⟨hdram, hpan, hfs⟩

theorem readLoc_wf {req i pan off len} (h : d.MemoriesWf) : (readLoc req i pan off len d).1.MemoriesWf := by
  simp only [readLoc]
  split
  · exact h
  · refine ite_fst_wf (ite_fst_wf ?hd h) (ite_fst_wf ?hd h)
    refine foldl_fst_wf (fun _ _ h' => ?_) h
    split
    · exact h'
    · exact panScan_wf h'

theorem putLoc_wf {req i pan off bytes} : Keeps (putLoc req i pan off bytes) := by
  intro d h
  simp only [putLoc]
  refine ite_wf (locWrite_wf h) (foldl_wf (fun _ _ h' => ?_) h)
  split
  · exact h'
  · exact panWrite_wf h'

theorem stopQueue_wf {k q why} : Keeps (stopQueue k q why) := fun _ h => when_wf raise_wf (ite_wf h h)

theorem writeEvent_wf {k e} : Keeps (writeEvent k e) := by
  intro d h
  simp only [writeEvent]
  refine ite_wf h (ite_wf h ?_)
  split
  · exact stopQueue_wf h
  · exact updPage_wf (putLoc_wf h)

theorem storePan_wf {m s} (h : d.MemoriesWf) (hm : Memory.wf m) :
    ({ d with panMem := m, sec := s } : Dev).MemoriesWf := by
  obtain ⟨hdram, _, hstores⟩ := h
  exact ⟨hdram, hm, hstores⟩

theorem writeSecureEvent_wf {e} : Keeps (writeSecureEvent e) := by
  intro d h
  obtain ⟨_, hpan, _⟩ := id h
  exact ite_wf h (storePan_wf h (memWrite_wf _ _ _ hpan))

theorem deliver_wf {r} : Keeps (deliver r) :=
  fun _ h => foldl_wf (fun _ _ h' => writeEvent_wf h') (ite_wf (writeSecureEvent_wf h) h)

theorem writeReady_wf : Keeps writeReady :=
  fun _ h => ite_wf h (foldl_wf (fun _ _ h' => ite_wf h' (deliver_wf h')) h)

theorem flushEvents_wf : Keeps flushEvents := by
  intro d h
  simp only [flushEvents]
  exact with_wf (writeReady_wf h)

theorem raiseNow_wf {code subject payload pages secure} : Keeps (raiseNow code subject payload pages secure) :=
  fun _ h => writeReady_wf h

theorem withCause_wf {no f} (hf : Keeps f) : Keeps (withCause no f) := fun d h =>
  with_wf (hf (d := { d with cause := no.or d.cause }) h)

theorem writeReply_wf {t r} : Keeps (writeReply t r) := by
  intro d h
  simp only [writeReply]
  refine ite_wf h ?_
  split
  · exact stopQueue_wf h
  · exact updPage_wf (updQueue_wf (putLoc_wf h))

theorem finishOne_wf {t st detail res} : Keeps (finishOne t st detail res) := by
  intro d h
  simp only [finishOne]
  exact with_wf (writeReply_wf h)

theorem settleFences_wf {n} : Keeps (settleFences n) := by
  intro d h
  induction n generalizing d with
  | zero => exact h
  | succ n ih =>
    rw [settleFences]
    split
    · exact h
    · exact ih (finishOne_wf h)

theorem finish_wf {t st detail res} : Keeps (finish t st detail res) :=
  fun _ h => settleFences_wf (finishOne_wf h)

theorem finishOk_wf {t} : Keeps (finishOk t) := fun _ h => finish_wf h

theorem finishAll_wf {ts st detail res} : Keeps (finishAll ts st detail res) :=
  fun _ h => foldl_wf (fun _ _ h' => finish_wf h') h

theorem logFault_wf {unit kind handshake} : Keeps (logFault unit kind handshake) := fun _ h => h

/-! ### Layer and contact updates -/

theorem updTxn_wf {id f} : Keeps (updTxn id f) := fun _ h => h

theorem putLayer_wf {n l} : Keeps (putLayer n l) := fun _ h => h

theorem updLayer_wf {n f} : Keeps (updLayer n f) := by
  intro d h
  simp only [updLayer]
  split <;> exact h

theorem damageRect_wf {o r} : Keeps (damageRect o r) := fun _ h => ite_wf h h

theorem damageRects_wf {o rs} : Keeps (damageRects o rs) :=
  fun _ h => foldl_wf (fun _ _ h' => damageRect_wf h') h

theorem changeLayer_wf {n f} : Keeps (changeLayer n f) := by
  intro d h
  simp only [changeLayer]
  split
  · exact h
  · exact putLayer_wf (when_wf damageRects_wf (ite_wf (damageRects_wf h) h))

/-! ### Contacts -/

theorem updPort_wf {p f} : Keeps (updPort p f) := fun _ h => h

theorem contactEvent_wf {p phase cause c} : Keeps (contactEvent p phase cause c) := by
  intro d h
  simp only [contactEvent]
  split <;> exact h

theorem cancelContact_wf {p cause c} : Keeps (cancelContact p cause c) := fun _ h => contactEvent_wf h

theorem cancelOn_wf {p cause sel} : Keeps (cancelOn p cause sel) :=
  fun _ h => foldl_wf (fun _ _ h' => cancelContact_wf h') h

theorem cancelAll_wf {cause sel} : Keeps (cancelAll cause sel) :=
  fun _ h => foldl_wf (fun _ _ h' => cancelOn_wf h') h

theorem cancelOutput_wf {o} : Keeps (cancelOutput o) :=
  fun _ h => foldl_wf (fun _ _ h' => ite_wf (cancelOn_wf h') h') h

theorem cancelOwner_wf {n} : Keeps (cancelOwner n) := fun _ h => cancelAll_wf h

/-! ### Output grids -/

theorem updGroup_wf {g f} : Keeps (updGroup g f) := by
  intro d h
  simp only [updGroup]
  split <;> exact h

/-! ### Layers -/

theorem setBinding_wf {kind obj b} : Keeps (setBinding kind obj b) := fun _ h => ite_wf (changeLayer_wf h) h

theorem destroyLayer_wf {n} : Keeps (destroyLayer n) := by
  intro d h
  simp only [destroyLayer]
  split
  · exact h
  · exact putLayer_wf (ite_wf (damageRects_wf h) h)

theorem landLayerSource_wf {ch} : Keeps (landLayerSource ch) := by
  intro d h
  simp only [landLayerSource]
  refine ite_wf ?_ (changeLayer_wf h)
  split
  · exact updLayer_wf h
  · exact ite_wf (updLayer_wf h) (damageRects_wf (updLayer_wf h))

theorem landLayerPlace_wf {ch} : Keeps (landLayerPlace ch) := fun _ h => changeLayer_wf h

theorem landLayerEnable_wf {ch} : Keeps (landLayerEnable ch) := by
  intro d h
  simp only [landLayerEnable]
  split
  · exact h
  · exact ite_wf (updLayer_wf h) (changeLayer_wf h)

theorem readTable_wf {i pan off len align field} (h : d.MemoriesWf) :
    (readTable i pan off len align field d).1.MemoriesWf := by
  simp only [readTable]
  refine ite_fst_wf h (ite_fst_wf h ?_)
  split <;> exact fst_wf (readLoc_wf h) ‹_›

/-! ### Outputs, links and harvest channels -/

theorem updLink_wf {o f} : Keeps (updLink o f) := fun _ h => h

theorem endTraining_wf {o ok} : Keeps (endTraining o ok) := fun _ h => finishAll_wf h

theorem failTraining_wf {o phase} : Keeps (failTraining o phase) := fun _ h => raise_wf (endTraining_wf h)

theorem startTraining_wf {o cands} : Keeps (startTraining o cands) :=
  fun _ h => when_wf failTraining_wf (updLink_wf (ite_wf h h))

theorem trainOutput_wf {o} : Keeps (trainOutput o) := by
  intro d h
  simp only [trainOutput]
  split
  · exact startTraining_wf h
  · exact h

theorem leaveStill_wf {o cause} : Keeps (leaveStill o cause) := fun _ h => ite_wf h h

theorem updHarvest_wf {k f} : Keeps (updHarvest k f) := fun _ h => h

theorem stopHarvest_wf {k cause status} : Keeps (stopHarvest k cause status) := by
  intro d h
  simp only [stopHarvest]
  refine ite_wf h ?_
  split <;> exact h

theorem stopHarvestOn_wf {o cause} : Keeps (stopHarvestOn o cause) :=
  fun _ h => foldl_wf (fun _ _ h' => ite_wf (stopHarvest_wf h') h') h

theorem clipViewports_wf {o} : Keeps (clipViewports o) := fun _ h => h

theorem loseW_wf {n reason frame} : Keeps (loseW n reason frame) := by
  intro d h
  simp only [loseW]
  split
  · exact ite_wf h h
  · exact h

theorem clipLayers_wf {o old} : Keeps (clipLayers o old) := by
  intro d h
  simp only [clipLayers]
  refine foldl_wf (fun _ _ h' => ?_) h
  split
  · exact h'
  · refine ite_wf h' (ite_wf (raiseOwner_wf (ite_wf (damageRects_wf h') h')) (loseW_wf (raiseOwner_wf ?_)))
    exact ite_wf (damageRects_wf h') h'

theorem clipMonitors_wf {o cause} : Keeps (clipMonitors o cause) := by
  intro d h
  simp only [clipMonitors]
  refine foldl_wf (fun _ _ h' => ?_) h
  split
  · exact h'
  · exact ite_wf h' h'

theorem refreshDpAudio_wf {o} : Keeps (refreshDpAudio o) := fun _ h => h

theorem beginSwitch_wf {o} : Keeps (beginSwitch o) := fun _ h => ite_wf (trainOutput_wf h) h

theorem landOutputMode_wf {ch} : Keeps (landOutputMode ch) := by
  intro d h
  unfold landOutputMode
  extract_lets o m x newHeight resized sw relock d1 d2 d3
  have h2 : d2.MemoriesWf := ite_wf h h
  have h3 : d3.MemoriesWf := when_wf beginSwitch_wf h2
  clear_value d3
  refine ite_wf ?_ (ite_wf ?_ h3)
  · exact clipMonitors_wf (clipLayers_wf (clipViewports_wf (stopHarvestOn_wf h3)))
  · exact clipMonitors_wf (clipLayers_wf (clipViewports_wf h3))

theorem closeOutput_wf {o} : Keeps (closeOutput o) := fun _ h => h

theorem landOutputEnable_wf {ch} : Keeps (landOutputEnable ch) := by
  intro d h
  simp only [landOutputEnable]
  refine ite_wf (ite_wf h (ite_wf (trainOutput_wf h) h)) (ite_wf h (when_wf closeOutput_wf (cancelOutput_wf ?_)))
  exact updOut_wf (when_wf failTraining_wf (leaveStill_wf (stopHarvestOn_wf h)))

theorem landHarvestSetup_wf {ch} : Keeps (landHarvestSetup ch) :=
  fun _ h => ite_wf (updHarvest_wf (stopHarvest_wf h)) (updHarvest_wf (stopHarvest_wf h))

/-! ### Composition -/

theorem storeWrite_wf {o pages k bytes} : Keeps (storeWrite o pages k bytes) := by
  intro d h
  induction bytes generalizing d k with
  | nil => exact h
  | cons b r ih =>
    obtain ⟨hdram, hpan, hfsA, hfsB⟩ := h
    exact ih (ite_wf ⟨hdram, hpan, memPut_wf _ _ _ hfsA, hfsB⟩ ⟨hdram, hpan, hfsA, memPut_wf _ _ _ hfsB⟩)

/-! ### Oxtas messages -/

theorem updTide_wf {f} : Keeps (updTide f) := fun _ h => h

theorem sendOx_wf {kind content ports} : Keeps (sendOx kind content ports) :=
  fun _ h => foldl_wf (fun _ _ h' => ite_wf h' h') h

/-! ### Lock groups -/

theorem renumber_wf {o n n'} : Keeps (renumber o n n') := fun _ h => ite_wf h h

theorem restart_wf {o wake} : Keeps (restart o wake) := fun _ h => ite_wf h (updOut_wf (renumber_wf h))

theorem sendLock_wf {g m ports} : Keeps (sendLock g m ports) := fun _ h => sendOx_wf h

theorem leaderQuiet_wf {g member amax amin} : Keeps (leaderQuiet g member amax amin) := by
  intro d h
  simp only [leaderQuiet]
  split
  · exact updGroup_wf h
  · exact ite_wf (updGroup_wf h) (sendLock_wf (updGroup_wf (updGroup_wf h)))

theorem sendQuiet_wf {o quiet} : Keeps (sendQuiet o quiet) := by
  intro d h
  simp only [sendQuiet]
  split
  · exact h
  · exact ite_wf (ite_wf (leaderQuiet_wf h) (updGroup_wf h)) (sendLock_wf h)

theorem wakeGroupAt_wf {g k} : Keeps (wakeGroupAt g k) :=
  fun _ h => foldl_wf (fun _ _ h' => restart_wf h') (updGroup_wf h)

theorem leaderWake_wf {g landed} : Keeps (leaderWake g landed) := by
  intro d h
  simp only [leaderWake]
  split
  · exact h
  · exact ite_wf h (wakeGroupAt_wf (sendLock_wf h))

theorem memberWake_wf {g o} (h : d.MemoriesWf) : (memberWake g o d).2.MemoriesWf := by
  simp only [memberWake]
  split
  · exact h
  · exact ite_snd_wf (leaderWake_wf h) (sendLock_wf h)

theorem distributeGroup_wf {g} : Keeps (distributeGroup g) := by
  intro d h
  simp only [distributeGroup]
  split
  · exact h
  · exact ite_wf h (sendLock_wf (updGroup_wf h))

theorem refreshCutOffset_wf {o} : Keeps (refreshCutOffset o) := by
  intro d h
  simp only [refreshCutOffset]
  split
  · exact h
  · exact ite_wf (distributeGroup_wf h) h

theorem landHarvestRun_wf {ch} : Keeps (landHarvestRun ch) := by
  intro d h
  simp only [landHarvestRun]
  refine ite_wf h (ite_wf (ite_wf h (ite_wf h (stopHarvest_wf h))) ?_)
  split
  · exact ite_wf (memberWake_wf h) h
  · exact restart_wf (leaveStill_wf h)

theorem setDevState_wf {s cause} : Keeps (setDevState s cause) := fun _ h => ite_wf h h

theorem leaveDeviceStill_wf : Keeps leaveDeviceStill := fun _ h => ite_wf (setDevState_wf h) h

theorem enterDeviceStill_wf : Keeps enterDeviceStill := fun _ h => ite_wf (setDevState_wf h) h

/-! ### Guard plane reads -/

theorem readGuardLine_wf {o line} (h : d.MemoriesWf) : (readGuardLine o line d).2.MemoriesWf := by
  simp only [readGuardLine]
  exact foldl_snd_wf (fun _ _ h' => ite_snd_wf h' (ite_fst_wf (panScan_wf h') (panScan_wf (panScan_wf h')))) h

theorem bufferGuardLine_wf {o line} : Keeps (bufferGuardLine o line) :=
  fun _ h => updOut_wf (readGuardLine_wf h)

theorem startGuardLines_wf {o} : Keeps (startGuardLines o) :=
  fun _ h => foldl_wf (fun _ _ h' => bufferGuardLine_wf h') h

/-! ### Frames: bands, cuts, harvest -/

theorem updFlight_wf {o n g} : Keeps (updFlight o n g) := fun _ h => h

theorem oweDamage_wf {o f mask} : Keeps (oweDamage o f mask) := by
  intro d h
  simp only [oweDamage]
  refine ite_wf h ?_
  split
  · exact ite_wf h (ite_wf h (ite_wf (when_wf sendQuiet_wf (ite_wf h h)) (restart_wf (leaveStill_wf (ite_wf h h)))))
  · exact h

theorem grantGang_wf {g} : Keeps (grantGang g) := by
  intro d h
  simp only [grantGang]
  split <;> exact h

theorem leaveScalers_wf {p} : Keeps (leaveScalers p) := fun _ h => foldl_wf (fun _ _ h' => grantGang_wf h') h

theorem emptyPipes_wf {which} : Keeps (emptyPipes which) :=
  fun _ h => foldl_wf (fun _ _ h' => leaveScalers_wf h') h

theorem freeBand_wf {o n b} : Keeps (freeBand o n b) := fun _ h => emptyPipes_wf h

theorem endUses_wf {o old landed} : Keeps (endUses o old landed) := by
  intro d h
  simp only [endUses]
  refine foldl_wf (fun _ _ h' => ?_) h
  split
  · exact h'
  · exact ite_wf h' (ite_wf h' h')

theorem stopComposing_wf {o} : Keeps (stopComposing o) := fun _ h => emptyPipes_wf h

theorem heldEvent_wf {o on st first frame} : Keeps (heldEvent o on st first frame) := fun _ h => h

theorem holdOutput_wf {o f st} : Keeps (holdOutput o f st) :=
  fun _ h => stopHarvestOn_wf (heldEvent_wf (updOut_wf (stopComposing_wf h)))

theorem takeImports_wf {o} : Keeps (takeImports o) := fun _ h => h

theorem takeHarvest_wf {o} (h : d.MemoriesWf) : (takeHarvest o d).2.MemoriesWf := by
  simp only [takeHarvest]
  refine foldl_snd_wf (fun _ _ h' => ite_snd_wf h' (ite_snd_wf h' ?_)) h
  split <;> exact h'

theorem countQuiet_wf {o n marked harvesting} : Keeps (countQuiet o n marked harvesting) := by
  intro d h
  simp only [countQuiet]
  exact ite_wf h (ite_wf (ite_wf (ite_wf (sendQuiet_wf h) h) (ite_wf (sendQuiet_wf h) h)) (ite_wf h h))

theorem openFrame_wf {o old landed wake} : Keeps (openFrame o old landed wake) := by
  intro d h
  simp only [openFrame]
  split
  · exact h
  · refine enterDeviceStill_wf (updOut_wf (countQuiet_wf (ite_snd_wf ?hd (takeHarvest_wf ?hd))))
    refine updOut_wf (ite_wf (heldEvent_wf (updOut_wf ?hi)) ?hi)
    exact takeImports_wf (when_wf leaveStill_wf (endUses_wf h))

theorem readRuns_wf {home runs} (h : d.MemoriesWf) : (readRuns home runs d).1.MemoriesWf := by
  refine foldl_fst_wf (fun r acc hacc => ?_) h
  obtain ⟨e, _ | got⟩ := acc
  · exact hacc
  · exact readLoc_wf hacc

theorem readTiles_wf {home s rows cols} (h : d.MemoriesWf) : (readTiles home s rows cols d).1.MemoriesWf := by
  simp only [readTiles]
  split
  · exact fst_wf (readRuns_wf h) ‹_›
  · exact readRuns_wf (fst_wf (readRuns_wf h) ‹_›)

theorem readLayer_wf {f fl b} (h : d.MemoriesWf) : (readLayer f fl b d).1.MemoriesWf := by
  simp only [readLayer]
  split
  · exact h
  · split
    · exact h
    · refine ite_fst_wf h (ite_fst_wf (readRuns_wf h) ?_)
      split
      · exact fst_wf (readTiles_wf h) ‹_›
      · exact readTiles_wf (fst_wf (readTiles_wf h) ‹_›)

theorem fetchFault_wf {o f fl why} : Keeps (fetchFault o f fl why) := fun _ h => ite_wf (holdOutput_wf h) h

theorem fetchLayer_wf {o n b fl} : Keeps (fetchLayer o n b fl) := by
  intro d h
  simp only [fetchLayer]
  split
  · exact h
  · refine ite_wf h ?_
    split
    · exact fetchFault_wf (fst_wf (readLayer_wf h) ‹_›)
    · exact updFlight_wf (with_wf (fst_wf (readLayer_wf h) ‹_›))

theorem askScaler_wf {p} : Keeps (askScaler p) := by
  intro d h
  simp only [askScaler]
  split
  · exact h
  · exact grantGang_wf h

theorem passScalers_wf {p n} : Keeps (passScalers p n) := by
  intro d h
  induction n generalizing d with
  | zero => exact h
  | succ n ih =>
    rw [passScalers]
    split
    · exact h
    · exact ite_wf h (ih (askScaler_wf (grantGang_wf h)))

theorem markArrived_wf {o n b ls} : Keeps (markArrived o n b ls) := fun _ h => h

theorem fetchPan_wf {o f b} : Keeps (fetchPan o f b) := by
  intro d h
  simp only [fetchPan]
  refine ite_wf h ?_
  split
  · exact h
  · exact foldl_wf (fun _ _ h' => fetchLayer_wf h') h

theorem harvestBand_wf {f b bytes} : Keeps (harvestBand f b bytes) := by
  intro d h
  simp only [harvestBand]
  refine foldl_wf (fun _ _ h' => ite_wf h' ?_) h
  refine ite_wf h' (ite_wf h' (foldl_wf (fun _ _ h'' => ite_wf h'' ?_) h'))
  split
  · exact locWrite_wf h''
  · exact stopHarvest_wf h''

theorem staleEvent_wf {o f} : Keeps (staleEvent o f) := fun _ h => ite_wf h h

theorem crystalEvents_wf {f} : Keeps (crystalEvents f) := by
  intro d h
  simp only [crystalEvents]
  refine foldl_wf (fun _ _ h' => ?_) h
  split <;> exact h'

theorem writeImage_wf {k h buf image} : Keeps (writeImage k h buf image) := by
  intro d h
  simp only [writeImage]
  refine foldl_wf (fun _ _ h' => ite_wf h' ?_) h
  split
  · exact locWrite_wf h'
  · exact stopHarvest_wf h'

theorem sendImage_wf {slot n w h image} : Keeps (sendImage slot n w h image) := by
  intro d h
  simp only [sendImage]
  split
  · exact ite_wf h (sendOx_wf h)
  · exact h

theorem harvestRetire_wf {o f k buf} : Keeps (harvestRetire o f k buf) := by
  intro d h
  unfold harvestRetire
  extract_lets hv inc buf left image d1 d2 d3 ow d4 busy stop
  have h1 : d1.MemoriesWf := ite_wf (writeImage_wf h) h
  have h4 : d4.MemoriesWf := raiseOwner_wf (updHarvest_wf (when_wf sendImage_wf h1))
  have hstop : ∀ cause, Keeps (stop cause) := fun _ _ h => raiseOwner_wf (updHarvest_wf h)
  clear_value d1 d4 stop
  refine ite_wf h (ite_wf h1 (ite_wf h4 ?_))
  split
  · exact hstop _ h4
  · exact ite_wf (hstop _ h4) h4

theorem retireFlight_wf {o f} : Keeps (retireFlight o f) := by
  intro d h
  simp only [retireFlight]
  refine foldl_wf (fun _ _ h' => harvestRetire_wf h') (foldl_wf (fun _ _ h' => h') (with_wf (crystalEvents_wf ?_)))
  refine staleEvent_wf (ite_wf h ?_)
  split <;> exact h

theorem startMonitors_wf {o} : Keeps (startMonitors o) := fun _ h => h

theorem trackGrid_wf {o n} : Keeps (trackGrid o n) := by
  intro d h
  simp only [trackGrid]
  split
  · exact ite_wf h h
  · exact h

/-! ### DisplayPort links -/

theorem retrainOutput_wf {o cur} : Keeps (retrainOutput o cur) := by
  intro d h
  simp only [retrainOutput]
  split
  · exact h
  · exact ite_wf (startTraining_wf h) (startTraining_wf h)

theorem serviceIrq_wf {o dpcd loss vector} : Keeps (serviceIrq o dpcd loss vector) := by
  intro d h
  simp only [serviceIrq]
  exact when_wf trainOutput_wf (ite_wf (ite_wf (retrainOutput_wf h) h) (raise_wf (ite_wf (retrainOutput_wf h) h)))

theorem endAux_wf {j st detail res} : Keeps (endAux j st detail res) := fun _ h => finish_wf h

theorem retryAux_wf {j} : Keeps (retryAux j) := fun _ h => ite_wf (endAux_wf h) h

theorem pllUnlockEvent_wf {o final} : Keeps (pllUnlockEvent o final) := fun _ h => h

theorem dpStalled_wf {o} : Keeps (dpStalled o) :=
  fun _ h => ite_wf h (pllUnlockEvent_wf (updLink_wf (when_wf failTraining_wf (ite_wf h h))))

/-! ### Settling transactions -/

theorem sendBallot_wf {ballot coord status isResult} : Keeps (sendBallot ballot coord status isResult) :=
  fun _ h => ite_wf h (ite_wf h (sendOx_wf h))

theorem settleTxn_wf {id} : Keeps (settleTxn id) := by
  intro d h
  simp only [settleTxn]
  split
  · exact h
  · refine ite_wf h ?_
    split
    · exact finish_wf (sendBallot_wf (ite_wf h h))
    · exact sendBallot_wf (ite_wf h h)

theorem landingDone_wf {id} : Keeps (landingDone id) := fun _ h => settleTxn_wf h

theorem landingWaits_wf {id} : Keeps (landingWaits id) := fun _ h => h

/-! ### Audio -/

theorem updAudio_wf {f} : Keeps (updAudio f) := fun _ h => h

theorem updStream_wf {cap k f} : Keeps (updStream cap k f) := fun _ h => h

theorem stoppedEvent_wf {cap k cause st} : Keeps (stoppedEvent cap k cause st) := by
  intro d h
  simp only [stoppedEvent]
  split <;> exact h

theorem streamFault_wf {cap k why} : Keeps (streamFault cap k why) := by
  intro d h
  simp only [streamFault]
  refine ite_wf h ?_
  split <;> exact stoppedEvent_wf h

theorem readPieces_wf {s l} (h : d.MemoriesWf) : (readPieces s l d).1.MemoriesWf := by
  induction l generalizing d with
  | nil => exact h
  | cons p r ih =>
    rw [readPieces]
    split
    · exact fst_wf (readLoc_wf h) ‹_›
    · split <;> exact fst_wf (ih (fst_wf (readLoc_wf h) ‹_›)) ‹_›

theorem xrun_wf {cap k} : Keeps (xrun cap k) := by
  intro d h
  simp only [xrun]
  refine ite_wf h ?_
  split <;> exact h

theorem advance_wf {cap k n} : Keeps (advance cap k n) := by
  intro d h
  simp only [advance]
  split
  · exact streamFault_wf h
  · refine ite_wf (updStream_wf (putLoc_wf h)) ?_
    split
    · exact raiseAt_wf (updStream_wf (putLoc_wf h))
    · exact updStream_wf (putLoc_wf h)

theorem applPos_wf {s} (h : d.MemoriesWf) : (applPos s d).1.MemoriesWf := by
  simp only [applPos]
  split <;> exact fst_wf (readLoc_wf h) ‹_›

theorem fetchStream_wf {k n} : Keeps (fetchStream k n) := by
  intro d h
  simp only [fetchStream]
  split
  · exact streamFault_wf (fst_wf (applPos_wf h) ‹_›)
  · refine ite_wf (xrun_wf (updStream_wf (fst_wf (applPos_wf h) ‹_›))) ?_
    split
    · exact streamFault_wf (fst_wf (readPieces_wf (fst_wf (applPos_wf h) ‹_›)) ‹_›)
    · exact advance_wf (updStream_wf (fst_wf (readPieces_wf (fst_wf (applPos_wf h) ‹_›)) ‹_›))

theorem playBoundary_wf {k} : Keeps (playBoundary k) := fun _ h => ite_wf (fetchStream_wf h) h

theorem writePieces_wf {s l bytes} (h : d.MemoriesWf) : (writePieces s l bytes d).1.MemoriesWf := by
  induction l generalizing d bytes with
  | nil => exact h
  | cons p r ih =>
    simp only [writePieces]
    split
    · exact h
    · exact ih (putLoc_wf h)

theorem captureBoundary_wf {k blocks} : Keeps (captureBoundary k blocks) := by
  intro d h
  simp only [captureBoundary]
  refine ite_wf h ?_
  split
  · exact streamFault_wf (fst_wf (applPos_wf h) ‹_›)
  · refine ite_wf (xrun_wf (fst_wf (applPos_wf h) ‹_›)) ?_
    split
    · exact streamFault_wf (fst_wf (writePieces_wf (fst_wf (applPos_wf h) ‹_›)) ‹_›)
    · exact advance_wf (fst_wf (writePieces_wf (fst_wf (applPos_wf h) ‹_›)) ‹_›)

theorem landStream_wf {w skip} : Keeps (landStream w skip) := by
  intro d h
  simp only [landStream]
  split
  · exact h
  · exact ite_wf h (ite_wf h (fetchStream_wf h))
  · exact h
  · exact h

theorem landPort_wf {c skip} : Keeps (landPort c skip) := by
  intro d h
  simp only [landPort]
  refine ite_wf h ?_
  split <;> exact h

theorem refreshAll_wf : Keeps refreshAll := fun _ h => foldl_wf (fun _ _ h' => h') h

theorem applyAudio_wf {w skip} (h : d.MemoriesWf) : (applyAudio w skip d).2.MemoriesWf := by
  simp only [applyAudio]
  split
  · exact landStream_wf h
  · exact refreshAll_wf h
  · exact refreshAll_wf h
  · exact h
  · exact landPort_wf h
  · exact h
  · exact h
  · exact h
  · exact h

theorem landedAudio_wf {w res} : Keeps (landedAudio w res) := by
  intro d h
  simp only [landedAudio]
  split
  · exact h
  · exact landingDone_wf h

theorem landWaiting_wf : Keeps landWaiting := by
  intro d h
  simp only [landWaiting]
  exact updAudio_wf (foldl_snd_wf (fun _ _ h' => ite_snd_wf h' (landedAudio_wf (applyAudio_wf h'))) h)

theorem landAudio_wf {op id ch} : Keeps (landAudio op id ch) :=
  fun _ h => ite_wf (updTxn_wf (applyAudio_wf h)) h

theorem wakePorts_wf : Keeps wakePorts :=
  fun _ h => foldl_wf (fun _ _ h' => ite_wf h' h') (foldl_wf (fun _ _ h' => ite_wf h' h') h)

theorem endQuiesce_wf : Keeps endQuiesce := by
  intro d h
  simp only [endQuiesce]
  refine updAudio_wf (foldl_wf (fun _ _ h' => ?_) (foldl_wf (fun _ _ h' => ?_) h)) <;>
    exact ite_wf (stoppedEvent_wf h') h'

theorem quiesceAudio_wf {n} : Keeps (quiesceAudio n) := fun _ h => h

theorem disownAudio_wf {n} : Keeps (disownAudio n) := fun _ h => refreshAll_wf h

theorem stopAudio_wf : Keeps stopAudio := by
  intro d h
  simp only [stopAudio]
  refine updAudio_wf (foldl_wf (fun _ _ h' => ?_) (foldl_wf (fun _ _ h' => ?_) h)) <;>
    exact ite_wf (stoppedEvent_wf h') h'

/-! ### Haptics -/

theorem updHap_wf {c f} : Keeps (updHap c f) := fun _ h => h

theorem hapLimitEvent_wf {c limit value} : Keeps (hapLimitEvent c limit value) := fun _ h => ite_wf h h

theorem planHalf_wf {c} : Keeps (planHalf c) := by
  intro d h
  simp only [planHalf]
  split
  · exact h
  · exact when_wf hapLimitEvent_wf (ite_wf (hapLimitEvent_wf h) h)

theorem accountHalf_wf {c} : Keeps (accountHalf c) := by
  intro d h
  simp only [accountHalf]
  split
  · exact h
  · exact ite_wf h h

theorem hapDone_wf {c number src cause driveNs} : Keeps (hapDone c number src cause driveNs) := by
  intro d h
  simp only [hapDone]
  split
  · exact ite_wf h h
  · exact h

theorem endEffect_wf {c cause} : Keeps (endEffect c cause) := by
  intro d h
  simp only [endEffect]
  split
  · exact h
  · exact hapDone_wf h

theorem settlePlay_wf {w v} : Keeps (settlePlay w v) := by
  intro d h
  simp only [settlePlay]
  split
  · exact h
  · refine landingDone_wf ?_
    split <;> exact h

theorem dropWait_wf {c cause v} : Keeps (dropWait c cause v) := by
  intro d h
  simp only [dropWait]
  split
  · exact h
  · exact settlePlay_wf (ite_wf h (hapDone_wf h))

theorem setChannel_wf {c k} : Keeps (setChannel c k) := fun _ h => ite_wf (dropWait_wf h) h

theorem applySetup_wf {c} : Keeps (applySetup c) := by
  intro d h
  simp only [applySetup]
  split
  · exact h
  · exact landingDone_wf (setChannel_wf h)

theorem releaseBridge_wf {c cause next} : Keeps (releaseBridge c cause next) :=
  fun _ h => applySetup_wf (updHap_wf (endEffect_wf (accountHalf_wf h)))

theorem brakeEffect_wf {c cause} : Keeps (brakeEffect c cause) := by
  intro d h
  simp only [brakeEffect]
  split
  · exact h
  · split
    · exact planHalf_wf (updHap_wf (accountHalf_wf h))
    · exact h
    · exact releaseBridge_wf h

theorem startEffect_wf {c} : Keeps (startEffect c) := by
  intro d h
  simp only [startEffect]
  split
  · exact h
  · exact settlePlay_wf (planHalf_wf (updHap_wf (endEffect_wf h)))

theorem acceptTrigger_wf {c effect scale dur src txn} (h : d.MemoriesWf) :
    (acceptTrigger c effect scale dur src txn d).2.MemoriesWf :=
  ite_snd_wf h (ite_snd_wf (brakeEffect_wf (dropWait_wf h)) (updHap_wf (dropWait_wf h)))

theorem silentTrigger_wf {c effect scale dur rank who} : Keeps (silentTrigger c effect scale dur rank who) := by
  intro d h
  simp only [silentTrigger]
  split
  · exact h
  · exact acceptTrigger_wf h

theorem brakeEnd_wf {c} : Keeps (brakeEnd c) := by
  intro d h
  simp only [brakeEnd]
  split
  · exact h
  · split
    · exact updHap_wf (releaseBridge_wf h)
    · exact releaseBridge_wf h
    · split
      · exact releaseBridge_wf h
      · exact applySetup_wf h

theorem trackGap_wf {c m} : Keeps (trackGap c m) := fun _ h => ite_wf h h

theorem hapFaultEvent_wf {c cause} : Keeps (hapFaultEvent c cause) := fun _ h => h

theorem faultChannel_wf {c cause} : Keeps (faultChannel c cause) :=
  fun _ h => hapFaultEvent_wf (releaseBridge_wf (dropWait_wf h))

theorem supplyLoss_wf {chs cause} : Keeps (supplyLoss chs cause) := by
  intro d h
  simp only [supplyLoss]
  exact foldl_wf (fun _ _ h' => ite_wf h' (hapFaultEvent_wf (when_wf releaseBridge_wf (dropWait_wf h')))) h

theorem stopHaptics_wf {pdFeed} : Keeps (stopHaptics pdFeed) :=
  fun _ h => foldl_wf (fun _ _ h' => when_wf updHap_wf (releaseBridge_wf (dropWait_wf h'))) h

theorem resumeHaptics_wf : Keeps resumeHaptics := fun _ h => foldl_wf (fun _ _ h' => h') h

theorem quiesceHaptics_wf {n} : Keeps (quiesceHaptics n) :=
  fun _ h => foldl_wf (fun _ _ h' => when_wf brakeEffect_wf (ite_wf (dropWait_wf h') h')) h

theorem disownHaptics_wf {n} : Keeps (disownHaptics n) := fun _ h => foldl_wf (fun _ _ h' => h') h

/-! ### Memory controller -/

theorem updDram_wf {f} : Keeps (updDram f) := fun _ h => h

theorem updChan_wf {c f} : Keeps (updChan c f) := fun _ h => h

theorem updBank_wf {k f} : Keeps (updBank k f) := fun _ h => h

theorem closeRows_wf {sel} : Keeps (closeRows sel) := fun _ h => foldl_wf (fun _ _ h' => ite_wf h' h') h

theorem closeChannel_wf {c} : Keeps (closeChannel c) := fun _ h => closeRows_wf h

theorem stopLostQueues_wf : Keeps stopLostQueues := by
  intro d h
  simp only [stopLostQueues]
  refine foldl_wf (fun _ _ h' => foldl_wf (fun _ _ h'' => ?_) h') h
  split
  · exact stopQueue_wf h''
  · exact h''

theorem reserveShort_wf : Keeps reserveShort := fun _ h => foldl_wf (fun _ _ h' => ite_wf h' h') h

theorem fencedEvent_wf {c boot} : Keeps (fencedEvent c boot) := fun _ h => h

theorem fenceChannel_wf {c} : Keeps (fenceChannel c) := fun _ h => fencedEvent_wf (closeChannel_wf h)

theorem issueRfm_wf {k} : Keeps (issueRfm k) := fun _ h => h

theorem activate_wf {c k row req} : Keeps (activate c k row req) :=
  fun _ h => ite_wf (ite_wf h h) (raise_wf (updChan_wf (issueRfm_wf (ite_wf h h))))

theorem accessBank_wf {r} : Keeps (accessBank r) := by
  intro d h
  simp only [accessBank]
  exact updBank_wf (updChan_wf (with_wf (ite_wf h (activate_wf h))))

theorem grantSlot_wf {cls reqs c} : Keeps (grantSlot cls reqs c) := by
  intro d h
  simp only [grantSlot]
  split
  · exact accessBank_wf h
  · split
    · exact accessBank_wf h
    · exact h

theorem enterSelfRefresh_wf {c} : Keeps (enterSelfRefresh c) := fun _ h => ite_wf h (closeChannel_wf h)

theorem memSleep_wf : Keeps memSleep := fun _ h => foldl_wf (fun _ _ h' => enterSelfRefresh_wf h') h

theorem memWake_wf : Keeps memWake := fun _ h => foldl_wf (fun _ _ h' => ite_wf h' h') h

theorem startRetrain_wf {c} : Keeps (startRetrain c) := fun _ h => closeChannel_wf h

theorem endRetrain_wf {ch pass} : Keeps (endRetrain ch pass) :=
  fun _ h => ite_wf h (ite_wf h (ite_wf h (fenceChannel_wf h)))

theorem endRemap_wf {trained scrubUs} : Keeps (endRemap trained scrubUs) := by
  intro d h
  obtain ⟨hdram, hpan, hA, hB⟩ := id h
  simp only [endRemap]
  split
  · exact h
  · exact finish_wf (when_wf reserveShort_wf (raise_wf ⟨rfl, hpan, hA, hB⟩))

theorem swapTable_wf : Keeps swapTable := by
  intro d h
  simp only [swapTable]
  split
  · exact h
  · exact reserveShort_wf (foldl_wf (fun _ _ h' => landingDone_wf h') h)

/-! ### Pan memory and windows -/

theorem updPan_wf {f} : Keeps (updPan f) := fun _ h => h

theorem windowFault_wf {n pan ro write page} : Keeps (windowFault n pan ro write page) := fun _ h => ite_wf h h

theorem hostAnswer_wf {bytes poisoned} : Keeps (hostAnswer bytes poisoned) := fun _ h => h

theorem hostNothing_wf {len write poisoned} : Keeps (hostNothing len write poisoned) := by
  intro d h
  simp only [hostNothing]
  split <;> exact h

theorem panCollide_wf {i off addr} : Keeps (panCollide i off addr) := by
  intro d h
  simp only [panCollide]
  exact ite_wf h (raise_wf (updPan_wf (updPan_wf (updPanBank_wf h))))

theorem hostComplete_wf {port pan addr len write} : Keeps (hostComplete port pan addr len write) := by
  intro d h
  obtain ⟨hdram, hpan, hA, hB⟩ := id h
  simp only [hostComplete]
  refine ite_wf ?_ (ite_wf (hostNothing_wf h) ?_)
  · split
    · exact panWrite_wf h
    · exact ite_wf (hostNothing_wf (panScan_wf h)) (hostAnswer_wf (panScan_wf h))
  · split
    · exact ⟨memWrite_wf _ _ _ hdram, hpan, hA, hB⟩
    · exact h

theorem holdRetry_wf {port i addr len write} : Keeps (holdRetry port i addr len write) := fun _ h => h

theorem countBusy_wf {write addr} : Keeps (countBusy write addr) := fun _ h => h

theorem borrowPage_wf {n} : Keeps (borrowPage n) := fun _ h => h

/-! ### Compute units and monitors -/

theorem updCv_wf {u f} : Keeps (updCv u f) := fun _ h => h

theorem landCvConfig_wf {txn ow ch} : Keeps (landCvConfig txn ow ch) := fun _ h => ite_wf (ite_wf h h) h

theorem startRake_wf {cfg t c} : Keeps (startRake cfg t c) :=
  fun _ h => ite_wf (finish_wf h) (leaveDeviceStill_wf h)

theorem rakePiece_wf {j p} (h : d.MemoriesWf) : (rakePiece j p d).1.MemoriesWf := by
  simp only [rakePiece]
  split
  · exact h
  · refine ite_fst_wf (ite_fst_wf h h) ?_
    split <;> exact fst_wf (readLoc_wf h) ‹_›

theorem rakeRun_wf {n j} (h : d.MemoriesWf) : (rakeRun n j d).1.MemoriesWf := by
  induction n generalizing j d with
  | zero => exact h
  | succ n ih =>
    rw [rakeRun]
    split
    · exact h
    · split
      · exact fst_wf (rakePiece_wf h) ‹_›
      · exact ih (fst_wf (rakePiece_wf h) ‹_›)

theorem popJob_wf {u} : Keeps (popJob u) := by
  intro d h
  simp only [popJob]
  split
  · exact ite_wf h (landingDone_wf h)
  · exact h

theorem endRake_wf {unit j why} : Keeps (endRake unit j why) := fun _ h => popJob_wf (finish_wf h)

theorem runRake_wf {n unit last} : Keeps (runRake n unit last) := by
  intro d h
  simp only [runRake]
  split
  · exact h
  · exact ite_wf (endRake_wf (rakeRun_wf h)) (updCv_wf (rakeRun_wf h))

theorem tickRakes_wf : Keeps tickRakes := fun _ h => foldl_wf (fun _ _ h' => runRake_wf h') h

theorem stallRakes_wf {unit} : Keeps (stallRakes unit) := by
  intro d h
  simp only [stallRakes]
  refine foldl_wf (fun _ _ h' => ?_) h
  split
  · exact h'
  · split
    · exact ite_wf (endRake_wf h') h'
    · exact h'

theorem landMonitorSet_wf {ow ch} : Keeps (landMonitorSet ow ch) := fun _ h => ite_wf h h

/-! ### Secure controller -/

theorem updSec_wf {f} : Keeps (updSec f) := fun _ h => h

theorem secAnswer_wf {st} : Keeps (secAnswer st) := fun _ h => h

theorem partWrite_wf {req off bytes} : Keeps (partWrite req off bytes) := fun _ h => panWrite_wf h

theorem secStores_wf {l} : Keeps (secStores l) := fun _ h => foldl_wf (fun _ _ h' => partWrite_wf h') h

theorem putN2S_wf {m} : Keeps (putN2S m) := by
  intro d h
  unfold putN2S
  exact updSec_wf (partWrite_wf (partWrite_wf h))

theorem sendN2S_wf {m} : Keeps (sendN2S m) := fun _ h => ite_wf (putN2S_wf h) h

theorem flushN2S_wf {n} : Keeps (flushN2S n) := by
  intro d h
  induction n generalizing d with
  | zero => exact h
  | succ n ih =>
    rw [flushN2S]
    split
    · exact h
    · exact ite_wf (ih (putN2S_wf h)) h

theorem sendCancel_wf {w cause} : Keeps (sendCancel w cause) := fun _ h => sendN2S_wf h

theorem sendRelease_wf {island idx} : Keeps (sendRelease island idx) := fun _ h => sendN2S_wf h

theorem sendGone_wf {n} : Keeps (sendGone n) := fun _ h => sendN2S_wf h

theorem secRequest_wf {op t c} : Keeps (secRequest op t c) := fun _ h => sendN2S_wf h

theorem takeS2N_wf {m} : Keeps (takeS2N m) := by
  intro d h
  simp only [takeS2N]
  refine ite_wf ?_ (ite_wf (ite_wf h h) h)
  split
  · exact h
  · exact finish_wf (ite_wf h h)

theorem takeAllS2N_wf {n} : Keeps (takeAllS2N n) := by
  intro d h
  induction n generalizing d with
  | zero => exact h
  | succ n ih =>
    rw [takeAllS2N]
    exact ite_wf h (ih (partWrite_wf (takeS2N_wf h)))

theorem quiesceSecure_wf {n} : Keeps (quiesceSecure n) :=
  fun _ h => foldl_wf (fun _ _ h' => sendCancel_wf (finish_wf h')) h

theorem Canvas.draw_wf {c} : Keeps (Canvas.draw c) := fun _ h => foldl_wf (fun _ _ h' => partWrite_wf h') h

theorem Canvas.run_wf {c : Canvas} {e} (h : d.MemoriesWf) (hrun : c.run d = .ok e) : e.MemoriesWf := by
  unfold Canvas.run at hrun
  split_ifs at hrun
  split at hrun <;> cases hrun
  · exact h
  · exact h
  · exact Canvas.draw_wf h

theorem canvasList_wf {n k} : Keeps (canvasList n k) := by
  intro d h
  induction k generalizing d with
  | zero => exact h
  | succ k ih =>
    simp only [canvasList]
    refine ite_wf h ?_
    split
    · exact ih (Canvas.run_wf h ‹_›)
    · exact h

theorem gateFail_wf : Keeps gateFail := fun _ h => h

/-! ### Tide -/

theorem recheckHoldover_wf : Keeps recheckHoldover := fun _ h => ite_wf h h

/-! ### Tide, Oxtas ports and streams -/

theorem tooFar_wf {hops} : Keeps (tooFar hops) := fun _ h => ite_wf h h

theorem chooseMaster_wf : Keeps chooseMaster := by
  intro d h
  simp only [chooseMaster]
  refine ite_wf h (ite_wf (recheckHoldover_wf h) ?_)
  split
  · exact recheckHoldover_wf h
  · exact ite_wf (recheckHoldover_wf h) (ite_wf h (ite_wf (tooFar_wf h) h))

theorem updExport_wf {s e} : Keeps (updExport s e) := fun _ h => h

theorem updImport_wf {s e} : Keeps (updImport s e) := fun _ h => h

theorem loseStream_wf {imported s} : Keeps (loseStream imported s) := by
  intro d h
  simp only [loseStream]
  refine ite_wf ?_ ?_
  · split
    · exact ite_wf h h
    · exact h
  · split
    · exact ite_wf h h
    · exact h

theorem loseStreamsOn_wf {p} : Keeps (loseStreamsOn p) :=
  fun _ h => foldl_wf (fun _ _ h' => when_wf loseStream_wf (ite_wf (loseStream_wf h') h')) h

theorem afterPortLoss_wf {p} : Keeps (afterPortLoss p) := by
  intro d h
  simp only [afterPortLoss]
  refine ite_wf ?_ ?_
  · exact ite_wf (loseStreamsOn_wf h) (chooseMaster_wf (loseStreamsOn_wf h))
  · refine recheckHoldover_wf ?_
    split <;> exact updTide_wf (updTide_wf (loseStreamsOn_wf h))

theorem leaveUp_wf {p f} : Keeps (leaveUp p f) := fun _ h => ite_wf (afterPortLoss_wf h) h

theorem portToDown_wf {p} : Keeps (portToDown p) := fun _ h => leaveUp_wf h

theorem linkDownAll_wf : Keeps linkDownAll := fun _ h => foldl_wf (fun _ _ h' => leaveUp_wf (ite_wf h' h')) h

theorem decideHello_wf {p} : Keeps (decideHello p) := fun _ h => ite_wf (ite_wf h h) (ite_wf h h)

theorem sendSync_wf {ports} : Keeps (sendSync ports) := fun _ h => sendOx_wf h

theorem deliverMessage_wf {c sender stamp payload} : Keeps (deliverMessage c sender stamp payload) :=
  fun _ h => ite_wf h h

theorem recheckPorts_wf : Keeps recheckPorts := by
  intro d h
  simp only [recheckPorts]
  exact foldl_wf (fun _ _ h' => ite_wf (decideHello_wf h') (ite_wf (decideHello_wf (leaveUp_wf h')) h')) h

theorem leaveGroup_wf {o} : Keeps (leaveGroup o) := by
  intro d h
  simp only [leaveGroup]
  split
  · exact h
  · split
    · exact updGroup_wf h
    · exact ite_wf (updGroup_wf h) (updTide_wf (updGroup_wf h))

theorem landLockGroup_wf {ch} : Keeps (landLockGroup ch) := by
  intro d h
  simp only [landLockGroup]
  refine ite_wf (restart_wf (leaveGroup_wf h)) (restart_wf (distributeGroup_wf (updOut_wf ?_)))
  exact updTide_wf (ite_wf h (leaveGroup_wf h))

/-! ### Instances -/

theorem setInstState_wf {n st} : Keeps (setInstState n st) := fun _ h => raiseNow_wf h

theorem windowLosesW_wf {n pan first count} : Keeps (windowLosesW n pan first count) :=
  fun _ h => foldl_wf (fun _ _ h' => ite_wf (loseW_wf h') h') h

theorem landWindow_wf {txn ch} : Keeps (landWindow txn ch) :=
  fun _ h => ite_wf h (ite_wf (landingWaits_wf (updInst_wf (windowLosesW_wf h))) (windowLosesW_wf h))

theorem setViewport_wf {n o slot r} : Keeps (setViewport n o slot r) :=
  fun _ h => clipMonitors_wf (clipLayers_wf h)

/-! ### Guard planes and scan-out -/

theorem coverEvent_wf {o g old new frame} : Keeps (coverEvent o g old new frame) :=
  fun _ h => ite_wf (ite_wf h h) (ite_wf h h)

theorem guardFault_wf {o g line st} : Keeps (guardFault o g line st) := fun _ h => ite_wf h h

theorem guardLines_wf {o line late} (h : d.MemoriesWf) : (guardLines o line late d).2.MemoriesWf := by
  simp only [guardLines]
  exact foldl_snd_wf (fun _ _ h' => ite_snd_wf (guardFault_wf h') (ite_snd_wf (guardFault_wf h') h')) h

/-! ### Touch -/

theorem touchFault_wf {p cause st} : Keeps (touchFault p cause st) := fun _ h => h

theorem startBringUp_wf {p step st} : Keeps (startBringUp p step st) := fun _ h => h

theorem recoverPort_wf {p cause st failed} : Keeps (recoverPort p cause st failed) := by
  intro d h
  simp only [recoverPort]
  refine ite_wf (touchFault_wf (updPort_wf (updPort_wf (cancelOn_wf h)))) (touchFault_wf (startBringUp_wf ?_))
  exact updPort_wf (cancelOn_wf h)

theorem startClick_wf {h} : Keeps (startClick h) := by
  intro d h
  simp only [startClick]
  split
  · exact ite_wf (silentTrigger_wf h) h
  · split
    · exact h
    · exact silentTrigger_wf h

theorem touchDown_wf {p ident pos} : Keeps (touchDown p ident pos) := by
  intro d h
  simp only [touchDown]
  split
  · exact h
  · refine ite_wf h ?_
    split
    · exact startClick_wf h
    · exact startClick_wf h
    · exact ite_wf h h

theorem touchEntry_wf {p t} (h : d.MemoriesWf) : (touchEntry p t d).2.MemoriesWf := by
  simp only [touchEntry]
  refine ite_snd_wf h (ite_snd_wf (ite_wf h h) ?_)
  split
  · exact ite_snd_wf h (ite_snd_wf h h)
  · exact ite_snd_wf h (ite_snd_wf h (ite_snd_wf h (touchDown_wf h)))

theorem touchEntries_wf {p pts} : Keeps (touchEntries p pts) := by
  intro d h
  simp only [touchEntries]
  refine updPort_wf (foldl_wf (fun _ _ h' => ?_) (foldl_snd_wf (fun _ _ h' => touchEntry_wf h') h))
  split
  · exact h'
  · exact foldl_wf (fun _ _ h'' => contactEvent_wf h'') h'

theorem stopTouch_wf : Keeps stopTouch := by
  intro d h
  simp only [stopTouch]
  exact with_wf (cancelAll_wf h)

theorem resumeTouch_wf : Keeps resumeTouch := fun _ h => foldl_wf (fun _ _ h' => ite_wf h' h') h

/-! ### Power -/

theorem updPower_wf {f} : Keeps (updPower f) := fun _ h => h

theorem memoryOff_wf : Keeps memoryOff := fun _ h => stopLostQueues_wf (memSleep_wf h)

theorem domainLoses_wf {i} : Keeps (domainLoses i) := by
  intro d h
  obtain ⟨hdram, hpan, hfsA, hfsB⟩ := id h
  unfold domainLoses
  split
  · exact h
  · exact ⟨hdram, hpan, rfl, hfsB⟩
  · exact ⟨hdram, hpan, hfsA, rfl⟩
  · exact memoryOff_wf h
  · exact stopTouch_wf (stopHaptics_wf (stopAudio_wf h))
  · exact linkDownAll_wf h
  · exact h

theorem islandLoses_wf {i} : Keeps (islandLoses i) := by
  intro d h
  simp only [islandLoses]
  split
  · exact memoryOff_wf h
  · exact linkDownAll_wf h
  · exact stopAudio_wf h
  · exact cancelAll_wf (stopHaptics_wf h)
  · exact h

theorem switchOff_wf {island i} : Keeps (switchOff island i) :=
  fun _ h => ite_wf (islandLoses_wf h) (domainLoses_wf h)

theorem beginOn_wf {island i} : Keeps (beginOn island i) := fun _ h => ite_wf h h

theorem owedCaps_wf : Keeps owedCaps := fun _ h => foldl_wf (fun _ _ h' => ite_wf h' h') h

theorem targetResumes_wf {island i} : Keeps (targetResumes island i) := by
  intro d h
  unfold targetResumes
  split
  · exact ite_wf (memWake_wf h) h
  · exact resumeTouch_wf (resumeHaptics_wf h)
  · exact owedCaps_wf h

theorem deferredDone_wf {kind i cancelled} : Keeps (deferredDone kind i cancelled) := fun _ h => h

theorem queueOff_wf {q held} : Keeps (queueOff q held) :=
  fun _ h => foldl_wf (fun _ _ h' => sendRelease_wf h') h

theorem landSwitch_wf {island txn ch} : Keeps (landSwitch island txn ch) := by
  intro d h
  simp only [landSwitch]
  exact ite_wf (beginOn_wf (ite_wf h h)) (ite_wf h (ite_wf (ite_wf h (queueOff_wf h)) (switchOff_wf h)))

theorem sleepOutput_wf {o} : Keeps (sleepOutput o) :=
  fun _ h => updOut_wf (when_wf endTraining_wf (foldl_wf (fun _ _ h' => retireFlight_wf h') h))

theorem domainSleeps_wf {i} : Keeps (domainSleeps i) := by
  intro d h
  simp only [domainSleeps]
  split
  · exact memSleep_wf h
  · exact foldl_wf (fun _ _ h' => sleepOutput_wf h') h
  · exact foldl_wf (fun _ _ h' => sleepOutput_wf h') h
  · exact h
  · exact h
  · exact ite_wf (domainLoses_wf h) h

theorem sleepDevice_wf {target} : Keeps (sleepDevice target) := by
  intro d h
  simp only [sleepDevice]
  exact setDevState_wf (updPower_wf (foldl_wf (fun _ _ h' => updPower_wf (domainSleeps_wf h')) h))

theorem powerSettings_wf {c} : Keeps (powerSettings c) := fun _ h => ite_wf h h

theorem runPowerState_wf {t c} : Keeps (runPowerState t c) := by
  intro d h
  simp only [runPowerState]
  split
  · split
    · exact finish_wf (leaveDeviceStill_wf (updPower_wf (powerSettings_wf h)))
    · exact leaveDeviceStill_wf (updPower_wf (powerSettings_wf h))
  · split
    · exact finish_wf (updPower_wf (powerSettings_wf h))
    · exact updPower_wf (powerSettings_wf h)
  · split
    · exact finish_wf (powerSettings_wf h)
    · exact powerSettings_wf h
  · exact updPower_wf (leaveDeviceStill_wf (powerSettings_wf h))

theorem startPowerState_wf {t c} : Keeps (startPowerState t c) := by
  intro d h
  simp only [startPowerState]
  refine ite_wf (runPowerState_wf ?hd) (finish_wf (queueOff_wf ?hd))
  split
  · exact ite_wf (ite_wf h h) (deferredDone_wf (ite_wf h h))
  · exact ite_wf h h

theorem wakeOutput_wf {o zeroed} : Keeps (wakeOutput o zeroed) := by
  intro d h
  simp only [wakeOutput]
  split
  · exact h
  · exact ite_wf h (when_wf trainOutput_wf (updOut_wf (ite_wf h (ite_wf h h))))

theorem wakeDevice_wf {cause} : Keeps (wakeDevice cause) := by
  intro d h
  simp only [wakeDevice]
  refine ite_wf h (owedCaps_wf (foldl_wf (fun _ _ h' => wakeOutput_wf h') ?_))
  refine ite_wf (resumeTouch_wf (resumeHaptics_wf ?hd)) ?hd
  exact when_wf memWake_wf (setDevState_wf h)

theorem avsEvent_wf {on} : Keeps (avsEvent on) := fun _ h => h

theorem updUnit_wf {u f} : Keeps (updUnit u f) := fun _ h => h

theorem loseFetched_wf {u} : Keeps (loseFetched u) := fun _ h => h

theorem stallOps_wf {unit} : Keeps (stallOps unit) := by
  intro d h
  unfold stallOps
  extract_lets d1 d2 d3
  have h2 : d2.MemoriesWf := when_wf loseFetched_wf (stallRakes_wf h)
  have h3 : d3.MemoriesWf := ite_wf (leaveScalers_wf (with_wf h2)) h2
  clear_value d3
  refine ite_wf ?_ h3
  split
  · exact endAux_wf h3
  · exact h3

theorem Memory.keepCells_wf {old new kept m} (h : Memory.wf m) : Memory.wf (keepCells old new kept m) := by
  unfold keepCells
  split
  · exact memFilter_wf h
  · exact List.foldlRecOn (motive := Memory.wf) _ _ rfl fun m hm c _ => memPut_wf _ _ _ hm

/-! ### Boot and resets -/

theorem resetDevice_wf {kind kept} : Keeps (resetDevice kind kept) := by
  intro d h
  obtain ⟨hdram, hpan, hfs⟩ := h
  refine ⟨?_, rfl, rfl, rfl⟩
  change Memory.wf (if _ then _ else _)
  split
  · exact Memory.keepCells_wf hdram
  · rfl

theorem sleepReset_wf {kind} : Keeps (sleepReset kind) := fun _ h => resetDevice_wf h

theorem splashOn_wf {img k o} : Keeps (splashOn img k o) := fun _ h => landOutputEnable_wf (landOutputMode_wf h)

theorem bootSplash_wf {img} : Keeps (bootSplash img) := by
  intro d h
  simp only [bootSplash]
  have hd : (((splashOutputs (bootCfgOf img)).zipIdx).foldl (fun d e => splashOn img e.2 e.1 d) d).MemoriesWf :=
    foldl_wf (fun _ _ h' => splashOn_wf h') h
  obtain ⟨hdram, hpan, hfs⟩ := id hd
  split
  · exact hd
  · refine ite_wf hd ?_
    split
    · exact ⟨hdram, memWrite_wf _ _ _ hpan, hfs⟩
    · refine foldl_wf (fun _ _ h' => ?_) ⟨hdram, memWrite_wf _ _ _ hpan, hfs⟩
      split <;> exact h'

theorem bootRun_wf {img source pushed} : Keeps (bootRun img source pushed) := fun _ h => bootSplash_wf h

/-! ### The command table -/

theorem opSpec_copy_wf {op f x} (hf : (opSpec op).copy = some f) (h : x.d.MemoriesWf) : (f x).1.MemoriesWf := by
  cases op
  case layerPalette => cases hf; exact readTable_wf h
  case scalerCoeff =>
    cases hf
    dsimp only
    refine ite_fst_wf h ?_
    split
    · exact fst_wf (readTable_wf h) ‹_›
    · have hd := fst_wf (readTable_wf h) ‹_›
      exact ite_fst_wf hd (ite_fst_wf hd hd)
  case lutLoad =>
    cases hf
    dsimp only
    refine ite_fst_wf h ?_
    split
    · exact fst_wf (readTable_wf h) ‹_›
    · have hd := fst_wf (readTable_wf h) ‹_›
      split <;> exact hd
  case slotTable =>
    cases hf
    dsimp only
    split
    · exact fst_wf (readTable_wf h) ‹_›
    · have hd := fst_wf (readTable_wf h) ‹_›
      exact ite_fst_wf hd hd
  all_goals cases hf

theorem opSpec_read_wf {op fuses c} (h : d.MemoriesWf) : ((opSpec op).read fuses d c).1.MemoriesWf := by
  cases op <;> exact h

theorem opSpec_start_wf {op t c} : Keeps ((opSpec op).start t c) := by
  intro d h
  cases op
  case outputAux => exact ite_wf (finish_wf h) h
  case outputTrain =>
    dsimp only [opSpec, specOutputTrain]
    split
    · exact trainOutput_wf h
    · exact startTraining_wf h
    · exact finish_wf (updLink_wf (ite_wf (failTraining_wf h) h))
  case rakeJob => exact startRake_wf h
  case memRemap => exact ite_wf h (finish_wf h)
  case powerState => exact startPowerState_wf h
  case deviceReset => exact sleepReset_wf h
  case securePromptOpen => exact secRequest_wf h
  case securePromptClose => exact secRequest_wf h
  case watchRequest => exact secRequest_wf h
  case watchRelease => exact secRequest_wf h
  case secureMessage => exact secRequest_wf h
  all_goals exact finishOk_wf h

theorem opSpec_land_wf {op id ch} : Keeps ((opSpec op).land id ch) := by
  intro d h
  cases op
  case layerDestroy => exact destroyLayer_wf h
  case layerSource => exact landLayerSource_wf h
  case layerPlace => exact landLayerPlace_wf h
  case layerBlend => exact changeLayer_wf h
  case layerEnable => exact landLayerEnable_wf h
  case layerRate => exact updLayer_wf h
  case layerPalette =>
    dsimp only [opSpec, specLayerPalette]
    split
    · exact ite_wf (changeLayer_wf h) (updLayer_wf h)
    · exact h
  case layerClick => exact updLayer_wf h
  case scalerBind => exact setBinding_wf h
  case scalerRelease => exact setBinding_wf h
  case scalerCoeff =>
    dsimp only [opSpec, specScalerCoeff]
    split
    · exact h
    · exact setBinding_wf h
  case lutLoad =>
    dsimp only [opSpec, specLutLoad]
    split
    · exact changeLayer_wf h
    · exact h
    · exact h
  case matrixSet => exact changeLayer_wf h
  case chromaSet => exact changeLayer_wf h
  case outputMode => exact landOutputMode_wf h
  case outputEnable => exact landOutputEnable_wf h
  case outputStill => exact ite_wf (leaveStill_wf h) h
  case harvestSetup => exact landHarvestSetup_wf h
  case harvestRun => exact landHarvestRun_wf h
  case cvConfig => exact landCvConfig_wf h
  case monitorSet => exact landMonitorSet_wf h
  case touchPort =>
    exact ite_wf (startBringUp_wf (updPort_wf (cancelOn_wf h))) (updPort_wf (updPort_wf (cancelOn_wf h)))
  case touchCancel => exact cancelOn_wf h
  case hapticChannel =>
    dsimp only [opSpec, specHapticChannel]
    refine ite_wf (setChannel_wf ?hd) (ite_wf (setChannel_wf (brakeEffect_wf ?hd))
      (landingWaits_wf (updHap_wf (brakeEffect_wf ?hd))))
    split
    · exact applySetup_wf h
    · exact h
  case hapticPlay =>
    dsimp only [opSpec, specHapticPlay]
    split
    · exact h
    · exact when_wf landingWaits_wf (acceptTrigger_wf h)
  case hapticStop =>
    exact ite_wf h (ite_wf (when_wf releaseBridge_wf (dropWait_wf h)) (brakeEffect_wf (dropWait_wf h)))
  case tideSource => exact ite_wf h (chooseMaster_wf (recheckHoldover_wf h))
  case oxPort => exact ite_wf h (leaveUp_wf h)
  case domainSet => exact chooseMaster_wf (recheckPorts_wf h)
  case lockGroup => exact landLockGroup_wf h
  case eventSend => exact ite_wf (sendOx_wf h) (ite_wf (deliverMessage_wf h) (sendOx_wf h))
  case streamExport => exact ite_wf (updExport_wf (loseStream_wf h)) h
  case streamImport => exact ite_wf h h
  case memPagePolicy =>
    dsimp only [opSpec, specMemPagePolicy]
    exact foldl_wf (fun _ _ h => foldl_wf (fun _ _ h => foldl_wf (fun _ _ h => h) h) h) h
  case powerDomain => exact landSwitch_wf h
  case powerIsland => exact landSwitch_wf h
  case instanceCreate => exact ite_wf h h
  case instanceWindow => exact landWindow_wf h
  case instanceViewport =>
    dsimp only [opSpec, specInstanceViewport]
    exact setViewport_wf h
  case audioStream => exact landAudio_wf h
  case audioRoute => exact landAudio_wf h
  case audioUnroute => exact landAudio_wf h
  case audioBus => exact landAudio_wf h
  case audioPort => exact landAudio_wf h
  case audioMeter => exact landAudio_wf h
  case audioTone => exact landAudio_wf h
  case audioSidetone => exact landAudio_wf h
  all_goals exact h

/-! ### Transactions -/

theorem hideOn_wf {n o} : Keeps (hideOn n o) :=
  fun _ h => foldl_wf (fun _ _ h' => ite_wf h' (when_wf changeLayer_wf (loseW_wf h'))) h

theorem destroyOn_wf {n o} : Keeps (destroyOn n o) := by
  intro d h
  simp only [destroyOn]
  refine foldl_wf (fun _ _ h' => ite_wf (updHarvest_wf (stopHarvest_wf h')) h') ?_
  refine foldl_wf (fun _ _ h' => ite_wf h' h') (with_wf (foldl_wf (fun _ _ h' => ite_wf h' ?_) h))
  exact destroyLayer_wf (loseW_wf h')

theorem unviewOn_wf {n o} : Keeps (unviewOn n o) := fun _ h => foldl_wf (fun _ _ h' => setViewport_wf h') h

theorem landWatch_wf {n on} : Keeps (landWatch n on) := by
  intro d h
  simp only [landWatch]
  split
  · exact h
  · exact ite_wf h h

theorem landChange_wf {id ch} : Keeps (landChange id ch) := by
  intro d h
  simp only [landChange]
  split
  · exact opSpec_land_wf h
  · exact hideOn_wf h
  · exact destroyOn_wf h
  · exact unviewOn_wf h
  · exact landWatch_wf h
  · exact landMonitorSet_wf h
  · split
    · exact setBinding_wf h
    · exact h
  · exact h

theorem prepareTxn_wf {id} (h : d.MemoriesWf) : (prepareTxn id d).2.MemoriesWf := by
  simp only [prepareTxn]
  split
  · exact h
  · split <;> exact h

theorem dropOwn_wf {id st detail} : Keeps (dropOwn id st detail) := by
  intro d h
  simp only [dropOwn]
  split
  · exact h
  · split
    · exact finish_wf h
    · exact h

theorem recheckTxn_wf {id} : Keeps (recheckTxn id) := by
  intro d h
  simp only [recheckTxn]
  split
  · exact h
  · split
    · exact h
    · refine ite_wf (dropOwn_wf h) (raise_wf ?_)
      split
      · exact finish_wf (sendBallot_wf h)
      · exact h

theorem recheckAll_wf : Keeps recheckAll := fun _ h => foldl_wf (fun _ _ h' => recheckTxn_wf h') h

theorem recheckEvery_wf : Keeps recheckEvery := fun _ h => foldl_wf (fun _ _ h' => recheckTxn_wf h') h

theorem landPending_wf {o} (h : d.MemoriesWf) : (landPending o d).2.2.MemoriesWf := by
  refine List.foldlRecOn (motive := fun acc : List Change × List Nat × Dev => acc.2.2.MemoriesWf) _ _ h ?_
  intro acc hacc t _
  dsimp only
  split
  · exact hacc
  · exact withCause_wf (fun _ he => foldl_wf (fun _ _ h' => landChange_wf h') he) hacc

theorem markLanded_wf {o frame ids} : Keeps (markLanded o frame ids) :=
  fun _ h => foldl_wf (fun _ _ h' => settleTxn_wf h') (foldl_wf (fun _ _ h' => h') h)

theorem cutOutput_wf {o wake} : Keeps (cutOutput o wake) := by
  intro d h
  have hd := landPending_wf (o := o) h
  simp only [cutOutput]
  exact markLanded_wf (ite_wf (updOut_wf hd)
    (ite_wf (ite_wf (endUses_wf hd) (updOut_wf (endUses_wf hd))) (openFrame_wf hd)))

theorem placeCut_wf {o} : Keeps (placeCut o) := by
  intro d h
  simp only [placeCut]
  split
  · exact ite_wf h (when_wf cutOutput_wf (ite_snd_wf (memberWake_wf h) h))
  · exact ite_wf (cutOutput_wf h) h

theorem landNow_wf {t off} : Keeps (landNow t off) := by
  intro d h
  simp only [landNow]
  refine foldl_wf (fun _ _ h' => endUses_wf h') (withCause_wf (fun e he => foldl_wf (fun ch _ h' => ?_) he) h)
  split
  · exact ite_wf (updTxn_wf (landChange_wf h')) (landChange_wf h')
  · exact landChange_wf h'

theorem sequenceTxn_wf {id} : Keeps (sequenceTxn id) := by
  intro d h
  simp only [sequenceTxn]
  split
  · exact h
  · refine when_wf recheckAll_wf (settleTxn_wf (foldl_wf (fun _ _ h' => placeCut_wf h') (landNow_wf ?_)))
    split
    · split
      · exact ite_wf h h
      · exact h
    · exact h

theorem makeChange_wf {act cmd obj o} : Keeps (makeChange act cmd obj o) := fun _ h => sequenceTxn_wf h

theorem cutsBefore_wf {instant} : Keeps (cutsBefore instant) := by
  intro d h
  simp only [cutsBefore]
  refine foldl_wf (fun _ _ h' => ?_) h
  split
  · exact ite_wf (cutOutput_wf h') h'
  · exact h'

theorem zeroPartition_wf {o} : Keeps (zeroPartition o) := by
  intro d h
  obtain ⟨hdram, hpan, hfsA, hfsB⟩ := h
  exact ite_wf ⟨hdram, hpan, memZeros_wf hfsA, hfsB⟩ ⟨hdram, hpan, hfsA, memZeros_wf hfsB⟩

/-! ### Instance life cycle -/

theorem rollBackAll_wf {i} : Keeps (rollBackAll i) := by
  intro d h
  simp only [rollBackAll]
  refine foldl_wf (fun _ _ h' => ite_wf (ite_wf (dropOwn_wf h') h') ?_) h
  split
  · exact finish_wf (sendBallot_wf h')
  · exact h'

theorem dropLaunches_wf {i} : Keeps (dropLaunches i) := fun _ h => finishAll_wf h

theorem removeJob_wf {u no} : Keeps (removeJob u no) := by
  intro d h
  simp only [removeJob]
  split
  · exact h
  · exact popJob_wf h

theorem abortRakes_wf {n} : Keeps (abortRakes n) :=
  fun _ h => foldl_wf (fun _ _ h' => foldl_wf (fun _ _ h'' => removeJob_wf (finish_wf h'')) h') h

theorem quiesceHarvest_wf {n} : Keeps (quiesceHarvest n) :=
  fun _ h => foldl_wf (fun _ _ h' => ite_wf h' (ite_wf h' (stopHarvest_wf h'))) h

theorem hideLayers_wf {n} : Keeps (hideLayers n) := fun _ h => foldl_wf (fun _ _ h' => makeChange_wf h') h

theorem startQuiesce_wf {n hide} : Keeps (startQuiesce n hide) := by
  refine fun d h => withCause_wf (fun e he => ?_) h
  exact when_wf hideLayers_wf (cancelOwner_wf (quiesceHaptics_wf (quiesceAudio_wf (quiesceHarvest_wf
    (quiesceSecure_wf (abortRakes_wf (rollBackAll_wf (dropLaunches_wf (setInstState_wf he)))))))))

theorem disownCv_wf {n} : Keeps (disownCv n) := fun _ h => foldl_wf (fun _ _ h' => ite_wf h' (ite_wf h' h')) h

theorem resetPage_wf {k} : Keeps (resetPage k) := fun _ h => h

theorem releaseAll_wf {n} : Keeps (releaseAll n) := by
  intro d h
  simp only [releaseAll]
  refine sendGone_wf (resetPage_wf (with_wf (disownHaptics_wf (disownAudio_wf (disownCv_wf (cancelOwner_wf ?_))))))
  exact foldl_wf (fun _ _ h' => makeChange_wf h') h

theorem startReset_wf {n} : Keeps (startReset n) := fun _ h => releaseAll_wf (setInstState_wf h)

theorem unmapAll_wf {n} : Keeps (unmapAll n) := fun _ h => h

theorem unviewAll_wf {n} : Keeps (unviewAll n) := fun _ h => foldl_wf (fun _ _ h' => makeChange_wf h') h

theorem endReset_wf {n} : Keeps (endReset n) := by
  intro d h
  unfold endReset
  extract_lets x d1 checked d2
  have h1 : d1.MemoriesWf := ite_wf h h
  have h2 : d2.MemoriesWf := setInstState_wf (updInst_wf h1)
  clear_value d2
  split
  · exact finishAll_wf (finish_wf (recheckEvery_wf (updInst_wf h1)))
  · extract_lets d3
    have h3 : d3.MemoriesWf := by
      unfold d3
      split
      · exact finish_wf h2
      · exact h2
    exact ite_wf h3 (startQuiesce_wf h3)

theorem becomeQuiesced_wf {n} : Keeps (becomeQuiesced n) :=
  fun _ h => when_wf startReset_wf (finishAll_wf (setInstState_wf h))

theorem startInstanceQuiesce_wf {t c} : Keeps (startInstanceQuiesce t c) := by
  intro d h
  simp only [startInstanceQuiesce]
  refine ite_wf (finish_wf (setInstState_wf h)) ?_
  split
  · exact startQuiesce_wf h
  · exact ite_wf (hideLayers_wf h) h
  · exact finish_wf (ite_wf (hideLayers_wf h) h)
  · exact h

theorem startInstanceReset_wf {t c} : Keeps (startInstanceReset t c) := fun _ h => startReset_wf h

theorem startInstanceDestroy_wf {t c} : Keeps (startInstanceDestroy t c) :=
  fun _ h => unviewAll_wf (unmapAll_wf (releaseAll_wf h))

/-! ### The command engine -/

theorem enlist_wf {op c} (h : d.MemoriesWf) : (enlist op c d).2.MemoriesWf := by
  simp only [enlist]
  refine with_wf ?_
  split <;> exact h

theorem validate_wf {op c} (h : d.MemoriesWf) : (validate op c d).1.MemoriesWf := by
  simp only [validate]
  split
  · exact h
  · have hr : ∀ {x : Ctx}, x.d = d → (match (opSpec op).copy with
        | none => (d, .ok [])
        | some f => f x : Dev × Except (Status × Nat) (List Byte)).1.MemoriesWf := by
      rintro x rfl
      split
      · exact h
      · exact opSpec_copy_wf ‹_› h
    split <;> exact hr rfl

theorem stageCmd_wf {op t c table} : Keeps (stageCmd op t c table) := by
  intro d h
  simp only [stageCmd]
  split <;> exact finish_wf h

theorem singleCmd_wf {op t c table} : Keeps (singleCmd op t c table) := by
  intro d h
  simp only [singleCmd]
  split
  · exact finish_wf h
  · split
    · exact dropOwn_wf (prepareTxn_wf (with_wf (ite_snd_wf h h)))
    · refine ite_wf (updTxn_wf (prepareTxn_wf (with_wf (ite_snd_wf h h)))) (sequenceTxn_wf (prepareTxn_wf ?_))
      exact with_wf (ite_snd_wf h h)

theorem startJob_wf {op cfg t c} : Keeps (startJob op cfg t c) := by
  intro d h
  simp only [startJob]
  split
  · exact finish_wf h
  · split
    · exact startInstanceQuiesce_wf h
    · exact startInstanceReset_wf h
    · exact startInstanceDestroy_wf h
    · exact startRake_wf h
    · exact opSpec_start_wf h

theorem jobCmd_wf {op t c} : Keeps (jobCmd op t c) := by
  intro d h
  simp only [jobCmd]
  split
  · exact finish_wf h
  · refine ite_wf ?_ (startJob_wf (ite_snd_wf h h))
    split
    · exact finish_wf h
    · exact h

theorem readCmd_wf {fuses op t c} : Keeps (readCmd fuses op t c) := by
  intro d h
  simp only [readCmd]
  split
  · exact finish_wf h
  · split <;> exact finish_wf (fst_wf (opSpec_read_wf h) ‹_›)

theorem fenceCmd_wf {t} : Keeps (fenceCmd t) := fun _ h => ite_wf (finish_wf h) h

theorem beginCmd_wf {t} : Keeps (beginCmd t) := fun _ h => ite_wf (finish_wf h) (finish_wf h)

theorem sendVote_wf {c st} : Keeps (sendVote c st) := fun _ h => ite_wf (sendBallot_wf h) h

theorem prepareCmd_wf {t c} : Keeps (prepareCmd t c) := by
  intro d h
  simp only [prepareCmd]
  split
  · exact finish_wf (sendVote_wf h)
  · split <;> exact finish_wf (sendVote_wf (prepareTxn_wf h))

theorem commitFails_wf {op c st} : Keeps (commitFails op c st) := by
  intro d h
  simp only [commitFails]
  refine ite_wf h ?_
  split
  · exact ite_wf (sendBallot_wf h) h
  · exact h

theorem commitCmd_wf {t c} : Keeps (commitCmd t c) := by
  intro d h
  simp only [commitCmd]
  split
  · exact finish_wf h
  · split
    · exact finish_wf (commitFails_wf h)
    next x _ _ _ =>
      have hp := ite_snd_wf (c := (x.state == .openT) = true) (b := (none, d)) (prepareTxn_wf (id := x.id) h) h
      split
      · exact finish_wf hp
      · exact ite_wf (updTxn_wf (ite_snd_wf hp hp)) (sequenceTxn_wf (updTxn_wf (ite_snd_wf hp hp)))

theorem rollbackCmd_wf {t c} : Keeps (rollbackCmd t c) := by
  intro d h
  simp only [rollbackCmd]
  split
  · exact finish_wf h
  · refine finishOk_wf ?_
    split
    · exact finish_wf (sendBallot_wf h)
    · exact h

theorem statusCmd_wf {t c} : Keeps (statusCmd t c) := by
  intro d h
  simp only [statusCmd]
  refine ite_wf ?_ ?_
  · split <;> exact finish_wf h
  · split
    · exact finish_wf h
    · exact ite_wf (finish_wf h) (finish_wf h)

theorem controlCmd_wf {op t c} : Keeps (controlCmd op t c) := by
  intro d h
  simp only [controlCmd]
  split
  · exact fenceCmd_wf h
  · exact beginCmd_wf h
  · exact prepareCmd_wf h
  · exact commitCmd_wf h
  · exact rollbackCmd_wf h
  · exact statusCmd_wf h

theorem engineRun_wf {fuses op c} : Keeps (engineRun fuses op c) := by
  intro d h
  simp only [engineRun]
  refine ite_wf (finish_wf (updQueue_wf (enlist_wf h))) ?_
  split
  · exact finish_wf (when_wf sendVote_wf (when_wf commitFails_wf (validate_wf (enlist_wf h))))
  · refine ite_wf (stageCmd_wf (validate_wf (enlist_wf h))) ?_
    split
    · exact singleCmd_wf (validate_wf (enlist_wf h))
    · exact singleCmd_wf (validate_wf (enlist_wf h))
    · exact jobCmd_wf (validate_wf (enlist_wf h))
    · exact readCmd_wf (validate_wf (enlist_wf h))
    · exact controlCmd_wf (validate_wf (enlist_wf h))

theorem swapIn_wf {n} : Keeps (swapIn n) := by
  intro d h
  simp only [swapIn]
  refine ite_wf h (ite_wf h ?_)
  split <;> exact h

theorem launchTooLate_wf {no} : Keeps (launchTooLate no) := by
  intro d h
  simp only [launchTooLate]
  split
  · exact finish_wf h
  · refine ite_wf (dropOwn_wf h) ?_
    split
    · exact finish_wf (sendBallot_wf h)
    · exact h
  · exact h

theorem launchNow_wf {no} : Keeps (launchNow no) := by
  intro d h
  simp only [launchNow]
  split
  · exact startJob_wf h
  · exact sequenceTxn_wf h
  · exact h

/-! ### Launches and queues -/

theorem secureEventSend_wf {c} : Keeps (secureEventSend c) := by
  intro d h
  simp only [secureEventSend]
  refine ite_wf h ?_
  split
  · exact h
  · exact secAnswer_wf (opSpec_land_wf (op := .eventSend) h)

/-! ### Registers -/

theorem enableQueue_wf {i q v} : Keeps (enableQueue i q v) := fun _ h => ite_wf h h

theorem enableEvents_wf {i v} : Keeps (enableEvents i v) := fun _ h => ite_wf h h

theorem pageWrite_wf {i off v} : Keeps (pageWrite i off v) := fun _ h => h

theorem takeIn_wf {v} : Keeps (takeIn v) := fun _ h => h

theorem bar0Write_wf {secure addr v} : Keeps (bar0Write secure addr v) := by
  intro d h
  simp only [bar0Write]
  refine ite_wf (ite_wf (ite_wf (pageWrite_wf h) h) (ite_wf (with_wf h) (ite_wf (with_wf h) h))) ?_
  refine ite_wf (updOut_wf h) ?_
  iterate 5 refine ite_wf (updSec_wf h) ?_
  refine ite_wf (with_wf h) ?_
  iterate 2 refine ite_wf (updSec_wf h) ?_
  iterate 2 refine ite_wf (with_wf h) ?_
  refine ite_wf (takeIn_wf h) ?_
  iterate 2 refine ite_wf (with_wf h) ?_
  exact h

theorem openWrite_wf {addr v} : Keeps (openWrite addr v) := by
  intro d h
  simp only [openWrite]
  split
  · exact h
  · exact ite_wf h h
  · exact h
  · exact h
  · exact h

theorem secureWrite_wf {addr v} : Keeps (secureWrite addr v) := fun _ h => ite_wf h (ite_wf h (ite_wf h h))

theorem safeHoldEvent_wf {on} : Keeps (safeHoldEvent on) := fun _ h => h

/-! ### The tick -/

theorem endReturn_wf : Keeps endReturn := fun _ h => ite_wf (recheckHoldover_wf h) h

theorem tickDev_wf : Keeps tickDev := fun _ h => flushEvents_wf (servePorts_wf (tickRakes_wf (endReturn_wf h)))

/-! ### From a device's change to a step of the state -/

/-- Where the step `f` answers a next state, it keeps the four memories in their one form. -/
def KeepsState (f : State → Host.Outcome State Fault Refusal) : Prop :=
  ∀ ⦃s t⦄, s.dev.MemoriesWf → f s = .next t → t.dev.MemoriesWf

theorem onDev_wf {f : Fuses → Dev → Dev} (hf : ∀ u, Keeps (f u)) : KeepsState (onDev f) := by
  intro s t h ht
  cases ht
  exact flushEvents_wf (hf s.fuses h)

theorem onDevFuses_wf {f : Fuses → Dev → Dev × Fuses} (hf : ∀ u d, d.MemoriesWf → (f u d).1.MemoriesWf) :
    KeepsState (onDevFuses f) := by
  intro s t h ht
  cases ht
  exact flushEvents_wf (hf s.fuses s.dev h)

/-! ### Frames: bands, cuts, harvest: commands and events -/

theorem execBandReady_wf {o band} : KeepsState (execBandReady o band) := by
  unfold execBandReady
  refine onDev_wf fun _ d h => ?_
  simp only
  split
  · exact h
  · exact leaveDeviceStill_wf h

theorem execBandFetchStart_wf {o frame band} : KeepsState (execBandFetchStart o frame band) := by
  unfold execBandFetchStart
  refine onDev_wf fun _ d h => ?_
  simp only
  split
  · exact h
  · refine ite_wf h ?_
    split
    · exact foldl_wf (fun _ _ h' => fetchLayer_wf h') h
    · exact h

theorem execPipeTakesBand_wf {pipe} : KeepsState (execPipeTakesBand pipe) := by
  unfold execPipeTakesBand
  refine onDev_wf fun _ d h => ?_
  refine ite_wf h ?_
  split
  · exact h
  · exact askScaler_wf h

theorem execBandDeadline_wf {o frame band complete} : KeepsState (execBandDeadline o frame band complete) := by
  unfold execBandDeadline
  refine onDev_wf fun _ d h => ?_
  simp only
  split
  · exact h
  · refine ite_wf h ?_
    split
    · exact fetchPan_wf h
    · refine foldl_wf (fun _ _ h' => ?_) (markArrived_wf (updFlight_wf (fetchPan_wf h)))
      split <;> exact h'

theorem execLayerFetchFault_wf {o frame layer band run} :
    KeepsState (execLayerFetchFault o frame layer band run) := by
  unfold execLayerFetchFault
  refine onDev_wf fun _ d h => ?_
  split
  · exact h
  · split
    · exact h
    · refine ite_wf h ?_
      split
      · exact fetchFault_wf h
      · exact h

theorem execBandComplete_wf {pipe} : KeepsState (execBandComplete pipe) := by
  unfold execBandComplete
  refine onDev_wf fun _ d h => ?_
  split
  · exact h
  · split
    · exact freeBand_wf h
    · refine ite_wf (freeBand_wf h) (ite_wf h ?_)
      extract_lets d1 d2 data bytes bad slack d3 d4 d5 short d6 d7
      have h1 : d1.MemoriesWf := passScalers_wf h
      have h2 : d2.MemoriesWf := ite_wf h1 (markArrived_wf h1)
      have h5 : d5.MemoriesWf := freeBand_wf (updFlight_wf (storeWrite_wf h2))
      have h7 : d7.MemoriesWf := harvestBand_wf (when_wf oweDamage_wf h5)
      clear_value d1 d7
      refine ite_wf h1 ?_
      split
      · exact h7
      · exact ite_wf (with_wf h7) (updFlight_wf (with_wf h7))

theorem execBandWriteCutoff_wf {o frame band} : KeepsState (execBandWriteCutoff o frame band) := by
  unfold execBandWriteCutoff
  refine onDev_wf fun _ d h => ?_
  simp only
  split
  · exact h
  · exact ite_wf h (harvestBand_wf (oweDamage_wf (freeBand_wf h)))

theorem execConfigRetire_wf {o} : KeepsState (execConfigRetire o) := by
  unfold execConfigRetire
  refine onDev_wf fun _ d h => ?_
  split
  · exact h
  · exact ite_wf (retireFlight_wf h) h

theorem execOutputFrameStart_wf {o} : KeepsState (execOutputFrameStart o) := by
  unfold execOutputFrameStart
  refine onDev_wf fun _ d h => ?_
  simp only
  split
  · exact h
  · refine ite_wf h (refreshCutOffset_wf (trackGrid_wf (with_wf (refreshDpAudio_wf (updLink_wf ?_)))))
    refine startGuardLines_wf (startMonitors_wf (when_wf raise_wf (updOut_wf (renumber_wf ?_))))
    exact ite_wf (leaveStill_wf h) h

/-! ### DisplayPort links: commands and events -/

theorem execHpdRise_wf {o} : KeepsState (execHpdRise o) := by
  unfold execHpdRise
  exact onDev_wf fun _ _ h => ite_wf h h

theorem execHpdLowEnd_wf {o lowNs dpcd loss vector} : KeepsState (execHpdLowEnd o lowNs dpcd loss vector) := by
  unfold execHpdLowEnd
  exact onDev_wf fun _ _ h => ite_wf h (ite_wf h (serviceIrq_wf h))

theorem execHpdUnplug_wf {o} : KeepsState (execHpdUnplug o) := by
  unfold execHpdUnplug
  exact onDev_wf fun _ _ h => ite_wf h (raise_wf (when_wf failTraining_wf (updLink_wf (ite_wf h h))))

theorem execCapabilityReadDone_wf {o caps} : KeepsState (execCapabilityReadDone o caps) := by
  unfold execCapabilityReadDone
  refine onDev_wf fun _ d h => ?_
  simp only
  refine ite_wf h ?_
  split
  · exact serviceIrq_wf (ite_wf (trainOutput_wf h) h)
  · exact ite_wf (trainOutput_wf h) h

theorem execAuxTransactionEnd_wf {o reply} : KeepsState (execAuxTransactionEnd o reply) := by
  unfold execAuxTransactionEnd
  refine onDev_wf fun _ d h => ?_
  simp only
  split
  · exact h
  · split
    · exact ite_wf (endAux_wf h) h
    · exact retryAux_wf h
    · exact endAux_wf h

theorem execAuxReplyTimeout_wf {o} : KeepsState (execAuxReplyTimeout o) := by
  unfold execAuxReplyTimeout
  refine onDev_wf fun _ d h => ?_
  split
  · exact h
  · exact retryAux_wf h

theorem execTrainPhaseEnd_wf {o e} : KeepsState (execTrainPhaseEnd o e) := by
  unfold execTrainPhaseEnd
  refine onDev_wf fun _ d h => ?_
  simp only
  refine ite_wf h ?_
  split
  · exact failTraining_wf h
  · exact ite_wf h (ite_wf (raise_wf (endTraining_wf h)) (ite_wf (failTraining_wf h) h))

theorem execTrainSequenceTimeout_wf {o} : KeepsState (execTrainSequenceTimeout o) := by
  unfold execTrainSequenceTimeout
  exact onDev_wf fun _ _ h => ite_wf h (failTraining_wf h)

theorem execDpPllLocked_wf {o} : KeepsState (execDpPllLocked o) := by
  unfold execDpPllLocked
  exact onDev_wf fun _ _ h => ite_wf h h

theorem execPllRelockTimeout_wf {o} : KeepsState (execPllRelockTimeout o) := by
  unfold execPllRelockTimeout
  exact onDev_wf fun _ _ h => ite_wf h (ite_wf h h)

/-! ### Audio: commands and events -/

theorem execAudioStreamFault_wf {capture stream why} :
    KeepsState (execAudioStreamFault capture stream why) := by
  unfold execAudioStreamFault
  exact onDev_wf fun _ _ h => streamFault_wf h

theorem execHwPosLoRead_wf {capture stream} : KeepsState (execHwPosLoRead capture stream) := by
  unfold execHwPosLoRead
  exact onDev_wf fun _ _ h => ite_wf h h

theorem execAudioBlockBoundary_wf {inputs} : KeepsState (execAudioBlockBoundary inputs) := by
  unfold execAudioBlockBoundary
  refine onDev_wf fun _ d h => ?_
  simp only
  refine ite_wf h (ite_wf h (wakePorts_wf (updAudio_wf (foldl_wf (fun _ _ h' => captureBoundary_wf h') ?_))))
  exact foldl_wf (fun _ _ h' => ite_wf (playBoundary_wf h') h') (landWaiting_wf (endQuiesce_wf h))

theorem execSilenceHoldExpiry_wf {endpoint} : KeepsState (execSilenceHoldExpiry endpoint) := by
  unfold execSilenceHoldExpiry
  exact onDev_wf fun _ _ h => ite_wf h h

theorem execTdmPortOff_wf {p} : KeepsState (execTdmPortOff p) := by
  unfold execTdmPortOff
  exact onDev_wf fun _ _ h => ite_wf h h

theorem execDpAudioOff_wf {o} : KeepsState (execDpAudioOff o) := by
  unfold execDpAudioOff
  exact onDev_wf fun _ _ h => ite_wf h h

theorem execTdmClockLost_wf {p} : KeepsState (execTdmClockLost p) := by
  unfold execTdmClockLost
  exact onDev_wf fun _ _ h => ite_wf h h

theorem execTdmClockRestored_wf {p} : KeepsState (execTdmClockRestored p) := by
  unfold execTdmClockRestored
  exact onDev_wf fun _ _ h => ite_wf h h

theorem execAudioSeize_wf {sink seize} : KeepsState (execAudioSeize sink seize) := by
  unfold execAudioSeize
  exact onDev_wf fun _ _ h => ite_wf h (ite_wf (ite_wf h h) (ite_wf h (refreshAll_wf h)))

theorem execSecureMeterAssign_wf {params} : KeepsState (execSecureMeterAssign params) := by
  unfold execSecureMeterAssign
  exact onDev_wf fun _ _ h => ite_wf h h

theorem execSecureAudioControl_wf {a} : KeepsState (execSecureAudioControl a) := by
  unfold execSecureAudioControl
  refine onDev_wf fun _ d h => ?_
  simp only
  refine ite_wf h ?_
  split <;> exact ite_wf h h

/-! ### Haptics: commands and events -/

theorem execHapticEffectStart_wf {ch hvdd} : KeepsState (execHapticEffectStart ch hvdd) := by
  unfold execHapticEffectStart
  exact onDev_wf fun _ _ h => ite_wf h (startEffect_wf (updHap_wf (accountHalf_wf h)))

theorem execHapticHalfCycle_wf {ch m} : KeepsState (execHapticHalfCycle ch m) := by
  unfold execHapticHalfCycle
  refine onDev_wf fun _ d h => ?_
  extract_lets k now d1 d2
  have h2 : d2.MemoriesWf := updHap_wf (trackGap_wf h)
  clear_value d2
  split
  · exact h
  · refine ite_wf h ?_
    split
    · exact h2
    · refine ite_wf ?_ (ite_wf ?_ (ite_wf (brakeEnd_wf h2) ?_))
      · exact ite_wf (planHalf_wf (updHap_wf h2)) (planHalf_wf h2)
      · exact ite_wf (startEffect_wf (applySetup_wf h2)) (releaseBridge_wf (applySetup_wf h2))
      · exact ite_wf (brakeEnd_wf (updHap_wf h2)) (planHalf_wf h2)

theorem execHapticSegmentEnd_wf {ch} : KeepsState (execHapticSegmentEnd ch) := by
  unfold execHapticSegmentEnd
  refine onDev_wf fun _ d h => ?_
  simp only
  split
  · exact h
  · split
    · exact h
    · refine ite_wf h (ite_wf (planHalf_wf (updHap_wf (accountHalf_wf h))) (ite_wf ?_ h))
      split
      · exact releaseBridge_wf h
      · exact planHalf_wf h

theorem execHapticOvercurrent_wf {ch} : KeepsState (execHapticOvercurrent ch) := by
  unfold execHapticOvercurrent
  exact onDev_wf fun _ _ h => ite_wf h (ite_wf (faultChannel_wf h) h)

theorem execHapticHardCurrent_wf {ch} : KeepsState (execHapticHardCurrent ch) := by
  unfold execHapticHardCurrent
  exact onDev_wf fun _ _ h => ite_wf h (faultChannel_wf h)

theorem execHvddLow_wf {k} : KeepsState (execHvddLow k) := by
  unfold execHvddLow
  exact onDev_wf fun _ _ h => ite_wf h (supplyLoss_wf h)

theorem execFeedbackOvertemp_wf : KeepsState execFeedbackOvertemp := by
  unfold execFeedbackOvertemp
  exact onDev_wf fun _ _ h => ite_wf h (supplyLoss_wf h)

theorem execHapticSupplyRecover_wf {k} : KeepsState (execHapticSupplyRecover k) := by
  unfold execHapticSupplyRecover
  exact onDev_wf fun _ _ h => h

theorem execHapticLimit_wf {ch duty} : KeepsState (execHapticLimit ch duty) := by
  unfold execHapticLimit
  refine onDev_wf fun _ d h => ?_
  simp only
  refine ite_wf (accountHalf_wf h) (hapLimitEvent_wf ?_)
  refine ite_wf ?_ ?_
  · exact planHalf_wf (updHap_wf (dropWait_wf (updHap_wf (accountHalf_wf h))))
  · exact dropWait_wf (updHap_wf (accountHalf_wf h))

theorem execHapticRestEnd_wf {ch} : KeepsState (execHapticRestEnd ch) := by
  unfold execHapticRestEnd
  exact onDev_wf fun _ _ h => ite_wf h h

theorem execHapTrigEdge_wf {pin rising} : KeepsState (execHapTrigEdge pin rising) := by
  unfold execHapTrigEdge
  exact onDev_wf fun _ _ h => ite_wf h (silentTrigger_wf h)

theorem execSecureHapticPlay_wf {channel effect scale duration} :
    KeepsState (execSecureHapticPlay channel effect scale duration) := by
  unfold execSecureHapticPlay
  exact onDev_wf fun _ _ h => ite_wf (silentTrigger_wf h) h

/-! ### Memory controller: commands and events -/

theorem execDramSlotArbitration_wf {reqs} : KeepsState (execDramSlotArbitration reqs) := by
  unfold execDramSlotArbitration
  exact onDev_wf fun _ _ h => ite_wf h (updDram_wf (foldl_wf (fun _ _ h' => grantSlot_wf h') h))

theorem execRefreshDue_wf {ch rank busy} : KeepsState (execRefreshDue ch rank busy) := by
  unfold execRefreshDue
  exact onDev_wf fun _ _ h => ite_wf h (ite_wf h (closeRows_wf (ite_wf h h)))

theorem execMr4Read_wf {codes} : KeepsState (execMr4Read codes) := by
  unfold execMr4Read
  refine onDev_wf fun _ d h => ?_
  refine foldl_wf (fun _ _ h' => ?_) h
  split
  · exact ite_wf h' h'
  · exact h'

theorem execSelfRefreshIdle_wf {ch} : KeepsState (execSelfRefreshIdle ch) := by
  unfold execSelfRefreshIdle
  exact onDev_wf fun _ _ h => ite_wf h (enterSelfRefresh_wf h)

theorem execSelfRefreshExit_wf {ch} : KeepsState (execSelfRefreshExit ch) := by
  unfold execSelfRefreshExit
  exact onDev_wf fun _ _ h => ite_wf h h

theorem execDisturbWindowEnd_wf : KeepsState execDisturbWindowEnd := by
  unfold execDisturbWindowEnd
  exact onDev_wf fun _ _ h => ite_wf h (updDram_wf (foldl_wf (fun _ _ h' => h') h))

theorem execDramTrackingDue_wf {ch temp} : KeepsState (execDramTrackingDue ch temp) := by
  unfold execDramTrackingDue
  exact onDev_wf fun _ _ h => ite_wf h h

theorem execTrackingPassEnd_wf {ch moved pass} : KeepsState (execTrackingPassEnd ch moved pass) := by
  unfold execTrackingPassEnd
  exact onDev_wf fun _ _ h => ite_wf h (ite_wf (startRetrain_wf h) h)

theorem execLinkEccFail_wf {ch} : KeepsState (execLinkEccFail ch) := by
  unfold execLinkEccFail
  exact onDev_wf fun _ _ h => ite_wf h (startRetrain_wf h)

theorem execDramTrainingDone_wf {trained} : KeepsState (execDramTrainingDone trained) := by
  unfold execDramTrainingDone
  refine onDev_wf fun _ d h => ?_
  simp only
  refine ite_wf h ?_
  split
  · exact h
  · exact foldl_wf (fun _ _ h' => h') h

/-! ### Pan memory and windows: commands and events -/

theorem execHostWindowAccess_wf {i pan off len write meet} :
    KeepsState (execHostWindowAccess i pan off len write meet) := by
  unfold execHostWindowAccess
  refine onDev_wf fun _ d h => ?_
  simp only
  refine ite_wf h ?_
  split
  · exact h
  · exact hostNothing_wf h
  · split
    · exact hostNothing_wf (windowFault_wf h)
    · exact h
  · refine ite_wf (hostComplete_wf h) (ite_wf (holdRetry_wf (foldl_wf (fun _ _ h' => h') h)) ?_)
    split
    · refine ite_wf (panCollide_wf (foldl_wf (fun _ _ h' => h') h)) (panWrite_wf (panCollide_wf ?_))
      exact foldl_wf (fun _ _ h' => h') h
    · exact holdRetry_wf (countBusy_wf (foldl_wf (fun _ _ h' => h') h))
    · exact holdRetry_wf (countBusy_wf (foldl_wf (fun _ _ h' => h') h))
    · exact hostComplete_wf (foldl_wf (fun _ _ h' => h') h)

theorem execPanBusyRetry_wf : KeepsState execPanBusyRetry := by
  unfold execPanBusyRetry
  refine onDev_wf fun _ d h => ?_
  simp only
  split
  · exact h
  · exact foldl_wf (fun _ _ h' => hostComplete_wf h') h

theorem execPanTestControl_wf {a} : KeepsState (execPanTestControl a) := by
  unfold execPanTestControl
  refine onDev_wf fun _ d h => ?_
  simp only
  refine ite_wf h ?_
  split
  · exact ite_wf h h
  · exact ite_wf h h
  · exact h

theorem execPanBorrowStart_wf : KeepsState execPanBorrowStart := by
  unfold execPanBorrowStart
  refine onDev_wf fun _ d h => ?_
  simp only
  refine ite_wf h ?_
  split
  · exact borrowPage_wf h
  · exact ite_wf (borrowPage_wf (updPan_wf h)) (ite_wf h (borrowPage_wf (updPan_wf (updPan_wf h))))

theorem execPanBorrowRelease_wf {fails} : KeepsState (execPanBorrowRelease fails) := by
  unfold execPanBorrowRelease
  refine onDev_wf fun _ d h => ?_
  simp only
  split
  · exact h
  · exact updPanBank_wf (updPan_wf (foldl_wf (fun _ _ h' => h') h))

theorem execPanBorrowAbandon_wf : KeepsState execPanBorrowAbandon := by
  unfold execPanBorrowAbandon
  exact onDev_wf fun _ _ h => abandonBorrow_wf h

/-! ### Compute units and monitors: commands and events -/

theorem execResultLoRead_wf {r} : KeepsState (execResultLoRead r) := by
  unfold execResultLoRead
  exact onDev_wf fun _ _ h => ite_wf h (ite_wf h h)

theorem execRakeJobEnd_wf {unit pieces} : KeepsState (execRakeJobEnd unit pieces) := by
  unfold execRakeJobEnd
  refine onDev_wf fun _ d h => ?_
  split
  · exact h
  · exact runRake_wf h

theorem execValueLoRead_wf {o m e} : KeepsState (execValueLoRead o m e) := by
  unfold execValueLoRead
  exact onDev_wf fun _ _ h => ite_wf h (ite_wf h h)

theorem execMonitorResultComplete_wf {o m} : KeepsState (execMonitorResultComplete o m) := by
  unfold execMonitorResultComplete
  refine onDev_wf fun _ d h => ?_
  simp only
  split
  · refine ite_wf h (ite_wf h (ite_wf h ?_))
    split <;> exact h
  · exact h

/-! ### Secure controller: commands and events -/

theorem execS2nDoorbellWrite_wf {_value stores} : KeepsState (execS2nDoorbellWrite _value stores) := by
  unfold execS2nDoorbellWrite
  exact onDev_wf fun _ _ h => ite_wf h (takeAllS2N_wf (secStores_wf h))

theorem execN2sHeadWrite_wf {value} : KeepsState (execN2sHeadWrite value) := by
  unfold execN2sHeadWrite
  exact onDev_wf fun _ _ h => ite_wf h (flushN2S_wf (partWrite_wf h))

theorem execSecureAnswerTimeout_wf {mail} : KeepsState (execSecureAnswerTimeout mail) := by
  unfold execSecureAnswerTimeout
  refine onDev_wf fun _ d h => ?_
  simp only
  split
  · exact h
  · exact sendCancel_wf (finish_wf h)

theorem execSecPartitionWrite_wf {value} : KeepsState (execSecPartitionWrite value) := by
  unfold execSecPartitionWrite
  exact onDev_wf fun _ _ h => ite_wf h (updSec_wf (ite_wf h h))

theorem execSeqDepthWrite_wf {value} : KeepsState (execSeqDepthWrite value) := by
  unfold execSeqDepthWrite
  exact onDev_wf fun _ _ h => ite_wf h h

theorem execSeqHeadWrite_wf {value} : KeepsState (execSeqHeadWrite value) := by
  unfold execSeqHeadWrite
  exact onDev_wf fun _ _ h => ite_wf h h

theorem execCvCountWrite_wf {value stores} : KeepsState (execCvCountWrite value stores) := by
  unfold execCvCountWrite
  exact onDev_wf fun _ _ h => ite_wf h (ite_wf (secStores_wf h) (updSec_wf (secStores_wf h)))

theorem execCanvasListEnd_wf : KeepsState execCanvasListEnd := by
  unfold execCanvasListEnd
  exact onDev_wf fun _ _ h => ite_wf h (updSec_wf (canvasList_wf h))

theorem execWdRunWrite_wf {value} : KeepsState (execWdRunWrite value) := by
  unfold execWdRunWrite
  exact onDev_wf fun _ _ h => ite_wf h (ite_wf h h)

theorem execWdKick_wf {key} : KeepsState (execWdKick key) := by
  unfold execWdKick
  exact onDev_wf fun _ _ h => ite_wf h h

theorem execLifecycleAdvance_wf {a} : KeepsState (execLifecycleAdvance a) := by
  unfold execLifecycleAdvance
  refine onDevFuses_wf fun _ d h => ?_
  refine ite_fst_wf h ?_
  split
  · exact ite_fst_wf h h
  · exact h
  · exact h

theorem execAntiRollbackAdvance_wf : KeepsState execAntiRollbackAdvance := by
  unfold execAntiRollbackAdvance
  exact onDevFuses_wf fun _ _ h => h

theorem execGateChallenge_wf : KeepsState execGateChallenge := by
  unfold execGateChallenge
  exact onDev_wf fun _ _ h => ite_wf h h

theorem execGateResponse_wf {scope r sig} : KeepsState (execGateResponse scope r sig) := by
  unfold execGateResponse
  refine onDevFuses_wf fun _ d h => ?_
  simp only
  refine ite_fst_wf h ?_
  split
  · exact gateFail_wf h
  · exact ite_fst_wf (updSec_wf (updSec_wf h)) (gateFail_wf (updSec_wf h))

theorem execGatePassword_wf {password} : KeepsState (execGatePassword password) := by
  unfold execGatePassword
  exact onDev_wf fun _ _ h => ite_wf h (ite_wf h h)

theorem execSecureCvConfig_wf {params} : KeepsState (execSecureCvConfig params) := by
  unfold execSecureCvConfig
  refine onDev_wf fun _ d h => ?_
  simp only
  refine ite_wf h ?_
  split
  · exact h
  · split
    · exact h
    · exact ite_wf h (ite_wf (secAnswer_wf (landCvConfig_wf h)) h)

/-! ### Tide, Oxtas ports and streams: commands and events -/

theorem execTideNowLoRead_wf : KeepsState execTideNowLoRead := by
  unfold execTideNowLoRead
  exact onDev_wf fun _ _ h => h

theorem execTideLoRead_wf {i} : KeepsState (execTideLoRead i) := by
  unfold execTideLoRead
  exact onDev_wf fun _ _ h => h

theorem execTideRefFail_wf : KeepsState execTideRefFail := by
  unfold execTideRefFail
  exact onDev_wf fun _ _ h => recheckHoldover_wf h

theorem execTideRefRecover_wf : KeepsState execTideRefRecover := by
  unfold execTideRefRecover
  exact onDev_wf fun _ _ h => ite_wf h h

theorem execTidePpsEdge_wf {ago} : KeepsState (execTidePpsEdge ago) := by
  unfold execTidePpsEdge
  exact onDev_wf fun _ _ h => ite_wf h (ite_wf h (ite_wf h h))

theorem execTidePpsOutSecond_wf : KeepsState execTidePpsOutSecond := by
  unfold execTidePpsOutSecond
  exact onDev_wf fun _ _ h => ite_wf h h

theorem execTidePpsOutEnd_wf : KeepsState execTidePpsOutEnd := by
  unfold execTidePpsOutEnd
  exact onDev_wf fun _ _ h => ite_wf h h

theorem execOxSignalDetect_wf {p} : KeepsState (execOxSignalDetect p) := by
  unfold execOxSignalDetect
  exact onDev_wf fun _ _ h => ite_wf h (ite_wf h h)

theorem execOxDownHoldEnd_wf {p} : KeepsState (execOxDownHoldEnd p) := by
  unfold execOxDownHoldEnd
  exact onDev_wf fun _ _ h => ite_wf h h

theorem execOxBringupStageDone_wf {at_ node domain priority} :
    KeepsState (execOxBringupStageDone at_ node domain priority) := by
  unfold execOxBringupStageDone
  refine onDev_wf fun _ d h => ?_
  simp only
  refine ite_wf h ?_
  split
  · exact h
  · exact ite_wf h h
  · exact decideHello_wf h
  · exact ite_wf h (chooseMaster_wf h)
  · exact h

theorem execOxBringupLimit_wf {p} : KeepsState (execOxBringupLimit p) := by
  unfold execOxBringupLimit
  exact onDev_wf fun _ _ h => ite_wf h (portToDown_wf h)

theorem execOxLinkDown_wf {p lost} : KeepsState (execOxLinkDown p lost) := by
  unfold execOxLinkDown
  exact onDev_wf fun _ _ h => ite_wf h (portToDown_wf h)

theorem execOxDelayMeasure_wf {p t1 t2 t3 t4} : KeepsState (execOxDelayMeasure p t1 t2 t3 t4) := by
  unfold execOxDelayMeasure
  exact onDev_wf fun _ _ h => ite_wf h h

theorem execOxSyncSend_wf : KeepsState execOxSyncSend := by
  unfold execOxSyncSend
  exact onDev_wf fun _ _ h => ite_wf (sendSync_wf h) h

theorem execOxSyncReceived_wf {p node priority hops ahead} :
    KeepsState (execOxSyncReceived p node priority hops ahead) := by
  unfold execOxSyncReceived
  refine onDev_wf fun _ d h => ?_
  simp only
  refine ite_wf h (ite_wf (chooseMaster_wf h) (ite_wf (tooFar_wf h) (ite_wf (ite_wf h h) (sendSync_wf ?_))))
  exact recheckHoldover_wf (when_wf updTide_wf (ite_wf h h))

theorem execOxAnnounceSend_wf : KeepsState execOxAnnounceSend := by
  unfold execOxAnnounceSend
  exact onDev_wf fun _ _ h => foldl_wf (fun _ _ h' => sendOx_wf h') h

theorem execOxAnnounceReceived_wf {p node priority place} :
    KeepsState (execOxAnnounceReceived p node priority place) := by
  unfold execOxAnnounceReceived
  exact onDev_wf fun _ _ h => ite_wf h (chooseMaster_wf h)

theorem execMasterLost_wf : KeepsState execMasterLost := by
  unfold execMasterLost
  exact onDev_wf fun _ _ h => ite_wf h (recheckHoldover_wf h)

theorem execOxElectionEnd_wf : KeepsState execOxElectionEnd := by
  unfold execOxElectionEnd
  exact onDev_wf fun _ _ h => ite_wf h (chooseMaster_wf h)

theorem execOxEventReceived_wf {p sender dest stamp channel payload} :
    KeepsState (execOxEventReceived p sender dest stamp channel payload) := by
  unfold execOxEventReceived
  refine onDev_wf fun _ d h => ?_
  simp only
  exact ite_wf h (ite_wf (ite_wf (deliverMessage_wf h) h) (sendOx_wf (ite_wf (deliverMessage_wf h) h)))

theorem execOxCommitReceived_wf {p m} : KeepsState (execOxCommitReceived p m) := by
  unfold execOxCommitReceived
  exact onDev_wf fun _ _ h => ite_wf h (ite_wf h (sendOx_wf h))

theorem execOxLockReceived_wf {p group m} : KeepsState (execOxLockReceived p group m) := by
  unfold execOxLockReceived
  refine onDev_wf fun _ d h => ?_
  simp only
  refine ite_wf h ?_
  split
  · refine sendLock_wf ?_
    split
    · exact ite_wf (foldl_wf (fun _ _ h' => restart_wf h') (updGroup_wf h)) (ite_wf (updGroup_wf h) h)
    · exact h
  · exact ite_wf (leaderQuiet_wf h) (sendLock_wf h)
  · exact ite_wf (updGroup_wf h) (sendLock_wf h)
  · exact sendLock_wf (updGroup_wf h)
  · exact wakeGroupAt_wf (sendLock_wf h)
  · exact ite_wf (leaderWake_wf h) (sendLock_wf h)

theorem execOxStreamFrameReceived_wf {p slot w h' frame bytes} :
    KeepsState (execOxStreamFrameReceived p slot w h' frame bytes) := by
  unfold execOxStreamFrameReceived
  refine onDev_wf fun _ d h => ?_
  simp only
  split
  · exact h
  · refine ite_wf h ?_
    split
    · exact h
    · exact ite_wf h (updImport_wf (locWrite_wf h))

theorem execStreamLost_wf {imported slot} : KeepsState (execStreamLost imported slot) := by
  unfold execStreamLost
  exact onDev_wf fun _ _ h => loseStream_wf h

/-! ### Instances: commands and events -/

theorem execSchedRoundStart_wf : KeepsState execSchedRoundStart := by
  unfold execSchedRoundStart
  refine onDev_wf fun _ d h => ?_
  simp only
  refine ite_wf h (with_wf (foldl_wf (fun _ _ h' => h') (foldl_wf (fun _ _ h' => h') ?_)))
  exact foldl_wf (fun _ _ h' => ite_wf h' h') (foldl_wf (fun _ _ h' => h') h)

theorem execWindowUnmapDrained_wf {n} : KeepsState (execWindowUnmapDrained n) := by
  unfold execWindowUnmapDrained
  exact onDev_wf fun _ _ h => foldl_wf (fun _ _ h' => landingDone_wf h') h

/-! ### Guard planes and scan-out: commands and events -/

theorem execGuardCommitWrite_wf {o} : KeepsState (execGuardCommitWrite o) := by
  unfold execGuardCommitWrite
  exact onDev_wf fun _ _ h => ite_wf h h

theorem execGuardRegionWrite_wf {size value} : KeepsState (execGuardRegionWrite size value) := by
  unfold execGuardRegionWrite
  refine onDev_wf fun _ d h => ?_
  simp only
  exact ite_wf h (ite_wf (with_wf (ite_wf h h)) (with_wf (ite_wf h h)))

theorem execGuardLatch_wf {o} : KeepsState (execGuardLatch o) := by
  unfold execGuardLatch
  exact onDev_wf fun _ _ h =>
    ite_wf h (ite_wf (ite_wf h h) (foldl_wf (fun _ _ h' => coverEvent_wf h') (ite_wf h h)))

theorem execScanoutLineStart_wf {o meet} : KeepsState (execScanoutLineStart o meet) := by
  unfold execScanoutLineStart
  refine onDev_wf fun _ d h => ?_
  extract_lets x line d1 live
  have h1 : d1.MemoriesWf := foldl_wf (fun _ _ h' => h') h
  clear_value d1
  split
  · exact h
  · refine ite_wf h ?_
    extract_lets d2
    split
    next gs d3 hlines =>
      have h3 : d3.MemoriesWf := snd_wf (guardLines_wf (when_wf bufferGuardLine_wf h1)) hlines
      extract_lets px faults d4 d5
      have h5 : d5.MemoriesWf := with_wf (updOut_wf h3)
      clear_value d5
      exact ite_wf h5 (ite_wf (closeOutput_wf h5) (when_wf beginSwitch_wf h5))

/-! ### Touch: commands and events -/

theorem execTouchBringupStepDone_wf {p res} : KeepsState (execTouchBringupStepDone p res) := by
  unfold execTouchBringupStepDone
  refine onDev_wf fun _ d h => ?_
  simp only
  split
  · exact h
  · exact ite_wf h h
  · exact h
  · exact ite_wf h h
  · exact h
  · exact h
  · exact h
  · exact h

theorem execTouchResetTimeout_wf {p} : KeepsState (execTouchResetTimeout p) := by
  unfold execTouchResetTimeout
  exact onDev_wf fun _ _ h => ite_wf h (recoverPort_wf h)

theorem execTouchTransferTimeout_wf {p} : KeepsState (execTouchTransferTimeout p) := by
  unfold execTouchTransferTimeout
  exact onDev_wf fun _ _ h => ite_wf h (recoverPort_wf h)

theorem execTpIrqAssert_wf {p} : KeepsState (execTpIrqAssert p) := by
  unfold execTpIrqAssert
  exact onDev_wf fun _ _ h => h

theorem execTouchStuckTimeout_wf {p slot} : KeepsState (execTouchStuckTimeout p slot) := by
  unfold execTouchStuckTimeout
  refine onDev_wf fun _ d h => ?_
  simp only
  split
  · exact h
  · exact ite_wf h (cancelContact_wf h)

theorem execTouchReportArrival_wf {p report} : KeepsState (execTouchReportArrival p report) := by
  unfold execTouchReportArrival
  refine onDev_wf fun _ d h => ?_
  refine ite_wf h (ite_wf (when_wf recoverPort_wf (updPort_wf (updPort_wf h))) ?_)
  extract_lets d2 x more leave
  have h2 : d2.MemoriesWf := updPort_wf (updPort_wf h)
  have hleave : ∀ k, Keeps (leave k) := fun _ _ h => updPort_wf h
  clear_value d2 leave
  refine ite_wf (hleave _ h2) (ite_wf (hleave _ (updPort_wf h2)) ?_)
  refine ite_wf (hleave _ (touchEntries_wf h2)) (ite_wf (hleave _ (updPort_wf h2)) ?_)
  exact hleave _ (touchEntries_wf (updPort_wf h2))

/-! ### Power: commands and events -/

theorem execDomainSwitchedOn_wf {island idx} : KeepsState (execDomainSwitchedOn island idx) := by
  unfold execDomainSwitchedOn
  exact onDev_wf fun _ _ h => ite_wf h (targetResumes_wf h)

theorem execPowerStateSwitch_wf : KeepsState execPowerStateSwitch := by
  unfold execPowerStateSwitch
  refine onDev_wf fun _ d h => ?_
  simp only
  split
  · exact h
  · refine ite_wf h (sleepDevice_wf ?_)
    split
    · exact finish_wf h
    · exact h

theorem execHoldWrite_wf {islands value} : KeepsState (execHoldWrite islands value) := by
  unfold execHoldWrite
  refine onDev_wf fun _ d h => ite_wf h ?_
  extract_lets n old d1 d2 d3
  have h2 : d2.MemoriesWf := foldl_wf (fun _ _ h' => ite_wf (beginOn_wf h') h') h
  have h3 : d3.MemoriesWf := by
    refine foldl_wf (fun _ _ h' => ite_wf h' ?_) h2
    split
    · exact h'
    · exact deferredDone_wf (ite_wf (switchOff_wf h') h')
  clear_value d3
  split
  · exact h3
  · exact ite_wf h3 (deferredDone_wf (runPowerState_wf (updSec_wf h3)))

theorem execWakeEvent_wf {cause} : KeepsState (execWakeEvent cause) := by
  unfold execWakeEvent
  exact onDev_wf fun _ _ h => ite_wf h (wakeDevice_wf h)

theorem execPaceSample_wf {rate} : KeepsState (execPaceSample rate) := by
  unfold execPaceSample
  exact onDev_wf fun _ _ h => ite_wf h (ite_wf (updPower_wf h) (raise_wf (updPower_wf (updPower_wf h))))

theorem execAvsStep_wf {clean} : KeepsState (execAvsStep clean) := by
  unfold execAvsStep
  exact onDev_wf fun _ _ h =>
    ite_wf h (ite_wf (ite_wf (updPower_wf h) (avsEvent_wf (updPower_wf (updPower_wf h)))) (updPower_wf h))

theorem execAvsRetry_wf {clean} : KeepsState (execAvsRetry clean) := by
  unfold execAvsRetry
  exact onDev_wf fun _ _ h => ite_wf h (ite_wf h h)

theorem execThermalSample_wf {temps} : KeepsState (execThermalSample temps) := by
  unfold execThermalSample
  exact onDev_wf fun _ _ h => ite_wf h (when_wf raise_wf (updPower_wf (updPower_wf h)))

theorem execStallSentinelExpiry_wf {unit handshake} : KeepsState (execStallSentinelExpiry unit handshake) := by
  unfold execStallSentinelExpiry
  refine onDev_wf fun _ d h => ?_
  simp only
  refine ite_wf h (when_wf dpStalled_wf (ite_wf (raise_wf ?hd) (raise_wf ?hd)))
  exact logFault_wf (with_wf (updUnit_wf (stallOps_wf h)))

theorem execUnitRecovered_wf {unit} : KeepsState (execUnitRecovered unit) := by
  unfold execUnitRecovered
  exact onDev_wf fun _ _ h => ite_wf h h

/-! ### Boot and resets: commands and events -/

theorem execPowerOnReset_wf : KeepsState execPowerOnReset := by
  unfold execPowerOnReset
  exact onDev_wf fun _ _ _ => ⟨rfl, rfl, rfl, rfl⟩

theorem execVaonDrop_wf : KeepsState execVaonDrop := by
  unfold execVaonDrop
  exact onDev_wf fun _ _ _ => ⟨rfl, rfl, rfl, rfl⟩

theorem execResetHoldEnd_wf : KeepsState execResetHoldEnd := by
  unfold execResetHoldEnd
  exact onDev_wf fun _ _ h => ite_wf h h

theorem execResetNAssert_wf : KeepsState execResetNAssert := by
  unfold execResetNAssert
  exact onDev_wf fun _ _ h => ite_wf h (ite_wf h (updPower_wf (sleepReset_wf h)))

theorem execSupplyUndervoltage_wf : KeepsState execSupplyUndervoltage := by
  unfold execSupplyUndervoltage
  exact onDev_wf fun _ _ h => ite_wf h (updPower_wf (sleepReset_wf h))

theorem execWatchdogExpiry_wf {slept} : KeepsState (execWatchdogExpiry slept) := by
  unfold execWatchdogExpiry
  exact onDev_wf fun _ _ h => ite_wf h (resetDevice_wf h)

theorem execThermalShutdown_wf : KeepsState execThermalShutdown := by
  unfold execThermalShutdown
  refine onDev_wf fun _ d h => ?_
  simp only
  exact ite_wf h (updSec_wf (updPower_wf (foldl_wf (fun _ _ h' => domainSleeps_wf h') (memSleep_wf h))))

theorem execThermalRestart_wf : KeepsState execThermalRestart := by
  unfold execThermalRestart
  exact onDev_wf fun _ _ h => ite_wf (sleepReset_wf h) h

theorem execResetNRelease_wf {straps slot0 slot1} : KeepsState (execResetNRelease straps slot0 slot1) := by
  unfold execResetNRelease
  refine onDev_wf fun _ d h => ?_
  simp only
  refine ite_wf h (ite_wf h ?_)
  split
  · exact bootRun_wf h
  · split
    · exact bootRun_wf h
    · exact h

theorem execBootGoWrite_wf {value} : KeepsState (execBootGoWrite value) := by
  unfold execBootGoWrite
  refine onDev_wf fun _ d h => ?_
  simp only
  refine ite_wf h ?_
  split
  · exact bootRun_wf h
  · exact h

/-! ### Transactions: commands and events -/

theorem execOutputCut_wf {o} : KeepsState (execOutputCut o) := by
  unfold execOutputCut
  exact onDev_wf fun _ _ h => ite_wf (cutOutput_wf h) (ite_wf h (foldl_wf (fun _ _ h' => cutOutput_wf h') h))

theorem execPartitionZeroed_wf {o} : KeepsState (execPartitionZeroed o) := by
  unfold execPartitionZeroed
  refine onDev_wf fun _ d h => ?_
  simp only
  refine ite_wf h (ite_wf (openFrame_wf (updOut_wf (zeroPartition_wf h))) (when_wf cutOutput_wf (updOut_wf ?_)))
  exact zeroPartition_wf h

theorem execDpPllRelock_wf {o} : KeepsState (execDpPllRelock o) := by
  unfold execDpPllRelock
  refine onDev_wf fun _ d h => ?_
  simp only
  refine ite_wf h (ite_wf h ?_)
  split
  · exact h
  · exact ite_wf (ite_wf h (ite_wf (cutOutput_wf h) h)) (retrainOutput_wf (ite_wf h (ite_wf (cutOutput_wf h) h)))

/-! ### Instance life cycle: commands and events -/

theorem execQuiesceComplete_wf {n} : KeepsState (execQuiesceComplete n) := by
  unfold execQuiesceComplete
  exact onDev_wf fun _ _ h => ite_wf (becomeQuiesced_wf h) h

theorem execResetComplete_wf {n} : KeepsState (execResetComplete n) := by
  unfold execResetComplete
  exact onDev_wf fun _ _ h => ite_wf h (ite_wf h (endReset_wf h))

theorem execVfFlr_wf {n} : KeepsState (execVfFlr n) := by
  unfold execVfFlr
  refine onDev_wf fun _ d h => ?_
  simp only
  refine ite_wf h ?_
  split
  · exact startQuiesce_wf h
  · exact ite_wf h (hideLayers_wf h)
  · exact ite_wf h (startReset_wf (ite_wf h (hideLayers_wf h)))
  · exact h

theorem execPfFlr_wf {portB} : KeepsState (execPfFlr portB) := by
  unfold execPfFlr
  exact onDev_wf fun _ _ h => ite_wf h (rollBackAll_wf h)

theorem execPerstAssert_wf {port} : KeepsState (execPerstAssert port) := by
  unfold execPerstAssert
  refine onDev_wf fun _ d h => ?_
  simp only
  exact ite_wf h (with_wf (foldl_wf (fun _ _ h' => h') h))

theorem execPerstRelease_wf {port} : KeepsState (execPerstRelease port) := by
  unfold execPerstRelease
  exact onDev_wf fun _ _ h => h

theorem execPcieConfigRequest_wf {port req} : KeepsState (execPcieConfigRequest port req) := by
  unfold execPcieConfigRequest
  refine onDev_wf fun _ d h => ?_
  simp only
  refine ite_wf h (ite_wf h (with_wf ?_))
  split
  · exact h
  · exact ite_wf h h
  · exact h
  · exact ite_wf h h

/-! ### The command engine: commands and events -/

theorem queueCommand_wf {op c} : KeepsState (queueCommand op c) := by
  unfold queueCommand
  exact onDev_wf fun _ _ h => ite_wf (engineRun_wf h) h

theorem execEngineTakeEntry_wf {i urgent} : KeepsState (execEngineTakeEntry i urgent) := by
  unfold execEngineTakeEntry
  refine onDev_wf fun _ d h => ite_wf h ?_
  extract_lets e k p q
  have he : e.MemoriesWf := by
    unfold e
    split
    · exact ite_wf h (swapIn_wf h)
    · exact h
  clear_value e
  refine ite_wf he ?_
  split
  · exact stopQueue_wf (fst_wf (readLoc_wf he) ‹_›)
  · have hr := fst_wf (readLoc_wf he) ‹_›
    simp only
    split
    · exact engineRun_wf (updQueue_wf hr)
    · exact ite_wf (finish_wf (updQueue_wf (enlist_wf (updQueue_wf hr)))) (finish_wf (enlist_wf (updQueue_wf hr)))

theorem execLaunchInstantReached_wf {ticket} : KeepsState (execLaunchInstantReached ticket) := by
  unfold execLaunchInstantReached
  refine onDev_wf fun _ d h => ?_
  simp only
  split
  · exact h
  · exact ite_wf h (ite_wf (launchTooLate_wf h) (ite_wf (launchNow_wf h) (launchNow_wf (cutsBefore_wf h))))

theorem execRetrainEnd_wf {ch pass} : KeepsState (execRetrainEnd ch pass) := by
  unfold execRetrainEnd
  exact onDev_wf fun _ _ h => endRetrain_wf h

theorem execMemRemapped_wf {trained scrubUs} : KeepsState (execMemRemapped trained scrubUs) := by
  unfold execMemRemapped
  exact onDev_wf fun _ _ h => ite_wf h (recheckAll_wf (endRemap_wf h))

theorem execWheelWrap_wf : KeepsState execWheelWrap := by
  unfold execWheelWrap
  exact onDev_wf fun _ _ h => ite_wf (swapTable_wf h) (recheckAll_wf (swapTable_wf h))

theorem execSecureClassChange_wf {layer setW} : KeepsState (execSecureClassChange layer setW) := by
  unfold execSecureClassChange
  refine onDev_wf fun _ d h => ?_
  simp only
  refine ite_wf h ?_
  split
  · exact h
  · exact ite_wf h (secAnswer_wf (makeChange_wf h))

theorem execSecureMonitorSet_wf {params} : KeepsState (execSecureMonitorSet params) := by
  unfold execSecureMonitorSet
  refine onDev_wf fun _ d h => ?_
  simp only
  refine ite_wf h ?_
  split
  · exact h
  · split
    · exact h
    · exact ite_wf h (ite_wf h (secAnswer_wf (makeChange_wf h)))

/-! ### Launches and queues: commands and events -/

theorem execEventSend_wf {e} : KeepsState (execEventSend e) := by
  cases e
  case queued c => exact fun _ _ h => queueCommand_wf h
  case secure c => exact fun _ _ h => onDev_wf (fun _ _ h => secureEventSend_wf h) h

/-! ### Registers: commands and events -/

theorem execQueueEnable_wf {i q value} : KeepsState (execQueueEnable i q value) := by
  unfold execQueueEnable
  exact onDev_wf fun _ _ h => ite_wf h (ite_wf (enableEvents_wf h) (enableQueue_wf h))

theorem execQueueDisable_wf {i q} : KeepsState (execQueueDisable i q) := by
  unfold execQueueDisable
  exact onDev_wf fun _ _ h => ite_wf h (ite_wf h h)

theorem execQueueDrainEnd_wf {i q} : KeepsState (execQueueDrainEnd i q) := by
  unfold execQueueDrainEnd
  exact onDev_wf fun _ _ h => ite_wf h h

theorem execSqTailDoorbell_wf {i q value} : KeepsState (execSqTailDoorbell i q value) := by
  unfold execSqTailDoorbell
  exact onDev_wf fun _ _ h => ite_wf h (ite_wf h h)

theorem execRqHeadDoorbell_wf {i q value} : KeepsState (execRqHeadDoorbell i q value) := by
  unfold execRqHeadDoorbell
  exact onDev_wf fun _ _ h => ite_wf h (ite_wf h h)

theorem execEqHeadDoorbell_wf {i value} : KeepsState (execEqHeadDoorbell i value) := by
  unfold execEqHeadDoorbell
  exact onDev_wf fun _ _ h => ite_wf h (ite_wf h h)

theorem execIrqModIntervalEnd_wf {i vector} : KeepsState (execIrqModIntervalEnd i vector) := by
  unfold execIrqModIntervalEnd
  exact onDev_wf fun _ _ h => ite_wf h h

theorem execRegisterWrite_wf {a r value} : KeepsState (execRegisterWrite a r value) := by
  unfold execRegisterWrite
  refine onDev_wf fun _ d h => ?_
  simp only
  refine ite_wf h ?_
  split
  · exact ite_wf h h
  · exact ite_wf (bar0Write_wf h) h
  · exact ite_wf (bar0Write_wf h) h
  · exact ite_wf (openWrite_wf h) h
  · exact ite_wf (secureWrite_wf h) h

theorem execSupRead_wf {cmd addr words} : KeepsState (execSupRead cmd addr words) := by
  unfold execSupRead
  exact onDev_wf fun _ _ h => ite_wf h (ite_wf h (ite_wf h (ite_wf h h)))

theorem execSafeHoldSet_wf : KeepsState execSafeHoldSet := by
  unfold execSafeHoldSet
  refine onDev_wf fun _ d h => ?_
  simp only
  exact ite_wf h (safeHoldEvent_wf (foldl_wf (fun _ _ h' => stopHarvestOn_wf (stopComposing_wf h')) h))

theorem execSafeHoldClear_wf : KeepsState execSafeHoldClear := by
  unfold execSafeHoldClear
  exact onDev_wf fun _ _ h => ite_wf h (safeHoldEvent_wf (foldl_wf (fun _ _ h' => h') h))

theorem execSupWakeWrite_wf {_value} : KeepsState (execSupWakeWrite _value) := by
  unfold execSupWakeWrite
  exact onDev_wf fun _ _ h => ite_wf (wakeDevice_wf h) h

theorem execInSeqWrite_wf {value} : KeepsState (execInSeqWrite value) := by
  unfold execInSeqWrite
  exact onDev_wf fun _ _ h => ite_wf h (ite_wf h h)

theorem execSupCsTimeout_wf : KeepsState execSupCsTimeout := by
  unfold execSupCsTimeout
  exact onDev_wf fun _ _ h => ite_wf h h

theorem execPinGlitchDiscard_wf {group} : KeepsState (execPinGlitchDiscard group) := by
  unfold execPinGlitchDiscard
  exact onDev_wf fun _ _ h => h

/-! ### Every step -/

theorem exec_wf (i : Instr) : KeepsState (exec i) :=
  match i with
  | .nop _ | .fence _ | .instanceInfo _ | .viewportList _ | .queueStats _ | .beginTxn _ | .prepare _
  | .commit _ | .rollback _ | .txnStatus _ | .layerCreate _ | .layerDestroy _ | .layerSource _ | .layerPlace _
  | .layerBlend _ | .layerEnable _ | .layerRate _ | .layerPalette _ | .layerClick _ | .layerQuery _
  | .scalerBind _ | .scalerRelease _ | .scalerCoeff _ | .lutLoad _ | .matrixSet _ | .chromaSet _
  | .outputMode _ | .outputEnable _ | .outputLead _ | .outputStill _ | .outputPolicy _ | .outputGuard _
  | .outputStatus _ | .outputAux _ | .outputTrain _ | .harvestSetup _ | .harvestRun _ | .harvestStatus _
  | .cvConfig _ | .rakeJob _ | .cvRead _ | .monitorSet _ | .monitorRead _ | .monitorCapture _ | .touchPort _
  | .touchCalib _ | .touchSieve _ | .touchCancel _ | .touchStatus _ | .hapticChannel _ | .hapticPlay _
  | .hapticStop _ | .hapticTrigger _ | .hapticBudget _ | .hapticStatus _ | .audioStream _ | .audioRoute _
  | .audioUnroute _ | .audioBus _ | .audioPort _ | .audioMeter _ | .audioTone _ | .audioSidetone _
  | .audioStatus _ | .tideRead _ | .tideSource _ | .oxPort _ | .domainSet _ | .lockGroup _ | .eventSubscribe _
  | .streamExport _ | .streamImport _ | .wakeMargin _ | .memMapInfo _ | .slotTable _ | .memRemap _
  | .memPagePolicy _ | .memRefresh _ | .memDisturb _ | .memSelfRefresh _ | .memStatus _ | .powerDomain _
  | .powerIsland _ | .powerState _ | .powerStatus _ | .paceRead _ | .sentinelSet _ | .instanceCreate _
  | .instanceDestroy _ | .instanceQuiesce _ | .instanceReset _ | .instanceShare _ | .instanceWindow _
  | .instanceViewport _ | .delegateRange _ | .deviceReset _ | .instanceStatus _ | .diagCounters _
  | .diagCounterClear _ | .diagFaultLog _ | .diagUnitState _ | .securePromptOpen _ | .securePromptClose _
  | .watchRequest _ | .watchRelease _ | .secureMessage _ => queueCommand_wf
  | .eventSend _ => execEventSend_wf
  | .secureClassChange _ _ => execSecureClassChange_wf
  | .secureHapticPlay _ _ _ _ => execSecureHapticPlay_wf
  | .audioSeize _ _ => execAudioSeize_wf
  | .panTestControl _ => execPanTestControl_wf
  | .registerWrite _ _ _ => execRegisterWrite_wf
  | .tideLoRead _ => execTideLoRead_wf
  | .resultLoRead _ => execResultLoRead_wf
  | .valueLoRead _ _ _ => execValueLoRead_wf
  | .hwPosLoRead _ _ => execHwPosLoRead_wf
  | .queueEnable _ _ _ => execQueueEnable_wf
  | .queueDisable _ _ => execQueueDisable_wf
  | .sqTailDoorbell _ _ _ => execSqTailDoorbell_wf
  | .rqHeadDoorbell _ _ _ => execRqHeadDoorbell_wf
  | .eqHeadDoorbell _ _ => execEqHeadDoorbell_wf
  | .guardCommitWrite _ => execGuardCommitWrite_wf
  | .guardRegionWrite _ _ => execGuardRegionWrite_wf
  | .secPartitionWrite _ => execSecPartitionWrite_wf
  | .s2nDoorbellWrite v _ => execS2nDoorbellWrite_wf (_value := v)
  | .seqDepthWrite _ => execSeqDepthWrite_wf
  | .seqHeadWrite _ => execSeqHeadWrite_wf
  | .cvCountWrite _ _ => execCvCountWrite_wf
  | .wdKick _ => execWdKick_wf
  | .wdRunWrite _ => execWdRunWrite_wf
  | .holdWrite _ _ => execHoldWrite_wf
  | .bootGoWrite _ => execBootGoWrite_wf
  | .supRead _ _ _ => execSupRead_wf
  | .supWakeWrite v => execSupWakeWrite_wf (_value := v)
  | .inSeqWrite _ => execInSeqWrite_wf
  | .gateResponse _ _ _ => execGateResponse_wf
  | .gatePassword _ => execGatePassword_wf
  | .hostWindowAccess _ _ _ _ _ _ => execHostWindowAccess_wf
  | .resetNRelease _ _ _ => execResetNRelease_wf
  | .perstAssert _ => execPerstAssert_wf
  | .vfFlr _ => execVfFlr_wf
  | .pfFlr _ => execPfFlr_wf
  | .pinGlitchDiscard _ => execPinGlitchDiscard_wf
  | .tidePpsEdge _ => execTidePpsEdge_wf
  | .launchInstantReached _ => execLaunchInstantReached_wf
  | .engineTakeEntry _ _ => execEngineTakeEntry_wf
  | .queueDrainEnd _ _ => execQueueDrainEnd_wf
  | .irqModIntervalEnd _ _ => execIrqModIntervalEnd_wf
  | .outputCut _ => execOutputCut_wf
  | .outputFrameStart _ => execOutputFrameStart_wf
  | .guardLatch _ => execGuardLatch_wf
  | .scanoutLineStart _ _ => execScanoutLineStart_wf
  | .monitorResultComplete _ _ => execMonitorResultComplete_wf
  | .bandReady _ _ => execBandReady_wf
  | .bandFetchStart _ _ _ => execBandFetchStart_wf
  | .pipeTakesBand _ => execPipeTakesBand_wf
  | .bandDeadline _ _ _ _ => execBandDeadline_wf
  | .layerFetchFault _ _ _ _ _ => execLayerFetchFault_wf
  | .bandComplete _ => execBandComplete_wf
  | .bandWriteCutoff _ _ _ => execBandWriteCutoff_wf
  | .configRetire _ => execConfigRetire_wf
  | .partitionZeroed _ => execPartitionZeroed_wf
  | .dpPllLocked _ => execDpPllLocked_wf
  | .hpdRise _ => execHpdRise_wf
  | .hpdLowEnd _ _ _ _ _ => execHpdLowEnd_wf
  | .hpdUnplug _ => execHpdUnplug_wf
  | .capabilityReadDone _ _ => execCapabilityReadDone_wf
  | .auxTransactionEnd _ _ => execAuxTransactionEnd_wf
  | .auxReplyTimeout _ => execAuxReplyTimeout_wf
  | .trainPhaseEnd _ _ => execTrainPhaseEnd_wf
  | .trainSequenceTimeout _ => execTrainSequenceTimeout_wf
  | .dpPllRelock _ => execDpPllRelock_wf
  | .tpIrqAssert _ => execTpIrqAssert_wf
  | .touchReportArrival _ _ => execTouchReportArrival_wf
  | .touchTransferTimeout _ => execTouchTransferTimeout_wf
  | .touchBringupStepDone _ _ => execTouchBringupStepDone_wf
  | .touchResetTimeout _ => execTouchResetTimeout_wf
  | .touchStuckTimeout _ _ => execTouchStuckTimeout_wf
  | .hapTrigEdge _ _ => execHapTrigEdge_wf
  | .hapticEffectStart _ _ => execHapticEffectStart_wf
  | .hapticHalfCycle _ _ => execHapticHalfCycle_wf
  | .hapticSegmentEnd _ => execHapticSegmentEnd_wf
  | .hapticOvercurrent _ => execHapticOvercurrent_wf
  | .hapticHardCurrent _ => execHapticHardCurrent_wf
  | .hvddLow _ => execHvddLow_wf
  | .hapticSupplyRecover _ => execHapticSupplyRecover_wf
  | .hapticLimit _ _ => execHapticLimit_wf
  | .hapticRestEnd _ => execHapticRestEnd_wf
  | .audioBlockBoundary _ => execAudioBlockBoundary_wf
  | .audioStreamFault _ _ _ => execAudioStreamFault_wf
  | .silenceHoldExpiry _ => execSilenceHoldExpiry_wf
  | .tdmPortOff _ => execTdmPortOff_wf
  | .dpAudioOff _ => execDpAudioOff_wf
  | .tdmClockLost _ => execTdmClockLost_wf
  | .tdmClockRestored _ => execTdmClockRestored_wf
  | .dramSlotArbitration _ => execDramSlotArbitration_wf
  | .refreshDue _ _ _ => execRefreshDue_wf
  | .mr4Read _ => execMr4Read_wf
  | .dramTrackingDue _ _ => execDramTrackingDue_wf
  | .trackingPassEnd _ _ _ => execTrackingPassEnd_wf
  | .linkEccFail _ => execLinkEccFail_wf
  | .retrainEnd _ _ => execRetrainEnd_wf
  | .selfRefreshIdle _ => execSelfRefreshIdle_wf
  | .selfRefreshExit _ => execSelfRefreshExit_wf
  | .dramTrainingDone _ => execDramTrainingDone_wf
  | .memRemapped _ _ => execMemRemapped_wf
  | .windowUnmapDrained _ => execWindowUnmapDrained_wf
  | .panBorrowRelease _ => execPanBorrowRelease_wf
  | .rakeJobEnd _ _ => execRakeJobEnd_wf
  | .quiesceComplete _ => execQuiesceComplete_wf
  | .resetComplete _ => execResetComplete_wf
  | .secureAnswerTimeout _ => execSecureAnswerTimeout_wf
  | .watchdogExpiry _ => execWatchdogExpiry_wf
  | .wakeEvent _ => execWakeEvent_wf
  | .domainSwitchedOn _ _ => execDomainSwitchedOn_wf
  | .thermalSample _ => execThermalSample_wf
  | .paceSample _ => execPaceSample_wf
  | .avsStep _ => execAvsStep_wf
  | .avsRetry _ => execAvsRetry_wf
  | .stallSentinelExpiry _ _ => execStallSentinelExpiry_wf
  | .unitRecovered _ => execUnitRecovered_wf
  | .oxSignalDetect _ => execOxSignalDetect_wf
  | .oxBringupStageDone _ _ _ _ => execOxBringupStageDone_wf
  | .oxBringupLimit _ => execOxBringupLimit_wf
  | .oxLinkDown _ _ => execOxLinkDown_wf
  | .oxDelayMeasure _ _ _ _ _ => execOxDelayMeasure_wf
  | .oxSyncReceived _ _ _ _ _ => execOxSyncReceived_wf
  | .oxAnnounceReceived _ _ _ _ => execOxAnnounceReceived_wf
  | .oxEventReceived _ _ _ _ _ _ => execOxEventReceived_wf
  | .oxCommitReceived _ _ => execOxCommitReceived_wf
  | .oxLockReceived _ _ _ => execOxLockReceived_wf
  | .oxStreamFrameReceived _ _ _ _ _ _ => execOxStreamFrameReceived_wf
  | .streamLost _ _ => execStreamLost_wf
  | .pllRelockTimeout _ => execPllRelockTimeout_wf
  | .oxDownHoldEnd _ => execOxDownHoldEnd_wf
  | .perstRelease _ => execPerstRelease_wf
  | .pcieConfigRequest _ _ => execPcieConfigRequest_wf
  | .n2sHeadWrite _ => execN2sHeadWrite_wf
  | .secureMonitorSet _ => execSecureMonitorSet_wf
  | .secureCvConfig _ => execSecureCvConfig_wf
  | .secureAudioControl _ => execSecureAudioControl_wf
  | .secureMeterAssign _ => execSecureMeterAssign_wf
  | .lifecycleAdvance _ => execLifecycleAdvance_wf
  | .antiRollbackAdvance => execAntiRollbackAdvance_wf
  | .tideNowLoRead => execTideNowLoRead_wf
  | .safeHoldSet => execSafeHoldSet_wf
  | .safeHoldClear => execSafeHoldClear_wf
  | .supCsTimeout => execSupCsTimeout_wf
  | .gateChallenge => execGateChallenge_wf
  | .panBusyRetry => execPanBusyRetry_wf
  | .powerOnReset => execPowerOnReset_wf
  | .resetHoldEnd => execResetHoldEnd_wf
  | .resetNAssert => execResetNAssert_wf
  | .supplyUndervoltage => execSupplyUndervoltage_wf
  | .vaonDrop => execVaonDrop_wf
  | .tideRefFail => execTideRefFail_wf
  | .tideRefRecover => execTideRefRecover_wf
  | .tidePpsOutSecond => execTidePpsOutSecond_wf
  | .tidePpsOutEnd => execTidePpsOutEnd_wf
  | .schedRoundStart => execSchedRoundStart_wf
  | .feedbackOvertemp => execFeedbackOvertemp_wf
  | .wheelWrap => execWheelWrap_wf
  | .disturbWindowEnd => execDisturbWindowEnd_wf
  | .panBorrowStart => execPanBorrowStart_wf
  | .panBorrowAbandon => execPanBorrowAbandon_wf
  | .canvasListEnd => execCanvasListEnd_wf
  | .powerStateSwitch => execPowerStateSwitch_wf
  | .thermalShutdown => execThermalShutdown_wf
  | .thermalRestart => execThermalRestart_wf
  | .oxSyncSend => execOxSyncSend_wf
  | .oxAnnounceSend => execOxAnnounceSend_wf
  | .masterLost => execMasterLost_wf
  | .oxElectionEnd => execOxElectionEnd_wf

theorem step_wf : KeepsState step := by
  intro s t h ht
  unfold step at ht
  split at ht
  · cases ht
    exact tickDev_wf h
  next c rest _ => exact exec_wf c (s := { s with pending := rest }) h ht

/-- Settles O42: every command, event and register access keeps the four memories in their one form (the model's own
form, log 4 of the model's choices), and so does the step. -/
theorem memoriesKeepTheirForm : Obligations.MemoriesKeepTheirForm := by
  unfold Obligations.MemoriesKeepTheirForm
  intro s t h ht
  exact step_wf h ht

end Sys2Proof.Machine
end

section
/-! The jobs of family 0x05 (R305 to R307) and OUTPUT_STATUS (R259, R300). -/

namespace Sys2Proof.Machine

variable {c : Cmd} {s : State} {d : Dev} {b : List Byte}

/-- An accepted job that the engine itself does not start begins as its row says, where its late checks pass. -/
theorem exec_job_start {op : Op} {e : Dev} (hk : opKind op = .j)
    (hop : op ≠ .instanceQuiesce ∧ op ≠ .instanceReset ∧ op ≠ .instanceDestroy ∧ op ≠ .rakeJob)
    (h : Accepted op c s d b) (hlate : (opSpec op).step10 d c = none)
    (hstart : (opSpec op).start (ticketOf op c s) c d = e) : exec (instrOf op c) s = .next (s.after e) := by
  rw [exec_job op c s d b hk h, startJob_start _ _ hlate hop, hstart]

theorem dpOn_of_on {o : Nat} (hisland : islandOn d o = true) (hdomain : domainOn d (if o < 4 then 6 else 7) = true) :
    dpOn d o = true := by
  simp [dpOn, hisland, hdomain]

theorem step10_outputAux (hdp : dpOn d (c.u8 24) = true)
    (hrange : ¬ (c.u8 25 = 1 ∧ (outOf d (c.u8 24)).enabled = true ∧ c.u32 28 < 0x200 ∧ 0x100 < c.u32 28 + c.u8 26)) :
    (opSpec .outputAux).step10 d c = none := by
  simp only [opSpec, specOutputAux, failIf, hdp]
  rw [if_neg (by simpa [and_assoc] using hrange)]

theorem step10_outputTrain (hon : (outOf d (c.u8 24)).enabled = true)
    (hcarries : c.u8 25 = 1 → ∃ m, (outOf d (c.u8 24)).mode = some m ∧ carries m (c.u8 26, c.u8 27) = true) :
    (opSpec .outputTrain).step10 d c = none := by
  by_cases h1 : c.u8 25 = 1
  · obtain ⟨m, hm, hc⟩ := hcarries h1
    simp [opSpec, specOutputTrain, failIf, hon, hm, hc]
  · simp [opSpec, specOutputTrain, failIf, hon, h1]

/-- Settles O5: the status is a read; the two jobs start as their rows say once their late checks pass. -/
theorem outputJobsStart : Obligations.OutputJobsStart := by
  unfold Obligations.OutputJobsStart
  refine ⟨?status, ?aux, ?mode, ?config, ?down⟩
  case status =>
    intro c s d b h
    exact exec_read_ok (op := .outputStatus) rfl h rfl rfl
  case aux =>
    intro c s d b h hisland hdomain hrange
    refine exec_job_start (op := .outputAux) rfl (by decide) h (step10_outputAux (dpOn_of_on hisland hdomain) hrange) ?_
    simp only [opSpec, specOutputAux, Bool.and_eq_true, decide_eq_true_eq, Bool.not_eq_true']
  case mode =>
    intro c s d b h haction hon
    refine exec_job_start (op := .outputTrain) rfl (by decide) h (step10_outputTrain hon (by simp [haction])) ?_
    simp only [opSpec, specOutputTrain, haction]
  case config =>
    intro c s d b m h haction hon hm hcarries
    refine exec_job_start (op := .outputTrain) rfl (by decide) h (step10_outputTrain hon fun _ => ⟨m, hm, hcarries⟩) ?_
    simp only [opSpec, specOutputTrain, haction]
  case down =>
    intro c s d b h haction hon hidle
    refine exec_job_start (op := .outputTrain) rfl (by decide) h (step10_outputTrain hon (by simp [haction])) ?_
    simp only [opSpec, specOutputTrain, haction, hidle, Bool.false_eq_true, if_false]

end Sys2Proof.Machine
end

section
/-! The harvest channels of family 0x06 (R273 to R282): setup, run and status. -/

namespace Sys2Proof.Machine

variable {c : Cmd} {s : State} {d : Dev} {b : List Byte} {ch : Change} {t : List Txn}

/-! ## Transactions leave harvest channels and still refresh alone -/

@[simp] theorem updHarvest_withTxns (k f) : updHarvest k f (withTxns t d) = withTxns t (updHarvest k f d) := rfl
@[simp] theorem harvestOf_withTxns (k) : harvestOf (withTxns t d) k = harvestOf d k := rfl
@[simp] theorem harvestFilling_withTxns (k) : harvestFilling (withTxns t d) k = harvestFilling d k := rfl
@[simp] theorem activeOf_withTxns (o) : activeOf (withTxns t d) o = activeOf d o := rfl
@[simp] theorem lockOf_withTxns (o) : lockOf (withTxns t d) o = lockOf d o := rfl

@[simp] theorem stopHarvest_withTxns (k cause st) :
    stopHarvest k cause st (withTxns t d) = withTxns t (stopHarvest k cause st d) := by
  cases hrun : (harvestOf d k).running with
  | false => simp only [stopHarvest, harvestOf_withTxns, hrun, Bool.not_false, if_true]
  | true =>
    simp only [stopHarvest, harvestOf_withTxns, hrun, Bool.not_true, Bool.false_eq_true, if_false]
    cases (harvestOf d k).owner <;> rfl

@[simp] theorem leaveStill_withTxns (o cause) :
    leaveStill o cause (withTxns t d) = withTxns t (leaveStill o cause d) := by
  simp only [leaveStill, outOf_withTxns, withTxns_tide, updOut_withTxns, raise_withTxns]
  exact ite_withTxns t d _

@[simp] theorem wakeGroupAt_withTxns (g k) :
    wakeGroupAt g k (withTxns t d) = withTxns t (wakeGroupAt g k d) := by
  simp only [wakeGroupAt, updGroup_withTxns, groupOutputs_withTxns]
  exact foldl_withTxns _ (fun d o t => by simp only [updOut_withTxns, restart_withTxns]) _ _ t

@[simp] theorem sendLock_withTxns (g m ports) :
    sendLock g m ports (withTxns t d) = withTxns t (sendLock g m ports d) := sendOx_withTxns ..

@[simp] theorem leaderWake_withTxns (g landed) :
    leaderWake g landed (withTxns t d) = withTxns t (leaderWake g landed d) := by
  unfold leaderWake
  rw [groupOf_withTxns]
  cases groupOf d g with
  | none => rfl
  | some x => simp only [treePorts_withTxns, sendLock_withTxns, wakeGroupAt_withTxns, ite_withTxns]

@[simp] theorem memberWake_withTxns (g o) :
    (memberWake g o (withTxns t d)).2 = withTxns t (memberWake g o d).2 := by
  unfold memberWake
  rw [groupOf_withTxns]
  cases groupOf d g with
  | none => rfl
  | some x =>
    simp only [withTxns_tide, treePorts_withTxns, leaderWake_withTxns, sendLock_withTxns, apply_ite Prod.snd, ite_withTxns]

theorem landHarvestSetup_withTxns (t : List Txn) (d : Dev) :
    landHarvestSetup ch (withTxns t d) = withTxns t (landHarvestSetup ch d) := by
  simp only [landHarvestSetup, activeOf_withTxns, stopHarvest_withTxns, updHarvest_withTxns, ite_withTxns]

theorem landHarvestRun_withTxns (t : List Txn) (d : Dev) :
    landHarvestRun ch (withTxns t d) = withTxns t (landHarvestRun ch d) := by
  unfold landHarvestRun
  simp only [updHarvest_withTxns, harvestOf_withTxns, harvestFilling_withTxns, stopHarvest_withTxns, lockOf_withTxns,
    leaveStill_withTxns, restart_withTxns, memberWake_withTxns]
  cases lockOf (updHarvest (ch.cmd.u8 24) _ (updHarvest (ch.cmd.u8 24) _ d)) _ <;> simp only [ite_withTxns]

/-! ## Family 0x06's commands (R273 to R282) -/

/-- Settles O6: the landings are those of the rows. A running channel that its setup or release stops reports cause 6, the
model's reading of R273 and R281 (log 63). -/
theorem harvestCommandsLand : Obligations.HarvestCommandsLand := by
  unfold Obligations.HarvestCommandsLand
  refine ⟨?release, ?setup, ?run, ?status⟩
  case release =>
    intro c s d b ch h htarget
    cases h.cmd_eq
    exact does_silent (op := .harvestSetup) (by decide) h rfl (fun _ => landHarvestSetup_withTxns) (if_pos htarget)
  case setup =>
    intro c s d b ch h htarget
    cases h.cmd_eq
    exact does_silent (op := .harvestSetup) (by decide) h rfl (fun _ => landHarvestSetup_withTxns) (if_neg htarget)
  case run =>
    intro c s d b ch h
    cases h.cmd_eq
    exact does_silent (op := .harvestRun) (by decide) h rfl (fun _ => landHarvestRun_withTxns) rfl
  case status =>
    intro c s d b h
    exact exec_read_ok (op := .harvestStatus) rfl h rfl rfl

end Sys2Proof.Machine
end

section
/-! The output commands of family 0x05 (R179, R184, R222, R246, R266, R291, R293, R294): what each landing makes of a
disabled output. -/

namespace Sys2Proof.Machine

variable {c : Cmd} {s : State} {d : Dev} {b : List Byte} {ch : Change} {t : List Txn}

/-! ## Transactions leave clipping and training alone -/

@[simp] theorem clipViewports_withTxns (o) : clipViewports o (withTxns t d) = withTxns t (clipViewports o d) := rfl

@[simp] theorem loseW_withTxns (n reason frame) :
    loseW n reason frame (withTxns t d) = withTxns t (loseW n reason frame d) := by
  unfold loseW
  rw [layerOf_withTxns]
  cases layerOf d n with
  | none => rfl
  | some l => simp only [putLayer_withTxns, raise_withTxns, ite_withTxns]

@[simp] theorem clipLayers_withTxns (o old) :
    clipLayers o (withTxns t old) (withTxns t d) = withTxns t (clipLayers o old d) := by
  refine foldl_withTxns _ (fun d e t => ?_) (layersOn d o) d t
  cases hold : layerOf old e.1 with
  | none => simp only [layerOf_withTxns, hold]
  | some l =>
    simp only [layerOf_withTxns, hold, visibleRects_withTxns, damageRects_withTxns, nextFrame, nextNumber_withTxns,
      raiseOwner_withTxns, loseW_withTxns, ite_withTxns]
    rfl

@[simp] theorem clipMonitors_withTxns (o cause) :
    clipMonitors o cause (withTxns t d) = withTxns t (clipMonitors o cause d) := by
  refine foldl_withTxns _ (fun d m t => ?_) (List.range 16) d t
  dsimp only [withTxns_monitors]
  cases (tget Monitor.zero d.monitors (o * 16 + m)).owner with
  | none => rfl
  | some ow =>
    dsimp only
    rw [apply_ite (withTxns t)]
    rfl

@[simp] theorem markLinkDown_withTxns (o) : markLinkDown o (withTxns t d) = withTxns t (markLinkDown o d) := rfl
@[simp] theorem dpOn_withTxns (o) : dpOn (withTxns t d) o = dpOn d o := rfl

@[simp] theorem endTraining_withTxns (o ok) :
    endTraining o ok (withTxns t d) = withTxns t (endTraining o ok d) := by
  simp only [endTraining, outOf_withTxns, updLink_withTxns, finishAll_withTxns]

@[simp] theorem failTraining_withTxns (o phase) :
    failTraining o phase (withTxns t d) = withTxns t (failTraining o phase d) := by
  simp only [failTraining, outOf_withTxns, updLink_withTxns, endTraining_withTxns, raise_withTxns]

@[simp] theorem startTraining_withTxns (o cands) :
    startTraining o cands (withTxns t d) = withTxns t (startTraining o cands d) := by
  unfold startTraining
  rw [outOf_withTxns]
  cases (outOf d o).link.up <;>
    simp only [Bool.false_eq_true, if_false, if_true, markLinkDown_withTxns, updLink_withTxns, outOf_withTxns, dpOn_withTxns,
      failTraining_withTxns, nowNs, withTxns_tide, ite_withTxns]

@[simp] theorem trainOutput_withTxns (o) : trainOutput o (withTxns t d) = withTxns t (trainOutput o d) := by
  unfold trainOutput
  rw [outOf_withTxns]
  cases (outOf d o).mode with
  | none => rfl
  | some m => exact startTraining_withTxns ..

/-! ## Landings on a disabled output (R291, R293, R294) -/

/-- The output of a change that lands at its cut is disabled. -/
theorem Lands.output_disabled {op : Op} (h : Lands op c s d b ch) (houts : (opSpec op).outs = outOnly) :
    (outOf d (ch.cmd.u8 24)).enabled = false := by
  obtain ⟨-, hcmd, v, o, hch⟩ := prepareChanges_one _ _ op c b ch rfl h.ready
  refine h.off _ ?_
  rw [hch, houts, hcmd]
  exact List.mem_singleton_self _

/-- A command without results does what its row's landing makes of a disabled output, where that leaves the transactions
alone. -/
theorem does_silent_disabled {op : Op} {L : Dev → Dev} (hk : opKind op = .d ∨ opKind op = .n) (h : Lands op c s d b ch)
    (hres : (opSpec op).results = fun _ _ => []) (houts : (opSpec op).outs = outOnly)
    (hland : ∀ n e, (outOf e (ch.cmd.u8 24)).enabled = false → (opSpec op).land n ch e = L e)
    (hL : ∀ t e, L (withTxns t e) = withTxns t (L e)) : Does (instrOf op c) (ticketOf op c s) s [] (L d.opened) := by
  have hoff : (outOf d.opened (ch.cmd.u8 24)).enabled = false := h.output_disabled houts
  refine does_lands op c s d b ch [] _ hk h (fun t => ?_) (fun t => by rw [hres]) (fun _ _ => hland _ _ hoff)
    (fun _ _ => by rw [hres])
  rw [hland _ _ hoff, hland _ (withTxns t d.opened) hoff, hL]

/-- The output's own part of an OUTPUT_MODE: the mode, LEAD where the height is new and the transaction stages no
OUTPUT_LEAD, and a reallocated partition. -/
def modeSet (ch : Change) (d : Dev) : Dev :=
  let o := ch.cmd.u8 24
  let m := modeOf ch.cmd
  updOut o (fun x => { x with
    mode := some m,
    lead := if ((outOf d o).mode.map (·.vActive)) != some m.vActive && ch.obj != 1 then m.vActive / 4 else x.lead,
    pages := if ch.table.isEmpty then x.pages else ch.table.map (·.toNat),
    zeroed := x.zeroed && ch.table.isEmpty }) d

/-- A new size clips what stands on the output. -/
def modeLanded (ch : Change) (d : Dev) : Dev :=
  let o := ch.cmd.u8 24
  let m := modeOf ch.cmd
  if ((outOf d o).mode.map fun a => (a.hActive, a.vActive)) != some (m.hActive, m.vActive) then
    clipMonitors o 1 (clipLayers o d (clipViewports o (modeSet ch d)))
  else modeSet ch d

theorem modeSet_withTxns (t : List Txn) (d : Dev) : modeSet ch (withTxns t d) = withTxns t (modeSet ch d) := rfl

theorem modeLanded_withTxns (t : List Txn) (d : Dev) : modeLanded ch (withTxns t d) = withTxns t (modeLanded ch d) := by
  simp only [modeLanded, outOf_withTxns, modeSet_withTxns, clipViewports_withTxns, clipLayers_withTxns,
    clipMonitors_withTxns, ite_withTxns]

/-- On a disabled output no mode change is a mode switch. -/
theorem landOutputMode_disabled (hoff : (outOf d (ch.cmd.u8 24)).enabled = false) :
    landOutputMode ch d = modeLanded ch d := by
  cases hmode : (outOf d (ch.cmd.u8 24)).mode <;>
    simp only [landOutputMode, modeLanded, modeSet, hoff, hmode, Bool.false_and, Bool.or_false, Bool.false_eq_true, if_false]

/-- The output's own part of an OUTPUT_ENABLE: it opens at frame 0 with the pages PREPARE gave it, its link down. -/
def openedOutput (ch : Change) (x : Output) : Output :=
  { x with
    enabled := true, opening := true, scanning := false, frame := 0, line := 0, nextLine := 0, cutDone := false,
    zeroed := false, pages := ch.table.map (·.toNat), scanPages := [], allNext := true, carry := 0, flights := [],
    shown := none, held := false, still := { x.still with active := false, quiet := 0 }, locked := false,
    guards := x.guards.map fun p => { p with faultFrame := none }, switchPll := false, switchLink := false,
    link := { x.link with pllLock := false, up := false, trained := false, rate := 0, lanes := 0, relocks := 0,
                          relocking := false } }

/-- A sink that is plugged, on a link not held down, is trained as the output opens. -/
def enableLanded (ch : Change) (d : Dev) : Dev :=
  let o := ch.cmd.u8 24
  let e := updOut o (openedOutput ch) d
  if (outOf d o).link.hpd && !(outOf d o).link.heldDown then trainOutput o e else e

theorem enableLanded_withTxns (t : List Txn) (d : Dev) :
    enableLanded ch (withTxns t d) = withTxns t (enableLanded ch d) := by
  simp only [enableLanded, outOf_withTxns, updOut_withTxns, trainOutput_withTxns, ite_withTxns]

theorem landOutputEnable_on (hon : ch.cmd.bit 25 0 = true) (hoff : (outOf d (ch.cmd.u8 24)).enabled = false) :
    landOutputEnable ch d = enableLanded ch d := by
  simp only [landOutputEnable, hon, hoff, if_true, Bool.false_eq_true, if_false]
  rfl

theorem landOutputEnable_off (hdis : ch.cmd.bit 25 0 = false) (hoff : (outOf d (ch.cmd.u8 24)).enabled = false) :
    landOutputEnable ch d = d := by
  simp only [landOutputEnable, hdis, hoff, Bool.false_eq_true, if_false, Bool.not_false, if_true]

/-! ## Still refresh (R266) -/

/-- The threshold and the idle period that an OUTPUT_STILL sets. -/
def stillSet (ch : Change) (d : Dev) : Dev :=
  updOut (ch.cmd.u8 24) (fun x => { x with
    still := { x.still with threshold := ch.cmd.u8 25, idle := ch.cmd.u32 28 } }) d

/-- A threshold of 0 ends the still refresh of an output in no group. -/
theorem land_outputStill (n : Nat) (ch : Change) (d : Dev) : (opSpec .outputStill).land n ch d =
    if ch.cmd.u8 25 = 0 ∧ (outOf d (ch.cmd.u8 24)).group = none then leaveStill (ch.cmd.u8 24) 4 (stillSet ch d)
    else stillSet ch d := by
  have hgroup : (outOf (stillSet ch d) (ch.cmd.u8 24)).group = (outOf d (ch.cmd.u8 24)).group :=
    outOf_updOut_keeps Output.group fun _ => rfl
  refine if_congr ?_ rfl rfl
  change (decide _ && (outOf (stillSet ch d) (ch.cmd.u8 24)).group.isNone) = true ↔ _
  rw [hgroup, Bool.and_eq_true, decide_eq_true_eq, Option.isNone_iff_eq_none]

theorem land_outputStill_withTxns (n : Nat) (t : List Txn) (d : Dev) :
    (opSpec .outputStill).land n ch (withTxns t d) = withTxns t ((opSpec .outputStill).land n ch d) := by
  simp only [land_outputStill, stillSet, outOf_withTxns, updOut_withTxns, leaveStill_withTxns, ite_withTxns]

/-! ## Family 0x05's settings -/

/-- Settles O4: mode and enable land as on a disabled output; still refresh looks at the group as it stands; the other
landings are field updates. -/
theorem outputCommandsLand : Obligations.OutputCommandsLand := by
  unfold Obligations.OutputCommandsLand
  refine ⟨?mode, ?on, ?off, ?lead, ?still, ?policy, ?guard⟩
  case mode =>
    intro c s d b ch h
    cases h.cmd_eq
    exact does_silent_disabled (op := .outputMode) (by decide) h rfl rfl (fun _ _ => landOutputMode_disabled)
      modeLanded_withTxns
  case on =>
    intro c s d b ch h hon
    cases h.cmd_eq
    exact does_silent_disabled (op := .outputEnable) (by decide) h rfl rfl (fun _ _ => landOutputEnable_on hon)
      enableLanded_withTxns
  case off =>
    intro c s d b ch h hdis
    cases h.cmd_eq
    exact does_silent_disabled (op := .outputEnable) (L := id) (by decide) h rfl rfl
      (fun _ _ => landOutputEnable_off hdis) (fun _ _ => rfl)
  case lead =>
    intro c s d b ch h
    cases h.cmd_eq
    exact does_silent (op := .outputLead) (by decide) h rfl (fun _ _ _ => updOut_withTxns ..) rfl
  case still =>
    intro c s d b ch h
    cases h.cmd_eq
    exact does_silent (op := .outputStill) (by decide) h rfl land_outputStill_withTxns (land_outputStill _ ch d.opened)
  case policy =>
    intro c s d b ch h
    cases h.cmd_eq
    exact does_silent (op := .outputPolicy) (by decide) h rfl (fun _ _ _ => updOut_withTxns ..) rfl
  case guard =>
    intro c s d b ch h
    cases h.cmd_eq
    exact does_silent (op := .outputGuard) (by decide) h rfl (fun _ _ _ => updOut_withTxns ..) rfl

end Sys2Proof.Machine
end

section
/-! The check-value units and region monitors of family 0x07 (R316 to R337): claims, releases, rake jobs and what a reader
gets. -/

namespace Sys2Proof.Machine

variable {c : Cmd} {s : State} {d : Dev} {b : List Byte} {ch : Change}

/-- A command that lands as `L`, which leaves the transactions alone, does `L` and replies with its row's results. -/
theorem does_replies {op : Op} {L : Dev → Dev} {res : List Byte} (hk : opKind op = .d ∨ opKind op = .n)
    (h : Lands op c s d b ch) (hres : ∀ e, (opSpec op).results e ch = res)
    (hland : ∀ t, (opSpec op).land d.nextTxn ch (withTxns t d.opened) = L (withTxns t d.opened))
    (hL : ∀ t e, L (withTxns t e) = withTxns t (L e)) : Does (instrOf op c) (ticketOf op c s) s res (L d.opened) := by
  have hopened : (opSpec op).land d.nextTxn ch d.opened = L d.opened := hland d.opened.txns
  exact does_lands op c s d b ch res _ hk h (fun t => by rw [hland, hL, hopened]) (fun _ => by rw [hres, hres])
    (fun _ _ => hopened) (fun _ _ => hres _)

/-! ## Check-value units (R316, R318) -/

/-- The unit that a CV_CONFIG names, or that PREPARE gave it. -/
def unitNamed (ch : Change) : Nat := if ch.cmd.u8 24 = 0xFF then ch.obj else ch.cmd.u8 24

/-- A unit claimed or configured anew; a claim takes back a RELEASE that still waits. -/
def claimedUnit (ow : Owner) (c : Cmd) (x : CvUnit) : CvUnit :=
  { x with owner := some ow, cfg := cfgOf c 26 25 32, reclaimed := x.releasing.isSome }

theorem landCvConfig_claim {n : Nat} {ow : Owner} (h : ch.cmd.bit 25 0 = false) :
    landCvConfig n ow ch d = updCv (unitNamed ch) (claimedUnit ow ch.cmd) d :=
  if_neg (by simp [h])

theorem landCvConfig_release {n : Nat} {ow : Owner} (h : ch.cmd.bit 25 0 = true)
    (hidle : (cvOf d (unitNamed ch)).jobs = []) :
    landCvConfig n ow ch d = updCv (unitNamed ch) (fun x => { x with owner := none, cfg := .zero }) d :=
  (if_pos h).trans (if_pos (List.isEmpty_iff.mpr hidle))

theorem unitNamed_of_ne (h : ch.cmd.u8 24 ≠ 0xFF) : unitNamed ch = ch.cmd.u8 24 := if_neg h

/-! ## Rake jobs (R318, R320, R324) -/

/-- The job that a RAKE_JOB starts under a configuration: nothing read, its fold block taken in (R314). -/
def rakeJobOf (cfg : CvCfg) (t : Ticket) (c : Cmd) : RakeJob where
  ticket := t
  cfg := cfg
  memory := c.u8 25
  output := c.u8 26
  sequence := BitVec.ofNat 32 (c.u32 28)
  start := BitVec.ofNat 64 (c.u64 32)
  length := c.u64 40
  tag := BitVec.ofNat 32 (c.u32 48)
  pieces := 0
  reg := cvRun cfg cfg.init.toNat
    (rakeFold (BitVec.ofNat 64 (c.u64 32)) (BitVec.ofNat 32 (c.u32 28)) (BitVec.ofNat 32 (c.u32 48)))

theorem startRake_of_owner {cfg : CvCfg} {t : Ticket} (h : claimOk (cvOf d (c.u8 24)).owner c.issuer false = true) :
    startRake cfg t c d =
      leaveDeviceStill (updCv (c.u8 24) (fun x => { x with jobs := x.jobs ++ [rakeJobOf cfg t c] }) d) :=
  if_neg (by simp [h])

/-- RAKE_JOB of a unit's owner joins the unit's jobs under the configuration in force. -/
theorem exec_rakeJob (h : Accepted .rakeJob c s d b) (howner : claimOk (cvOf d (c.u8 24)).owner c.issuer false = true)
    (hlate : (opSpec .rakeJob).step10 d c = none) :
    exec (.rakeJob c) s = .next (s.after (leaveDeviceStill (updCv (c.u8 24) (fun x =>
      { x with jobs := x.jobs ++ [rakeJobOf (cvOf d (c.u8 24)).cfg (ticketOf .rakeJob c s) c] }) d))) := by
  refine (exec_job .rakeJob c s d b rfl h).trans ?_
  simp only [startJob, hlate, beq_self_eq_true, if_true, startRake_of_owner howner]

/-! ## Region monitors (R329, R330) -/

/-- A monitor claimed or configured anew: one that changes hands brings no results along. -/
def configuredMonitor (ow : Owner) (c : Cmd) (x : Monitor) : Monitor :=
  { x with
    history := if x.owner = some ow then x.history else [], owner := some ow, enable := c.bit 26 0, publish := c.bit 26 3,
    cfg := cfgOf c 27 26 36, rect := monRect c, gen := (x.gen + 1) % 256 }

theorem landMonitorSet_configure {ow : Owner} (h : ch.cmd.bit 26 4 = false) :
    landMonitorSet ow ch d = updMon (ch.cmd.u8 24) (monNamed ch) (configuredMonitor ow ch.cmd) d := by
  simp only [landMonitorSet, h, Bool.false_eq_true, if_false, beq_iff_eq]
  rfl

theorem landMonitorSet_release {ow : Owner} (h : ch.cmd.bit 26 4 = true) :
    landMonitorSet ow ch d = updMon (ch.cmd.u8 24) (monNamed ch) freeMonitor d :=
  if_pos h

theorem monNamed_of_ne (h : ch.cmd.u8 25 ≠ 0xFF) : monNamed ch = ch.cmd.u8 25 := if_neg h

/-- Settles O7: CV_CONFIG and MONITOR_SET land as a claim or a release of the object that the change names, and answer its
number; a rake job starts at once; the other two are reads. -/
theorem checkCommandsLand : Obligations.CheckCommandsLand := by
  unfold Obligations.CheckCommandsLand
  refine ⟨?claim, ?release, ?rake, ?result, ?configure, ?free, ?capture, ?history⟩
  case claim =>
    intro c s d b ch h hclaim
    cases h.cmd_eq
    exact does_replies (op := .cvConfig) (by decide) h (fun _ => rfl) (fun _ => landCvConfig_claim hclaim) (fun _ _ => rfl)
  case release =>
    intro c s d b ch h hrelease hnamed hidle
    cases h.cmd_eq
    have hunit := unitNamed_of_ne hnamed
    rw [← hunit] at hidle ⊢
    exact does_replies (op := .cvConfig) (by decide) h (fun _ => rfl) (fun _ => landCvConfig_release hrelease hidle)
      (fun _ _ => rfl)
  case rake => intro c s d b h howner hlate; exact exec_rakeJob h howner hlate
  case result => intro c s d b h; exact exec_read_ok (op := .cvRead) rfl h rfl rfl
  case configure =>
    intro c s d b ch h hclaim
    cases h.cmd_eq
    exact does_replies (op := .monitorSet) (by decide) h (fun _ => rfl) (fun _ => landMonitorSet_configure hclaim)
      (fun _ _ => rfl)
  case free =>
    intro c s d b ch h hrelease hnamed
    cases h.cmd_eq
    rw [← monNamed_of_ne hnamed]
    exact does_replies (op := .monitorSet) (by decide) h (fun _ => rfl) (fun _ => landMonitorSet_release hrelease)
      (fun _ _ => rfl)
  case capture =>
    intro c s d b ch h
    cases h.cmd_eq
    exact does_silent (op := .monitorCapture) (by decide) h rfl (fun _ _ _ => rfl) rfl
  case history => intro c s d b h; exact exec_read_ok (op := .monitorRead) rfl h rfl rfl

end Sys2Proof.Machine
end

section
/-! Chapter 16's events (R489, R492, R504, R508, R510, R511), the PCIe ports (R551, R559) and the end of a rake job (R321 to
R325). -/

namespace Sys2Proof.Machine

section Rows

variable {s : State} {n : Nat}

/-! ## Instances (R492, R504, R508, R510) -/

theorem exec_quiesceComplete_quiesced (hex : (instOf s.dev n).exists_ = true) (hst : (instOf s.dev n).state = .quiescing)
    (hdone : windingDown s.dev n = false) : exec (.quiesceComplete n) s = .next (s.after (becomeQuiesced n s.dev)) := by
  show execQuiesceComplete n s = _
  simp only [execQuiesceComplete, onDev_eq, hex, hst, hdone, beq_self_eq_true, Bool.not_false, Bool.and_self, if_true]

theorem exec_quiesceComplete_windingDown (h : windingDown s.dev n = true) :
    exec (.quiesceComplete n) s = .next (s.after s.dev) := by
  show execQuiesceComplete n s = _
  simp only [execQuiesceComplete, onDev_eq, h, Bool.not_true, Bool.and_false, Bool.false_eq_true, if_false]

/-- Whether a destruction waits for accesses through its windows or for cuts that remove its viewports. -/
def destroyWaits (d : Dev) (n : Nat) : Bool :=
  (instOf d n).destroying && !((instOf d n).draining.isEmpty && (List.range 8).all fun o => (viewportsOf d n o).isEmpty)

theorem destroyWaits_eq_false {d : Dev} (hdrained : (instOf d n).draining = [])
    (hviews : ∀ o, o < 8 → viewportsOf d n o = []) : destroyWaits d n = false := by
  have hall : ((List.range 8).all fun o => (viewportsOf d n o).isEmpty) = true := by simpa using hviews
  simp only [destroyWaits, hdrained, hall, List.isEmpty_nil, Bool.and_self, Bool.not_true, Bool.and_false]

theorem exec_resetComplete_ends (hex : (instOf s.dev n).exists_ = true)
    (hending : (instOf s.dev n).state = .resetting ∨ (instOf s.dev n).destroying = true)
    (hwaits : destroyWaits s.dev n = false) : exec (.resetComplete n) s = .next (s.after (endReset n s.dev)) := by
  show execResetComplete n s = _
  have hguard : (!(instOf s.dev n).exists_ ||
      !((instOf s.dev n).state == .resetting || (instOf s.dev n).destroying)) = false := by
    simpa [hex, or_iff_not_imp_left] using hending
  unfold destroyWaits at hwaits
  simp only [execResetComplete, onDev_eq, hguard, hwaits, Bool.false_eq_true, if_false]

/-- No MSI-X message is sent for the function of page `k` until the host enables it again. -/
def msixOff (k : Nat) (d : Dev) : Dev := updPage k (fun p => { p with msixOn := false }) d

theorem exec_vfFlr_active (hex : (instOf s.dev n).exists_ = true) (hflr : (instOf s.dev n).flr = false)
    (hst : (instOf s.dev n).state = .active) :
    exec (.vfFlr n) s = .next (s.after (startQuiesce n true (flrEvent n false (updInst n
      (fun x => { x with flr := true, flrStart := nowNs s.dev, after := .flr }) (msixOff n s.dev))))) := by
  show execVfFlr n s = _
  have hinst : instOf (updPage n (fun p => { p with msixOn := false }) s.dev) n = instOf s.dev n := rfl
  simp only [execVfFlr, onDev_eq, hinst, hex, hflr, hst, Bool.not_true, Bool.or_self, Bool.false_eq_true, if_false]
  rfl

theorem exec_vfFlr_ignored (h : (instOf s.dev n).exists_ = false ∨ (instOf s.dev n).flr = true) :
    exec (.vfFlr n) s = .next (s.after (msixOff n s.dev)) := by
  show execVfFlr n s = _
  have hinst : instOf (updPage n (fun p => { p with msixOn := false }) s.dev) n = instOf s.dev n := rfl
  have hguard : (!(instOf s.dev n).exists_ || (instOf s.dev n).flr) = true := by simpa using h
  simp only [execVfFlr, onDev_eq, hinst, hguard, if_true]
  rfl

/-! ## Physical functions and PCIe ports (R489, R511, R551, R559) -/

theorem exec_pfFlr_delegate (h : s.dev.power.cfg.split = true) :
    exec (.pfFlr true) s = .next (s.after (rollBackAll .delegate (msixOff 513 (resetPage 513 s.dev)))) := by
  show execPfFlr true s = _
  simp only [execPfFlr, onDev_eq, h, Bool.not_true, Bool.and_false, Bool.false_eq_true, if_false, if_true]
  rfl

theorem exec_pfFlr_ignored (h : s.dev.power.cfg.split = false) : exec (.pfFlr true) s = .next (s.after s.dev) := by
  show execPfFlr true s = _
  simp only [execPfFlr, onDev_eq, h, Bool.not_false, Bool.and_self, if_true]

/-- The functions behind a port once no MSI-X message is sent for them. -/
def portMsixOff (p : Nat) (d : Dev) : Dev := (portPages d p).foldl (fun d k => msixOff k d) d

/-- Whether a PCIe reset signal reaches no port: PERST1_N in ×16 mode, or a port that is in reset. -/
def portIgnores (d : Dev) (p : Nat) : Bool :=
  2 ≤ p || (p = 1 && !d.power.cfg.split) || nthD false p d.power.perst

theorem portIgnores_zero (d : Dev) : portIgnores d 0 = nthD false 0 d.power.perst := by
  simp [portIgnores]

theorem portIgnores_one {d : Dev} (h : d.power.cfg.split = false) : portIgnores d 1 = true := by
  simp [portIgnores, h]

/-- A port in reset, with its BAR size and VF Enable at their defaults (log 96), and the reset counted. -/
def portReset (p : Nat) (d : Dev) : Dev :=
  { d with
    bar2 := modifyAt (fun _ => 1024) p d.bar2, vfs := modifyAt (fun _ => false) p d.vfs
    power := { d.power with
      perst := modifyAt (fun _ => true) p d.power.perst,
      perstA := (d.power.perstA + b2n (p == 0)) % 256, perstB := (d.power.perstB + b2n (p == 1)) % 256 } }

theorem exec_perstAssert (p : Nat) : exec (.perstAssert p) s = .next (s.after (
    if portIgnores s.dev p then s.dev else portReset p (portMsixOff p s.dev))) := rfl

/-- What a configuration request on a port does once the engine firmware runs. -/
def portConfigured (p : Nat) (q : CfgReq) (d : Dev) : Dev :=
  match q with
  | .read => d
  | .barSize mib =>
    if barSizes.contains mib && !nthD false p d.vfs then { d with bar2 := modifyAt (fun _ => mib) p d.bar2 } else d
  | .vfEnable on => { d with vfs := modifyAt (fun _ => on) p d.vfs }
  | .msixEnable i on =>
    if portOfIssuer d i == p then updPage (pageKey i) (fun g => { g with msixOn := on }) d else d

/-- The requester sees a completion; with `retry` one of Configuration Request Retry Status. -/
def cfgAnswered (retry : Bool) (d : Dev) : Dev := { d with out := { d.out with cfg := some retry } }

/-- A port out of reset, its PCIe core powered, answers: Retry Status until the engine firmware runs. -/
theorem exec_pcieConfigRequest (p : Nat) (q : CfgReq) : exec (.pcieConfigRequest p q) s = .next (s.after (
    if portIgnores s.dev p || !domainOn s.dev 0 then s.dev
    else if s.dev.power.boot != .running then cfgAnswered true s.dev
    else cfgAnswered false (portConfigured p q s.dev))) := by
  cases q <;> rfl

theorem exec_pcieConfigRequest_retry (q : CfgReq) (hperst : nthD false 0 s.dev.power.perst = false)
    (hon : domainOn s.dev 0 = true) (hboot : s.dev.power.boot ≠ .running) :
    exec (.pcieConfigRequest 0 q) s = .next (s.after (cfgAnswered true s.dev)) := by
  rw [exec_pcieConfigRequest, portIgnores_zero, hperst, hon, if_neg (by decide), if_pos (bne_iff_ne.mpr hboot)]

theorem exec_pcieConfigRequest_running (q : CfgReq) (hperst : nthD false 0 s.dev.power.perst = false)
    (hon : domainOn s.dev 0 = true) (hboot : s.dev.power.boot = .running) :
    exec (.pcieConfigRequest 0 q) s = .next (s.after (cfgAnswered false (portConfigured 0 q s.dev))) := by
  rw [exec_pcieConfigRequest, portIgnores_zero, hperst, hon, hboot, if_neg (by decide), if_neg (by decide)]

/-- A BAR size that the control takes is set while VF Enable is clear. -/
theorem portConfigured_barSize {d : Dev} {p m : Nat} (hsize : m ∈ barSizes) (hvfs : nthD false p d.vfs = false) :
    portConfigured p (.barSize m) d = { d with bar2 := modifyAt (fun _ => m) p d.bar2 } :=
  if_pos (by simpa [hvfs] using hsize)

/-! ## Rake jobs (R321 to R325) -/

/-- RAKE_JOB_END on a unit at work: the job reads `n` pieces more (log 152), and ends where a read fails or none is left. -/
theorem exec_rakeJobEnd_busy {u : Nat} {j r : RakeJob} {l : List RakeJob} {e : Dev} {why : Option (Status × Nat)}
    (hjobs : (cvOf s.dev u).jobs = j :: l) (hrun : rakeRun n j s.dev = (e, r, why)) :
    exec (.rakeJobEnd u n) s = .next (s.after (
      if why.isSome || decide ((rakePieces j.start.toNat j.length).length ≤ j.pieces + n) then endRake u r why e
      else updCv u (fun x => { x with jobs := r :: l }) e)) := by
  show execRakeJobEnd u n s = _
  simp only [execRakeJobEnd, onDev_eq, runRake, hjobs, hrun]

theorem exec_rakeJobEnd_idle {u : Nat} (h : (cvOf s.dev u).jobs = []) :
    exec (.rakeJobEnd u n) s = .next (s.after s.dev) := by
  show execRakeJobEnd u n s = _
  simp only [execRakeJobEnd, onDev_eq, h]

end Rows

/-- Settles O34: a lemma for each event that looks before it acts; the others act at once. The spec is silent on what PF_FLR
keeps, on VF Enable and the BAR size after PERST, and on the pieces that the end of a rake job still reads (logs 95, 96 and
152); that an event outside its condition changes nothing is log 5's. -/
theorem instanceEvents : Obligations.InstanceEvents := by
  unfold Obligations.InstanceEvents
  refine ⟨?drained, ?quiesced, ?windingDown, ?reset, ?destroyed, ?flr, ?flrIgnored, ?manager, ?delegate, ?noDelegate, ?perst,
    ?noPort1, ?released, ?retry, ?vfEnable, ?barSize, ?jobEnds, ?noJob, ?jobGoesOn⟩
  case drained => rintro s _ n rfl; rfl
  case quiesced => rintro s _ n rfl hex hst hdone; exact exec_quiesceComplete_quiesced hex hst hdone
  case windingDown => rintro s _ n rfl h; exact exec_quiesceComplete_windingDown h
  case reset =>
    rintro s _ n rfl hex hst hkept
    exact exec_resetComplete_ends hex (.inl hst) (by simp only [destroyWaits, hkept, Bool.false_and])
  case destroyed =>
    rintro s _ n rfl hex hdestroyed hdrained hviews
    exact exec_resetComplete_ends hex (.inr hdestroyed) (destroyWaits_eq_false hdrained hviews)
  case flr => rintro s _ n rfl hex hflr hst; exact exec_vfFlr_active hex hflr hst
  case flrIgnored => rintro s _ n rfl h; exact exec_vfFlr_ignored h
  case manager => rintro s _ rfl; rfl
  case delegate => rintro s _ rfl h; exact exec_pfFlr_delegate h
  case noDelegate => rintro s _ rfl h; exact exec_pfFlr_ignored h
  case perst => rintro s _ rfl h; rw [exec_perstAssert, portIgnores_zero, h]; rfl
  case noPort1 => rintro s _ rfl h; rw [exec_perstAssert, portIgnores_one h, if_pos rfl]
  case released => rintro s _ n rfl; rfl
  case retry => rintro s _ q rfl hperst hon hboot; exact exec_pcieConfigRequest_retry q hperst hon hboot
  case vfEnable => rintro s _ b rfl hperst hon hboot; exact exec_pcieConfigRequest_running (.vfEnable b) hperst hon hboot
  case barSize =>
    rintro s _ n rfl hperst hon hboot hsize hvfs
    rw [exec_pcieConfigRequest_running _ hperst hon hboot, portConfigured_barSize hsize hvfs]
    rfl
  case jobEnds =>
    rintro s _ u n j l e r why rfl hjobs hrun hend
    rw [exec_rakeJobEnd_busy hjobs hrun, if_pos (by simpa [or_comm] using hend)]
    rfl
  case noJob => rintro s _ u n rfl h; exact exec_rakeJobEnd_idle h
  case jobGoesOn =>
    rintro s _ u n j l e r rfl hjobs hrun hleft
    rw [exec_rakeJobEnd_busy hjobs hrun, if_neg (by simpa using hleft)]

end Sys2Proof.Machine
end

section
/-! Requests of the secure controller (R316, R330, R370, R416, R417, R478, R525, R527): to layers, monitors, check units,
haptics, audio, meters, the march test and the canvas engine. -/

namespace Sys2Proof.Machine

section Rows

variable {s : State} {p : BitVec 320}

/-! ## Layers (R525) -/

theorem exec_secureClassChange_sequenced {n : Nat} {w : Bool} {l : Layer} (hup : secUp s.dev = true)
    (hl : layerOf (viewOf s.dev) n = some l) (hclear : w = true → coveredW (viewOf s.dev) n l = false) :
    exec (.secureClassChange n w) s =
      .next (s.after (secAnswer .ok (makeChange (.watch n w) noCmd 0 l.output s.dev))) := by
  show execSecureClassChange n w s = _
  have hguard : (w && coveredW (viewOf s.dev) n l) = false := Bool.and_eq_false_imp.mpr hclear
  simp only [execSecureClassChange, onDev_eq, hup, hl, hguard, Bool.not_true, Bool.false_eq_true, if_false]

theorem exec_secureClassChange_covered {n : Nat} {l : Layer} (hup : secUp s.dev = true)
    (hl : layerOf (viewOf s.dev) n = some l) (hcovered : coveredW (viewOf s.dev) n l = true) :
    exec (.secureClassChange n true) s = .next (s.after (secAnswer .classViolation s.dev)) := by
  show execSecureClassChange n true s = _
  simp only [execSecureClassChange, onDev_eq, hup, hl, hcovered, Bool.not_true, Bool.and_self, Bool.false_eq_true, if_false,
    if_true]

theorem exec_secureClassChange_noLayer {n : Nat} {w : Bool} (hup : secUp s.dev = true)
    (hl : layerOf (viewOf s.dev) n = none) :
    exec (.secureClassChange n w) s = .next (s.after (secAnswer .notOwner s.dev)) := by
  show execSecureClassChange n w s = _
  simp only [execSecureClassChange, onDev_eq, hup, hl, Bool.not_true, Bool.false_eq_true, if_false]

/-! ## Monitors and check-value units (R316, R330) -/

/-- The context in which the secure controller's request for a command's row is checked. -/
def secCtx (p : BitVec 320) (d view : Dev) : Ctx := { d := d, view := view, c := secCmd p, txn := none }

/-- A free monitor that the request names, inside the active area, is set at its output's next cut. -/
theorem exec_secureMonitorSet_claim (hup : secUp s.dev = true)
    (hfields : fieldsCheck (secCtx p s.dev (viewOf s.dev)) (specMonitorSet.fields (secCtx p s.dev (viewOf s.dev))) 64 320 24
      = none)
    (hclaim : (secCmd p).bit 26 4 = false) (hnamed : (secCmd p).u8 25 ≠ 0xFF)
    (hfree : (monOf (viewOf s.dev) ((secCmd p).u8 24) ((secCmd p).u8 25)).owner = none)
    (hinside : coveredBy (monRect (secCmd p)) [activeOf (viewOf s.dev) ((secCmd p).u8 24)] = true) :
    exec (.secureMonitorSet p) s = .next (s.after (secAnswer .ok
      (makeChange .secMonitor (secCmd p) ((secCmd p).u8 25) ((secCmd p).u8 24) s.dev))) := by
  show execSecureMonitorSet p s = _
  unfold secCtx at hfields
  simp only [execSecureMonitorSet, onDev_eq, hup, hfields, hclaim, hnamed, hfree, hinside, Bool.not_true, Bool.not_false,
    Bool.false_eq_true, if_false, Option.isNone_none, Bool.and_self, Bool.or_true, Bool.and_false]

/-- The change of a CV_CONFIG that the secure controller asks for a unit by number. -/
def secCvChange (c : Cmd) : Change := { act := .cmd .cvConfig, cmd := c, table := [], obj := c.u8 24, outs := [] }

/-- A unit that is free or already the secure world's, and that no transaction has reserved, is claimed at once. -/
theorem exec_secureCvConfig_claim (hup : secUp s.dev = true)
    (hfields : fieldsCheck (secCtx p s.dev s.dev) (specCvConfig.fields (secCtx p s.dev s.dev)) 56 320 24 = none)
    (hclaim : (secCmd p).bit 25 0 = false) (hnamed : (secCmd p).u8 24 ≠ 0xFF)
    (hunreserved : cvReserved s.dev ((secCmd p).u8 24) = false)
    (howner : (cvOf s.dev ((secCmd p).u8 24)).owner = none ∨ (cvOf s.dev ((secCmd p).u8 24)).owner = some .secure) :
    exec (.secureCvConfig p) s = .next (s.after (secAnswer .ok
      (updCv ((secCmd p).u8 24) (claimedUnit .secure (secCmd p)) s.dev))) := by
  show execSecureCvConfig p s = _
  have hmay : ((cvOf s.dev ((secCmd p).u8 24)).owner == some .secure ||
      ((cvOf s.dev ((secCmd p).u8 24)).owner.isNone && true)) = true := by
    rcases howner with h | h <;> simp [h]
  have hland : landCvConfig 0 .secure (secCvChange (secCmd p)) s.dev =
      updCv ((secCmd p).u8 24) (claimedUnit .secure (secCmd p)) s.dev := by
    rw [landCvConfig_claim (ch := secCvChange (secCmd p)) hclaim, unitNamed_of_ne (ch := secCvChange (secCmd p)) hnamed]
    rfl
  unfold secCtx at hfields
  unfold secCvChange at hland
  simp only [execSecureCvConfig, onDev_eq, hup, hfields, hclaim, hnamed, hunreserved, hmay, hland, Bool.not_true,
    Bool.not_false, Bool.and_false, Bool.false_eq_true, if_false, if_true]

/-! ## Haptics (R370) -/

theorem exec_secureHapticPlay {k e a n : Nat} (hup : secUp s.dev = true) :
    exec (.secureHapticPlay k e a n) s = .next (s.after (silentTrigger k e a n 2 none s.dev)) := by
  show execSecureHapticPlay k e a n s = _
  simp only [execSecureHapticPlay, onDev_eq, hup, if_true]

theorem silentTrigger_accepted {k e a n rank : Nat} {i : Option Issuer} {d : Dev} (h : triggerRefusal d k rank = none) :
    silentTrigger k e a n rank i d =
      (acceptTrigger k e a n { rank := rank, issuer := i, notify := false, serial := 0 } none d).2 := by
  simp only [silentTrigger, h]

theorem silentTrigger_refused {k e a n rank : Nat} {i : Option Issuer} {d : Dev} {v : Status × Nat}
    (h : triggerRefusal d k rank = some v) :
    silentTrigger k e a n rank i d = updHap k (fun h => { h with refused := h.refused + 1 }) d := by
  simp only [silentTrigger, h]

/-! ## Audio and meters (R416, R417) -/

/-- A route into a sink that the secure world has seized: kept, and faded out from this sample on. -/
def seizedRoute (t k : Nat) (r : Route) : Route :=
  if r.dst == t && r.owner != .secure && r.fadeOut.isNone then { r with seized := true, fadeOut := ramp0 k } else r

theorem exec_audioSeize_taken {t : Nat} (hup : secUp s.dev = true) (hdest : isDest t = true) (hbus : t / 4096 ≠ 5)
    (hsink : t % 4096 < endCount (t / 4096)) (hfree : s.dev.audio.seized.contains t = false) :
    exec (.audioSeize t true) s = .next (s.after (updAudio (fun a => { a with
      seized := t :: a.seized, routes := a.routes.map (seizedRoute t (sampleNow s.dev)) }) (seizedEvents t true s.dev))) := by
  show execAudioSeize t true s = _
  have hguard : (!secUp s.dev || !isDest t || decide (t / 4096 = 5) || decide (endCount (t / 4096) ≤ t % 4096)) = false := by
    simp [hup, hdest, hbus, hsink]
  simp only [execAudioSeize, onDev_eq, hguard, hfree, Bool.false_eq_true, if_false, if_true]
  rfl

theorem exec_secureAudioControl_route (hup : secUp s.dev = true) (hfields : secFields specAudioRoute (secCmd p) s.dev = true)
    (hends : secRouteOk (audioView s.dev).audio ((secCmd p).u16 24) ((secCmd p).u16 26) = true)
    (hroom : routeRoom (audioView s.dev).audio ((secCmd p).u16 24) ((secCmd p).u16 26) = true)
    (hdp : (secCmd p).u16 26 / 4096 ≠ 6) :
    exec (.secureAudioControl (.route p)) s = .next (s.after (secWait .audioRoute (secCmd p) 0 s.dev)) := by
  show execSecureAudioControl (.route p) s = _
  simp only [execSecureAudioControl, onDev_eq, hup, hfields, hends, hroom, bne_iff_ne.mpr hdp, Bool.not_true, Bool.true_or,
    Bool.and_self, Bool.false_eq_true, if_false, if_true]

theorem exec_secureAudioControl_hold {e : Nat} (hup : secUp s.dev = true) (hhw : isHardware e = true)
    (hend : e % 4096 < endCount (e / 4096)) : exec (.secureAudioControl (.hold e true)) s = .next (s.after
      (updAudio (fun a => { a with secureHeld := e :: a.secureHeld.filter (· != e) }) s.dev)) := by
  show execSecureAudioControl (.hold e true) s = _
  simp only [execSecureAudioControl, onDev_eq, hup, hhw, Nat.not_le.mpr hend, decide_false, Bool.not_true, Bool.or_self,
    Bool.false_eq_true, if_false, if_true]

theorem exec_secureMeterAssign_lands (hup : secUp s.dev = true) (hmeter : (secCmd p).u8 24 < 8)
    (hpoint : (secCmd p).bit 25 0 = true ∨
      ((secCmd p).u16 26 % 4096 < endCount ((secCmd p).u16 26 / 4096) ∧ (secCmd p).u16 28 ≤ 10000)) :
    exec (.secureMeterAssign p) s = .next (s.after (landMeter .secure (secCmd p) s.dev)) := by
  show execSecureMeterAssign p s = _
  have hguard : (!secUp s.dev || decide (8 ≤ (secCmd p).u8 24) || (!(secCmd p).bit 25 0 &&
      (decide (endCount ((secCmd p).u16 26 / 4096) ≤ (secCmd p).u16 26 % 4096) || decide (10000 < (secCmd p).u16 28)))) =
      false := by
    rcases hpoint with h | ⟨hend, hhold⟩
    · simp [hup, hmeter, h]
    · simp [hup, hmeter, hend, hhold]
  simp only [execSecureMeterAssign, onDev_eq, hguard, Bool.false_eq_true, if_false]

/-! ## The march test (R478) -/

/-- A spacing between borrows that R478 allows, in nanoseconds. -/
theorem spacing_allowed {n : Nat} (hlow : 10000 ≤ n) (hhigh : n ≤ 1000000000) :
    (decide (10000 ≤ n) && decide (n ≤ 1000000000)) = true := by simp [hlow, hhigh]

theorem exec_panTestControl_start {a b n : Nat} (hup : secUp s.dev = true) (hab : a ≤ b) (hb : b ≤ 8191) (hlow : 10000 ≤ n)
    (hhigh : n ≤ 1000000000) : exec (.panTestControl (.start a b n)) s = .next (s.after (updPan (fun p =>
      beginPass { p with testRunning := true, testFirst := a, testLast := b, testSpacing := n }) s.dev)) := by
  show execPanTestControl (.start a b n) s = _
  simp only [execPanTestControl, onDev_eq, hup, hab, hb, spacing_allowed hlow hhigh, decide_true, Bool.not_true,
    Bool.and_self, Bool.false_eq_true, if_false, if_true]

theorem exec_panTestControl_pace {n : Nat} (hup : secUp s.dev = true) (hlow : 10000 ≤ n) (hhigh : n ≤ 1000000000) :
    exec (.panTestControl (.pace n)) s =
      .next (s.after (updPan (fun p => { p with testSpacing := n }) s.dev)) := by
  show execPanTestControl (.pace n) s = _
  simp only [execPanTestControl, onDev_eq, hup, spacing_allowed hlow hhigh, Bool.not_true, Bool.false_eq_true, if_false,
    if_true]

theorem exec_panTestControl_stop (hup : secUp s.dev = true) :
    exec (.panTestControl .stop) s = .next (s.after (updPan (fun p => { p with testRunning := false }) s.dev)) := by
  show execPanTestControl .stop s = _
  simp only [execPanTestControl, onDev_eq, hup, Bool.not_true, Bool.false_eq_true, if_false]

/-! ## The canvas engine (R527) -/

/-- CV_COUNT of 1 to 4,096 starts the list held in CV_LIST, once the firmware's stores are written (log 99). -/
theorem exec_cvCountWrite_starts {v : U32} {l : List (Nat × List Byte)} (hup : secUp s.dev = true)
    (hidle : (secStores l s.dev).sec.cvBusy = false) (hlow : 1 ≤ v.toNat % 8192) (hhigh : v.toNat % 8192 ≤ 4096) :
    exec (.cvCountWrite v l) s = .next (s.after (updSec (fun q =>
      { q with cvBusy := true, cvCount := v.toNat % 8192, cvError := false, cvErrorKind := 0 }) (secStores l s.dev))) := by
  show execCvCountWrite v l s = _
  have hguard : ((secStores l s.dev).sec.cvBusy || decide (v.toNat % 8192 = 0) || decide (4096 < v.toNat % 8192)) = false := by
    simp [hidle, hhigh, Nat.one_le_iff_ne_zero.mp hlow]
  simp only [execCvCountWrite, onDev_eq, hup, hguard, Bool.not_true, Bool.false_eq_true, if_false]

theorem exec_canvasListEnd_ran (hbusy : s.dev.sec.cvBusy = true) (hon : domainOn s.dev 2 = true) :
    exec .canvasListEnd s = .next (s.after (updSec (fun q =>
      { q with cvBusy := false, cvLists := q.cvLists + 1, intStatus := q.intStatus ||| 1 })
        (canvasList s.dev.sec.cvCount s.dev.sec.cvCount s.dev))) := by
  show execCanvasListEnd s = _
  simp only [execCanvasListEnd, onDev_eq, hbusy, hon, Bool.not_true, Bool.or_self, Bool.false_eq_true, if_false]

end Rows

/-- Settles O22: a lemma for each request that its row takes or refuses. The model's own choices here: the cover is checked on
setting only (log 107), SECURE_MONITOR_SET keeps to the active area and to its own or free monitors (log 137), CV_COUNT
carries the stores it publishes (log 99), and a canvas list starts with CV_ERROR clear and runs as a whole (log 101). -/
theorem secureControllerRequests : Obligations.SecureControllerRequests := by
  unfold Obligations.SecureControllerRequests
  refine ⟨?watch, ?covered, ?noLayer, ?monitor, ?unit, ?play, ?refused, ?seize, ?route, ?hold, ?meter, ?start, ?pace, ?stop,
    ?list, ?listEnd⟩
  case watch => rintro s _ n w l rfl hup hl hclear; exact exec_secureClassChange_sequenced hup hl hclear
  case covered => rintro s _ n l rfl hup hl hcovered; exact exec_secureClassChange_covered hup hl hcovered
  case noLayer => rintro s _ n w rfl hup hl; exact exec_secureClassChange_noLayer hup hl
  case monitor =>
    rintro s _ p _ rfl hup rfl hfields hclaim hnamed hfree hinside
    exact exec_secureMonitorSet_claim hup hfields hclaim hnamed hfree hinside
  case unit =>
    rintro s _ p _ rfl hup rfl hfields hclaim hnamed hunreserved howner
    exact exec_secureCvConfig_claim hup hfields hclaim hnamed hunreserved howner
  case play =>
    rintro s _ k e a n rfl hup haccepted
    rw [exec_secureHapticPlay hup, silentTrigger_accepted haccepted]
  case refused =>
    rintro s _ k e a n v rfl hup hrefused
    rw [exec_secureHapticPlay hup, silentTrigger_refused hrefused]
  case seize => rintro s _ t rfl hup hdest hbus hsink hfree; exact exec_audioSeize_taken hup hdest hbus hsink hfree
  case route =>
    rintro s _ p rfl hup hfields hends hroom hdp
    exact exec_secureAudioControl_route hup hfields hends hroom hdp
  case hold => rintro s _ e rfl hup hhw hend; exact exec_secureAudioControl_hold hup hhw hend
  case meter => rintro s _ p rfl hup hmeter hpoint; exact exec_secureMeterAssign_lands hup hmeter hpoint
  case start => rintro s _ a b n rfl hup hab hb hlow hhigh; exact exec_panTestControl_start hup hab hb hlow hhigh
  case pace => rintro s _ n rfl hup hlow hhigh; exact exec_panTestControl_pace hup hlow hhigh
  case stop => rintro s _ rfl hup; exact exec_panTestControl_stop hup
  case list => rintro s _ v l rfl hup hidle hlow hhigh; exact exec_cvCountWrite_starts hup hidle hlow hhigh
  case listEnd => rintro s _ rfl hbusy hon; exact exec_canvasListEnd_ran hbusy hon

end Sys2Proof.Machine
end

section
/-! Touch ports, their contacts and what cancels them (R344, R355, R356): what an update of a port
makes of it, and what a contact's event and its cancellation leave alone. -/

namespace Sys2Proof.Machine

theorem modifyAt_modifyAt {α : Type} (f g : α → α) (i : Nat) (l : List α) :
    modifyAt f i (modifyAt g i l) = modifyAt (fun x => f (g x)) i l := by
  induction l generalizing i with
  | nil => cases i <;> rfl
  | cons a l ih =>
    cases i with
    | zero => rfl
    | succ i => exact congrArg (a :: ·) (ih i)

section Ports

variable {p : Nat} {d : Dev}

@[simp] theorem updPort_touch (p f) : (updPort p f d).touch = modifyAt f p d.touch := rfl

/-- Two updates of a port are one. -/
theorem updPort_updPort (f g : TouchPort → TouchPort) : updPort p f (updPort p g d) = updPort p (fun x => f (g x)) d :=
  congrArg (fun l => { d with touch := l }) (modifyAt_modifyAt f g p d.touch)

/-- Two updates that agree on the port as it stands are one. -/
theorem updPort_congr {f g : TouchPort → TouchPort} (h : f (portOf d p) = g (portOf d p)) : updPort p f d = updPort p g d :=
  congrArg (fun l => { d with touch := l }) (modifyAt_congr _ h)

theorem portOf_updPort_self (f : TouchPort → TouchPort) (h : p < d.touch.length) :
    portOf (updPort p f d) p = f (portOf d p) := nthD_modifyAt_self _ f h

/-! ## Contacts (R355, R356) -/

@[simp] theorem contactEvent_touch (p phase cause c) : (contactEvent p phase cause c d).touch = d.touch := by
  simp only [contactEvent]
  cases c.owner <;> rfl

@[simp] theorem contactEvent_result (p phase cause c) : (contactEvent p phase cause c d).result = d.result := by
  simp only [contactEvent]
  cases c.owner <;> rfl

@[simp] theorem cancelOn_result (p cause sel) : (cancelOn p cause sel d).result = d.result :=
  foldl_keeps (·.result) (fun d c => cancelContact p cause c d) (fun _ _ => contactEvent_result ..) _ _

end Ports

section Transactions

variable (t : List Txn) (d : Dev)

@[simp] theorem updPort_withTxns (p f) : updPort p f (withTxns t d) = withTxns t (updPort p f d) := rfl
@[simp] theorem domainOn_withTxns (k) : domainOn (withTxns t d) k = domainOn d k := rfl
@[simp] theorem startBringUp_withTxns (p step st) :
    startBringUp p step st (withTxns t d) = withTxns t (startBringUp p step st d) := rfl

@[simp] theorem contactEvent_withTxns (p phase cause c) :
    contactEvent p phase cause c (withTxns t d) = withTxns t (contactEvent p phase cause c d) := by
  simp only [contactEvent]
  cases c.owner <;> rfl

@[simp] theorem cancelContact_withTxns (p cause c) :
    cancelContact p cause c (withTxns t d) = withTxns t (cancelContact p cause c d) := by
  simp only [cancelContact, updPort_withTxns, contactEvent_withTxns]

@[simp] theorem cancelOn_withTxns (p cause sel) :
    cancelOn p cause sel (withTxns t d) = withTxns t (cancelOn p cause sel d) :=
  foldl_withTxns _ (fun _ _ _ => cancelContact_withTxns ..) _ d t

end Transactions

end Sys2Proof.Machine
end

section
/-! Touch events (R340, R342, R345 to R347, R349): the steps of bring-up, time-outs and recovery, stuck contacts, and the ways
of a report through the sieve. -/

namespace Sys2Proof.Machine

variable {s : State} {p : Nat}

/-! ## Bring-up (R340, R349) -/

theorem exec_touchBringupStepDone_next {n : Nat} (h : (portOf s.dev p).step = n) (hn : n = 1 ∨ n = 3) :
    exec (.touchBringupStepDone p .done) s = .next (s.after (updPort p (fun x => { x with step := n + 1 }) s.dev)) := by
  show execTouchBringupStepDone p .done s = _
  rcases hn with rfl | rfl <;> simp only [execTouchBringupStepDone, onDev_eq, h]

theorem exec_touchBringupStepDone_last (h : (portOf s.dev p).step = 4) :
    exec (.touchBringupStepDone p .done) s = .next (s.after (
      updPort p (fun x => { x with step := 0, state := .running, failures := 0 }) s.dev)) := by
  show execTouchBringupStepDone p .done s = _
  simp only [execTouchBringupStepDone, onDev_eq, h]

theorem exec_touchBringupStepDone_ranges {a b x y : Int} (h : (portOf s.dev p).step = 2)
    (hr : ∀ v ∈ [a, b, x, y], 0 ≤ v ∧ v ≤ 65535) :
    exec (.touchBringupStepDone p (.ranges a b x y)) s = .next (s.after (
      let e := updPort p (fun q => { q with
        xMin := a.toNat, xMax := b.toNat, yMin := x.toNat, yMax := y.toNat, step := 3, state := .reset }) s.dev
      updPort p (fun q => { q with calib := defaultCalib e q }) e)) := by
  have hfits : ∀ v ∈ [a, b, x, y], (decide (v < 0) || decide (65535 < v)) = false := fun v hv => by
    simpa using hr v hv
  simp only [List.forall_mem_cons] at hfits
  obtain ⟨ha, hb, hx, hy, -⟩ := hfits
  show execTouchBringupStepDone p (.ranges a b x y) s = _
  simp only [execTouchBringupStepDone, onDev_eq, h, ha, hb, hx, hy, Bool.or_self, Bool.false_eq_true, if_false]

theorem exec_touchBringupStepDone_rejected (h : (portOf s.dev p).step = 1 ∨ (portOf s.dev p).step = 2) :
    exec (.touchBringupStepDone p .rejected) s = .next (s.after (touchFault p 0 .badParam (
      updPort p (fun x => { x with state := .failed, step := 0 }) s.dev))) := by
  show execTouchBringupStepDone p .rejected s = _
  rcases h with h | h <;> simp [execTouchBringupStepDone, onDev_eq, h]

/-! ## Recovery (R346) and stuck contacts (R347) -/

theorem exec_touchResetTimeout (h : (portOf s.dev p).step = 3) :
    exec (.touchResetTimeout p) s = .next (s.after (
      recoverPort p 1 .timeout ((portOf s.dev p).state == .recovering) s.dev)) := by
  show execTouchResetTimeout p s = _
  simp [execTouchResetTimeout, onDev_eq, h]

theorem exec_touchTransferTimeout (h : (portOf s.dev p).reading = true ∨ (portOf s.dev p).step ≠ 0) :
    exec (.touchTransferTimeout p) s = .next (s.after (recoverPort p 2 .timeout ((portOf s.dev p).state == .recovering)
      (updPort p (fun x => { x with timeouts := x.timeouts + 1 }) s.dev))) := by
  have hbusy : ¬ ((!(portOf s.dev p).reading) = true ∧ (portOf s.dev p).step = 0) := by
    rintro ⟨hread, hstep⟩
    rcases h with h | h
    · simp [h] at hread
    · exact h hstep
  show execTouchTransferTimeout p s = _
  simp only [execTouchTransferTimeout, onDev_eq, Bool.and_eq_true, decide_eq_true_eq, hbusy, if_false]

theorem exec_touchStuckTimeout_stuck {k : Nat} {c : Contact} (hc : (portOf s.dev p).contacts.find? (·.slot == k) = some c)
    (hon : (portOf s.dev p).stuckS ≠ 0) (hdue : c.since + (portOf s.dev p).stuckS * 1000000000 ≤ nowNs s.dev) :
    exec (.touchStuckTimeout p k) s = .next (s.after (
      cancelContact p 0 c (updPort p (fun x => { x with stuck := x.stuck + 1 }) s.dev))) := by
  show execTouchStuckTimeout p k s = _
  simp [execTouchStuckTimeout, onDev_eq, hc, hon, Nat.not_lt.mpr hdue]

theorem exec_touchStuckTimeout_off (k : Nat) (hoff : (portOf s.dev p).stuckS = 0) :
    exec (.touchStuckTimeout p k) s = .next (s.after s.dev) := by
  show execTouchStuckTimeout p k s = _
  cases hc : (portOf s.dev p).contacts.find? (·.slot == k) <;> simp [execTouchStuckTimeout, onDev_eq, hc, hoff]

/-! ## Reports (R342, R345, R346) -/

/-- A port that has read a report: the read is over, and its token bucket is refilled to now. -/
def portRead (now : Nat) (x : TouchPort) : TouchPort := refill now { x with reading := false, emptyReads := 0 }

/-- A port as a report leaves it: the scan goes on, accepted (1) or discarded (2), where more of a hybrid scan comes. -/
def scanLeft (r : TouchReport) (k : Nat) (x : TouchPort) : TouchPort :=
  { x with scan := if r.hybrid && !r.last then k else 0, entries := if r.hybrid && !r.last then x.entries else 0 }

/-- A port that accepts a scan: it pays a token, and the scan's calibration is that in force (R345, R349). -/
def scanAccepted (x : TouchPort) : TouchPort :=
  { x with tokens := x.tokens - 1000000000, scans := x.scans + 1, entries := 0, calibLive := x.calib }

variable {r : TouchReport}

/-- What a running port does with a report that holds something: the sieve of R342 and R345. -/
theorem exec_touchReportArrival_filled (hp : p < s.dev.touch.length) (hrun : (portOf s.dev p).state = .running)
    (hfull : r.empty = false) :
    exec (.touchReportArrival p r) s = .next (s.after (
      let d := updPort p (portRead (nowNs s.dev)) s.dev
      if (portOf s.dev p).scan = 2 then updPort p (scanLeft r 2) d
      else if !r.lengthOk then updPort p (scanLeft r 2) (updPort p (fun x => { x with length := x.length + 1 }) d)
      else if (portOf s.dev p).scan = 1 then updPort p (scanLeft r 1) (touchEntries p r.points d)
      else if (refill (nowNs s.dev) (portOf s.dev p)).tokens < 1000000000 then
        updPort p (scanLeft r 2) (updPort p (fun x => { x with rate := x.rate + 1 }) d)
      else updPort p (scanLeft r 1) (touchEntries p r.points (updPort p scanAccepted d)))) := by
  have hread : updPort p (fun x => refill (nowNs (updPort p (fun x => { x with reading := false }) s.dev))
      { x with emptyReads := 0 }) (updPort p (fun x => { x with reading := false }) s.dev) =
      updPort p (portRead (nowNs s.dev)) s.dev := updPort_updPort _ _
  show execTouchReportArrival p r s = _
  simp only [execTouchReportArrival, onDev_eq, hrun, hfull, hread, portOf_updPort_self _ hp, bne_self_eq_false,
    Bool.false_eq_true, if_false]
  rfl

theorem exec_touchReportArrival_badLength (hp : p < s.dev.touch.length) (hrun : (portOf s.dev p).state = .running)
    (hfull : r.empty = false) (hlen : r.lengthOk = false) (hscan : (portOf s.dev p).scan ≠ 2) :
    exec (.touchReportArrival p r) s = .next (s.after (updPort p (scanLeft r 2)
      (updPort p (fun x => { x with length := x.length + 1 }) (updPort p (portRead (nowNs s.dev)) s.dev)))) := by
  simp only [exec_touchReportArrival_filled hp hrun hfull, hscan, hlen, Bool.not_false, if_true, if_false]

theorem exec_touchReportArrival_noToken (hp : p < s.dev.touch.length) (hrun : (portOf s.dev p).state = .running)
    (hfull : r.empty = false) (hlen : r.lengthOk = true) (hscan : (portOf s.dev p).scan = 0)
    (htokens : (refill (nowNs s.dev) (portOf s.dev p)).tokens < 1000000000) :
    exec (.touchReportArrival p r) s = .next (s.after (updPort p (scanLeft r 2)
      (updPort p (fun x => { x with rate := x.rate + 1 }) (updPort p (portRead (nowNs s.dev)) s.dev)))) := by
  simp [exec_touchReportArrival_filled hp hrun hfull, hscan, hlen, htokens]

theorem exec_touchReportArrival_accepted (hp : p < s.dev.touch.length) (hrun : (portOf s.dev p).state = .running)
    (hfull : r.empty = false) (hlen : r.lengthOk = true) (hscan : (portOf s.dev p).scan = 0)
    (htokens : 1000000000 ≤ (refill (nowNs s.dev) (portOf s.dev p)).tokens) :
    exec (.touchReportArrival p r) s = .next (s.after (updPort p (scanLeft r 1)
      (touchEntries p r.points (updPort p scanAccepted (updPort p (portRead (nowNs s.dev)) s.dev))))) := by
  simp [exec_touchReportArrival_filled hp hrun hfull, hscan, hlen, Nat.not_lt.mpr htokens]

/-- The third read in a row that finds nothing recovers the port (R346). -/
theorem exec_touchReportArrival_thirdEmpty (hp : p < s.dev.touch.length) (hrun : (portOf s.dev p).state = .running)
    (hempty : r.empty = true) (hthird : 2 ≤ (portOf s.dev p).emptyReads) :
    exec (.touchReportArrival p r) s = .next (s.after (recoverPort p 3 .timeout true
      (updPort p (fun x => { x with reading := false, emptyReads := x.emptyReads + 1 }) s.dev))) := by
  have hthree : 3 ≤ (portOf s.dev p).emptyReads + 1 := Nat.succ_le_succ hthird
  show execTouchReportArrival p r s = _
  simp [execTouchReportArrival, onDev_eq, hrun, hempty, updPort_updPort, portOf_updPort_self _ hp, hthree]

/-! ## A contact that lifts (R344, R356) -/

variable {d : Dev} {c : Contact} {t : TouchPoint}

/-- The entry that lifts a contact leaves it in the list until its event is written. -/
theorem touchEntry_lift (hentries : (portOf d p).entries < 10) (hignored : (portOf d p).ignored = [])
    (hcontacts : (portOf d p).contacts = [c]) (hident : t.ident = c.ident) (htip : t.tip = false) :
    touchEntry p t d = (some (c.slot, 2), updPort p (fun x => { x with entries := x.entries + 1 }) d) := by
  simp [touchEntry, Nat.not_le.mpr hentries, hignored, hcontacts, hident, htip]

/-- What the entries of a report make of the device, with the slots and phases of the events that they cause. -/
def scanRead (p : Nat) (pts : List TouchPoint) (d : Dev) : List (Nat × Nat) × Dev :=
  pts.foldl (fun acc t => (acc.1 ++ (touchEntry p t acc.2).1.toList, (touchEntry p t acc.2).2)) ([], d)

/-- A scan's events, in port-slot order. -/
def scanEvents (p : Nat) (evs : List (Nat × Nat)) (d : Dev) : Dev :=
  (List.range 10).foldl (fun d k =>
    match (portOf d p).contacts.find? (·.slot == k) with
    | none => d
    | some c => (evs.filter (·.1 == k)).foldl (fun d e => contactEvent p e.2 0 c d) d) d

theorem touchEntries_eq (p : Nat) (pts : List TouchPoint) (d : Dev) :
    touchEntries p pts d = updPort p (fun x => { x with
      contacts := x.contacts.filter fun c => !(scanRead p pts d).1.contains (c.slot, 2) })
      (scanEvents p (scanRead p pts d).1 (scanRead p pts d).2) := rfl

theorem scanEvents_touch (p : Nat) (evs : List (Nat × Nat)) (d : Dev) : (scanEvents p evs d).touch = d.touch := by
  refine foldl_keeps (·.touch) _ (fun d k => ?_) _ d
  split
  · rfl
  · exact foldl_keeps (·.touch) _ (fun d e => contactEvent_touch ..) _ d

/-- A scan whose only entry lifts the port's only contact leaves the port without contacts. -/
theorem touchEntries_lift (hentries : (portOf d p).entries < 10) (hignored : (portOf d p).ignored = [])
    (hcontacts : (portOf d p).contacts = [c]) (hident : t.ident = c.ident) (htip : t.tip = false) :
    (touchEntries p [t] d).touch =
      (updPort p (fun x => { x with entries := x.entries + 1, contacts := [] }) d).touch := by
  have hread : scanRead p [t] d = ([(c.slot, 2)], updPort p (fun x => { x with entries := x.entries + 1 }) d) := by
    simp [scanRead, touchEntry_lift hentries hignored hcontacts hident htip]
  rw [touchEntries_eq, hread, updPort_touch, scanEvents_touch, ← updPort_touch, updPort_updPort]
  refine congrArg Dev.touch (updPort_congr ?_)
  simp [hcontacts]

/-- The port after such a scan and a further update. -/
theorem portOf_updPort_lift (f : TouchPort → TouchPort) (hp : p < d.touch.length) (hentries : (portOf d p).entries < 10)
    (hignored : (portOf d p).ignored = []) (hcontacts : (portOf d p).contacts = [c]) (hident : t.ident = c.ident)
    (htip : t.tip = false) : portOf (updPort p f (touchEntries p [t] d)) p =
      f { portOf d p with entries := (portOf d p).entries + 1, contacts := [] } := by
  rw [portOf, updPort_touch, touchEntries_lift hentries hignored hcontacts hident htip, updPort_touch, modifyAt_modifyAt,
    nthD_modifyAt_self _ _ hp]
  rfl

/-! ## The statement -/

/-- Settles O28: a lemma for each event, each at the state's own device. -/
theorem touchEvents : Obligations.TouchEvents := by
  unfold Obligations.TouchEvents
  refine ⟨?next, ?last, ?ranges, ?rejected, ?reset, ?transfer, ?interrupt, ?stuck, ?stuckOff, ?badLength, ?noToken, ?lift,
    ?empty⟩
  case next => rintro s _ p n rfl hstep hn; exact exec_touchBringupStepDone_next hstep hn
  case last => rintro s _ p rfl hstep; exact exec_touchBringupStepDone_last hstep
  case ranges => rintro s _ p a b x y rfl hstep hfits; exact exec_touchBringupStepDone_ranges hstep hfits
  case rejected => rintro s _ p rfl hstep; exact exec_touchBringupStepDone_rejected hstep
  case reset => rintro s _ p rfl hstep; exact exec_touchResetTimeout hstep
  case transfer => rintro s _ p rfl hbusy; exact exec_touchTransferTimeout hbusy
  case interrupt => rintro s _ p rfl; rfl
  case stuck => rintro s _ p k c rfl hc hon hdue; exact exec_touchStuckTimeout_stuck hc hon hdue
  case stuckOff => rintro s _ p k rfl hoff; exact exec_touchStuckTimeout_off k hoff
  case badLength =>
    rintro s _ p r rfl hp hrun hfull hlen hscan
    refine ⟨_, exec_touchReportArrival_badLength hp hrun hfull hlen hscan, ?_⟩
    simp only [updPort_updPort, portOf_updPort_self _ hp]
    exact ⟨rfl, rfl, rfl⟩
  case noToken =>
    rintro s _ p r rfl hp hrun hfull hlen hscan htokens
    refine ⟨_, exec_touchReportArrival_noToken hp hrun hfull hlen hscan htokens, ?_⟩
    simp only [updPort_updPort, portOf_updPort_self _ hp]
    exact ⟨rfl, rfl, rfl⟩
  case lift =>
    rintro s _ p r c t rfl hp hrun hfull hlen hscan htokens hwhole hcontacts hignored hpoints hident htip
    refine ⟨_, exec_touchReportArrival_accepted hp hrun hfull hlen hscan htokens, ?_⟩
    have hport := portOf_updPort_self (fun x => scanAccepted (portRead (nowNs s.dev) x)) hp
    rw [hpoints, updPort_updPort, portOf_updPort_lift _ (by rwa [updPort_touch, length_modifyAt])
      (by rw [hport]; exact Nat.zero_lt_succ 9) (by rw [hport]; exact hignored) (by rw [hport]; exact hcontacts) hident htip,
      hport]
    exact ⟨rfl, rfl, rfl, by simp [scanLeft, hwhole]⟩
  case empty => rintro s _ p r rfl hp hrun hempty hthird; exact exec_touchReportArrival_thirdEmpty hp hrun hempty hthird

end Sys2Proof.Machine
end

section
/-! The touch commands of family 0x08 (R340, R341, R349, R356, R358, R359): what each landing makes of a port, and what
TOUCH_STATUS answers. -/

namespace Sys2Proof.Machine

variable {c : Cmd} {s : State} {d : Dev} {b : List Byte} {ch : Change}

theorem land_touchPort_withTxns (n : Nat) (t : List Txn) (e : Dev) :
    (opSpec .touchPort).land n ch (withTxns t e) = withTxns t ((opSpec .touchPort).land n ch e) := by
  simp only [opSpec, specTouchPort, cancelOn_withTxns, updPort_withTxns, domainOn_withTxns, startBringUp_withTxns,
    ite_withTxns]

theorem land_touchCancel_withTxns (n : Nat) (t : List Txn) (e : Dev) :
    (opSpec .touchCancel).land n ch (withTxns t e) = withTxns t ((opSpec .touchCancel).land n ch e) :=
  cancelOn_withTxns t { e with result := _ } ..

/-- What TOUCH_STATUS reads of a port (R341): the manager all of its record, another issuer word 0 with its own contacts. -/
theorem read_touchStatus_manager {f : Fuses} (h : c.issuer = .manager) :
    (opSpec .touchStatus).read f d c = (d, .ok (fourWords (portRecord (portOf d (c.u8 24))
      (portOf d (c.u8 24)).contacts.length) (4 * c.u8 25))) := by
  simp only [opSpec, specTouchStatus, h]

theorem read_touchStatus_other {f : Fuses} (h : c.issuer ≠ .manager) :
    (opSpec .touchStatus).read f d c = (d, .ok (fourWords ((portRecord (portOf d (c.u8 24))
      ((portOf d (c.u8 24)).contacts.countP fun t => t.owner == some (ownerOf c.issuer))).take 1) (4 * c.u8 25))) := by
  cases hi : c.issuer with
  | manager => exact absurd hi h
  | inst n => simp only [opSpec, specTouchStatus, hi]
  | delegate => simp only [opSpec, specTouchStatus, hi]

/-- Settles O10: each landing leaves the transactions alone, and does what its clause says of the opened device; TOUCH_STATUS
is a read. -/
theorem touchCommandsLand : Obligations.TouchCommandsLand := by
  unfold Obligations.TouchCommandsLand
  refine ⟨?port, ?calib, ?sieve, ?cancel, ?manager, ?other⟩
  case port =>
    intro c s d b ch h
    cases h.cmd_eq
    exact does_silent (op := .touchPort) (by decide) h rfl land_touchPort_withTxns rfl
  case calib =>
    intro c s d b ch h
    cases h.cmd_eq
    exact does_silent (op := .touchCalib) (by decide) h rfl (fun _ _ _ => rfl) rfl
  case sieve =>
    intro c s d b ch h
    cases h.cmd_eq
    exact does_silent (op := .touchSieve) (by decide) h rfl (fun _ _ _ => rfl) rfl
  case cancel =>
    intro c s d b ch h
    cases h.cmd_eq
    exact does_lands .touchCancel _ s d b ch _ _ (by decide) h (fun t => land_touchCancel_withTxns ..) (fun _ => rfl)
      (fun _ _ => rfl) (fun _ _ => cancelOn_result ..)
  case manager =>
    intro c s d b h hmanager
    exact exec_read_ok (op := .touchStatus) rfl h rfl (read_touchStatus_manager hmanager)
  case other =>
    intro c s d b h hother
    exact exec_read_ok (op := .touchStatus) rfl h rfl (read_touchStatus_other hother)

end Sys2Proof.Machine
end

section
/-! Lifecycle fuses, version fuses and the debug gate (R534, R535, R556): what each of the three burning rows does, and that a
step burns only what a part can hold. -/

namespace Sys2Proof.Machine

variable {f : Fuses} {s : State}

theorem lifecycleOf_eq_zero_iff : lifecycleOf f = 0 ↔ f.returned = false ∧ f.fieldSet = false ∧ f.ownerKey = none := by
  cases hr : f.returned <;> cases hf : f.fieldSet <;> cases hk : f.ownerKey <;> simp [lifecycleOf, hr, hf, hk]

theorem lifecycleOf_eq_one_iff : lifecycleOf f = 1 ↔ f.returned = false ∧ f.fieldSet = false ∧ f.ownerKey.isSome := by
  cases hr : f.returned <;> cases hf : f.fieldSet <;> cases hk : f.ownerKey <;> simp [lifecycleOf, hr, hf, hk]

theorem ownerKey_isSome_of_gateVerifies {c : List Byte} {w : U32} {sig : List Byte} (h : gateVerifies f c w sig = true) :
    f.ownerKey.isSome := by
  cases hk : f.ownerKey with
  | none => simp [gateVerifies, hk] at h
  | some k => rfl

/-! ## The rows that burn -/

theorem exec_lifecycleAdvance_ownerKey {h : List Byte} (hup : secUp s.dev = true) (hblank : lifecycleOf s.fuses = 0)
    (hlen : h.length = 48) : exec (.lifecycleAdvance (.ownerKey h)) s =
      .next { s.after s.dev with fuses := { s.fuses with ownerKey := some h } } := by
  show execLifecycleAdvance (.ownerKey h) s = _
  simp only [execLifecycleAdvance, onDevFuses, hup, hblank, hlen, Bool.not_true, Bool.false_eq_true, if_false, if_true]
  rfl

theorem exec_lifecycleAdvance_field (hup : secUp s.dev = true) (hprovisioned : lifecycleOf s.fuses = 1) :
    exec (.lifecycleAdvance .field) s = .next { s.after s.dev with fuses := { s.fuses with fieldSet := true } } := by
  show execLifecycleAdvance .field s = _
  simp only [execLifecycleAdvance, onDevFuses, hup, hprovisioned, Bool.not_true, Bool.false_eq_true, if_false]
  rfl

/-- FIELD is burned on a PROVISIONED part alone. -/
theorem exec_lifecycleAdvance_field_ignored (hother : lifecycleOf s.fuses ≠ 1) :
    exec (.lifecycleAdvance .field) s = .next (s.after s.dev) := by
  show execLifecycleAdvance .field s = _
  cases hup : secUp s.dev with
  | false => simp only [execLifecycleAdvance, onDevFuses, hup, Bool.not_false, if_true]; rfl
  | true =>
    simp only [execLifecycleAdvance, onDevFuses, hup, Bool.not_true, Bool.false_eq_true, if_false]
    split
    · contradiction
    · contradiction
    · rfl

theorem exec_antiRollbackAdvance (hup : secUp s.dev = true) (hleft : s.fuses.rollback < 64) :
    exec .antiRollbackAdvance s =
      .next { s.after s.dev with fuses := { s.fuses with rollback := s.fuses.rollback + 1 } } := by
  show execAntiRollbackAdvance s = _
  simp only [execAntiRollbackAdvance, onDevFuses, hup, hleft, decide_true, Bool.and_self, if_true]
  rfl

/-! ## The gate (R535) -/

theorem exec_gateChallenge (hopen : gateOpen s.dev = true) : exec .gateChallenge s = .next (s.after {
    updSec (fun q => { q with challenge := some ((rangeFrom s.dev.free 48).map Config.freeByte, nowNs s.dev) }) s.dev with
      free := s.dev.free + 48
      out := { s.dev.out with gate := (rangeFrom s.dev.free 48).map Config.freeByte ++
        (s.fuses.deviceId ++ List.replicate 16 0).take 16 } }) := by
  show execGateChallenge s = _
  simp only [execGateChallenge, onDev_eq, hopen, Bool.not_true, Bool.false_eq_true, if_false]
  rfl

section Response

variable {w : U32} {r g b : List Byte} {n : Nat}

theorem exec_gateResponse_good (hopen : gateOpen s.dev = true) (hchallenge : s.dev.sec.challenge = some (b, n))
    (hintime : nowNs s.dev ≤ n + 60000000000) (hsigned : gateVerifies s.fuses b w (r ++ g) = true) :
    exec (.gateResponse w r g) s = .next { s.after (updSec (fun q => { q with
        challenge := none, debugNormal := q.debugNormal || w.getLsbD 0, debugSecure := q.debugSecure || w.getLsbD 1,
        scanOpen := q.scanOpen || w.getLsbD 2 }) s.dev) with
      fuses := if w.getLsbD 3 then { s.fuses with returned := true } else s.fuses } := by
  have hgood : nowNs (updSec (fun q => { q with challenge := none }) s.dev) ≤ n + 60000000000 ∧
      gateVerifies s.fuses b w (r ++ g) = true := ⟨hintime, hsigned⟩
  show execGateResponse w r g s = _
  simp only [execGateResponse, onDevFuses, hopen, hchallenge, hgood, Bool.not_true, Bool.false_eq_true, if_false, and_self, if_true]
  rfl

theorem exec_gateResponse_bad (hopen : gateOpen s.dev = true) (hchallenge : s.dev.sec.challenge = some (b, n))
    (hbad : n + 60000000000 < nowNs s.dev ∨ gateVerifies s.fuses b w (r ++ g) = false) :
    exec (.gateResponse w r g) s = .next (s.after (gateFail (updSec (fun q => { q with challenge := none }) s.dev))) := by
  have hfails : ¬ (nowNs (updSec (fun q => { q with challenge := none }) s.dev) ≤ n + 60000000000 ∧
      gateVerifies s.fuses b w (r ++ g) = true) := by
    rintro ⟨hintime, hsigned⟩
    rcases hbad with hlate | hunsigned
    · exact absurd hlate (Nat.not_lt.mpr hintime)
    · rw [hunsigned] at hsigned; cases hsigned
  show execGateResponse w r g s = _
  simp only [execGateResponse, onDevFuses, hopen, hchallenge, hfails, Bool.not_true, Bool.false_eq_true, if_false]
  rfl

theorem exec_gateResponse_unasked (hopen : gateOpen s.dev = true) (hchallenge : s.dev.sec.challenge = none) :
    exec (.gateResponse w r g) s = .next (s.after (gateFail s.dev)) := by
  show execGateResponse w r g s = _
  simp only [execGateResponse, onDevFuses, hopen, hchallenge, Bool.not_true, Bool.false_eq_true, if_false]
  rfl

end Response

theorem exec_gatePassword_good {p : List Byte} (hopen : gateOpen s.dev = true) (hlow : 8 ≤ p.length) (hhigh : p.length ≤ 64)
    (hmatch : Config.sha384 ((s.fuses.salt ++ List.replicate 16 0).take 16 ++ p) = s.fuses.passHash) :
    exec (.gatePassword p) s = .next (s.after (updSec (fun q => { q with debugNormal := true }) s.dev)) := by
  show execGatePassword p s = _
  simp only [execGatePassword, onDev_eq, hopen, hlow, hhigh, hmatch, Bool.not_true, Bool.false_eq_true, if_false, and_self, if_true]

theorem exec_gatePassword_misshapen {p : List Byte} (hopen : gateOpen s.dev = true) (hlen : p.length < 8 ∨ 64 < p.length) :
    exec (.gatePassword p) s = .next (s.after (gateFail s.dev)) := by
  have hbad : ¬ (8 ≤ p.length ∧ p.length ≤ 64 ∧
      Config.sha384 ((s.fuses.salt ++ List.replicate 16 0).take 16 ++ p) = s.fuses.passHash) := by
    rintro ⟨hlow, hhigh, -⟩; omega
  show execGatePassword p s = _
  simp only [execGatePassword, onDev_eq, hopen, hbad, Bool.not_true, Bool.false_eq_true, if_false]

/-- Settles O23. The model's own choices here: the response is verified over the fused hash (log 104), and RETURN is burned as
the response is accepted (log 105). -/
theorem lifecycleAndGate : Obligations.LifecycleAndGate := by
  unfold Obligations.LifecycleAndGate
  refine ⟨?ownerKey, ?field, ?ignored, ?rollback, ?challenge, ?good, ?bad, ?unasked, ?password, ?misshapen⟩
  case ownerKey => rintro s _ h rfl hup hblank hlen; exact exec_lifecycleAdvance_ownerKey hup hblank hlen
  case field => rintro s _ rfl hup hprovisioned; exact exec_lifecycleAdvance_field hup hprovisioned
  case ignored => rintro s _ rfl hother; exact exec_lifecycleAdvance_field_ignored hother
  case rollback => rintro s _ rfl hup hleft; exact exec_antiRollbackAdvance hup hleft
  case challenge => rintro s _ rfl hopen; exact exec_gateChallenge hopen
  case good =>
    rintro s _ w r g b n rfl hopen hchallenge hintime hsigned
    exact exec_gateResponse_good hopen hchallenge hintime hsigned
  case bad => rintro s _ w r g b n rfl hopen hchallenge hbad; exact exec_gateResponse_bad hopen hchallenge hbad
  case unasked => rintro s _ w r g rfl hopen hchallenge; exact exec_gateResponse_unasked hopen hchallenge
  case password => rintro s _ p rfl hopen hlow hhigh hmatch; exact exec_gatePassword_good hopen hlow hhigh hmatch
  case misshapen => rintro s _ p rfl hopen hlen; exact exec_gatePassword_misshapen hopen hlen

/-! ## Every step keeps fuses legal, and burns without undoing -/

/-- What a part may become of legal fuses: legal ones that hold all that the old ones held. -/
def Fuses.MayBecome (f g : Fuses) : Prop := f.Legal → g.Legal ∧ f.Gain g

theorem Fuses.mayBecome_self (f : Fuses) : f.MayBecome f :=
  fun hlegal => ⟨hlegal, fun _ => rfl, id, id, le_rfl, rfl, rfl, rfl, rfl⟩

theorem Fuses.mayBecome_ownerKey {h : List Byte} (hblank : lifecycleOf f = 0) (hlen : h.length = 48) :
    f.MayBecome { f with ownerKey := some h } := by
  obtain ⟨-, -, hkey⟩ := lifecycleOf_eq_zero_iff.mp hblank
  refine fun hlegal => ⟨⟨hlegal.rollback, fun k hk => ?_, fun _ => rfl, fun _ => rfl⟩,
    fun hsome => ?_, id, id, le_rfl, rfl, rfl, rfl, rfl⟩
  · cases hk; exact hlen
  · simp [hkey] at hsome

theorem Fuses.mayBecome_fieldSet (hkey : f.ownerKey.isSome) : f.MayBecome { f with fieldSet := true } :=
  fun hlegal => ⟨⟨hlegal.rollback, hlegal.key, fun _ => hkey, hlegal.returned⟩,
    fun _ => rfl, fun _ => rfl, id, le_rfl, rfl, rfl, rfl, rfl⟩

theorem Fuses.mayBecome_returned (hkey : f.ownerKey.isSome) : f.MayBecome { f with returned := true } :=
  fun hlegal => ⟨⟨hlegal.rollback, hlegal.key, hlegal.field, fun _ => hkey⟩,
    fun _ => rfl, id, fun _ => rfl, le_rfl, rfl, rfl, rfl, rfl⟩

theorem Fuses.mayBecome_rollback (hleft : f.rollback < 64) : f.MayBecome { f with rollback := f.rollback + 1 } :=
  fun hlegal => ⟨⟨hleft, hlegal.key, hlegal.field, hlegal.returned⟩,
    fun _ => rfl, id, id, Nat.le_succ _, rfl, rfl, rfl, rfl⟩

/-- A row that keeps the fuses as they are, or burns what they may become. -/
def BurnsLegally (f : State → Host.Outcome State Fault Refusal) : Prop :=
  ∀ s t, f s = .next t → s.fuses.MayBecome t.fuses

theorem onDevFuses_burnsLegally {f : Fuses → Dev → Dev × Fuses} (hf : ∀ u d, Fuses.MayBecome u (f u d).2) :
    BurnsLegally (onDevFuses f) := by
  intro s t ht
  cases ht
  exact hf s.fuses s.dev

theorem execLifecycleAdvance_burnsLegally (a : LifeStep) : BurnsLegally (execLifecycleAdvance a) := by
  unfold execLifecycleAdvance
  refine onDevFuses_burnsLegally fun u d => ?_
  split
  · exact u.mayBecome_self
  · split
    next hblank =>
      split
      next hlen => exact Fuses.mayBecome_ownerKey hblank hlen
      next => exact u.mayBecome_self
    next hprovisioned =>
      obtain ⟨-, -, hkey⟩ := lifecycleOf_eq_one_iff.mp hprovisioned
      exact Fuses.mayBecome_fieldSet hkey
    next => exact u.mayBecome_self

theorem execAntiRollbackAdvance_burnsLegally : BurnsLegally execAntiRollbackAdvance := by
  unfold execAntiRollbackAdvance
  refine onDevFuses_burnsLegally fun u d => ?_
  dsimp only
  split
  next h =>
    rw [Bool.and_eq_true, decide_eq_true_eq] at h
    exact Fuses.mayBecome_rollback h.right
  next => exact u.mayBecome_self

theorem execGateResponse_burnsLegally (w : U32) (r g : List Byte) : BurnsLegally (execGateResponse w r g) := by
  unfold execGateResponse
  refine onDevFuses_burnsLegally fun u d => ?_
  split
  · exact u.mayBecome_self
  · split
    next => exact u.mayBecome_self
    next b n hchallenge =>
      dsimp only
      split
      next h =>
        dsimp only
        split
        · exact Fuses.mayBecome_returned (ownerKey_isSome_of_gateVerifies h.right)
        · exact u.mayBecome_self
      next => exact u.mayBecome_self

/-- The rows that may burn a fuse. -/
def burns : Instr → Bool
  | .lifecycleAdvance _ | .antiRollbackAdvance | .gateResponse _ _ _ => true
  | _ => false

/-- Every other row is an effect on the device alone. -/
theorem exec_of_not_burns (i : Instr) (s : State) (h : burns i = false) : ∃ d, exec i s = .next { s with dev := d } := by
  cases i
  case eventSend e => cases e <;> exact ⟨_, rfl⟩
  case lifecycleAdvance | antiRollbackAdvance | gateResponse => cases h
  all_goals exact ⟨_, rfl⟩

theorem exec_burnsLegally (i : Instr) : BurnsLegally (exec i) := by
  cases hb : burns i with
  | false =>
    intro s t ht
    obtain ⟨d, hd⟩ := exec_of_not_burns i s hb
    rw [hd] at ht
    cases ht
    exact s.fuses.mayBecome_self
  | true =>
    cases i
    case lifecycleAdvance a => exact execLifecycleAdvance_burnsLegally a
    case antiRollbackAdvance => exact execAntiRollbackAdvance_burnsLegally
    case gateResponse w r g => exact execGateResponse_burnsLegally w r g
    all_goals cases hb

theorem step_burnsLegally : BurnsLegally step := by
  intro s t ht
  unfold step at ht
  split at ht
  · cases ht
    exact s.fuses.mayBecome_self
  next c rest _ => exact exec_burnsLegally c { s with pending := rest } t ht

/-- Settles O41: three rows burn fuses, each one that the part may take on; every other step leaves them alone. -/
theorem fusesStayLegalAndOnlyGain : Obligations.FusesStayLegalAndOnlyGain := by
  unfold Obligations.FusesStayLegalAndOnlyGain
  exact fun s t hlegal ht => step_burnsLegally s t ht hlegal

end Sys2Proof.Machine
end

section
/-! Rules of the state that chapters 12 and 13 share: what settling a landing leaves alone, and a haptic channel after an
update, after the planning of a half cycle and after the count of its drive time. -/

namespace Sys2Proof.Machine

variable {d : Dev}

/-! ## Settling a landing leaves haptics and audio alone -/

/-- Haptics and audio: what no reply, event, vote or message changes. -/
def Dev.media (d : Dev) : HapticUnit × Audio := (d.haptic, d.audio)

theorem haptic_eq_of_media {d e : Dev} (h : d.media = e.media) : d.haptic = e.haptic := congrArg Prod.fst h

theorem audio_eq_of_media {d e : Dev} (h : d.media = e.media) : d.audio = e.audio := congrArg Prod.snd h

theorem media_eq_of_quiet {d e : Dev} (h : d.quiet = e.quiet) : d.media = e.media :=
  show d.quiet.media = e.quiet.media by rw [h]

@[simp] theorem raise_media (c sub pl pg sec d) : (raise c sub pl pg sec d).media = d.media := rfl
@[simp] theorem raiseAt_media (st c sub pl pg sec d) : (raiseAt st c sub pl pg sec d).media = d.media := rfl
@[simp] theorem updTxn_media (n f d) : (updTxn n f d).media = d.media := rfl
@[simp] theorem finish_media (t st det res d) : (finish t st det res d).media = d.media := media_eq_of_quiet (finish_quiet ..)
@[simp] theorem addVote_media (b n st r d) : (addVote b n st r d).media = d.media := rfl

@[simp] theorem sendOx_media (k c ports d) : (sendOx k c ports d).media = d.media := by
  refine foldl_keeps Dev.media _ (fun d p => ?_) ports d
  split <;> rfl

@[simp] theorem sendBallot_media (b c st r d) : (sendBallot b c st r d).media = d.media := by
  unfold sendBallot
  split
  · rfl
  · split
    · exact addVote_media ..
    · exact sendOx_media ..

@[simp] theorem settleTxn_media (id d) : (settleTxn id d).media = d.media := by
  unfold settleTxn
  cases txnOf d id with
  | none => rfl
  | some t =>
    dsimp only
    split
    · rfl
    · have hrecord : ∀ said : Status, (if t.own = true then { d with txns := d.txns.filter (·.id != id) }
          else updTxn id (fun t => { t with state := .landed, commit := none, lastStatus := said }) d).media =
            d.media := fun said => by split <;> rfl
      cases t.commit with
      | none => rw [sendBallot_media, hrecord]
      | some c => rw [finish_media, sendBallot_media, hrecord]

@[simp] theorem landingDone_media (id d) : (landingDone id d).media = d.media := by
  rw [landingDone, settleTxn_media, updTxn_media]

@[simp] theorem landingDone_haptic (id d) : (landingDone id d).haptic = d.haptic := haptic_eq_of_media (landingDone_media ..)

@[simp] theorem landingDone_audio (id d) : (landingDone id d).audio = d.audio := audio_eq_of_media (landingDone_media ..)

/-! ## A haptic channel after an update -/

theorem modifyAt_fixed {α : Type} (z : α) {f : α → α} {i : Nat} {l : List α} (h : f (nthD z i l) = nthD z i l) :
    modifyAt f i l = l := by
  induction l generalizing i with
  | nil => cases i <;> rfl
  | cons a l ih =>
    cases i with
    | zero => exact congrArg (· :: l) h
    | succ i => exact congrArg (a :: ·) (ih h)

theorem nthD_modifyAt_keeps_at {α β : Type} (z : α) (p : α → β) {f : α → α} {i : Nat} {l : List α}
    (h : p (f (nthD z i l)) = p (nthD z i l)) (j : Nat) : p (nthD z j (modifyAt f i l)) = p (nthD z j l) := by
  induction l generalizing i j with
  | nil => cases i <;> rfl
  | cons a l ih =>
    cases i with
    | zero =>
      cases j with
      | zero => exact h
      | succ j => rfl
    | succ i =>
      cases j with
      | zero => rfl
      | succ j => exact ih h j

variable {k c : Nat}

@[simp] theorem updHap_channels (k f) (d : Dev) : (updHap k f d).haptic.channels = modifyAt f k d.haptic.channels := rfl

theorem hapOf_updHap_self (f : Haptic → Haptic) (h : k < d.haptic.channels.length) :
    hapOf (updHap k f d) k = f (hapOf d k) := nthD_modifyAt_self _ f h

theorem hapOf_updHap_keeps {β : Type} (p : Haptic → β) {f : Haptic → Haptic} (h : ∀ x, p (f x) = p x) :
    p (hapOf (updHap c f d) k) = p (hapOf d k) := nthD_modifyAt_keeps _ p h c k _

/-- It is enough that the update keeps what is read of its own channel as it stands. -/
theorem hapOf_updHap_keeps_at {β : Type} (p : Haptic → β) {f : Haptic → Haptic} (h : p (f (hapOf d c)) = p (hapOf d c)) :
    p (hapOf (updHap c f d) k) = p (hapOf d k) := nthD_modifyAt_keeps_at _ p h k

/-- Two updates of a channel are one. -/
theorem updHap_updHap (f g : Haptic → Haptic) (d : Dev) : updHap k f (updHap k g d) = updHap k (fun h => f (g h)) d :=
  congrArg (fun l => { d with haptic := { d.haptic with channels := l } }) (modifyAt_modifyAt f g k d.haptic.channels)

/-- Two updates that agree on the channel as it stands are one. -/
theorem updHap_congr {f g : Haptic → Haptic} (h : f (hapOf d k) = g (hapOf d k)) : updHap k f d = updHap k g d :=
  congrArg (fun l => { d with haptic := { d.haptic with channels := l } }) (modifyAt_congr _ h)

theorem updHap_length (k f) (d : Dev) : (updHap k f d).haptic.channels.length = d.haptic.channels.length :=
  length_modifyAt ..

theorem hapOf_eq_of_haptic {d e : Dev} (h : d.haptic = e.haptic) : hapOf d k = hapOf e k :=
  congrArg (fun x : HapticUnit => nthD Haptic.zero k x.channels) h

@[simp] theorem hapDone_media (k n src cause t d) : (hapDone k n src cause t d).media = d.media := by
  unfold hapDone
  split
  · split <;> rfl
  · rfl

@[simp] theorem hapDone_haptic (k n src cause t d) : (hapDone k n src cause t d).haptic = d.haptic :=
  haptic_eq_of_media (hapDone_media ..)

@[simp] theorem settlePlay_haptic (w v d) : (settlePlay w v d).haptic = d.haptic := by
  unfold settlePlay
  split
  · rfl
  · rw [landingDone_haptic]
    split <;> rfl

/-- An update that the channel already meets changes nothing. -/
theorem updHap_fixed {f : Haptic → Haptic} (h : f (hapOf d k) = hapOf d k) : updHap k f d = d :=
  congrArg (fun l => { d with haptic := { d.haptic with channels := l } })
    (modifyAt_fixed Haptic.zero (l := d.haptic.channels) h)

/-- What becomes of a channel's waiting trigger leaves all else of the channels alone. -/
theorem dropWait_haptic (cause v) (d : Dev) :
    (dropWait k cause v d).haptic = (updHap k (fun h => { h with waiting := none }) d).haptic := by
  unfold dropWait
  split
  next hnone => rw [updHap_fixed (by rw [← hnone])]
  next w _ =>
    dsimp only
    rw [settlePlay_haptic]
    split
    · rfl
    · rw [hapDone_haptic]

theorem hapOf_dropWait (cause v) (h : k < d.haptic.channels.length) :
    hapOf (dropWait k cause v d) k = { hapOf d k with waiting := none } :=
  (hapOf_eq_of_haptic (dropWait_haptic cause v d)).trans (hapOf_updHap_self _ h)

theorem dropWait_length (cause v) (d : Dev) :
    (dropWait k cause v d).haptic.channels.length = d.haptic.channels.length := by
  rw [dropWait_haptic, updHap_length]

/-! ## The planning of a half cycle and the count of its drive time (R364, R376, R378, R380) -/

/-- A channel apart from the plan of its half cycle: peak, factor, amplitude, window of squares and the events of its limits. -/
def Haptic.unplanned (h : Haptic) : Haptic :=
  { h with plannedSq := 0, factor := 0, limited := 0, tripped := false, squares := [], limitAt := [],
           run := h.run.map fun e => { e with amp := 0 } }

/-- What is read of the effect apart from its amplitude is what is read before the plan. -/
theorem run_map_of_unplanned {β : Type} (p : Effect → β) (hp : ∀ e, p { e with amp := 0 } = p e) {x y : Haptic}
    (h : x.unplanned = y.unplanned) : x.run.map p = y.run.map p := by
  have hread : ∀ z : Haptic, z.unplanned.run.map p = z.run.map p := fun z => by
    rw [Haptic.unplanned, Option.map_map]
    exact Option.map_congr fun e _ => hp e
  rw [← hread x, h, hread y]

theorem hapLimitEvent_unplanned (limit v) (d : Dev) :
    (hapOf (hapLimitEvent c limit v d) k).unplanned = (hapOf d k).unplanned := by
  unfold hapLimitEvent
  dsimp only
  split
  · rfl
  · exact hapOf_updHap_keeps Haptic.unplanned fun _ => rfl

theorem planHalf_unplanned (d : Dev) : (hapOf (planHalf c d) k).unplanned = (hapOf d k).unplanned := by
  unfold planHalf
  dsimp only
  split
  · rfl
  next e hrun =>
    rw [apply_ite (fun x => (hapOf x k).unplanned), hapLimitEvent_unplanned, ite_self,
      apply_ite (fun x => (hapOf x k).unplanned), hapLimitEvent_unplanned, ite_self]
    refine (hapOf_updHap_keeps Haptic.unplanned ?_).trans (hapOf_updHap_keeps_at Haptic.unplanned ?_)
    · exact fun _ => rfl
    · simp only [Haptic.unplanned, hrun, Option.map_some]

/-- A channel apart from the count of its drive time. -/
def Haptic.uncounted (h : Haptic) : Haptic :=
  { h with bins := [], contMs := 0, run := h.run.map fun e => { e with driveNs := 0 } }

theorem accountHalf_eq (d : Dev) : accountHalf c d = d ∨ ∃ f, accountHalf c d = updHap c f d := by
  unfold accountHalf
  dsimp only
  split
  · exact Or.inl rfl
  · split
    · exact Or.inl rfl
    · exact Or.inr ⟨_, rfl⟩

@[simp] theorem nowNs_accountHalf (d : Dev) : nowNs (accountHalf c d) = nowNs d := by
  rcases accountHalf_eq d with h | ⟨f, h⟩ <;> rw [h]
  rfl

theorem accountHalf_length (d : Dev) : (accountHalf c d).haptic.channels.length = d.haptic.channels.length := by
  rcases accountHalf_eq d with h | ⟨f, h⟩ <;> rw [h]
  exact updHap_length ..

theorem accountHalf_uncounted (d : Dev) : (hapOf (accountHalf c d) k).uncounted = (hapOf d k).uncounted := by
  unfold accountHalf
  dsimp only
  split
  · rfl
  · split
    · rfl
    · refine hapOf_updHap_keeps Haptic.uncounted fun h => ?_
      cases hrun : h.run <;> simp [Haptic.uncounted, markDrive, hrun]

end Sys2Proof.Machine
end

section
/-! Haptic events (R365 to R368, R371, R375, R377 to R379): the start of a waiting trigger, half cycles and segments, currents
and supplies that give out, the limits and the rest after them, and pin edges. -/

namespace Sys2Proof.Machine

variable {s : State} {k : Nat}

/-! ## Effects and their segments (R366 to R368) -/

theorem exec_hapticEffectStart {v : Nat} {w : HapWait} (hw : (hapOf s.dev k).waiting = some w)
    (hstate : (hapOf s.dev k).state = .idle ∨ (hapOf s.dev k).state = .pause ∨ (hapOf s.dev k).state = .drive) :
    exec (.hapticEffectStart k v) s =
      .next (s.after (startEffect k (updHap k (fun h => { h with hvdd := v }) (accountHalf k s.dev)))) := by
  show execHapticEffectStart k v s = _
  rcases hstate with hstate | hstate | hstate <;> simp [execHapticEffectStart, onDev_eq, hw, hstate]

theorem exec_hapticEffectStart_ignored (v : Nat) (h : (hapOf s.dev k).waiting = none ∨ (hapOf s.dev k).state = .brake) :
    exec (.hapticEffectStart k v) s = .next (s.after s.dev) := by
  show execHapticEffectStart k v s = _
  rcases h with h | h <;> simp [execHapticEffectStart, onDev_eq, h]

/-- A channel as the half cycle that ends leaves it, back-EMF found and no frequency measured (R365). -/
def driven (now : Nat) (m : HapMeasure) (h : Haptic) : Haptic :=
  markDrive (now - m.length) now { h with
    hvdd := m.hvdd, noGaps := 0, trips := if h.tripped then h.trips else 0, tripped := false,
    run := h.run.map fun e => { e with driveNs := e.driveNs + m.length, odLeft := e.odLeft - 1, hcDone := e.hcDone + 1 } }

theorem trackGap_found {d : Dev} {m : HapMeasure} (hbemf : 20 < m.bemf) (hfreq : m.freq = none) :
    trackGap k m d = updHap k (fun h => { h with hvdd := m.hvdd, noGaps := 0 }) d := by
  simp [trackGap, hfreq, Nat.not_le.mpr hbemf]

theorem exec_hapticHalfCycle_driven {m : HapMeasure} {r : Effect} (hk : k < s.dev.haptic.channels.length)
    (hrun : (hapOf s.dev k).run = some r) (hstate : (hapOf s.dev k).state = .drive)
    (hbytime : (r.segments.head?.map (·.halfCycles)).getD 0 = 0) (hbemf : 20 < m.bemf) (hfreq : m.freq = none) :
    exec (.hapticHalfCycle k m) s = .next (s.after (planHalf k (updHap k (driven (nowNs s.dev) m) s.dev))) := by
  have hdriven : updHap k (fun h => markDrive (nowNs s.dev - m.length) (nowNs s.dev) { h with
      trips := if h.tripped then h.trips else 0, tripped := false,
      run := h.run.map fun e => { e with
        driveNs := e.driveNs + m.length, odLeft := e.odLeft - 1,
        hcDone := if h.state == .drive then e.hcDone + 1 else e.hcDone,
        brakes := if h.state == .brake then e.brakes + 1 else e.brakes } }) (trackGap k m s.dev) =
      updHap k (driven (nowNs s.dev) m) s.dev := by
    rw [trackGap_found hbemf hfreq, updHap_updHap]
    exact updHap_congr (by simp [driven, markDrive, hstate])
  have hnow : (hapOf (updHap k (driven (nowNs s.dev) m) s.dev) k).run =
      some { r with driveNs := r.driveNs + m.length, odLeft := r.odLeft - 1, hcDone := r.hcDone + 1 } := by
    rw [hapOf_updHap_self _ hk]
    simp [driven, markDrive, hrun]
  show execHapticHalfCycle k m s = _
  simp only [execHapticHalfCycle, onDev_eq, hrun]
  simp only [hdriven, hnow, hstate, hbytime, bne_self_eq_false, beq_self_eq_true, Bool.false_and, Bool.false_eq_true, if_true,
    if_false]

theorem exec_hapticSegmentEnd_drive {r : Effect} {g : Segment} {q : List Segment} (hrun : (hapOf s.dev k).run = some r)
    (hsegs : r.segments = g :: q) (hdue : r.segStart + g.time ≤ nowNs s.dev) (hstate : (hapOf s.dev k).state = .drive)
    (hdrive : g.drive = true) (hbytime : g.halfCycles = 0) : exec (.hapticSegmentEnd k) s = .next (s.after (planHalf k (
      updHap k (fun h => { h with state := .brake, run := h.run.map fun e => { e with brakes := 0 } })
        (accountHalf k s.dev)))) := by
  show execHapticSegmentEnd k s = _
  simp [execHapticSegmentEnd, onDev_eq, hrun, hsegs, Nat.not_lt.mpr hdue, hstate, hdrive, hbytime]

theorem exec_hapticSegmentEnd_lastPause {r : Effect} {g : Segment} (hrun : (hapOf s.dev k).run = some r)
    (hsegs : r.segments = [g]) (hdue : r.segStart + g.time ≤ nowNs s.dev) (hstate : (hapOf s.dev k).state = .pause)
    (hpause : g.drive = false) : exec (.hapticSegmentEnd k) s = .next (s.after (releaseBridge k 0 .idle s.dev)) := by
  show execHapticSegmentEnd k s = _
  simp [execHapticSegmentEnd, onDev_eq, hrun, hsegs, Nat.not_lt.mpr hdue, hstate, hpause]

/-! ## Currents, supplies and the die (R375, R377, R379) -/

/-- A channel whose half cycle tripped. -/
def trippedChannel (now : Nat) (h : Haptic) : Haptic :=
  { h with tripped := true, trips := h.trips + 1, ocTrips := h.ocTrips + 1, squares := trimSquares now h.squares }

theorem exec_hapticOvercurrent (hstate : (hapOf s.dev k).state = .drive ∨ (hapOf s.dev k).state = .brake)
    (hfirst : (hapOf s.dev k).tripped = false) : exec (.hapticOvercurrent k) s = .next (s.after (
      if 3 ≤ (hapOf s.dev k).trips then faultChannel k 0 (updHap k (trippedChannel (nowNs s.dev)) s.dev)
      else updHap k (trippedChannel (nowNs s.dev)) s.dev)) := by
  show execHapticOvercurrent k s = _
  rcases hstate with hstate | hstate <;> simp [execHapticOvercurrent, onDev_eq, hstate, hfirst] <;> rfl

theorem exec_hapticHardCurrent (hstate : (hapOf s.dev k).state = .drive ∨ (hapOf s.dev k).state = .brake) :
    exec (.hapticHardCurrent k) s = .next (s.after (faultChannel k 1 s.dev)) := by
  show execHapticHardCurrent k s = _
  rcases hstate with hstate | hstate <;> simp [execHapticHardCurrent, onDev_eq, hstate]

theorem exec_hvddLow : exec (.hvddLow k) s = .next (s.after (if s.dev.haptic.lowSupply.testBit k then s.dev else
    supplyLoss [2 * k, 2 * k + 1] 2
      { s.dev with haptic := { s.dev.haptic with lowSupply := setBit s.dev.haptic.lowSupply k true } })) := rfl

theorem exec_feedbackOvertemp : exec .feedbackOvertemp s = .next (s.after (if s.dev.haptic.hot then s.dev else
    supplyLoss (List.range 8) 3 { s.dev with haptic := { s.dev.haptic with hot := true } })) := rfl

/-! ## Limits and rest (R378) -/

/-- The drive time that a limit looks at: the duty of the last 10 s, or continuous drive. -/
def limitedTime (u : Bool) (now : Nat) (h : Haptic) : Nat := if u then dutyMs h now else contMs h now

/-- A channel that a limit stops rests once braking ends. -/
def limitStop (u : Bool) (now : Nat) (h : Haptic) : Haptic :=
  { h with limitStops := h.limitStops + 1, restDuty := u, squares := trimSquares now h.squares,
           run := h.run.map fun e => { e with endCause := some 3 } }

/-- A channel that begins to brake. -/
def braking (h : Haptic) : Haptic := { h with state := .brake, run := h.run.map fun e => { e with brakes := 0 } }

/-- What a limit makes of a device whose channel drives, before the limit's event. -/
def limitStopped (u : Bool) (k : Nat) (d : Dev) : Dev :=
  planHalf k (updHap k braking (dropWait k 3 (some (.noResource, 1)) (updHap k (limitStop u (nowNs d)) d)))

theorem hapOf_limitStopped {d : Dev} (u : Bool) (hk : k < d.haptic.channels.length) :
    (hapOf (limitStopped u k d) k).unplanned =
      (braking { limitStop u (nowNs d) (hapOf d k) with waiting := none }).unplanned := by
  rw [limitStopped, planHalf_unplanned, hapOf_updHap_self, hapOf_dropWait, hapOf_updHap_self]
  · exact hk
  · rwa [updHap_length]
  · rwa [dropWait_length, updHap_length]

/-- A channel that a limit has stopped, whatever its event said. -/
theorem hapOf_limitEvent {d : Dev} {e : Effect} (u : Bool) (v : Nat) (hk : k < d.haptic.channels.length)
    (hrun : (hapOf d k).run = some e) {h : Haptic} (hh : h = hapOf (hapLimitEvent k (b2n u) v (limitStopped u k d)) k) :
    h.state = .brake ∧ h.limitStops = (hapOf d k).limitStops + 1 ∧ h.restDuty = u ∧ h.run.bind (·.endCause) = some 3 ∧
      h.waiting = none := by
  have hstop : h.unplanned = (braking { limitStop u (nowNs d) (hapOf d k) with waiting := none }).unplanned := by
    rw [hh, hapLimitEvent_unplanned, hapOf_limitStopped u hk]
  refine ⟨(congrArg Haptic.state hstop).trans rfl, (congrArg Haptic.limitStops hstop).trans rfl,
    (congrArg Haptic.restDuty hstop).trans rfl, ?_, (congrArg Haptic.waiting hstop).trans rfl⟩
  have hcause := run_map_of_unplanned (·.endCause) (fun _ => rfl) hstop
  simp only [braking, limitStop, hrun, Option.map_some, Option.map_eq_some_iff] at hcause
  obtain ⟨e', hrun', hcause⟩ := hcause
  rw [hrun', Option.bind_some, hcause]

theorem exec_hapticLimit {u : Bool} {r : Effect} (hrun : (hapOf s.dev k).run = some r) (hstate : (hapOf s.dev k).state = .drive)
    (hlimit : (if u then 5000 else 2000) ≤ limitedTime u (nowNs s.dev) (hapOf (accountHalf k s.dev) k)) :
    exec (.hapticLimit k u) s = .next (s.after (hapLimitEvent k (b2n u)
      (limitedTime u (nowNs s.dev) (hapOf (accountHalf k s.dev) k)) (limitStopped u k (accountHalf k s.dev)))) := by
  have hcounted := accountHalf_uncounted (c := k) (k := k) s.dev
  have hdrive : (hapOf (accountHalf k s.dev) k).state = .drive := (congrArg Haptic.state hcounted).trans hstate
  have hruns : (hapOf (accountHalf k s.dev) k).run.isNone = false := by
    have h : ((hapOf (accountHalf k s.dev) k).uncounted.run).isNone = false := by
      rw [hcounted, Haptic.uncounted, hrun]; rfl
    rwa [Haptic.uncounted, Option.isNone_map] at h
  have hnow := nowNs_accountHalf (c := k) s.dev
  rw [← hnow] at hlimit ⊢
  have hreached := Nat.not_lt.mpr hlimit
  unfold limitedTime at hreached
  show execHapticLimit k u s = _
  simp only [execHapticLimit, onDev_eq, hruns, hdrive, hreached, bne_self_eq_false, beq_self_eq_true,
    Bool.false_and, Bool.or_self, decide_false, Bool.false_eq_true, if_false, if_true]
  rfl

theorem exec_hapticRestEnd (hstate : (hapOf s.dev k).state = .rest)
    (hdone : if (hapOf s.dev k).restDuty then dutyMs (hapOf s.dev k) (nowNs s.dev) < 4000
      else (hapOf s.dev k).restAt + ms 100 ≤ nowNs s.dev) :
    exec (.hapticRestEnd k) s = .next (s.after (updHap k (fun h => { h with state := .idle }) s.dev)) := by
  show execHapticRestEnd k s = _
  cases hduty : (hapOf s.dev k).restDuty <;> simp [hduty] at hdone <;>
    simp [execHapticRestEnd, onDev_eq, hstate, hduty, hdone]

/-! ## Pin edges (R371) -/

variable {n : Nat} {up : Bool}

/-- Whether a pin ignores an edge: it is off, waits for the other edge, or is within its guard. -/
def pinIgnores (p : HapPin) (up : Bool) (now : Nat) : Bool :=
  !p.enable || !p.edge.testBit (if up then 0 else 1) || p.lastEdge.any fun t => decide (now < t + ms p.guard)

theorem exec_hapTrigEdge : exec (.hapTrigEdge n up) s = .next (s.after (
    let p := nthD .zero n s.dev.haptic.pins
    if pinIgnores p up (nowNs s.dev) then s.dev else
    silentTrigger p.channel p.effect p.amplitude p.duration 1 none
      { s.dev with haptic := { s.dev.haptic with
        pins := modifyAt (fun p => { p with lastEdge := some (nowNs s.dev) }) n s.dev.haptic.pins } })) := rfl

theorem pinIgnores_eq_false {p : HapPin} {now : Nat} (henable : p.enable = true)
    (hwanted : p.edge.testBit (if up then 0 else 1) = true) (hguard : ∀ t, p.lastEdge = some t → t + ms p.guard ≤ now) :
    pinIgnores p up now = false := by
  have hopen : (p.lastEdge.any fun t => decide (now < t + ms p.guard)) = false := by
    cases hlast : p.lastEdge with
    | none => rfl
    | some t => rw [Option.any_some, decide_eq_false (Nat.not_lt.mpr (hguard t hlast))]
  rw [pinIgnores, henable, hwanted, hopen]
  rfl

theorem pinIgnores_of_guarded {p : HapPin} {now t : Nat} (hlast : p.lastEdge = some t) (hguard : now < t + ms p.guard) :
    pinIgnores p up now = true := by
  rw [pinIgnores, hlast, Option.any_some, decide_eq_true hguard, Bool.or_true]
/-! ## The statement -/

/-- Settles O29: a lemma for each event, each at the state's own device. An event outside its condition changes nothing (log 5);
the operands of measured events and the bins of drive time are logs 75 and 76. -/
theorem hapticEvents : Obligations.HapticEvents := by
  unfold Obligations.HapticEvents
  refine ⟨?start, ?ignored, ?halfCycle, ?segment, ?lastPause, ?tripped, ?fourth, ?hard, ?low, ?lowAlready, ?hot, ?hotAlready,
    ?recover, ?cool, ?limit, ?rest, ?restDuty, ?edge, ?guarded⟩
  case start => rintro s _ k v w rfl hw hstate; exact exec_hapticEffectStart hw hstate
  case ignored => rintro s _ k v rfl h; exact exec_hapticEffectStart_ignored v h
  case halfCycle =>
    rintro s _ k m r rfl hk hrun hstate hbytime hbemf hfreq
    refine ⟨_, exec_hapticHalfCycle_driven hk hrun hstate hbytime hbemf hfreq, ?_⟩
    have hplan := planHalf_unplanned (c := k) (k := k) (updHap k (driven (nowNs s.dev) m) s.dev)
    rw [hapOf_updHap_self _ hk] at hplan
    refine ⟨(congrArg Haptic.hvdd hplan).trans rfl, (congrArg Haptic.noBemf hplan).trans rfl,
      (run_map_of_unplanned _ (fun _ => rfl) hplan).trans ?_, (run_map_of_unplanned _ (fun _ => rfl) hplan).trans ?_,
      (congrArg Haptic.state hplan).trans hstate⟩
    · simp [driven, markDrive, hrun]
    · simp [driven, markDrive, hrun]
  case segment =>
    rintro s _ k r g q rfl hrun hsegs hdue hstate hdrive hbytime
    exact exec_hapticSegmentEnd_drive hrun hsegs hdue hstate hdrive hbytime
  case lastPause =>
    rintro s _ k r g rfl hrun hsegs hdue hstate hpause
    exact exec_hapticSegmentEnd_lastPause hrun hsegs hdue hstate hpause
  case tripped =>
    rintro s _ k rfl hstate hfirst hfew
    rw [exec_hapticOvercurrent hstate hfirst, if_neg (Nat.not_le.mpr hfew)]
    rfl
  case fourth =>
    rintro s _ k rfl hstate hfirst hmany
    rw [exec_hapticOvercurrent hstate hfirst, if_pos hmany]
    rfl
  case hard => rintro s _ k rfl hstate; exact exec_hapticHardCurrent hstate
  case low => rintro s _ k rfl hlow; rw [exec_hvddLow, hlow, if_neg Bool.false_ne_true]
  case lowAlready => rintro s _ k rfl hlow; rw [exec_hvddLow, hlow, if_pos rfl]
  case hot => rintro s _ rfl hhot; rw [exec_feedbackOvertemp, hhot, if_neg Bool.false_ne_true]
  case hotAlready => rintro s _ rfl hhot; rw [exec_feedbackOvertemp, hhot, if_pos rfl]
  case recover => rintro s _ k rfl; rfl
  case cool => rintro s _ rfl; rfl
  case limit =>
    rintro s _ k u r rfl hk hrun hstate hlimit
    have hcounted := accountHalf_uncounted (c := k) (k := k) s.dev
    have hruns : (hapOf (accountHalf k s.dev) k).run.isSome := by
      simpa [Haptic.uncounted, hrun] using congrArg (fun x => x.run.isSome) hcounted
    obtain ⟨e, he⟩ := Option.isSome_iff_exists.mp hruns
    obtain ⟨hbrake, hstops, hfacts⟩ := hapOf_limitEvent u (limitedTime u (nowNs s.dev) (hapOf (accountHalf k s.dev) k))
      (by rwa [accountHalf_length]) he rfl
    refine ⟨_, exec_hapticLimit hrun hstate ?_, hbrake, hstops.trans ?_, hfacts⟩
    · cases u <;> exact hlimit
    · exact congrArg (fun h => h.limitStops + 1) hcounted
  case rest =>
    rintro s _ k rfl hstate hduty hdue
    exact exec_hapticRestEnd hstate (by rw [hduty]; exact hdue)
  case restDuty =>
    rintro s _ k rfl hstate hduty hdone
    exact exec_hapticRestEnd hstate (by rw [hduty]; exact hdone)
  case edge =>
    rintro s _ n up p rfl rfl henable hwanted hguard
    rw [exec_hapTrigEdge, if_neg (by rw [pinIgnores_eq_false henable hwanted hguard]; exact Bool.false_ne_true)]
  case guarded =>
    rintro s _ n up t rfl hlast hguard
    rw [exec_hapTrigEdge, if_pos (pinIgnores_of_guarded hlast hguard)]

end Sys2Proof.Machine
end

section
/-! The last reply that the device has sent (R97): events leave it alone, and a command that completes with OK is told that it
took effect. -/

namespace Sys2Proof.Machine

/-- The last reply sent. -/
def Dev.lastReply (d : Dev) : Option Reply := d.out.reply

@[simp] theorem raise_lastReply (c sub pl pg sec d) : (raise c sub pl pg sec d).lastReply = d.lastReply := rfl
@[simp] theorem updPage_lastReply (k f d) : (updPage k f d).lastReply = d.lastReply := rfl
@[simp] theorem orphanTickets_lastReply (k q d) : (orphanTickets k q d).lastReply = d.lastReply := rfl

@[simp] theorem abandonBorrow_lastReply (d) : (abandonBorrow d).lastReply = d.lastReply := by
  unfold abandonBorrow
  split <;> rfl

@[simp] theorem portAccess_lastReply (r a n d) : (portAccess r a n d).lastReply = d.lastReply := by
  unfold portAccess
  split
  · rfl
  · exact foldl_keeps Dev.lastReply (fun d page => portPass (page % 64) r d) (fun _ _ => rfl) _ _

@[simp] theorem touchPan_lastReply (r a n d) : (touchPan r a n d).lastReply = d.lastReply := by
  unfold touchPan
  dsimp only
  split
  · split <;> simp
  · simp

@[simp] theorem panWordWrite_lastReply (r w b d) : (panWordWrite r w b d).1.lastReply = d.lastReply := by
  unfold panWordWrite
  split <;> rfl

@[simp] theorem panWrite_lastReply (r a b d) : (panWrite r a b d).lastReply = d.lastReply := by
  refine (foldl_keeps Dev.lastReply _ (fun d w => ?_) _ _).trans (touchPan_lastReply ..)
  dsimp only
  split <;> exact panWordWrite_lastReply r w _ d

@[simp] theorem locWrite_lastReply (i pan off b d) : (locWrite d i pan off b).lastReply = d.lastReply := by
  induction b generalizing off d with
  | nil => rfl
  | cons b r ih =>
    unfold locWrite
    split
    · exact ih ..
    · rw [ih]
      split <;> rfl

@[simp] theorem putLoc_lastReply (q i pan off b d) : (putLoc q i pan off b d).lastReply = d.lastReply := by
  unfold putLoc
  split
  · exact locWrite_lastReply ..
  · refine foldl_keeps Dev.lastReply _ (fun d u => ?_) _ d
    split
    · rfl
    · exact panWrite_lastReply ..

@[simp] theorem stopQueue_lastReply (k q w d) : (stopQueue k q w d).lastReply = d.lastReply := by
  unfold stopQueue
  dsimp only
  rw [apply_ite Dev.lastReply, raise_lastReply, ite_self]
  split <;> rfl

@[simp] theorem writeEvent_lastReply (k e d) : (writeEvent k e d).lastReply = d.lastReply := by
  unfold writeEvent
  dsimp only
  split
  · rfl
  · split
    · rfl
    · split <;> simp

@[simp] theorem writeSecureEvent_lastReply (e d) : (writeSecureEvent e d).lastReply = d.lastReply := by
  unfold writeSecureEvent
  dsimp only
  split <;> rfl

@[simp] theorem deliver_lastReply (r d) : (deliver r d).lastReply = d.lastReply := by
  unfold deliver
  dsimp only
  rw [foldl_keeps Dev.lastReply _ fun d k => writeEvent_lastReply k r.event d]
  split
  · exact writeSecureEvent_lastReply ..
  · rfl

@[simp] theorem flushEvents_lastReply (d) : (flushEvents d).lastReply = d.lastReply := by
  show (writeReady d).lastReply = d.lastReply
  unfold writeReady
  split
  · rfl
  · refine foldl_keeps Dev.lastReply _ (fun d r => ?_) _ _
    split
    · rfl
    · exact deliver_lastReply r d

/-- The last reply says that its command took effect. -/
def Dev.saidTook (d : Dev) : Prop := ∃ r, d.lastReply = some r ∧ statusTook r.status = true

theorem finishOne_saidTook (t det res d) : (finishOne t .ok det res d).saidTook := by
  refine ⟨_, rfl, ?_⟩
  dsimp only
  split <;> rfl

theorem settleFences_saidTook (n : Nat) {d : Dev} (h : d.saidTook) : (settleFences n d).saidTook := by
  induction n generalizing d with
  | zero => exact h
  | succ n ih =>
    unfold settleFences
    split
    · exact h
    · exact ih (finishOne_saidTook ..)

theorem finish_saidTook (t det res d) : (finish t .ok det res d).saidTook :=
  settleFences_saidTook _ (finishOne_saidTook t det res d)

/-- The status that a step's last reply reports. -/
def saidStatus : Host.Outcome State Fault Refusal → Option Status
  | .next s => s.dev.lastReply.map Reply.status
  | _ => none

/-- A command that does what its row's landing does is told that it took effect. -/
theorem Does.saidStatus {i : Instr} {t : Ticket} {s : State} {res : List Byte} {L : Dev} (h : Does i t s res L) :
    ∃ st, saidStatus (exec i s) = some st ∧ statusTook st = true := by
  obtain ⟨E, hE, -⟩ := h
  obtain ⟨r, hr, htook⟩ := finish_saidTook t 0 res E
  have hlast : (s.after (finish t .ok 0 res E)).dev.lastReply = some r := (flushEvents_lastReply _).trans hr
  exact ⟨r.status, by rw [hE, Machine.saidStatus, hlast]; rfl, htook⟩

/-! ## A HAPTIC_CHANNEL that disables its channel -/

/-- The manager disables channel 7. -/
def disablesChannel7 : Cmd :=
  mg .hapticChannel [(24, 7), (26, 7), (27, 3), (30, 300), (32, 500), (34, 5500), (36, 1000), (38, 50), (40, 500)]

/-- A trigger waits on channel 7, idle, and names as its transaction the number that the next one takes. -/
def waitsOnNext : Dev :=
  updHap 7 (fun h => { h with
    enabled := true, state := .idle,
    waiting := some { effect := 1, scale := 1, duration := 0, txn := some 1,
                      source := { rank := 0, issuer := none, notify := false, serial := 0 } } }) dev0

/-- Refutes O11: where a trigger waits on the channel, HAPTIC_CHANNEL refuses it as it disables the channel, and the refusal is
the verdict of the transaction that the trigger names. Nothing keeps that from being the command's own, which then replies
NOT_PERMITTED and not OK. -/
theorem not_hapticCommandsLand : ¬ Obligations.HapticCommandsLand := by
  unfold Obligations.HapticCommandsLand
  rintro ⟨hchannel, -⟩
  have hdoes := hchannel disablesChannel7 (on waitsOnNext) _ _ _ (lands_of .hapticChannel _ _ (by decide +kernel))
    (by decide +kernel) (by decide +kernel)
  obtain ⟨st, hst, htook⟩ := hdoes.saidStatus
  have hrefused : saidStatus (exec (.hapticChannel disablesChannel7) (on waitsOnNext)) = some .notPermitted := by
    decide +kernel
  rw [hrefused, Option.some.injEq] at hst
  subst hst
  cases htook

end Sys2Proof.Machine
end

section
/-! The audio island at a block boundary (R386, R398, R400, R405 to R411): what streams, powered-down ports and the end of a
quiesce change of it, and what of it they leave alone. -/

namespace Sys2Proof.Machine

variable {d e : Dev} {cap : Bool} {k j : Nat}

/-! ## Memory accesses leave the island alone -/

@[simp] theorem raiseAt_audio (st c sub pl pg sec d) : (raiseAt st c sub pl pg sec d).audio = d.audio := rfl

@[simp] theorem putLoc_audio (q i pan off b d) : (putLoc q i pan off b d).audio = d.audio :=
  audio_eq_of_media (media_eq_of_quiet (putLoc_quiet ..))

@[simp] theorem readLoc_audio (q i pan off n d) : (readLoc q i pan off n d).1.audio = d.audio := by
  unfold readLoc
  split
  · rfl
  · cases pan
    · rfl
    · dsimp only [if_true]
      rw [apply_ite (fun r : Dev × Except MemFail (List Byte) => r.1.audio), ite_self]
      refine foldl_fst_keeps Dev.audio _ (fun e u => ?_) _ (d, false)
      split
      · rfl
      · exact audio_eq_of_media (media_eq_of_quiet (panScan_quiet ..))

/-! ## What changes one stream alone -/

/-- The audio island differs in one stream alone. -/
def ChangesStream (cap : Bool) (k : Nat) (d e : Dev) : Prop := ∃ f, e.audio = (updStream cap k f d).audio

theorem updStream_changes (f : Stream → Stream) : ChangesStream cap k d (updStream cap k f d) := ⟨f, rfl⟩

theorem ChangesStream.of_audio (h : e.audio = d.audio) : ChangesStream cap k d e := by
  refine ⟨id, h.trans ?_⟩
  have hid : ∀ l : List Stream, modifyAt id k l = l := fun l => modifyAt_fixed Stream.zero rfl
  simp only [updStream, updAudio, hid, ite_self]

theorem ChangesStream.trans {d₁ d₂ d₃ : Dev} (h : ChangesStream cap k d₁ d₂) (h' : ChangesStream cap k d₂ d₃) :
    ChangesStream cap k d₁ d₃ := by
  obtain ⟨f, hf⟩ := h
  obtain ⟨g, hg⟩ := h'
  refine ⟨fun s => g (f s), hg.trans ?_⟩
  simp only [updStream, updAudio] at hf ⊢
  rw [hf]
  cases cap
  · simp only [Bool.false_eq_true, if_false, modifyAt_modifyAt]
  · simp only [if_true, modifyAt_modifyAt]

theorem stoppedEvent_audio (cause st) (d : Dev) : (stoppedEvent cap k cause st d).audio = d.audio := by
  unfold stoppedEvent
  dsimp only
  split <;> rfl

theorem streamFault_changes (why) (d : Dev) : ChangesStream cap k d (streamFault cap k why d) := by
  unfold streamFault
  split
  · exact .of_audio rfl
  · cases why <;> exact (updStream_changes _).trans (.of_audio (stoppedEvent_audio ..))

theorem xrun_changes (d : Dev) : ChangesStream cap k d (xrun cap k d) := by
  unfold xrun
  dsimp only
  split
  · exact updStream_changes _
  · split
    · exact ((updStream_changes _).trans (updStream_changes _)).trans (.of_audio (raiseAt_audio ..))
    · exact updStream_changes _

theorem advance_changes (n) (d : Dev) : ChangesStream cap k d (advance cap k n d) := by
  unfold advance
  dsimp only
  split
  · exact streamFault_changes ..
  · split
    · exact (ChangesStream.of_audio (putLoc_audio ..)).trans (updStream_changes _)
    · split
      · exact ((ChangesStream.of_audio (putLoc_audio ..)).trans (updStream_changes _)).trans (.of_audio (raiseAt_audio ..))
      · exact (ChangesStream.of_audio (putLoc_audio ..)).trans (updStream_changes _)

theorem applPos_audio (s : Stream) (d : Dev) : (applPos s d).1.audio = d.audio := by
  have h := readLoc_audio 5 (streamIssuer s) s.pan s.ctlOff 8 d
  unfold applPos
  split <;> next heq => rw [heq] at h; exact h

theorem readPieces_audio (s : Stream) (l) (d : Dev) : (readPieces s l d).1.audio = d.audio := by
  induction l generalizing d with
  | nil => rfl
  | cons p r ih =>
    obtain ⟨o, n⟩ := p
    have h := readLoc_audio 5 (streamIssuer s) s.pan o (n * s.channels * sampleBytes s.format) d
    unfold readPieces
    split
    next heq => rw [heq] at h; exact h
    next d' b heq =>
      rw [heq] at h
      have h' := ih d'
      split <;> next heq' => rw [heq'] at h'; exact h'.trans h

theorem writePieces_audio (s : Stream) (l b) (d : Dev) : (writePieces s l b d).1.audio = d.audio := by
  induction l generalizing b d with
  | nil => rfl
  | cons p r ih =>
    obtain ⟨o, n⟩ := p
    unfold writePieces
    dsimp only
    split
    · rfl
    · exact (ih ..).trans (putLoc_audio ..)

theorem fetchStream_changes (n) (d : Dev) : ChangesStream false k d (fetchStream k n d) := by
  have happl := applPos_audio (streamOf d.audio false k) d
  unfold fetchStream
  dsimp only
  split
  next heq => rw [heq] at happl; exact (ChangesStream.of_audio happl).trans (streamFault_changes ..)
  next d' ap heq =>
    rw [heq] at happl
    split
    · exact ((ChangesStream.of_audio happl).trans (updStream_changes _)).trans (xrun_changes _)
    · have hread := readPieces_audio (streamOf d.audio false k)
        (ringPieces (streamOf d.audio false k) (streamOf d.audio false k).hwPos.toNat n) d'
      split
      next heq' =>
        rw [heq'] at hread
        exact (ChangesStream.of_audio (hread.trans happl)).trans (streamFault_changes ..)
      next heq' =>
        rw [heq'] at hread
        exact ((ChangesStream.of_audio (hread.trans happl)).trans (updStream_changes _)).trans (advance_changes ..)

theorem playBoundary_changes (d : Dev) : ChangesStream false k d (playBoundary k d) := by
  unfold playBoundary
  dsimp only
  split
  · exact (updStream_changes _).trans (fetchStream_changes ..)
  · exact updStream_changes _

/-- The bytes of a block as a capture stream writes it. -/
def captured (s : Stream) (blocks : List Block) : List Byte :=
  (List.range 48).flatMap fun i => (List.range s.channels).flatMap fun c =>
    streamOut s.format (sampleAt (nthD [] c blocks) i)

theorem captureBoundary_changes (blocks) (d : Dev) : ChangesStream true k d (captureBoundary k blocks d) := by
  have happl := applPos_audio (streamOf d.audio true k) d
  unfold captureBoundary
  dsimp only
  split
  · exact .of_audio rfl
  · split
    next heq => rw [heq] at happl; exact (ChangesStream.of_audio happl).trans (streamFault_changes ..)
    next d' ap heq =>
      rw [heq] at happl
      split
      · exact (ChangesStream.of_audio happl).trans (xrun_changes _)
      · have hwrite := writePieces_audio (streamOf d.audio true k)
          (ringPieces (streamOf d.audio true k) (streamOf d.audio true k).hwPos.toNat 48)
          (captured (streamOf d.audio true k) blocks) d'
        unfold captured at hwrite
        split
        next heq' =>
          rw [heq'] at hwrite
          exact (ChangesStream.of_audio (hwrite.trans happl)).trans (streamFault_changes ..)
        next heq' =>
          rw [heq'] at hwrite
          exact (ChangesStream.of_audio (hwrite.trans happl)).trans (advance_changes ..)

/-! ## What it leaves alone -/

theorem nthD_modifyAt_ne {α : Type} (z : α) (f : α → α) {i j : Nat} (l : List α) (h : i ≠ j) :
    nthD z j (modifyAt f i l) = nthD z j l := by
  induction l generalizing i j with
  | nil => cases i <;> rfl
  | cons a l ih =>
    cases i with
    | zero =>
      cases j with
      | zero => exact absurd rfl h
      | succ j => rfl
    | succ i =>
      cases j with
      | zero => rfl
      | succ j => exact ih fun hij => h (congrArg (· + 1) hij)

theorem map_modifyAt_keeps {α β : Type} (g : α → β) {f : α → α} (h : ∀ x, g (f x) = g x) (i : Nat) (l : List α) :
    (modifyAt f i l).map g = l.map g := by
  induction l generalizing i with
  | nil => cases i <;> rfl
  | cons a l ih =>
    cases i with
    | zero => exact congrArg (· :: l.map g) (h a)
    | succ i => exact congrArg (g a :: ·) (ih i)

theorem ChangesStream.other_list {c : Bool} (h : ChangesStream cap k d e) (hc : cap ≠ c) :
    streamOf e.audio c j = streamOf d.audio c j := by
  obtain ⟨f, hf⟩ := h
  rw [hf]
  cases cap with
  | false => cases c with
    | false => exact absurd rfl hc
    | true => rfl
  | true => cases c with
    | false => rfl
    | true => exact absurd rfl hc

theorem ChangesStream.other (h : ChangesStream cap k d e) (hj : k ≠ j) : streamOf e.audio cap j = streamOf d.audio cap j := by
  obtain ⟨f, hf⟩ := h
  rw [hf]
  cases cap <;> exact nthD_modifyAt_ne _ f _ hj

/-- A bus apart from its count of inputs and the scale that follows it. -/
def Bus.unscaled (b : Bus) : Bus :=
  { b with n := 0, idle := false, idleBlocks := 0, scaleFrom := 0, scaleTo := 0, scaleRamp := none }

/-- A port that is not powered down. -/
def Tdm.woken (x : Tdm) : Tdm := { x with off := false }

/-- The audio island apart from its streams, the counts of its buses and which ports are powered down. -/
def Audio.settled (a : Audio) : Audio :=
  { a with playback := [], capture := [], dp := [], buses := a.buses.map Bus.unscaled,
           tdm := a.tdm.map Tdm.woken }

theorem ChangesStream.settled (h : ChangesStream cap k d e) : e.audio.settled = d.audio.settled := by
  obtain ⟨f, hf⟩ := h
  rw [hf]
  cases cap <;> rfl

/-! ## The end of a block: streams, buses and ports -/

/-- A stream that sounds the block it has fetched. -/
def Stream.moved (s : Stream) : Stream := { s with current := s.next, next := [] }

/-- A playback stream that runs, sounds or has a block fetched moves on. -/
def playStep (d : Dev) (k : Nat) : Dev :=
  let s := streamOf d.audio false k
  if s.running || !s.current.isEmpty || !s.next.isEmpty then playBoundary k d else d

/-- Streams fetch and write. -/
def streamsMoved (caps : List (List Block)) (d : Dev) : Dev :=
  (List.range 16).foldl (fun d k => captureBoundary k (nthD [] k caps) d) ((List.range 64).foldl playStep d)

/-- The inputs of the buses are counted for the next block. -/
def busesCounted (a : Audio) : Audio := { a with buses := a.buses.zipIdx.map fun (b, k) => nextBus a k b }

/-- What a block boundary does once changes have landed. -/
def blockEnd (caps : List (List Block)) (d : Dev) : Dev := wakePorts (updAudio busesCounted (streamsMoved caps d))

variable {caps : List (List Block)}

theorem playStep_changes (d : Dev) (k) : ChangesStream false k d (playStep d k) := by
  unfold playStep
  dsimp only
  split
  · exact playBoundary_changes d
  · exact .of_audio rfl

theorem streamsMoved_settled (d : Dev) : (streamsMoved caps d).audio.settled = d.audio.settled :=
  (foldl_keeps (·.audio.settled) _ (fun d _ => (captureBoundary_changes _ d).settled) _ _).trans
    (foldl_keeps (·.audio.settled) _ (fun d k => (playStep_changes d k).settled) _ d)

theorem nextBus_unscaled (a : Audio) (k : Nat) (b : Bus) : (nextBus a k b).unscaled = b.unscaled := by
  have hscale : ∀ q : Rat, (if q = b.scaleTo then b else
      { b with scaleFrom := scaleAt b 0, scaleTo := q, scaleRamp := some { skip := 0, done := 0 } }).unscaled = b.unscaled :=
    fun q => by split <;> rfl
  exact hscale _

theorem map_zipIdx_keeps {α β : Type} (g : α → β) (f : Nat → α → α) (h : ∀ k x, g (f k x) = g x) (l : List α) :
    (l.zipIdx.map fun (x, k) => f k x).map g = l.map g := by
  rw [List.map_map]
  calc l.zipIdx.map (g ∘ fun (x, k) => f k x) = l.zipIdx.map (g ∘ Prod.fst) := List.map_congr_left fun p _ => h p.2 p.1
    _ = l.map g := by rw [← List.map_map, List.zipIdx_map_fst]

theorem busesCounted_settled (a : Audio) : (busesCounted a).settled = a.settled :=
  congrArg (fun l => { a.settled with buses := l }) (map_zipIdx_keeps Bus.unscaled _ (fun k b => nextBus_unscaled a k b) _)

/-- Ports that wake are no longer powered down, and nothing else of the island changes. -/
theorem wakePorts_keeps {β : Type} (p : Audio → β)
    (htdm : ∀ a i, p { a with tdm := modifyAt (fun x => { x with off := false }) i a.tdm } = p a)
    (hdp : ∀ a i, p { a with dp := modifyAt (fun x => { x with off := false }) i a.dp } = p a) (d : Dev) :
    p (wakePorts d).audio = p d.audio := by
  refine (foldl_keeps (fun d => p d.audio) _ (fun d o => ?_) _ _).trans (foldl_keeps (fun d => p d.audio) _ (fun d o => ?_) _ d)
  · dsimp only
    split
    · exact hdp ..
    · rfl
  · dsimp only
    split
    · exact htdm ..
    · rfl

theorem blockEnd_settled (d : Dev) : (blockEnd caps d).audio.settled = d.audio.settled := by
  refine (wakePorts_keeps Audio.settled ?_ (fun _ _ => rfl) _).trans (Eq.trans (b := (streamsMoved caps d).audio.settled) ?_
    (streamsMoved_settled d))
  · intro a i
    exact congrArg (fun l => { a.settled with tdm := l })
      (map_modifyAt_keeps Tdm.woken (f := Tdm.woken) (fun _ => rfl) i a.tdm)
  · exact busesCounted_settled _

theorem streamOf_busesCounted (a : Audio) : streamOf (busesCounted a) cap k = streamOf a cap k := rfl

theorem blockEnd_stream (d : Dev) : streamOf (blockEnd caps d).audio cap k = streamOf (streamsMoved caps d).audio cap k :=
  (wakePorts_keeps (fun a => streamOf a cap k) (fun _ _ => rfl) (fun _ _ => rfl) _).trans (streamOf_busesCounted _)

theorem streamOf_updStream_keeps {β : Type} (p : Stream → β) (f : Stream → Stream) (h : ∀ x, p (f x) = p x) :
    p (streamOf (updStream cap j f d).audio cap k) = p (streamOf d.audio cap k) := by
  cases cap <;> exact nthD_modifyAt_keeps _ p h j k _

/-- A stream that has stopped sounds the block that it has fetched, and fetches no more. -/
theorem playBoundary_stopped (h : (streamOf d.audio false k).running = false) :
    playBoundary k d = updStream false k Stream.moved d := by
  have hrun : (streamOf (updStream false k Stream.moved d).audio false k).running =
      false := (streamOf_updStream_keeps Stream.running Stream.moved fun _ => rfl).trans h
  exact if_neg (ne_true_of_eq_false hrun)

theorem streamsMoved_keeps (p : Dev → Prop) (hplay : ∀ d j, p d → p (playStep d j))
    (hcap : ∀ d j blocks, p d → p (captureBoundary j blocks d)) (h : p d) : p (streamsMoved caps d) := by
  have hfold : ∀ (f : Dev → Nat → Dev) (l : List Nat), (∀ d j, p d → p (f d j)) → ∀ d, p d → p (l.foldl f d) := by
    intro f l hf
    induction l with
    | nil => exact fun d h => h
    | cons j l ih => exact fun d h => ih _ (hf d j h)
  exact hfold _ _ (fun d j => hcap d j _) _ (hfold _ _ hplay d h)

/-- A stream that has stopped stays so. -/
theorem blockEnd_stopped (h : (streamOf d.audio cap k).running = false) :
    (streamOf (blockEnd caps d).audio cap k).running = false := by
  rw [blockEnd_stream]
  refine streamsMoved_keeps (fun d => (streamOf d.audio cap k).running = false) (fun d j hd => ?play) (fun d j blocks hd => ?cap) h
  case play =>
    cases cap with
    | true => rwa [(playStep_changes d j).other_list Bool.false_ne_true]
    | false =>
      by_cases hj : j = k
      · subst hj
        unfold playStep
        dsimp only
        split
        · rw [playBoundary_stopped hd]
          exact (streamOf_updStream_keeps Stream.running Stream.moved fun _ => rfl).trans hd
        · exact hd
      · rwa [(playStep_changes d j).other hj]
  case cap =>
    cases cap with
    | false => rwa [(captureBoundary_changes blocks d).other_list Bool.false_ne_true.symm]
    | true =>
      by_cases hj : j = k
      · subst hj
        simp only [captureBoundary, hd, Bool.not_false, if_true]
      · rwa [(captureBoundary_changes blocks d).other hj]

/-- A playback stream that has stopped, and neither sounds nor has a block fetched, stays as it is. -/
theorem blockEnd_idle (hrun : (streamOf d.audio false k).running = false) (hcurrent : (streamOf d.audio false k).current = [])
    (hnext : (streamOf d.audio false k).next = []) :
    streamOf (blockEnd caps d).audio false k = streamOf d.audio false k := by
  rw [blockEnd_stream]
  refine streamsMoved_keeps (fun e => streamOf e.audio false k = streamOf d.audio false k) (fun e j he => ?play)
    (fun e j blocks he => ?cap) rfl
  case play =>
    by_cases hj : j = k
    · subst hj
      simp [playStep, he, hrun, hcurrent, hnext]
    · rwa [(playStep_changes e j).other hj]
  case cap => rwa [(captureBoundary_changes blocks e).other_list Bool.false_ne_true.symm]

end Sys2Proof.Machine

end

section
/-! The block that ends (R386, R393, R398 to R400): it is mixed and counted, and the changes that waited land. -/

namespace Sys2Proof.Machine

variable {s : State} {d : Dev}

/-- An island whose block has been mixed, its waiting changes still to land: what those look at is as it was, and a destination
without a fade is still without one. -/
structure Audio.Awaits (a b : Audio) : Prop where
  waiting : b.waiting = a.waiting
  calm : ∀ x, dstBusy a x = false → dstBusy b x = false
  latches : b.playback.map Stream.latchHi = a.playback.map Stream.latchHi
  capture : b.capture.length = a.capture.length
  buses : b.buses.length = a.buses.length
  tones : b.tones.length = a.tones.length
  sides : b.sides.length = a.sides.length
  tdm : b.tdm.length = a.tdm.length
  meters : b.meters.length = a.meters.length

theorem Audio.Awaits.trans {a b c : Audio} (h : a.Awaits b) (h' : b.Awaits c) : a.Awaits c where
  waiting := h'.waiting.trans h.waiting
  calm x hx := h'.calm x (h.calm x hx)
  latches := h'.latches.trans h.latches
  capture := h'.capture.trans h.capture
  buses := h'.buses.trans h.buses
  tones := h'.tones.trans h.tones
  sides := h'.sides.trans h.sides
  tdm := h'.tdm.trans h.tdm
  meters := h'.meters.trans h.meters

theorem rampNext_isSome {n : Nat} {r : Option Ramp} (h : (rampNext n r).isSome) : r.isSome := by
  cases r with
  | none => exact h
  | some r => rfl

theorem nthD_map {α β : Type} (g : α → β) (z : α) (k : Nat) (l : List α) : nthD (g z) k (l.map g) = g (nthD z k l) := by
  induction l generalizing k with
  | nil => cases k <;> rfl
  | cons a l ih =>
    cases k with
    | zero => rfl
    | succ k => exact ih k

/-- A destination's fades, route by route, side-tone by side-tone, and its bus's. -/
theorem dstBusy_eq_false_iff {a : Audio} {x : Nat} : dstBusy a x = false ↔
    (∀ r ∈ a.routes, r.dst = x → r.fadeIn = none ∧ r.ramp = none ∧ (r.fadeOut.isSome → r.seized = true)) ∧
    (∀ s ∈ a.sides, s.dst = x → s.fadeIn = none ∧ s.fadeOut = none ∧ s.ramp = none) ∧
    (x / 4096 = 5 → nthD none (x % 4096) (a.buses.map Bus.gainRamp) = none) := by
  have hbus : nthD none (x % 4096) (a.buses.map Bus.gainRamp) = (nthD Bus.zero (x % 4096) a.buses).gainRamp :=
    nthD_map Bus.gainRamp Bus.zero ..
  simp [dstBusy, hbus, and_assoc]

theorem advanceRamps_calm {a : Audio} (gap raw src) {x : Nat} (h : dstBusy a x = false) :
    dstBusy (advanceRamps gap raw src a) x = false := by
  obtain ⟨hroutes, hsides, hbus⟩ := dstBusy_eq_false_iff.mp h
  refine dstBusy_eq_false_iff.mpr ⟨fun r hr hdst => ?_, fun t ht hdst => ?_, fun hx => ?_⟩
  · simp only [advanceRamps, List.mem_filterMap] at hr
    obtain ⟨r₀, hr₀, heq⟩ := hr
    split at heq
    · cases heq
    · cases heq
      obtain ⟨hin, hramp, hout⟩ := hroutes r₀ hr₀ hdst
      refine ⟨by rw [hin]; rfl, by rw [hramp]; rfl, fun hsome => hout ?_⟩
      dsimp only at hsome
      split at hsome
      · exact hsome
      · exact rampNext_isSome hsome
  · simp only [advanceRamps, List.mem_map] at ht
    obtain ⟨t₀, ht₀, rfl⟩ := ht
    obtain ⟨hin, hout, hramp⟩ := hsides t₀ ht₀ hdst
    exact ⟨by rw [hin]; rfl, by rw [hout]; rfl, by rw [hramp]; rfl⟩
  · have hramps : (advanceRamps gap raw src a).buses.map Bus.gainRamp = (a.buses.map Bus.gainRamp).map (rampNext 64) := by
      simp [advanceRamps, Function.comp_def]
    rw [hramps]
    exact (nthD_map (rampNext 64) none ..).trans (by rw [hbus hx]; rfl)

theorem advanceRamps_awaits (gap raw src) (a : Audio) : a.Awaits (advanceRamps gap raw src a) where
  waiting := rfl
  calm _ := advanceRamps_calm gap raw src
  latches := by simp [advanceRamps, Function.comp_def]
  capture := rfl
  buses := List.length_map ..
  tones := List.length_map ..
  sides := List.length_map ..
  tdm := List.length_map ..
  meters := rfl

/-- What counts of the block that ends does not stand in the way of a change that waits. -/
theorem Audio.Awaits.of_eq {a b : Audio} (hwaiting : b.waiting = a.waiting) (hroutes : b.routes = a.routes)
    (hsides : b.sides = a.sides) (hplayback : b.playback.map Stream.latchHi = a.playback.map Stream.latchHi)
    (hcapture : b.capture.length = a.capture.length) (htones : b.tones.length = a.tones.length)
    (hbuses : b.buses.map Bus.gainRamp = a.buses.map Bus.gainRamp)
    (htdm : b.tdm.length = a.tdm.length) (hmeters : b.meters.length = a.meters.length) : a.Awaits b where
  waiting := hwaiting
  calm x hx := by
    rw [dstBusy_eq_false_iff] at hx ⊢
    rwa [hroutes, hsides, hbuses]
  latches := hplayback
  capture := hcapture
  buses := by simpa only [List.length_map] using congrArg List.length hbuses
  tones := htones
  sides := congrArg List.length hsides
  tdm := htdm
  meters := hmeters

/-- The signal of every sink channel in use in the block that ends. -/
def sinkBlocks (a : Audio) (i : List (Nat × List U32)) : Tab Block :=
  (usedSinks a).foldl (fun t c => tput [] t c (sinkSignal a (portInputs a i) (gatherSources a (portInputs a i))
    ((usedSinks a).foldl (fun t c => tput [] t c (sinkBlock a ((List.range 32).map (busBlock a)) a.inputs c)) []) c)) []

theorem exec_audioBlockBoundary {i : List (Nat × List U32)} (hon : audioOn s.dev = true)
    (hnew : s.dev.audio.lastBlock ≠ some (blockNs s.dev)) : ∃ a caps n,
      exec (.audioBlockBoundary i) s = .next (s.after (
        if !(domainOn s.dev 10 && islandOn s.dev 11) then { s.dev with free := n, audio := a }
        else blockEnd caps (landWaiting (endQuiesce { s.dev with free := n, audio := a })))) ∧
      s.dev.audio.Awaits a ∧
      a.blocks = s.dev.audio.blocks + 1 ∧ a.lastBlock = some (blockNs s.dev) ∧ a.sinks = sinkBlocks s.dev.audio i := by
  have hgoes : ¬ (!audioOn s.dev || s.dev.audio.lastBlock == some (blockNs s.dev)) = true := by
    simp [hon, hnew]
  have hexec : exec (.audioBlockBoundary i) s = execAudioBlockBoundary i s := rfl
  rw [hexec]
  unfold execAudioBlockBoundary
  rw [onDev_eq, if_neg hgoes]
  refine ⟨_, _, _, rfl, (advanceRamps_awaits (Config.freeNat s.dev.free % 3) (portInputs s.dev.audio i)
    (gatherSources s.dev.audio (portInputs s.dev.audio i)) s.dev.audio).trans ?_, rfl, rfl, rfl⟩
  refine .of_eq rfl rfl rfl rfl rfl rfl ?_ ?_ (List.length_map ..)
  · exact map_zipIdx_keeps Bus.gainRamp
      (fun k b => { b with out := nthD [] k ((List.range 32).map (busBlock s.dev.audio)) }) (fun _ _ => rfl) _
  · exact (List.length_map ..).trans (List.length_zipIdx ..)

/-! ## The end of a quiesce (R411) -/

theorem stopStream_awaits (cap : Bool) (k cause st : Nat) (f : Stream → Stream) (hf : ∀ x, (f x).latchHi = x.latchHi) (d : Dev) :
    d.audio.Awaits (stoppedEvent cap k cause st (updStream cap k f d)).audio := by
  rw [stoppedEvent_audio]
  cases cap with
  | false => exact .of_eq rfl rfl rfl (map_modifyAt_keeps Stream.latchHi hf k _) rfl rfl rfl rfl rfl
  | true => exact .of_eq rfl rfl rfl rfl (length_modifyAt ..) rfl rfl rfl rfl

theorem foldl_awaits {α : Type} (f : Dev → α → Dev) (h : ∀ (d : Dev) x, d.audio.Awaits (f d x).audio) (l : List α) (d : Dev) :
    d.audio.Awaits (l.foldl f d).audio := by
  induction l generalizing d with
  | nil => exact .of_eq rfl rfl rfl rfl rfl rfl rfl rfl rfl
  | cons x l ih => exact (h d x).trans (ih _)

/-- A playback stream whose quiesce ramp has ended stops. -/
def endPlayback (d : Dev) (k : Nat) : Dev :=
  if rampOver (streamOf d.audio false k).quiesce then
    stoppedEvent false k 2 0 (updStream false k (fun s => { s with running := false, quiesce := none, current := [], next := [] }) d)
  else d

/-- A capture stream that is to quiesce stops. -/
def endCapture (d : Dev) (k : Nat) : Dev :=
  if (streamOf d.audio true k).running && (streamOf d.audio true k).quiesce.isSome then
    stoppedEvent true k 2 0 (updStream true k (fun s => { s with running := false, quiesce := none }) d)
  else d

/-- Tone generators whose quiesce ramp has ended stop. -/
def endTones (a : Audio) : Audio :=
  { a with tones := a.tones.map fun t => if rampOver t.quiesce then { t with on := false, quiesce := none } else t }

theorem endQuiesce_eq (d : Dev) : endQuiesce d =
    updAudio endTones ((List.range 16).foldl endCapture ((List.range 64).foldl endPlayback d)) := rfl

theorem endTones_awaits (a : Audio) : a.Awaits (endTones a) :=
  .of_eq rfl rfl rfl rfl rfl (List.length_map ..) rfl rfl rfl

theorem endPlayback_awaits (d : Dev) (k : Nat) : d.audio.Awaits (endPlayback d k).audio := by
  unfold endPlayback
  split
  · refine stopStream_awaits _ _ _ _ _ ?_ d
    exact fun _ => rfl
  · exact .of_eq rfl rfl rfl rfl rfl rfl rfl rfl rfl

theorem endCapture_awaits (d : Dev) (k : Nat) : d.audio.Awaits (endCapture d k).audio := by
  unfold endCapture
  split
  · refine stopStream_awaits _ _ _ _ _ ?_ d
    exact fun _ => rfl
  · exact .of_eq rfl rfl rfl rfl rfl rfl rfl rfl rfl

theorem endQuiesce_awaits (d : Dev) : d.audio.Awaits (endQuiesce d).audio := by
  rw [endQuiesce_eq]
  generalize hplay : (List.range 64).foldl endPlayback d = e
  have he : d.audio.Awaits e.audio := hplay ▸ foldl_awaits _ endPlayback_awaits _ d
  exact (he.trans (foldl_awaits _ endCapture_awaits _ e)).trans (endTones_awaits _)

end Sys2Proof.Machine

end

section
/-! Changes that land at a block boundary (R398 to R400, R410, R416, R420): what each makes of the island, and what of it the end
of the block keeps. -/

namespace Sys2Proof.Machine

variable {s : State} {d : Dev} {w : AudioWait} {k : Nat}

/-! ## What the end of a block keeps -/

section Kept

variable {β : Type} {a b : Audio}

theorem bus_of_settled (g : Bus → β) (hg : ∀ x, g x.unscaled = g x) (h : a.settled = b.settled) (k : Nat) :
    g (nthD Bus.zero k a.buses) = g (nthD Bus.zero k b.buses) := by
  have hmap : ∀ c : Audio, c.settled.buses.map g = c.buses.map g := fun c => by
    rw [Audio.settled, List.map_map]
    exact List.map_congr_left fun x _ => hg x
  rw [← nthD_map g Bus.zero, ← nthD_map g Bus.zero, ← hmap a, h, hmap b]

theorem port_of_settled (g : Tdm → β) (hg : ∀ x, g x.woken = g x) (h : a.settled = b.settled) (k : Nat) :
    g (nthD Tdm.zero k a.tdm) = g (nthD Tdm.zero k b.tdm) := by
  have hmap : ∀ c : Audio, c.settled.tdm.map g = c.tdm.map g := fun c => by
    rw [Audio.settled, List.map_map]
    exact List.map_congr_left fun x _ => hg x
  rw [← nthD_map g Tdm.zero, ← nthD_map g Tdm.zero, ← hmap a, h, hmap b]

theorem field_of_settled (p : Audio → β) (hp : ∀ c : Audio, p c.settled = p c) (h : a.settled = b.settled) : p a = p b :=
  (hp a).symm.trans ((congrArg p h).trans (hp b))

/-- The block just sent: its signals, its instant and the count of blocks. -/
def Audio.lastSent (a : Audio) : Tab Block × Option Nat × Nat := (a.sinks, a.lastBlock, a.blocks)

theorem lastSent_of_settled (h : a.settled = b.settled) : a.lastSent = b.lastSent :=
  field_of_settled Audio.lastSent (fun _ => rfl) h

end Kept

theorem ChangesStream.lastSent {cap : Bool} {e : Dev} (h : ChangesStream cap k d e) : e.audio.lastSent = d.audio.lastSent :=
  lastSent_of_settled h.settled

theorem endPlayback_lastSent (d : Dev) (k : Nat) : (endPlayback d k).audio.lastSent = d.audio.lastSent := by
  unfold endPlayback
  split
  · exact (congrArg Audio.lastSent (stoppedEvent_audio _ _ (updStream ..))).trans rfl
  · rfl

theorem endCapture_lastSent (d : Dev) (k : Nat) : (endCapture d k).audio.lastSent = d.audio.lastSent := by
  unfold endCapture
  split
  · exact (congrArg Audio.lastSent (stoppedEvent_audio _ _ (updStream ..))).trans rfl
  · rfl

theorem endTones_lastSent (a : Audio) : (endTones a).lastSent = a.lastSent := rfl

theorem endQuiesce_lastSent (d : Dev) : (endQuiesce d).audio.lastSent = d.audio.lastSent := by
  rw [endQuiesce_eq]
  exact (endTones_lastSent _).trans ((foldl_keeps (·.audio.lastSent) endCapture endCapture_lastSent _ _).trans
    (foldl_keeps (·.audio.lastSent) endPlayback endPlayback_lastSent _ d))

/-! ## Landings -/

theorem refreshAll_audio (d : Dev) : (refreshAll d).audio = d.audio := 
  foldl_keeps Dev.audio (fun d o => refreshDpAudio o d) (fun _ _ => rfl) _ d

theorem landStream_lastSent (skip : Nat) (d : Dev) : (landStream w skip d).audio.lastSent = d.audio.lastSent := by
  unfold landStream
  dsimp only
  generalize w.cmd.bit 26 0 = cap
  split
  · exact (updStream_changes _).lastSent
  · split
    · rfl
    · cases cap with
      | true => exact (updStream_changes _).lastSent
      | false =>
        rw [Bool.false_or]
        split
        · exact (updStream_changes _).lastSent
        · exact ((updStream_changes _).trans (fetchStream_changes _ _)).lastSent
  · exact (updStream_changes _).lastSent
  · exact (updStream_changes _).lastSent

theorem landRoute_lastSent (ow src dst gain skip) (a : Audio) : (landRoute ow src dst gain skip a).2.lastSent = a.lastSent := by
  unfold landRoute
  split
  · rfl
  · dsimp only
    split <;> rfl

theorem landPort_lastSent (c : Cmd) (skip : Nat) (d : Dev) : (landPort c skip d).audio.lastSent = d.audio.lastSent := by
  unfold landPort
  dsimp only
  split
  · rfl
  · split
    · rfl
    · rfl
    · rfl
    · have hgrants : ∀ (a : Audio) g, ({ a with grants := g } : Audio).lastSent = a.lastSent := fun _ _ => rfl
      dsimp only [updAudio]
      generalize (if c.bit 30 0 = true then none else some (c.u16 28) : Option Nat) = holder
      refine (hgrants _ _).trans ?_
      split
      · rfl
      · split <;> rfl

theorem applyAudio_lastSent (w : AudioWait) (skip : Nat) (d : Dev) :
    (applyAudio w skip d).2.audio.lastSent = d.audio.lastSent := by
  unfold applyAudio
  dsimp only
  split
  · exact landStream_lastSent ..
  · exact (congrArg Audio.lastSent (refreshAll_audio _)).trans (landRoute_lastSent ..)
  · exact (congrArg Audio.lastSent (refreshAll_audio (updAudio _ d))).trans rfl
  · rfl
  · exact landPort_lastSent ..
  all_goals rfl

theorem landedAudio_audio (res) (d : Dev) : (landedAudio w res d).audio = d.audio := by
  unfold landedAudio
  split
  · rfl
  · exact landingDone_audio ..

/-- One change lands, or waits on for its destinations (R400): those kept so far, and the device. -/
def landStep (before : Audio) (acc : List AudioWait × Dev) (w : AudioWait) : List AudioWait × Dev :=
  if (waitDsts w).any fun x => dstBusy before x || acc.1.any fun k => (waitDsts k).contains x then (acc.1 ++ [w], acc.2)
  else (acc.1, landedAudio w (applyAudio w 0 acc.2).1 (applyAudio w 0 acc.2).2)

theorem landWaiting_eq (d : Dev) : landWaiting d =
    updAudio (fun a => { a with waiting := (d.audio.waiting.foldl (landStep d.audio) ([], d)).1 })
      (d.audio.waiting.foldl (landStep d.audio) ([], d)).2 := rfl

theorem landWaiting_lastSent (d : Dev) : (landWaiting d).audio.lastSent = d.audio.lastSent := by
  have hstep : ∀ acc w, (landStep d.audio acc w).2.audio.lastSent = acc.2.audio.lastSent := fun acc w => by
    unfold landStep
    split
    · rfl
    · rw [landedAudio_audio, applyAudio_lastSent]
  rw [landWaiting_eq]
  exact foldl_snd_keeps (·.audio.lastSent) (landStep d.audio) hstep _ ([], d)

/-- One change that waits, to destinations without a fade, lands alone. -/
theorem landWaiting_one (hw : d.audio.waiting = [w]) (hcalm : ∀ x ∈ waitDsts w, dstBusy d.audio x = false) :
    landWaiting d = updAudio (fun a => { a with waiting := [] }) (landedAudio w (applyAudio w 0 d).1 (applyAudio w 0 d).2) := by
  have hstep : landStep d.audio ([], d) w = ([], landedAudio w (applyAudio w 0 d).1 (applyAudio w 0 d).2) := by
    refine if_neg (ne_true_of_eq_false (List.any_eq_false.mpr fun x hx => ?_))
    simp [hcalm x hx]
  rw [landWaiting_eq, hw, List.foldl_cons, List.foldl_nil, hstep]

/-! ## A block boundary -/

/-- What a block boundary sends. -/
theorem exec_audioBlockBoundary_sent {i : List (Nat × List U32)} (hon : audioOn s.dev = true)
    (hnew : s.dev.audio.lastBlock ≠ some (blockNs s.dev)) : ∃ e, exec (.audioBlockBoundary i) s = .next (s.after e) ∧
      e.audio.lastSent = (sinkBlocks s.dev.audio i, some (blockNs s.dev), s.dev.audio.blocks + 1) := by
  obtain ⟨a, caps, n, hexec, -, hblocks, hlast, hsinks⟩ := exec_audioBlockBoundary (i := i) hon hnew
  have ha : a.lastSent = (sinkBlocks s.dev.audio i, some (blockNs s.dev), s.dev.audio.blocks + 1) := by
    rw [Audio.lastSent, hsinks, hlast, hblocks]
  refine ⟨_, hexec, ?_⟩
  split
  · exact ha
  · exact (lastSent_of_settled (blockEnd_settled _)).trans
      ((landWaiting_lastSent _).trans ((endQuiesce_lastSent _).trans ha))

/-- What the end of a block keeps of an island on which every waiting change has landed. -/
structure Audio.Settles (l b : Audio) : Prop where
  waiting : b.waiting = []
  settled : b.settled = ({ l with waiting := [] } : Audio).settled
  stopped : ∀ cap k, (streamOf l cap k).running = false → (streamOf b cap k).running = false
  idle : ∀ k, (streamOf l false k).running = false → (streamOf l false k).current = [] → (streamOf l false k).next = [] →
    streamOf b false k = streamOf l false k

theorem blockEnd_settles {l : Audio} {e : Dev} (caps) (h : e.audio = { l with waiting := [] }) :
    l.Settles (blockEnd caps e).audio where
  waiting := (field_of_settled Audio.waiting (fun _ => rfl) (blockEnd_settled e)).trans (congrArg Audio.waiting h)
  settled := (blockEnd_settled (caps := caps) e).trans (congrArg Audio.settled h)
  stopped cap k hrun := blockEnd_stopped (by rw [h]; exact hrun)
  idle k hrun hcurrent hnext := by
    have hk : streamOf e.audio false k = streamOf l false k := by rw [h]; rfl
    exact (blockEnd_idle (hk ▸ hrun) (hk ▸ hcurrent) (hk ▸ hnext)).trans hk

/-- What a block boundary makes of the one change that waits: the change lands on an island that awaits it, and the block ends. -/
theorem exec_audioBlockBoundary_lands {i : List (Nat × List U32)} (hnew : s.dev.audio.lastBlock ≠ some (blockNs s.dev))
    (hfeed : domainOn s.dev 10 = true) (hisland : islandOn s.dev 11 = true) (hw : s.dev.audio.waiting = [w])
    (hcalm : ∀ x ∈ waitDsts w, dstBusy s.dev.audio x = false) : ∃ d e, s.dev.audio.Awaits d.audio ∧
      exec (.audioBlockBoundary i) s = .next (s.after e) ∧ (applyAudio w 0 d).2.audio.Settles e.audio := by
  have hon : audioOn s.dev = true := by rw [audioOn, hfeed, hisland]; rfl
  obtain ⟨a, caps, n, hexec, hawaits, -⟩ := exec_audioBlockBoundary (i := i) hon hnew
  have hready := hawaits.trans (endQuiesce_awaits { s.dev with free := n, audio := a })
  rw [landWaiting_one (hready.waiting.trans hw) fun x hx => hready.calm x (hcalm x hx), hfeed, hisland] at hexec
  exact ⟨_, _, hready, hexec, blockEnd_settles caps (congrArg (fun a : Audio => { a with waiting := [] }) (landedAudio_audio ..))⟩

/-! ## What each change makes of the island -/

variable {a : Audio}

theorem Audio.Awaits.playback_length {b : Audio} (h : a.Awaits b) : b.playback.length = a.playback.length := by
  simpa only [List.length_map] using congrArg List.length h.latches

theorem Audio.Awaits.latchHi {b : Audio} (h : a.Awaits b) (k : Nat) :
    (streamOf b false k).latchHi = (streamOf a false k).latchHi := by
  have hlatch : ∀ c : Audio, (streamOf c false k).latchHi = nthD Stream.zero.latchHi k (c.playback.map Stream.latchHi) :=
    fun c => (nthD_map Stream.latchHi Stream.zero k c.playback).symm
  rw [hlatch, hlatch, h.latches]

theorem streamOf_updStream_self {cap : Bool} (f : Stream → Stream)
    (h : k < (if cap then d.audio.capture else d.audio.playback).length) :
    streamOf (updStream cap k f d).audio cap k = f (streamOf d.audio cap k) := by
  cases cap <;> exact nthD_modifyAt_self _ f h

theorem waitDsts_stream (hop : w.op = .audioStream) : waitDsts w = [] := by rw [waitDsts, hop]

/-- What AUDIO_STREAM's setup makes of a playback stream. -/
def setupStream (w : AudioWait) (s : Stream) : Stream :=
  { Stream.zero with
    latchHi := s.latchHi, owner := some w.owner, pan := w.cmd.bit 26 1, format := w.cmd.u8 27, channels := w.cmd.u8 28,
    notify := w.cmd.u8 29, ring := w.cmd.u32 40, ringOff := w.cmd.u64 32, ctlOff := w.cmd.u64 48 }

theorem applyAudio_setup (hop : w.op = .audioStream) (haction : w.cmd.u8 25 = 0) (hplay : w.cmd.bit 26 0 = false) :
    (applyAudio w 0 d).2 = updStream false (audObj w) (setupStream w) d := by
  simp only [applyAudio, hop, landStream, haction, hplay]
  rfl

theorem applyAudio_release (hop : w.op = .audioStream) (haction : w.cmd.u8 25 = 3) (hplay : w.cmd.bit 26 0 = false) :
    (applyAudio w 0 d).2 = updStream false (audObj w) (fun s => { Stream.zero with latchHi := s.latchHi }) d := by
  simp only [applyAudio, hop, landStream, haction, hplay]

theorem applyAudio_stop (hop : w.op = .audioStream) (haction : w.cmd.u8 25 = 2) :
    (applyAudio w 0 d).2 = updStream (w.cmd.bit 26 0) (audObj w)
      (fun s => { s with running := false, quiesce := none, next := s.next.map (fadeBlock true) }) d := by
  simp only [applyAudio, hop, landStream, haction]

theorem landRoute_lands (ow : Owner) (src dst : Nat) (gain : Int) (skip : Nat) (a : Audio) :
    ∃ r ∈ (landRoute ow src dst gain skip a).2.routes, r.src = src ∧ r.dst = dst ∧ r.gain = gain ∧ liveRoute r = true := by
  unfold landRoute
  split
  next r hfound =>
    have hr := List.find?_some hfound
    simp only [Bool.and_eq_true, beq_iff_eq] at hr
    obtain ⟨⟨⟨hsrc, hdst⟩, hlive⟩, -⟩ := hr
    refine ⟨_, List.mem_map.mpr ⟨r, List.mem_of_find?_eq_some hfound, rfl⟩, ?_⟩
    simp only [beq_self_eq_true, hlive, Bool.and_self, if_true]
    exact ⟨hsrc, hdst, trivial, hlive⟩
  next =>
    dsimp only
    exact ⟨_, List.mem_append_right _ (List.mem_singleton_self _), rfl, rfl, rfl, rfl⟩

/-- A route that a change drops is not live, whether it is gone or fades out. -/
theorem dropRoutes_drops {skip : Nat} {sel : Route → Bool} {r : Route} (hr : r ∈ (dropRoutes skip sel a).routes) :
    sel r = false ∨ liveRoute r = false := by
  simp only [dropRoutes, List.mem_filterMap] at hr
  obtain ⟨r₀, -, heq⟩ := hr
  split at heq
  next hkept =>
    cases heq
    simp only [Bool.or_eq_true, Bool.not_eq_true', Bool.and_eq_true] at hkept
    rcases hkept with hsel | ⟨hfades, hseized⟩
    · exact Or.inl hsel
    · refine Or.inr ?_
      rw [liveRoute, hseized, Bool.or_false, ← Option.not_isSome, hfades, Bool.not_true]
  next =>
    split at heq
    · cases heq
    · split at heq
      · cases heq
      next hseized =>
        cases heq
        exact Or.inr (by simpa [liveRoute, ramp0] using hseized)

end Sys2Proof.Machine

end

section
/-! Each kind of change at the block boundary it waits for (R398, R399, R403, R410, R416, R420). -/

namespace Sys2Proof.Machine

variable {s : State} {d : Dev} {w : AudioWait}

theorem exec_audioBlockBoundary_idle {i : List (Nat × List U32)}
    (h : audioOn s.dev = false ∨ s.dev.audio.lastBlock = some (blockNs s.dev)) :
    exec (.audioBlockBoundary i) s = .next (s.after s.dev) := by
  have hstays : (!audioOn s.dev || s.dev.audio.lastBlock == some (blockNs s.dev)) = true := by
    rcases h with hoff | hsent
    · rw [hoff]; rfl
    · rw [hsent, beq_self_eq_true, Bool.or_true]
  have hexec : exec (.audioBlockBoundary i) s = execAudioBlockBoundary i s := rfl
  rw [hexec]
  unfold execAudioBlockBoundary
  rw [onDev_eq, if_pos hstays]

/-! ## What each change makes of its object -/

theorem applyAudio_bus (hop : w.op = .audioBus) : (applyAudio w 0 d).2 = landBus w 0 d := by simp only [applyAudio, hop]
theorem applyAudio_tone (hop : w.op = .audioTone) : (applyAudio w 0 d).2 = landTone w 0 d := by simp only [applyAudio, hop]
theorem applyAudio_meter (hop : w.op = .audioMeter) : (applyAudio w 0 d).2 = landMeter w.owner w.cmd d := by
  simp only [applyAudio, hop]
theorem applyAudio_port (hop : w.op = .audioPort) : (applyAudio w 0 d).2 = landPort w.cmd 0 d := by simp only [applyAudio, hop]
theorem applyAudio_sidetone (hop : w.op = .audioSidetone) : (applyAudio w 0 d).2 = landSide w.cmd 0 d := by
  simp only [applyAudio, hop]

theorem applyAudio_route (hop : w.op = .audioRoute) : (applyAudio w 0 d).2.audio =
    (landRoute w.owner (w.cmd.u16 24) (w.cmd.u16 26) (signed 16 (w.cmd.u16 28)) 0 d.audio).2 := by
  simp only [applyAudio, hop, refreshAll_audio]

/-- The routes that AUDIO_UNROUTE drops: those of the pair, on its side of the secure world. -/
def unrouted (w : AudioWait) (r : Route) : Bool :=
  r.src == w.cmd.u16 24 && r.dst == w.cmd.u16 26 && liveRoute r && (r.owner == .secure) == (w.owner == .secure)

theorem applyAudio_unroute (hop : w.op = .audioUnroute) :
    (applyAudio w 0 d).2.audio = dropRoutes 0 (unrouted w) d.audio := by
  simp only [applyAudio, hop, refreshAll_audio]
  rfl

theorem landBus_bus (hset : w.cmd.bit 25 0 = false) (h : audObj w < d.audio.buses.length) :
    let b := nthD Bus.zero (audObj w) (landBus w 0 d).audio.buses
    b.owner = some w.owner ∧ b.gain = signed 16 (w.cmd.u16 28) ∧ b.nmax = w.cmd.u8 26 := by
  simp only [landBus, updAudio, nthD_modifyAt_self _ _ h, hset]
  exact ⟨rfl, rfl, rfl⟩

theorem landTone_tone (hset : w.cmd.bit 25 0 = false) (h : audObj w < d.audio.tones.length) :
    let t := nthD Tone.zero (audObj w) (landTone w 0 d).audio.tones
    t.owner = some w.owner ∧ t.on = w.cmd.bit 25 1 ∧ t.freq = w.cmd.u16 26 := by
  simp only [landTone, updAudio, nthD_modifyAt_self _ _ h, hset]
  exact ⟨rfl, rfl, rfl⟩

variable {c : Cmd} {ow : Owner}

theorem landMeter_meter (hset : c.bit 25 0 = false) (h : c.u8 24 < d.audio.meters.length) :
    nthD Meter.zero (c.u8 24) (landMeter ow c d).audio.meters =
      { Meter.zero with holder := some ow, point := c.u16 26, holdMs := c.u16 28 } := by
  simp only [landMeter, updAudio, nthD_modifyAt_self _ _ h, hset]
  rfl

theorem landPort_tdm (ht : c.u8 24 ≤ 3) (hlen : d.audio.tdm.length = 4) :
    let x := nthD Tdm.zero (c.u8 24) (landPort c 0 d).audio.tdm
    x.enabled = c.bit 26 0 ∧ x.slots = c.u8 27 := by
  have h : c.u8 24 < d.audio.tdm.length := by omega
  simp only [landPort, if_pos ht, updAudio, nthD_modifyAt_self _ _ h]
  split <;> exact ⟨rfl, rfl⟩

theorem landPort_detector (ht : c.u8 24 = 6) : (landPort c 0 d).audio.threshold = signed 16 (c.u16 26) ∧
    (landPort c 0 d).audio.holdMs = c.u16 28 := by
  simp only [landPort, ht]
  exact ⟨rfl, rfl⟩

theorem getElem?_modifyAt_self {α : Type} (f : α → α) {k : Nat} {l : List α} (h : k < l.length) :
    ∃ x, (modifyAt f k l)[k]? = some (f x) := by
  induction l generalizing k with
  | nil => exact absurd h (Nat.not_lt_zero _)
  | cons a l ih =>
    cases k with
    | zero => exact ⟨a, rfl⟩
    | succ k => exact ih (Nat.lt_of_succ_lt_succ h)

theorem landSide_side (hset : c.bit 25 0 = true) (h : c.u8 24 < d.audio.sides.length) :
    ∃ t, (landSide c 0 d).audio.sides[c.u8 24]? = some t ∧ t.enable = true ∧ t.src = c.u16 26 ∧ t.dst = c.u16 28 ∧
      t.gain = signed 16 (c.u16 30) := by
  obtain ⟨x, hx⟩ := getElem?_modifyAt_self (l := d.audio.sides) _ h
  refine ⟨_, hx, ?_⟩
  simp only [hset, Bool.not_true, Bool.false_eq_true, if_false]
  split
  next hsame =>
    simp only [Bool.and_eq_true, beq_iff_eq] at hsame
    obtain ⟨⟨hon, hsrc⟩, hdst⟩ := hsame
    exact ⟨hon, hsrc, hdst, rfl⟩
  · exact ⟨rfl, rfl, rfl, rfl⟩

/-- Settles O30: the block is mixed before any change lands, a waiting change lands alone on the island that awaited it, and what
the end of the block then moves is streams, bus counts and ports that wake, none of which it names. That a second boundary within
one millisecond changes nothing is log 168. -/
theorem audioBlockBoundary : Obligations.AudioBlockBoundary := by
  unfold Obligations.AudioBlockBoundary
  refine ⟨?sent, ?idle, ?setup, ?release, ?stop, ?bus, ?tone, ?route, ?unroute, ?meter, ?port, ?detector, ?sidetone⟩
  case sent =>
    rintro s _ i rfl hon hnew
    obtain ⟨e, hexec, hsent⟩ := exec_audioBlockBoundary_sent (i := i) hon hnew
    exact ⟨e, hexec, congrArg (fun t => t.2.2) hsent, congrArg (fun t => t.2.1) hsent, congrArg (fun t => t.1) hsent⟩
  case idle =>
    rintro s _ i rfl h
    exact exec_audioBlockBoundary_idle h
  case setup =>
    rintro s _ i w rfl hnew hfeed hisland hw hop haction hplay hk
    obtain ⟨d, e, hready, hexec, hland⟩ := exec_audioBlockBoundary_lands (i := i) hnew hfeed hisland hw
      (by simp [waitDsts_stream hop])
    rw [applyAudio_setup hop haction hplay] at hland
    have hself : streamOf (updStream false (audObj w) (setupStream w) d).audio false (audObj w) = _ :=
      streamOf_updStream_self (setupStream w) (hready.playback_length ▸ hk)
    have hstream := (hland.idle (audObj w) (by rw [hself]; rfl) (by rw [hself]; rfl) (by rw [hself]; rfl)).trans hself
    refine ⟨e, hexec, hland.waiting, ?_⟩
    rw [hstream]
    exact ⟨rfl, rfl, rfl, rfl⟩
  case release =>
    rintro s _ i w rfl hnew hfeed hisland hw hop haction hplay hk
    obtain ⟨d, e, hready, hexec, hland⟩ := exec_audioBlockBoundary_lands (i := i) hnew hfeed hisland hw
      (by simp [waitDsts_stream hop])
    rw [applyAudio_release hop haction hplay] at hland
    have hself := streamOf_updStream_self (d := d) (cap := false) (fun s => { Stream.zero with latchHi := s.latchHi })
      (hready.playback_length ▸ hk : audObj w < d.audio.playback.length)
    have hstream := (hland.idle (audObj w) (by rw [hself]; rfl) (by rw [hself]; rfl) (by rw [hself]; rfl)).trans hself
    exact ⟨e, hexec, hland.waiting, by rw [hstream, hready.latchHi]⟩
  case stop =>
    rintro s _ i w rfl hnew hfeed hisland hw hop haction hk
    obtain ⟨d, e, hready, hexec, hland⟩ := exec_audioBlockBoundary_lands (i := i) hnew hfeed hisland hw
      (by simp [waitDsts_stream hop])
    rw [applyAudio_stop hop haction] at hland
    have hk' : audObj w < (if w.cmd.bit 26 0 then d.audio.capture else d.audio.playback).length := by
      rw [apply_ite List.length, hready.capture, hready.playback_length, ← apply_ite List.length]
      exact hk
    exact ⟨e, hexec, hland.waiting, hland.stopped _ _ (by rw [streamOf_updStream_self _ hk'])⟩
  case bus =>
    rintro s _ i w rfl hnew hfeed hisland hw hop hcalm hset hk
    obtain ⟨d, e, hready, hexec, hland⟩ := exec_audioBlockBoundary_lands (i := i) hnew hfeed hisland hw hcalm
    rw [applyAudio_bus hop] at hland
    obtain ⟨howner, hgain, hnmax⟩ := landBus_bus hset (hready.buses ▸ hk)
    exact ⟨e, hexec, hland.waiting, (bus_of_settled Bus.owner (fun _ => rfl) hland.settled _).trans howner,
      (bus_of_settled Bus.gain (fun _ => rfl) hland.settled _).trans hgain,
      (bus_of_settled Bus.nmax (fun _ => rfl) hland.settled _).trans hnmax⟩
  case tone =>
    rintro s _ i w rfl hnew hfeed hisland hw hop hset hk
    obtain ⟨d, e, hready, hexec, hland⟩ := exec_audioBlockBoundary_lands (i := i) hnew hfeed hisland hw (by simp [waitDsts, hop])
    rw [applyAudio_tone hop] at hland
    refine ⟨e, hexec, hland.waiting, ?_⟩
    rw [field_of_settled Audio.tones (fun _ => rfl) hland.settled]
    exact landTone_tone hset (hready.tones ▸ hk)
  case route =>
    rintro s _ i w rfl hnew hfeed hisland hw hop hcalm
    obtain ⟨d, e, hready, hexec, hland⟩ := exec_audioBlockBoundary_lands (i := i) hnew hfeed hisland hw hcalm
    refine ⟨e, hexec, hland.waiting, ?_⟩
    rw [field_of_settled Audio.routes (fun _ => rfl) hland.settled, applyAudio_route hop]
    exact landRoute_lands ..
  case unroute =>
    rintro s _ i w rfl hnew hfeed hisland hw hop hcalm
    obtain ⟨d, e, hready, hexec, hland⟩ := exec_audioBlockBoundary_lands (i := i) hnew hfeed hisland hw hcalm
    refine ⟨e, hexec, hland.waiting, ?_⟩
    rw [field_of_settled Audio.routes (fun _ => rfl) hland.settled, applyAudio_unroute hop]
    intro r hr hsrc hdst hside
    rcases dropRoutes_drops hr with hkept | hdead
    · have hsame : ((r.owner == .secure) == (w.owner == .secure)) = true := by
        rw [beq_iff_eq, Bool.eq_iff_iff, beq_iff_eq, beq_iff_eq]
        exact hside
      simpa only [unrouted, hsrc, hdst, hsame, beq_self_eq_true, Bool.true_and, Bool.and_true] using hkept
    · exact hdead
  case meter =>
    rintro s _ i w rfl hnew hfeed hisland hw hop hset hk
    obtain ⟨d, e, hready, hexec, hland⟩ := exec_audioBlockBoundary_lands (i := i) hnew hfeed hisland hw (by simp [waitDsts, hop])
    rw [applyAudio_meter hop] at hland
    refine ⟨e, hexec, hland.waiting, ?_⟩
    rw [field_of_settled Audio.meters (fun _ => rfl) hland.settled]
    exact landMeter_meter hset (hready.meters ▸ hk)
  case port =>
    rintro s _ i w rfl hnew hfeed hisland hw hop ht hlen
    obtain ⟨d, e, hready, hexec, hland⟩ := exec_audioBlockBoundary_lands (i := i) hnew hfeed hisland hw (by simp [waitDsts, hop])
    rw [applyAudio_port hop] at hland
    obtain ⟨henabled, hslots⟩ := landPort_tdm ht (hready.tdm.trans hlen)
    exact ⟨e, hexec, hland.waiting, (port_of_settled Tdm.enabled (fun _ => rfl) hland.settled _).trans henabled,
      (port_of_settled Tdm.slots (fun _ => rfl) hland.settled _).trans hslots⟩
  case detector =>
    rintro s _ i w rfl hnew hfeed hisland hw hop ht
    obtain ⟨d, e, hready, hexec, hland⟩ := exec_audioBlockBoundary_lands (i := i) hnew hfeed hisland hw (by simp [waitDsts, hop])
    rw [applyAudio_port hop] at hland
    obtain ⟨hthreshold, hhold⟩ := landPort_detector (d := d) ht
    exact ⟨e, hexec, hland.waiting, (field_of_settled Audio.threshold (fun _ => rfl) hland.settled).trans hthreshold,
      (field_of_settled Audio.holdMs (fun _ => rfl) hland.settled).trans hhold⟩
  case sidetone =>
    rintro s _ i w rfl hnew hfeed hisland hw hop hcalm hset hk
    obtain ⟨d, e, hready, hexec, hland⟩ := exec_audioBlockBoundary_lands (i := i) hnew hfeed hisland hw hcalm
    rw [applyAudio_sidetone hop] at hland
    refine ⟨e, hexec, hland.waiting, ?_⟩
    rw [field_of_settled Audio.sides (fun _ => rfl) hland.settled]
    exact landSide_side hset (hready.sides ▸ hk)

end Sys2Proof.Machine

end

section
/-! A command whose change is sequenced, and then waits for something that is not a cut (R131, R134): a block boundary, the wheel's
wrap, the last access through a page. -/

namespace Sys2Proof.Machine

variable {op : Op} {c : Cmd} {s : State} {d : Dev} {b : List Byte} {ch : Change}

/-- The transaction of a command as its change lands: sequenced, waiting for nothing yet. -/
def landingTxn (op : Op) (c : Cmd) (s : State) (d : Dev) (b : List Byte) (ch : Change) : Txn :=
  { ownTxn op c s d b with state := .sequenced, resolved := [ch], seqNo := d.nextSeq }

theorem recheckAll_sequenced {x : Txn} (h : d.txns = [x]) (hx : x.state = .sequenced) : recheckAll d = d := by
  simp [recheckAll, h, hx]

theorem settleTxn_waits {x : Txn} (h : d.txns = [x]) (hx : x.waits ≠ 0) : settleTxn x.id d = d := by
  unfold settleTxn
  rw [txnOf_one d x h]
  simp [hx]

/-- A sequenced transaction of one change that no cut holds and whose landing waits. -/
theorem sequenceTxn_waits {x X : Txn} {k : Ticket} {L : Dev} (hd : d.txns = [x]) (hr : x.resolved = [ch])
    (ha : ch.act = .cmd op) (ho : ch.outs = []) (hown : x.own = true) (hc : x.commit = some k) (hk : d.cause = some k.no)
    (hX : X = { x with state := .sequenced, seqNo := d.nextSeq, wait := none, passed := false, landings := [] })
    (hland : (opSpec op).land x.id ch { d with nextSeq := d.nextSeq + 1, txns := [X], result := [] } =
      withTxns [{ X with waits := X.waits + 1 }] L) (hcause : L.cause = d.cause) :
    sequenceTxn x.id d = withTxns [{ X with
      waits := X.waits + 1, out := (opSpec op).results (withTxns [{ X with waits := X.waits + 1 }] L) ch }] L := by
  have hnow : landNow x [] (withTxns [X] { d with nextSeq := d.nextSeq + 1 }) = withTxns [{ X with
      waits := X.waits + 1, out := (opSpec op).results (withTxns [{ X with waits := X.waits + 1 }] L) ch }] L := by
    have hid : x.id = X.id := by rw [hX]
    unfold landNow
    simp only [hr, List.filter_cons, ho, List.head?_nil, Option.all_none, if_true, List.filter_nil, List.foldl_cons, List.foldl_nil,
      ha, landChange, hown, hc, Option.map_some, Option.some_or]
    rw [withCause_self _ _ (withTxns [X] { d with nextSeq := d.nextSeq + 1 }) hk]
    have hfirst : ({ withTxns [X] { d with nextSeq := d.nextSeq + 1 } with result := [] } : Dev) =
      { d with nextSeq := d.nextSeq + 1, txns := [X], result := [] } := rfl
    rw [hfirst, hland, hid]
    refine (congrArg (fun e : Dev => { e with cause := d.cause })
      (updTxn_one (withTxns [{ X with waits := X.waits + 1 }] L) { X with waits := X.waits + 1 } _ rfl)).trans ?_
    rw [← hcause]
    rfl
  unfold sequenceTxn
  rw [txnOf_one d x hd]
  simp only [hr, List.filterMap_cons, List.filterMap_nil, ho, List.head?_nil, List.eraseDups_nil, List.filter_nil, List.foldl_nil,
    List.map_nil, hown, ha, List.isEmpty_nil, List.head?_cons, List.any_cons, List.any_nil, Bool.or_false, if_true]
  rw [updTxn_one d x _ hd]
  rw [← hX]
  generalize hY : ({ X with
    waits := X.waits + 1, out := (opSpec op).results (withTxns [{ X with waits := X.waits + 1 }] L) ch } : Txn) = Y at hnow ⊢
  have hid : x.id = Y.id := by rw [← hY, hX]
  have hsettle : settleTxn x.id (landNow x [] (withTxns [X] { d with nextSeq := d.nextSeq + 1 })) = withTxns [Y] L := by
    rw [hnow, hid]
    exact settleTxn_waits rfl (by rw [← hY]; exact Nat.succ_ne_zero _)
  have hseq : Y.state = .sequenced := by rw [← hY, hX]
  change (if (x.issuer == Issuer.manager && disturbs ch) = true then
      recheckAll (settleTxn x.id (landNow x [] (withTxns [X] { d with nextSeq := d.nextSeq + 1 })))
    else settleTxn x.id (landNow x [] (withTxns [X] { d with nextSeq := d.nextSeq + 1 }))) = _
  rw [hsettle]
  split
  · exact recheckAll_sequenced rfl hseq
  · rfl

theorem singleCmd_waits {L : Dev} (h : Lands op c s d b ch) (ho : ch.outs = [])
    (hland : (opSpec op).land d.nextTxn ch (withTxns [landingTxn op c s d b ch] d.opened) =
      withTxns [{ landingTxn op c s d b ch with waits := 1 }] L) (hcause : L.cause = d.cause) :
    singleCmd op (ticketOf op c s) c b d = withTxns [waitingTxn op c s d b ch
      ((opSpec op).results (withTxns [{ landingTxn op c s d b ch with waits := 1 }] L) ch)] L := by
  have ha := (prepareChanges_one _ _ op c b ch rfl h.ready).1
  have hln : launchFail d c = none := by simp [launchFail, h.acc.now]
  have hp : instantPassed d c = false := by simp [instantPassed, h.acc.now]
  have hP := prepareTxn_one { d with nextTxn := d.nextTxn + 1, txns := [ownTxn op c s d b] } (ownTxn op c s d b) [ch]
    rfl rfl rfl h.ready
  unfold singleCmd
  simp only [hln, hp, h.acc.now, Bool.false_eq_true, if_false, Bool.not_false, Bool.and_true, h.free, List.nil_append]
  change (match prepareTxn (ownTxn op c s d b).id { d with nextTxn := d.nextTxn + 1, txns := [ownTxn op c s d b] } with
    | (f, d_1) => match f with
      | some f => dropOwn d.nextTxn f.status f.detail d_1
      | none => sequenceTxn d.nextTxn d_1) = _
  rw [hP]
  exact sequenceTxn_waits
    (x := { ownTxn op c s d b with state := .prepared, resolved := [ch], lastStatus := .ok, failIndex := 0xFFFF })
    (X := landingTxn op c s d b ch) rfl rfl ha ho rfl rfl h.acc.cause rfl hland hcause

/-- A command of kind N whose landing waits joins what its landing leaves, and replies later. -/
theorem exec_waits {L : Dev} (hk : opKind op = .n) (h : Lands op c s d b ch) (houts : (opSpec op).outs = fun _ _ => [])
    (hland : (opSpec op).land d.nextTxn ch (withTxns [landingTxn op c s d b ch] d.opened) =
      withTxns [{ landingTxn op c s d b ch with waits := 1 }] L) (hcause : L.cause = d.cause) :
    exec (instrOf op c) s = .next (s.after (withTxns [waitingTxn op c s d b ch
      ((opSpec op).results (withTxns [{ landingTxn op c s d b ch with waits := 1 }] L) ch)] L)) := by
  obtain ⟨-, -, v, o, ho⟩ := prepareChanges_one _ _ op c b ch rfl h.ready
  rw [houts] at ho
  rw [exec_accepted op c s d b h.acc, hk]
  exact congrArg (fun e => Host.Outcome.next (s.after e)) (singleCmd_waits h ho hland hcause)

/-- A change that waits leaves its transaction one thing to wait for. -/
theorem landingWaits_landing (d' : Dev) (h : d'.txns = [landingTxn op c s d b ch]) :
    landingWaits d.nextTxn d' = withTxns [{ landingTxn op c s d b ch with waits := 1 }] d' :=
  updTxn_one d' (landingTxn op c s d b ch) _ h

/-! ## Audio (R398) -/

/-- The change of an audio command, as it waits for its block boundary. -/
def audioWait (op : Op) (c : Cmd) (d : Dev) (ch : Change) : AudioWait :=
  { op := op, cmd := c, owner := ownerOf c.issuer, obj := ch.obj, txn := some d.nextTxn }

/-- The island with one more change that waits. -/
def Dev.awaiting (d : Dev) (w : AudioWait) : Dev := { d with audio := { d.audio with waiting := d.audio.waiting ++ [w] } }

theorem landAudio_waits (hcmd : ch.cmd = c) : landAudio op d.nextTxn ch (withTxns [landingTxn op c s d b ch] d.opened) =
    withTxns [{ landingTxn op c s d b ch with waits := 1 }] (d.opened.awaiting (audioWait op c d ch)) := by
  have hnow : (txnOf (withTxns [landingTxn op c s d b ch] d.opened) d.nextTxn).any (fun t => t.wait.isSome) = false := by
    rw [show txnOf (withTxns [landingTxn op c s d b ch] d.opened) d.nextTxn = some _ from
      txnOf_one _ (landingTxn op c s d b ch) rfl]
    rfl
  unfold landAudio
  dsimp only
  rw [hnow, hcmd]
  exact landingWaits_landing _ rfl

theorem exec_audio_waits (hk : opKind op = .n) (hland : (opSpec op).land = landAudio op)
    (houts : (opSpec op).outs = fun _ _ => []) (hres : ∀ e : Dev, e.result = [] → (opSpec op).results e ch = [])
    (h : Lands op c s d b ch) : exec (instrOf op c) s = .next (s.after
      (withTxns [waitingTxn op c s d b ch []] (d.opened.awaiting (audioWait op c d ch)))) := by
  obtain ⟨-, hcmd, -⟩ := prepareChanges_one _ _ op c b ch rfl h.ready
  have hexec := exec_waits (L := d.opened.awaiting (audioWait op c d ch)) hk h houts
    (by rw [hland]; exact landAudio_waits hcmd) rfl
  rwa [hres _ rfl] at hexec

/-- Settles O12: a landing that has no instant finds no block to act in, so it joins what waits (R398). -/
theorem audioCommandsWait : Obligations.AudioCommandsWait := by
  unfold Obligations.AudioCommandsWait
  refine ⟨?stream, ?route, ?unroute, ?bus, ?port, ?meter, ?tone, ?sidetone, ?status⟩
  case stream => exact fun c s d b ch h => exec_audio_waits (op := .audioStream) rfl rfl rfl (fun e he => he) h
  case route => exact fun c s d b ch h => exec_audio_waits (op := .audioRoute) rfl rfl rfl (fun e he => he) h
  case unroute => exact fun c s d b ch h => exec_audio_waits (op := .audioUnroute) rfl rfl rfl (fun _ _ => rfl) h
  case bus => exact fun c s d b ch h => exec_audio_waits (op := .audioBus) rfl rfl rfl (fun e he => he) h
  case port => exact fun c s d b ch h => exec_audio_waits (op := .audioPort) rfl rfl rfl (fun _ _ => rfl) h
  case meter => exact fun c s d b ch h => exec_audio_waits (op := .audioMeter) rfl rfl rfl (fun _ _ => rfl) h
  case tone => exact fun c s d b ch h => exec_audio_waits (op := .audioTone) rfl rfl rfl (fun e he => he) h
  case sidetone => exact fun c s d b ch h => exec_audio_waits (op := .audioSidetone) rfl rfl rfl (fun _ _ => rfl) h
  case status => exact fun c s d b h => exec_read_ok (op := .audioStatus) rfl h rfl rfl

end Sys2Proof.Machine

end

section
/-! Streams that fault, detectors that fall silent and ports that lose their clock (R394 to R397, R409, R413). -/

namespace Sys2Proof.Machine

variable {s : State}

theorem exec_silenceHoldExpiry {k : Nat} (hactive : (detOf s.dev.audio k).active = true)
    (hquiet : s.dev.audio.holdMs * 48 ≤ (detOf s.dev.audio k).quiet) :
    exec (.silenceHoldExpiry k) s = .next (s.after (updAudio (fun a =>
      { a with detectors := tput .zero a.detectors k { detOf s.dev.audio k with active := false } }) s.dev)) := by
  have hexec : exec (.silenceHoldExpiry k) s = execSilenceHoldExpiry k s := rfl
  have hgoes : ¬ (!(detOf s.dev.audio k).active || (detOf s.dev.audio k).quiet < s.dev.audio.holdMs * 48) = true := by
    simp [hactive, hquiet]
  rw [hexec]
  unfold execSilenceHoldExpiry
  rw [onDev_eq, if_neg hgoes]

theorem exec_tdmPortOff {p : Nat} (hon : (nthD Tdm.zero p s.dev.audio.tdm).enabled = true)
    (hauto : (nthD Tdm.zero p s.dev.audio.tdm).autoOff = true) (hup : (nthD Tdm.zero p s.dev.audio.tdm).off = false)
    (hidle : ∀ k, k < 16 → inputUsed s.dev.audio (0x2000 + p * 16 + k) = false ∧
      silentFor s.dev.audio (0x7000 + p * 16 + k) (nthD Tdm.zero p s.dev.audio.tdm).offMs = true) :
    exec (.tdmPortOff p) s = .next (s.after (raiseAt (blockNs s.dev) 0x0A05 p (le8 0) [512] false
      (updAudio (fun a => { a with tdm := modifyAt (fun x => { x with off := true }) p a.tdm }) s.dev))) := by
  have hexec : exec (.tdmPortOff p) s = execTdmPortOff p s := rfl
  have hbusy : ((List.range 16).any fun k => inputUsed s.dev.audio (0x2000 + p * 16 + k) ||
      !silentFor s.dev.audio (0x7000 + p * 16 + k) (nthD Tdm.zero p s.dev.audio.tdm).offMs) = false :=
    List.any_eq_false.mpr fun k hk => by
      obtain ⟨hunused, hsilent⟩ := hidle k (List.mem_range.mp hk)
      rw [hunused, hsilent]
      exact Bool.false_ne_true
  rw [hexec]
  unfold execTdmPortOff
  rw [onDev_eq]
  dsimp only
  rw [hbusy, hon, hauto, hup]
  rfl

theorem exec_dpAudioOff {o : Nat} (hon : (nthD DpAudio.zero o s.dev.audio.dp).enable = true)
    (hup : (nthD DpAudio.zero o s.dev.audio.dp).off = false)
    (hidle : ∀ k, k < 8 → silentFor s.dev.audio (0x6000 + o * 8 + k) (nthD DpAudio.zero o s.dev.audio.dp).offMs = true) :
    exec (.dpAudioOff o) s = .next (s.after (raiseAt (blockNs s.dev) 0x0A05 5 (le8 0 ++ le8 o) [512] false
      (refreshDpAudio o (updAudio (fun a => { a with dp := modifyAt (fun x => { x with off := true }) o a.dp }) s.dev)))) := by
  have hexec : exec (.dpAudioOff o) s = execDpAudioOff o s := rfl
  have hbusy : ((List.range 8).any fun k =>
      !silentFor s.dev.audio (0x6000 + o * 8 + k) (nthD DpAudio.zero o s.dev.audio.dp).offMs) = false :=
    List.any_eq_false.mpr fun k hk => by
      rw [hidle k (List.mem_range.mp hk)]
      exact Bool.false_ne_true
  rw [hexec]
  unfold execDpAudioOff
  rw [onDev_eq]
  dsimp only
  rw [hbusy, hon, hup]
  rfl

theorem exec_tdmClockLost {p : Nat} (hon : (nthD Tdm.zero p s.dev.audio.tdm).enabled = true)
    (hfollows : (nthD Tdm.zero p s.dev.audio.tdm).master = false) (hclock : (nthD Tdm.zero p s.dev.audio.tdm).clockOk = true) :
    exec (.tdmClockLost p) s = .next (s.after (raiseAt (blockNs s.dev) 0x0A05 p (le8 2) [512] false (updAudio (fun a => { a with
      tdm := modifyAt (fun x => { x with clockOk := false, clock := some { fadesIn := false, done := 0 } }) p a.tdm }) s.dev))) := by
  have hexec : exec (.tdmClockLost p) s = execTdmClockLost p s := rfl
  rw [hexec]
  unfold execTdmClockLost
  rw [onDev_eq]
  dsimp only
  rw [hon, hfollows, hclock]
  rfl

/-- A port whose clock is back, its rate measured from a free value (log 78). -/
def Tdm.clocked (v : Nat) (x : Tdm) : Tdm :=
  { x with clockOk := true, clock := some { fadesIn := true, done := 0 }, rateErr := (v % 100001 : Nat) - 50000 }

theorem exec_tdmClockRestored {p : Nat} (hon : (nthD Tdm.zero p s.dev.audio.tdm).enabled = true)
    (hfollows : (nthD Tdm.zero p s.dev.audio.tdm).master = false) (hclock : (nthD Tdm.zero p s.dev.audio.tdm).clockOk = false) :
    exec (.tdmClockRestored p) s = .next (s.after (raiseAt (blockNs s.dev) 0x0A05 p (le8 3) [512] false (updAudio (fun a => { a with
      tdm := modifyAt (Tdm.clocked (drawNat s.dev).1) p a.tdm }) (drawNat s.dev).2))) := by
  have hexec : exec (.tdmClockRestored p) s = execTdmClockRestored p s := rfl
  rw [hexec]
  unfold execTdmClockRestored
  rw [onDev_eq]
  dsimp only
  rw [hon, hfollows, hclock]
  rfl

theorem Tdm.clocked_rateErr (v : Nat) (x : Tdm) : -50000 ≤ (x.clocked v).rateErr ∧ (x.clocked v).rateErr ≤ 50000 := by
  have hrate : (x.clocked v).rateErr = ((v % 100001 : Nat) : Int) - 50000 := rfl
  have hlt : v % 100001 < 100001 := Nat.mod_lt _ (by decide)
  omega

/-- Settles O31: each event finds its condition met and does what its row says. The measured rate error is a free value of 100001
(log 78). -/
theorem audioPortEvents : Obligations.AudioPortEvents := by
  unfold Obligations.AudioPortEvents
  refine ⟨?fault, ?silence, ?port, ?dp, ?lost, ?restored⟩
  case fault =>
    rintro s _ c k why rfl
    rfl
  case silence =>
    rintro s _ k rfl hactive hquiet
    exact exec_silenceHoldExpiry hactive hquiet
  case port =>
    rintro s _ p _ rfl rfl hon hauto hup hidle
    exact exec_tdmPortOff hon hauto hup hidle
  case dp =>
    rintro s _ o _ rfl rfl hon hup hidle
    exact exec_dpAudioOff hon hup hidle
  case lost =>
    rintro s _ p _ rfl rfl hon hfollows hclock
    exact exec_tdmClockLost hon hfollows hclock
  case restored =>
    rintro s _ p _ rfl hp rfl hon hfollows hclock
    refine ⟨_, exec_tdmClockRestored hon hfollows hclock, ?_⟩
    have hport : nthD Tdm.zero p (modifyAt (Tdm.clocked (drawNat s.dev).1) p s.dev.audio.tdm) = _ := nthD_modifyAt_self _ _ hp
    obtain ⟨hlow, hhigh⟩ := Tdm.clocked_rateErr (drawNat s.dev).1 (nthD Tdm.zero p s.dev.audio.tdm)
    rw [← hport] at hlow hhigh
    exact ⟨congrArg Tdm.clockOk hport, hlow, hhigh, rfl⟩

end Sys2Proof.Machine

end

section
/-! Host accesses through BAR2 and BAR4 (R461, R465 to R468, R488, R493), and the pages that the march test borrows (R479 to
R481). -/

namespace Sys2Proof.Machine

variable {s : State} {d : Dev} {i : Issuer} {pan : Bool} {off n : Nat} {w : Option (List Byte)} {meet : BankMeet}

/-! ## Pan addresses (R461) -/

theorem panBank_eq (a : Nat) : panBank a = a / 4096 % 64 := by
  rw [panBank, bitsOf, Nat.shiftRight_eq_div_pow]
  rfl

theorem panWord_eq (a : Nat) : panWord a = a / 262144 % 128 * 512 + a / 8 % 512 := by
  rw [panWord, bitsOf, bitsOf, Nat.shiftRight_eq_div_pow, Nat.shiftRight_eq_div_pow]
  rfl

/-- Settles O50: the fields of an address are its quotients, which determine it. -/
theorem panAddressesSelectBankWordByte : Obligations.PanAddressesSelectBankWordByte := by
  unfold Obligations.PanAddressesSelectBankWordByte
  refine ⟨?fields, ?injective, ?page, ?spread⟩
  case fields => exact fun a => ⟨panBank_eq a, panWord_eq a⟩
  case injective =>
    intro a b ha hb hbank hword hbyte
    rw [panBank_eq, panBank_eq] at hbank
    rw [panWord_eq, panWord_eq] at hword
    omega
  case page =>
    intro a b hpage
    rw [panBank_eq, panBank_eq, hpage]
  case spread =>
    intro p q hpq hnear
    rw [panBank_eq, panBank_eq, Nat.mul_div_cancel _ (by decide), Nat.mul_div_cancel _ (by decide)]
    omega

/-! ## One access -/

/-- What an access through BAR4 does at its bank, by the port F access that it meets there (R465 to R467). -/
def meets (port : Nat) (i : Issuer) (off n : Nat) (w : Option (List Byte)) (a : Nat) (d : Dev) : PanMeet → Dev
  | .clear => hostComplete port true a n w d
  | .fWrite => match w with
    | none => holdRetry port i a n none (countBusy false a d)
    | some b =>
      let k := min n (8 - a % 8)
      if k = n then panCollide i off a d else panWrite (bridgeCode port) (a + k) (b.drop k) (panCollide i off a d)
  | .fRead => match w with
    | none => hostComplete port true a n none d
    | some b => holdRetry port i a n (some b) (countBusy true a d)

/-- A bank's arbiter as the rivals of an access ask it (R470). -/
def asked (bank : Nat) (l : List Nat) (d : Dev) : Dev := l.foldl (fun d r => portAsk bank r d) d

theorem asked_keeps {β : Type} (p : Dev → β) (hp : ∀ d k f, p (updPanPort k f d) = p d) (bank l d) : p (asked bank l d) = p d :=
  foldl_keeps p (fun d r => portAsk bank r d) (fun _ _ => hp ..) l d

/-- What an access does at its device address: BAR2 reaches DRAM, BAR4 a bank that its bridge may still hold accesses for. -/
def accessAt (i : Issuer) (pan : Bool) (off n : Nat) (w : Option (List Byte)) (meet : BankMeet) (a : Nat) (d : Dev) : Dev :=
  let e := asked (panBank a) meet.rivals d
  if !pan then hostComplete (portOfIssuer d i) pan a n w d
  else if e.pan.retries.any (·.requester == portOfIssuer d i) then holdRetry (portOfIssuer d i) i a n w e
  else meets (portOfIssuer d i) i off n w a e meet.portF

theorem accessAt_free {a : Nat} (hfree : ∀ r ∈ d.pan.retries, r.requester ≠ portOfIssuer d i) :
    accessAt i true off n w meet a d =
      meets (portOfIssuer d i) i off n w a (asked (panBank a) meet.rivals d) meet.portF := by
  have hretries := asked_keeps (fun d => d.pan.retries) (fun _ _ _ => rfl) (panBank a) meet.rivals d
  have hnone : (asked (panBank a) meet.rivals d).pan.retries.any (·.requester == portOfIssuer d i) = false :=
    List.any_eq_false.mpr fun r hr => by simpa using hfree r (hretries ▸ hr)
  unfold accessAt
  rw [if_neg (by decide), hnone, if_neg Bool.false_ne_true]

/-- What an access does, by where it leads. -/
def accessBy (i : Issuer) (pan : Bool) (off n : Nat) (w : Option (List Byte)) (meet : BankMeet) (d : Dev) : HostTarget → Dev
  | .undecoded => d
  | .nothing => hostNothing n w false d
  | .faulted ro => match i with
    | .inst k => hostNothing n w false (windowFault k pan ro w.isSome (off / (if pan then 4096 else 2097152)) d)
    | _ => d
  | .at_ a => accessAt i pan off n w meet a d

/-- An access is cut at the end of its page. -/
theorem exec_hostWindowAccess_cut : exec (.hostWindowAccess i pan off n w meet) s = .next (s.after (
    let w' := w.map (·.take (4096 - off % 4096))
    let n' := (w'.map (·.length)).getD (min n (4096 - off % 4096))
    if !hostReaches s.dev (portOfIssuer s.dev i) || n' = 0 then s.dev
    else accessBy i pan off n' w' meet s.dev (hostTarget s.dev i pan off w'.isSome))) := by
  have hexec : exec (.hostWindowAccess i pan off n w meet) s = execHostWindowAccess i pan off n w meet s := rfl
  rw [hexec]
  unfold execHostWindowAccess
  rw [onDev_eq]
  dsimp only
  split
  · rfl
  · generalize hostTarget s.dev i pan off (Option.map (fun x => List.take (4096 - off % 4096) x) w).isSome = t
    cases t with
    | undecoded => rfl
    | nothing => rfl
    | faulted ro => rfl
    | at_ a =>
      cases pan with
      | false => rfl
      | true =>
        rcases meet with ⟨m, l⟩
        cases m <;> cases w <;> rfl

theorem exec_hostWindowAccess (hreach : hostReaches s.dev (portOfIssuer s.dev i) = true) (hn : 0 < n) (hfit : off % 4096 + n ≤ 4096)
    (hw : ∀ b, w = some b → b.length = n) : exec (.hostWindowAccess i pan off n w meet) s =
      .next (s.after (accessBy i pan off n w meet s.dev (hostTarget s.dev i pan off w.isSome))) := by
  have hroom : n ≤ 4096 - off % 4096 := by omega
  have hwrite : w.map (·.take (4096 - off % 4096)) = w := by
    cases w with
    | none => rfl
    | some b => exact congrArg some (List.take_of_length_le (by rw [hw b rfl]; exact hroom))
  have hlen : (w.map (·.length)).getD (min n (4096 - off % 4096)) = n := by
    cases w with
    | none => exact Nat.min_eq_left hroom
    | some b => exact hw b rfl
  rw [exec_hostWindowAccess_cut]
  dsimp only
  rw [hwrite, hlen, hreach, if_neg (by simpa using hn.ne')]

theorem exec_hostWindowRead (hreach : hostReaches s.dev (portOfIssuer s.dev i) = true) (hn : 0 < n)
    (hfit : off % 4096 + n ≤ 4096) : exec (.hostWindowAccess i pan off n none meet) s =
      .next (s.after (accessBy i pan off n none meet s.dev (hostTarget s.dev i pan off false))) :=
  exec_hostWindowAccess hreach hn hfit fun _ h => nomatch h

theorem exec_hostWindowWrite {b : List Byte} (hreach : hostReaches s.dev (portOfIssuer s.dev i) = true) (hn : 0 < n)
    (hfit : off % 4096 + n ≤ 4096) (hb : b.length = n) : exec (.hostWindowAccess i pan off n (some b) meet) s =
      .next (s.after (accessBy i pan off n (some b) meet s.dev (hostTarget s.dev i pan off true))) :=
  exec_hostWindowAccess hreach hn hfit fun _ h => by cases h; exact hb

/-! ## Where accesses lead -/

theorem hostTarget_manager_dram (hboot : d.power.boot = .running) (wr : Bool) : hostTarget d .manager false off wr =
    if 2 ^ 36 ≤ off then .undecoded else if dramCapacity d.dram ≤ off then .nothing else .at_ off := by
  simp [hostTarget, hboot]

theorem hostTarget_dram_beyond (hboot : d.power.boot = .running) (hoff : off < 2 ^ 36) (hcap : dramCapacity d.dram ≤ off)
    (wr : Bool) : hostTarget d .manager false off wr = .nothing := by
  rw [hostTarget_manager_dram hboot, if_neg (Nat.not_le.mpr hoff), if_pos hcap]

theorem hostTarget_dram (hboot : d.power.boot = .running) (hoff : off < 2 ^ 36) (hcap : off < dramCapacity d.dram)
    (wr : Bool) : hostTarget d .manager false off wr = .at_ off := by
  rw [hostTarget_manager_dram hboot, if_neg (Nat.not_le.mpr hoff), if_neg (Nat.not_le.mpr hcap)]

theorem hostTarget_secure (hboot : d.power.boot = .running) (hoff : off < panBytes) (hsec : securePage d (off / 4096) = true)
    (wr : Bool) : hostTarget d .manager true off wr = .nothing := by
  simp [hostTarget, hboot, hoff, hsec]

/-- Through BAR4 the manager reaches no page of the secure partition, but while a push is awaited. -/
theorem hostTarget_manager_pan (hboot : d.power.boot ≠ .awaitPush) (wr : Bool) :
    hostTarget d .manager true off wr = .undecoded ∨ hostTarget d .manager true off wr = .nothing ∨
      (hostTarget d .manager true off wr = .at_ off ∧ securePage d (off / 4096) = false) := by
  have htarget : hostTarget d .manager true off wr =
      if panBytes ≤ off then .undecoded else if securePage d (off / 4096) then .nothing else .at_ off := by
    simp [hostTarget, hboot]
  rw [htarget]
  split
  · exact Or.inl rfl
  · split
    · exact Or.inr (Or.inl rfl)
    next hsec => exact Or.inr (Or.inr ⟨rfl, Bool.eq_false_of_not_eq_true hsec⟩)

section Windows

variable {k : Nat} (hboot : d.power.boot = .running) (hoff : off < if pan then panBytes else bar2Bytes d (portOfIssuer d (.inst k)))
include hboot hoff

theorem hostTarget_unmapped {e : MemFail} (hmap : mapByte d (.inst k) pan off = .error e) (wr : Bool) :
    hostTarget d (.inst k) pan off wr = .faulted false := by
  simp [hostTarget, hboot, hoff, hmap]

theorem hostTarget_readOnly {a : Nat} (hmap : mapByte d (.inst k) pan off = .ok (a, true)) :
    hostTarget d (.inst k) pan off true = .faulted true := by
  simp [hostTarget, hboot, hoff, hmap]

end Windows

/-! ## Window faults (R493) -/

theorem instOf_updInst {k : Nat} (f : Instance → Instance) (h : (f (instOf d k)).exists_ = true) :
    instOf (updInst k f d) k = f (instOf d k) :=
  tget_tput_of_ne Instance.zero d.insts k (f (instOf d k)) (fun heq => by rw [heq] at h; cases h)

/-- A context with one more window fault. -/
def Instance.faulted (x : Instance) : Instance := { x with windowFaults := x.windowFaults + 1 }

/-- A context whose window fault is reported now. -/
def Instance.reported (t : Nat) (x : Instance) : Instance := { x with faultEventAt := some t }

section Faults

variable {k page : Nat} {ro wr : Bool} (hexists : (instOf d k).exists_ = true)
include hexists

theorem instOf_faulted : instOf (updInst k Instance.faulted d) k = (instOf d k).faulted := instOf_updInst _ hexists

theorem instOf_reported {t : Nat} :
    instOf (updInst k (Instance.reported t) (updInst k Instance.faulted d)) k = (instOf d k).faulted.reported t := by
  rw [instOf_updInst, instOf_faulted hexists]
  rw [instOf_faulted hexists]
  exact hexists

theorem faultEventAt_faulted : (instOf (updInst k Instance.faulted d) k).faultEventAt = (instOf d k).faultEventAt :=
  (congrArg Instance.faultEventAt (instOf_faulted hexists)).trans rfl

theorem windowFault_recent (h : (instOf d k).faultEventAt.any (fun t => decide (nowNs d < t + 1000000)) = true) :
    windowFault k pan ro wr page d = updInst k Instance.faulted d := by
  rw [← faultEventAt_faulted hexists] at h
  exact if_pos h

theorem windowFault_reports (h : (instOf d k).faultEventAt.any (fun t => decide (nowNs d < t + 1000000)) = false) :
    ∃ payload, windowFault k pan ro wr page d =
      raise 0x0E01 k payload [k, 512] false (updInst k (Instance.reported (nowNs d)) (updInst k Instance.faulted d)) := by
  rw [← faultEventAt_faulted hexists] at h
  exact ⟨_, if_neg (ne_true_of_eq_false h)⟩

/-- A window fault is counted and reported, and no memory changes. -/
theorem windowFault_counts : (instOf (windowFault k pan ro wr page d) k).windowFaults = (instOf d k).windowFaults + 1 ∧
    (windowFault k pan ro wr page d).dramMem = d.dramMem ∧ (windowFault k pan ro wr page d).panMem = d.panMem ∧
    (∀ t, (instOf d k).faultEventAt = some t → nowNs d < t + 1000000 → (windowFault k pan ro wr page d).raised = d.raised) ∧
    ((∀ t, (instOf d k).faultEventAt = some t → t + 1000000 ≤ nowNs d) → ∃ v,
      (windowFault k pan ro wr page d).raised = d.raised ++ [v] ∧ v.event.code = 0x0E01 ∧ v.event.subject = k ∧
        v.pages = [k, 512]) := by
  cases h : (instOf d k).faultEventAt.any (fun t => decide (nowNs d < t + 1000000)) with
  | true =>
    rw [windowFault_recent hexists h]
    refine ⟨congrArg Instance.windowFaults (instOf_faulted hexists), rfl, rfl, fun _ _ _ => rfl, fun hold => ?_⟩
    obtain ⟨t, ht, hlt⟩ := (Option.any_eq_true _ _).mp h
    exact absurd (of_decide_eq_true hlt) (Nat.not_lt.mpr (hold t ht))
  | false =>
    obtain ⟨payload, hraise⟩ := windowFault_reports (pan := pan) (ro := ro) (wr := wr) (page := page) hexists h
    rw [hraise]
    refine ⟨congrArg Instance.windowFaults (instOf_reported hexists), rfl, rfl, fun t ht hlt => ?_,
      fun _ => ⟨_, rfl, rfl, rfl, rfl⟩⟩
    rw [ht, Option.any_some, decide_eq_true hlt] at h
    cases h

end Faults

/-- Settles O52: the access is dropped as a window fault, which no memory shows. -/
theorem windowFaultsReadOnesAndDropWrites : Obligations.WindowFaultsReadOnesAndDropWrites := by
  unfold Obligations.WindowFaultsReadOnesAndDropWrites
  refine ⟨?read, ?write, ?readOnly⟩
  case read =>
    rintro s _ k p o n m l x rfl hreach hboot hexists hn hfit hoff hmap
    refine ⟨_, exec_hostWindowRead hreach hn hfit, ?_⟩
    rw [hostTarget_unmapped hboot hoff hmap]
    exact ⟨rfl, windowFault_counts hexists ..⟩
  case write =>
    rintro s _ k p o n b m l x rfl hreach hboot hexists hn hfit hoff hb hmap
    refine ⟨_, exec_hostWindowWrite hreach hn hfit hb, ?_⟩
    rw [hostTarget_unmapped hboot hoff hmap]
    exact windowFault_counts hexists ..
  case readOnly =>
    rintro s _ k p o n b m l a rfl hreach hboot hexists hn hfit hoff hb hmap
    refine ⟨_, exec_hostWindowWrite hreach hn hfit hb, ?_⟩
    rw [hostTarget_readOnly hboot hoff hmap]
    exact windowFault_counts hexists ..

/-! ## The manager's windows (R450, R488, R518) -/

theorem hostComplete_fenced (hcap : off < dramCapacity d.dram) (hfenced : isFenced d.dram (decodeAddr d.dram off).channel = true)
    (hn : 0 < n) (port : Nat) : hostComplete port false off n none d = hostAnswer (List.replicate n 0xFF) true d := by
  have hfirst : off ∈ unitsOf off n := by
    rw [unitsOf, if_neg hn.ne']
    refine List.mem_map.mpr ⟨off / 64, ?_, max_eq_left (Nat.div_mul_le_self off 64)⟩
    exact List.mem_map.mpr ⟨0, List.mem_range.mpr (Nat.succ_pos _), rfl⟩
  have hfail : (dramFail d.dram off).isSome = true := by
    rw [dramFail, if_neg (Nat.not_le.mpr hcap), hfenced, Bool.or_true]
    rfl
  have hbad : (!dramOn d || (unitsOf off n).any fun u => (dramFail d.dram u).isSome) = true := by
    rw [List.any_eq_true.mpr ⟨off, hfirst, hfail⟩, Bool.or_true]
  unfold hostComplete
  rw [if_neg Bool.false_ne_true, if_pos hbad]
  rfl

@[simp] theorem abandonBorrow_panMem (d) : (abandonBorrow d).panMem = d.panMem := by
  unfold abandonBorrow
  split <;> rfl

@[simp] theorem portAccess_panMem (r a n d) : (portAccess r a n d).panMem = d.panMem := by
  unfold portAccess
  split
  · rfl
  · exact foldl_keeps Dev.panMem (fun d page => portPass (page % 64) r d) (fun _ _ => rfl) _ d

@[simp] theorem touchPan_panMem (r a n d) : (touchPan r a n d).panMem = d.panMem := by
  unfold touchPan
  dsimp only
  split
  · split
    · rw [abandonBorrow_panMem, portAccess_panMem]
    · exact portAccess_panMem ..
  · exact portAccess_panMem ..

theorem panWordWrite_panMem (r x whole d) : (panWordWrite r x whole d).1.panMem = d.panMem := by
  unfold panWordWrite
  split <;> rfl

/-- One word of a write reaches no byte outside the write. -/
theorem memGet_panWrite_other {r a j : Nat} {b : List Byte} (h : j < a ∨ a + b.length ≤ j) :
    memGet (panWrite r a b d).panMem j = memGet d.panMem j := by
  unfold panWrite
  refine (foldl_keeps (fun e => memGet e.panMem j) _ (fun e x => ?_) _ _).trans (by rw [touchPan_panMem])
  dsimp only
  split
  · dsimp only
    refine (memGet_memWrite_other _ _ _ _ ?_).trans (by rw [panWordWrite_panMem])
    rw [List.length_take, List.length_drop]
    omega
  · rw [panWordWrite_panMem]

theorem raise_panMem (code sub pl pages sec) (d : Dev) : (raise code sub pl pages sec d).panMem = d.panMem := rfl

@[simp] theorem panCollide_panMem (i off a d) : (panCollide i off a d).panMem = d.panMem := by
  unfold panCollide
  dsimp only
  split
  · rw [updPan_panMem, updPanBank_panMem]
  · rw [raise_panMem, updPan_panMem, updPan_panMem, updPanBank_panMem]

theorem memGet_meets_other {port a j : Nat} {b : List Byte} (m : PanMeet) (hb : b.length = n) (h : j < a ∨ a + n ≤ j) :
    memGet (meets port i off n (some b) a d m).panMem j = memGet d.panMem j := by
  cases m with
  | clear => exact memGet_panWrite_other (hb ▸ h)
  | fRead => rfl
  | fWrite =>
    unfold meets
    dsimp only
    split
    · rw [panCollide_panMem]
    · refine (memGet_panWrite_other ?_).trans (by rw [panCollide_panMem])
      rw [List.length_drop]
      omega

/-- A write of a port changes no byte outside itself, whatever it meets at its bank. -/
theorem memGet_accessAt_other {a j : Nat} {b : List Byte} (hb : b.length = n) (h : j < a ∨ a + n ≤ j) :
    memGet (accessAt i true off n (some b) meet a d).panMem j = memGet d.panMem j := by
  have hasked := asked_keeps Dev.panMem (fun _ _ _ => rfl) (panBank a) meet.rivals d
  unfold accessAt
  dsimp only
  rw [if_neg (by decide), ← hasked]
  split
  · rfl
  · exact memGet_meets_other _ hb h

/-- Settles O53: beyond the capacity and in the secure partition an access leads nowhere, and what it writes elsewhere stays in its
page. -/
theorem managerWindowsBoundedAndSecure : Obligations.ManagerWindowsBoundedAndSecure := by
  unfold Obligations.ManagerWindowsBoundedAndSecure
  refine ⟨?beyondRead, ?beyondWrite, ?secureRead, ?secureWrite, ?fenced, ?partition⟩
  case beyondRead =>
    rintro s _ o n m l rfl hreach hboot hn hfit hoff hcap
    rw [exec_hostWindowRead (i := .manager) hreach hn hfit, hostTarget_dram_beyond hboot hoff hcap]
    rfl
  case beyondWrite =>
    rintro s _ o n b m l rfl hreach hboot hn hfit hoff hb hcap
    rw [exec_hostWindowWrite (i := .manager) hreach hn hfit hb, hostTarget_dram_beyond hboot hoff hcap]
    rfl
  case secureRead =>
    rintro s _ o n m l rfl hreach hboot hn hfit hoff hsec
    rw [exec_hostWindowRead (i := .manager) hreach hn hfit, hostTarget_secure hboot hoff hsec]
    rfl
  case secureWrite =>
    rintro s _ o n b m l rfl hreach hboot hn hfit hoff hb hsec
    rw [exec_hostWindowWrite (i := .manager) hreach hn hfit hb, hostTarget_secure hboot hoff hsec]
    rfl
  case fenced =>
    rintro s _ o n m l rfl hreach hboot hn hfit hoff hcap hfenced
    have hlow : o < 2 ^ 36 := Nat.lt_of_lt_of_le hoff hcap
    rw [exec_hostWindowRead (i := .manager) hreach hn hfit, hostTarget_dram hboot hlow hoff]
    exact congrArg (fun e => Host.Outcome.next (s.after e)) (hostComplete_fenced hoff hfenced hn 0)
  case partition =>
    rintro s _ o n b m l rfl hboot
    refine ⟨_, exec_hostWindowAccess_cut, fun a hsec => ?_⟩
    dsimp only
    split
    · rfl
    · rw [Option.map_some, Option.map_some, Option.getD_some, Option.isSome_some]
      rcases hostTarget_manager_pan (off := o) hboot true with h | h | ⟨h, hplain⟩
      · rw [h]; rfl
      · rw [h]; rfl
      · rw [h]
        refine memGet_accessAt_other rfl ?_
        have hpage : a / 4096 ≠ o / 4096 := fun heq => by rw [heq, hplain] at hsec; cases hsec
        rw [List.length_take]
        omega

/-! ## Accesses that arrive, and the march test (R465 to R468, R479 to R481) -/

theorem exec_panBusyRetry {r : PanRetry} {l : List PanRetry} (h : s.dev.pan.retries = r :: l) : exec .panBusyRetry s = .next (s.after (
    ((r :: l).filter (·.requester == r.requester)).foldl (fun d r => hostComplete r.requester true r.addr r.len r.write d)
      (updPan (fun p => { p with retries := (r :: l).filter (·.requester != r.requester) }) s.dev))) := by
  have hexec : exec .panBusyRetry s = execPanBusyRetry s := rfl
  rw [hexec]
  unfold execPanBusyRetry
  rw [onDev_eq, h]
  dsimp only [updPan]
  rw [h]

section BorrowStart

variable (hruns : s.dev.pan.testRunning = true) (hnone : s.dev.pan.borrowed = none) (hon : domainOn s.dev 9 = true)
include hruns hnone hon

theorem borrowStart_goes : ¬ (!s.dev.pan.testRunning || s.dev.pan.borrowed.isSome || !domainOn s.dev 9) = true := by
  simp [hruns, hnone, hon]

/-- An abandoned page whose millisecond has passed is borrowed again first. -/
theorem exec_panBorrowStart_again {e : Nat × Nat}
    (hfound : s.dev.pan.retry.find? (fun e => decide (e.2 + 1000000 ≤ nowNs s.dev)) = some e) :
    exec .panBorrowStart s = .next (s.after (borrowPage e.1 s.dev)) := by
  have hexec : exec .panBorrowStart s = execPanBorrowStart s := rfl
  rw [hexec]
  unfold execPanBorrowStart
  rw [onDev_eq]
  dsimp only
  rw [if_neg (borrowStart_goes hruns hnone hon), hfound]

theorem exec_panBorrowStart_next (hretry : s.dev.pan.retry = []) (hpage : s.dev.pan.testPage ≤ s.dev.pan.testLast) :
    exec .panBorrowStart s = .next (s.after (borrowPage s.dev.pan.testPage
      (updPan (fun p => { p with testPage := p.testPage + 1 }) s.dev))) := by
  have hexec : exec .panBorrowStart s = execPanBorrowStart s := rfl
  rw [hexec]
  unfold execPanBorrowStart
  rw [onDev_eq]
  dsimp only
  rw [if_neg (borrowStart_goes hruns hnone hon), hretry, List.find?_nil]
  exact congrArg (fun e => Host.Outcome.next (s.after e)) (if_pos hpage)

end BorrowStart

theorem exec_panBorrowRelease {k : Nat} (h : s.dev.pan.borrowed = some k) : exec (.panBorrowRelease []) s = .next (s.after (
    updPanBank (k % 64) (fun b => { b with borrowed := false })
      (updPan (fun p => { p with borrowed := none, retry := p.retry.filter (·.1 != k) }) s.dev))) := by
  have hexec : exec (.panBorrowRelease []) s = execPanBorrowRelease [] s := rfl
  rw [hexec]
  unfold execPanBorrowRelease
  rw [onDev_eq, h]
  rfl

/-- Settles O33: where an access leads decides what it does, and at its bank the port F access it meets does. The requesters are
operands (log 154), and where no context exists a fault is counted like any other (log 129). -/
theorem panMemoryEvents : Obligations.PanMemoryEvents := by
  unfold Obligations.PanMemoryEvents
  refine ⟨?dram, ?pan, ?faultedRead, ?faultedWrite, ?collides, ?busyRead, ?busyWrite, ?retry, ?borrow,
    ?reborrow, ?release, ?abandon⟩
  case dram =>
    rintro s _ i o n w m l a rfl hreach hn hfit hw hat
    rw [exec_hostWindowAccess hreach hn hfit hw, hat]
    rfl
  case pan =>
    rintro s _ i o n w m l a rfl hreach hn hfit hw hat hfree hmeet
    rw [exec_hostWindowAccess hreach hn hfit hw, hat, accessBy, accessAt_free hfree]
    rcases hmeet with rfl | ⟨rfl, rfl⟩ <;> rfl
  case faultedRead =>
    rintro s _ k p o n m l q rfl hreach hn hfit hfault
    rw [exec_hostWindowRead hreach hn hfit, hfault]
    rfl
  case faultedWrite =>
    rintro s _ k p o n b m l q rfl hreach hn hfit hb hfault
    rw [exec_hostWindowWrite hreach hn hfit hb, hfault]
    rfl
  case collides =>
    rintro s _ i o n b l a rfl hreach hn hfit hb hat hfree hword
    rw [exec_hostWindowWrite hreach hn hfit hb, hat, accessBy, accessAt_free hfree]
    exact congrArg (fun e => Host.Outcome.next (s.after e)) (if_pos (Nat.min_eq_left hword))
  case busyRead =>
    rintro s _ i o n l a rfl hreach hn hfit hat hfree
    rw [exec_hostWindowRead hreach hn hfit, hat, accessBy, accessAt_free hfree]
    rfl
  case busyWrite =>
    rintro s _ i o n b l a rfl hreach hn hfit hb hat hfree
    rw [exec_hostWindowWrite hreach hn hfit hb, hat, accessBy, accessAt_free hfree]
    rfl
  case retry =>
    rintro s _ r l rfl hheld
    exact exec_panBusyRetry hheld
  case borrow =>
    rintro s _ rfl hruns hnone hon hretry hpage
    exact exec_panBorrowStart_next hruns hnone hon hretry hpage
  case reborrow =>
    rintro s _ e rfl hruns hnone hon hfound
    exact exec_panBorrowStart_again hruns hnone hon hfound
  case release =>
    rintro s _ k rfl hborrowed
    exact exec_panBorrowRelease hborrowed
  case abandon =>
    rintro s _ rfl
    rfl

end Sys2Proof.Machine

end

section
/-! The memory commands (R431, R438 to R458), and the machine right after power is applied (R549). -/

namespace Sys2Proof.Machine

variable {c : Cmd} {s : State} {d : Dev} {b : List Byte} {ch : Change}

/-! ## Reset values (R549, R601) -/

theorem memory_wf_nil : Memory.wf [] := by decide

/-- Settles O40: every field of the device has its reset value (R549), tide time 0 among them (R41). That the memories list nothing,
and so read 0, is log 4, and the value of the fuses is log 3. -/
theorem resetValues : Obligations.ResetValues := by
  unfold Obligations.ResetValues
  refine ⟨rfl, rfl, rfl, rfl, rfl, rfl, ?outputs, ?harvest, ?touch, ?haptic, rfl, rfl, rfl, rfl, rfl,
    ⟨memory_wf_nil, memory_wf_nil, memory_wf_nil, memory_wf_nil⟩, ?fuses⟩
  case outputs =>
    intro x hx
    rw [List.eq_of_mem_replicate hx]
    exact ⟨rfl, rfl⟩
  case harvest =>
    intro h hh
    rw [List.eq_of_mem_replicate hh]
    rfl
  case touch =>
    intro p hp
    obtain ⟨k, -, rfl⟩ := List.mem_map.mp hp
    rfl
  case haptic =>
    intro h hh
    rw [List.eq_of_mem_replicate hh]
    rfl
  case fuses => exact ⟨by decide, fun _ h => (nomatch h), fun h => (nomatch h), fun h => (nomatch h)⟩

/-! ## Memory commands -/

@[simp] theorem updBank_withTxns (k f t d) : updBank k f (withTxns t d) = withTxns t (updBank k f d) := rfl

/-- A bank takes a policy in both ranks. -/
def bankSet (channel policy : Nat) (e : Dev) (n : Nat) : Dev :=
  [0, 1].foldl (fun e r => updBank (bankKey channel r n) (fun b => { b with policy := policy }) e) e

/-- The banks of a channel that a mask names take a policy. -/
def channelSet (banks policy : Nat) (e : Dev) (channel : Nat) : Dev := (bitsSet 16 banks).foldl (bankSet channel policy) e

theorem channelSet_withTxns (banks policy : Nat) (e : Dev) (channel : Nat) (t : List Txn) :
    channelSet banks policy (withTxns t e) channel = withTxns t (channelSet banks policy e channel) :=
  foldl_withTxns (bankSet channel policy) (fun _ _ _ => rfl) _ e t

theorem land_memPagePolicy (n : Nat) : (opSpec .memPagePolicy).land n ch d =
    (bitsSet 8 (ch.cmd.u8 24)).foldl (channelSet (ch.cmd.u16 26) (ch.cmd.u8 28)) d := rfl

theorem step10_memRemap_query (h : c.u8 24 = 1) : (opSpec .memRemap).step10 d c = none := if_pos h

theorem start_memRemap_query (t : Ticket) (h : c.u8 24 = 1) : (opSpec .memRemap).start t c d =
    finish t .ok 0 (le8 (workingMask { d.dram with mapNext := c.u8 25 }) ++ [0, 0, 0] ++
      le32 (memCapacity { d.dram with mapNext := c.u8 25 }).toNat) { d with dram := { d.dram with mapNext := c.u8 25 } } :=
  if_neg (by rw [h]; decide)

theorem start_memRemap_begin (t : Ticket) (h : c.u8 24 = 0) : (opSpec .memRemap).start t c d = startRemap t (c.u8 25) d := if_pos h

theorem land_slotTable (n : Nat) : (opSpec .slotTable).land n ch d =
    landingWaits n (updDram (fun m => { m with shadow := some ch.table, shadowTxns := m.shadowTxns ++ [n] }) d) := rfl

/-- A job that starts as its row says. -/
theorem exec_job_starts {op : Op} {e : Dev} (hk : opKind op = .j) (h : Accepted op c s d b)
    (hlate : (opSpec op).step10 d c = none)
    (hop : op ≠ .instanceQuiesce ∧ op ≠ .instanceReset ∧ op ≠ .instanceDestroy ∧ op ≠ .rakeJob)
    (hstart : (opSpec op).start (ticketOf op c s) c d = e) : exec (instrOf op c) s = .next (s.after e) := by
  rw [exec_job op c s d b hk h, startJob_start _ _ hlate hop, hstart]

/-- Settles O14: policy and refresh commands land at once, a slot table waits for the wheel's wrap, and a remap is a job. That its
answer counts the working channels of the map in force is log 138. -/
theorem memoryCommandsLand : Obligations.MemoryCommandsLand := by
  unfold Obligations.MemoryCommandsLand
  refine ⟨?info, ?table, ?query, ?remap, ?policy, ?refresh, ?disturb, ?selfRefresh, ?status⟩
  case info => exact fun c s d b h => exec_read_ok (op := .memMapInfo) rfl h rfl rfl
  case table =>
    exact fun c s d b ch h => exec_waits (op := .slotTable)
      (L := updDram (fun m => { m with shadow := some ch.table, shadowTxns := m.shadowTxns ++ [d.nextTxn] }) d.opened) rfl h rfl
      ((land_slotTable _).trans (landingWaits_landing _ rfl)) rfl
  case query =>
    exact fun c s d b h hquery => exec_job_starts (op := .memRemap) rfl h (step10_memRemap_query hquery) (by decide)
      (start_memRemap_query _ hquery)
  case remap =>
    exact fun c s d b h hbegin hlate => exec_job_starts (op := .memRemap) rfl h hlate (by decide) (start_memRemap_begin _ hbegin)
  case policy =>
    intro c s d b ch h
    have hcmd := h.cmd_eq
    exact does_silent (op := .memPagePolicy) (Or.inr rfl) h rfl
      (fun n t e => by
        rw [land_memPagePolicy, land_memPagePolicy]
        exact foldl_withTxns _ (fun d k t => channelSet_withTxns _ _ d k t) _ e t)
      (by subst hcmd; rfl)
  case refresh =>
    intro c s d b ch h
    have hcmd := h.cmd_eq
    exact does_silent (op := .memRefresh) (Or.inr rfl) h rfl (fun _ _ _ => rfl) (by subst hcmd; rfl)
  case disturb =>
    intro c s d b ch h
    have hcmd := h.cmd_eq
    exact does_silent (op := .memDisturb) (Or.inr rfl) h rfl (fun _ _ _ => rfl) (by subst hcmd; rfl)
  case selfRefresh =>
    intro c s d b ch h
    have hcmd := h.cmd_eq
    exact does_silent (op := .memSelfRefresh) (Or.inr rfl) h rfl (fun _ _ _ => rfl) (by subst hcmd; rfl)
  case status => exact fun c s d b h => exec_read_ok (op := .memStatus) rfl h rfl rfl

end Sys2Proof.Machine

end

section
/-! INSTANCE_CREATE, INSTANCE_WINDOW and INSTANCE_VIEWPORT (R490 to R498): contexts, windows and viewports. -/

namespace Sys2Proof.Machine

variable {c : Cmd} {s : State} {d : Dev} {b : List Byte} {ch : Change}

/-! ## The context that PREPARE gives an INSTANCE_CREATE (R121, R498) -/

/-- Which contexts exist, and the delegate's range. -/
def Dev.contexts (d : Dev) : Tab Instance × Nat × Nat := (d.insts, d.delegFirst, d.delegCount)

theorem landStream_contexts (w : AudioWait) (d : Dev) : (landStream w 0 d).contexts = d.contexts := by
  unfold landStream
  dsimp only
  split
  · rfl
  · split
    · rfl
    · rw [if_pos (by simp)]
      rfl
  · rfl
  · rfl

theorem landPort_contexts (c : Cmd) (d : Dev) : (landPort c 0 d).contexts = d.contexts := by
  unfold landPort
  dsimp only
  split
  · rfl
  · split <;> rfl

theorem refreshAll_contexts (d : Dev) : (refreshAll d).contexts = d.contexts :=
  foldl_keeps Dev.contexts (fun d o => refreshDpAudio o d) (fun _ _ => rfl) _ d

/-- An audio change that lands at a block boundary concerns no context. -/
theorem applyAudio_contexts (w : AudioWait) (d : Dev) : (applyAudio w 0 d).2.contexts = d.contexts := by
  unfold applyAudio
  dsimp only
  split
  · exact landStream_contexts w d
  · exact refreshAll_contexts _
  · exact refreshAll_contexts _
  · rfl
  · exact landPort_contexts w.cmd d
  all_goals rfl

theorem viewOf_contexts {x : Txn} (hd : d.txns = [x]) (hr : x.resolved = []) : (viewOf d).contexts = d.contexts := by
  have hseq : (bySeq d.txns).foldl (fun v t =>
      (t.resolved.filter fun ch => ch.outs.head?.any (waitsFor t)).foldl (fun v ch => landChange t.id ch v) v) d = d := by
    rw [hd]
    change (x.resolved.filter fun ch => ch.outs.head?.any (waitsFor x)).foldl (fun v ch => landChange x.id ch v) d = d
    rw [hr]
    rfl
  unfold viewOf
  rw [hseq]
  exact foldl_keeps Dev.contexts (fun d w => (applyAudio w 0 d).2) (fun d w => applyAudio_contexts w d) _ d

theorem freeContext_of_contexts {e : Dev} (h : e.contexts = d.contexts) (i : Issuer) : freeContext e i = freeContext d i := by
  have hinsts : e.insts = d.insts := congrArg (fun x => x.1) h
  have hfirst : e.delegFirst = d.delegFirst := congrArg (fun x => x.2.1) h
  have hcount : e.delegCount = d.delegCount := congrArg (fun x => x.2.2) h
  unfold freeContext
  generalize List.range 512 = l
  simp only [instOf, inRange, hinsts, hfirst, hcount]

/-- The object of a single change is the one that placing it gave, but for a scaler's gang. -/
theorem prepareChanges_obj {t : Txn} {op : Op} (hop : op ≠ .scalerBind)
    (ht : t.changes = [{ act := .cmd op, cmd := c, table := b, obj := 0xFFFF, outs := [] }])
    (h : prepareChanges t d = .ok [ch]) : ∃ claims, ch.obj = (placeOne d (viewOf d) ((heldTxns d t.id).flatMap (·.resolved))
      (stagesLead t) claims t.id [] (viewOf d) { act := .cmd op, cmd := c, table := b, obj := 0xFFFF, outs := [] }).1.ch.obj := by
  unfold prepareChanges at h
  dsimp only at h
  obtain ⟨claims, hp⟩ := placeTxn_one d (viewOf d) ((heldTxns d t.id).flatMap (·.resolved)) (stagesLead t) t _ ht
  have hact := (placeOne_cmd d (viewOf d) ((heldTxns d t.id).flatMap (·.resolved)) (stagesLead t) claims t.id (viewOf d)
      { act := .cmd op, cmd := c, table := b, obj := 0xFFFF, outs := [] } op rfl).1
  refine ⟨claims, ?_⟩
  generalize placeTxn d (viewOf d) ((heldTxns d t.id).flatMap (·.resolved)) (stagesLead t) t = P at hp h
  generalize (placeOne d (viewOf d) ((heldTxns d t.id).flatMap (·.resolved)) (stagesLead t) claims t.id [] (viewOf d)
    { act := .cmd op, cmd := c, table := b, obj := 0xFFFF, outs := [] }).1 = p at hp hact ⊢
  rw [hp] at h
  have hgang : ∀ g, withGang g p.ch = p.ch := fun g => if_pos (by rw [hact]; simpa using hop)
  split at h
  · cases h
  · simp only [List.zipIdx_cons, List.zipIdx_nil, List.map_cons, List.map_nil, Except.ok.injEq] at h
    have hhead := congrArg List.head? h
    simp only [List.singleton_append, List.head?_cons, Option.some.injEq] at hhead
    rw [← hhead]
    split
    · rfl
    · rw [hgang]

/-- A transaction alone holds no reservation against itself. -/
theorem heldTxns_one {x : Txn} (hd : d.txns = [x]) : heldTxns d x.id = [] := by
  simp [heldTxns, hd]

theorem placeOne_instanceCreate (d view : Dev) (lead claims id) : (placeOne d view [] lead claims id [] view
    { act := .cmd .instanceCreate, cmd := c, table := b, obj := 0xFFFF, outs := [] }).1.ch.obj =
      (if c.u16 24 = 0xFFFF then freeContext view c.issuer else some (c.u16 24)).getD 0xFFFF := by
  unfold placeOne
  dsimp only
  rw [withNumbers_nil]
  rfl

/-- The context that an INSTANCE_CREATE is given: the one it names, or the lowest free one. -/
theorem instanceCreate_obj (h : Lands .instanceCreate c s d b ch) :
    ch.obj = (if c.u16 24 = 0xFFFF then freeContext d c.issuer else some (c.u16 24)).getD 0xFFFF := by
  obtain ⟨claims, hobj⟩ := prepareChanges_obj (by decide) rfl h.ready
  have hview := viewOf_contexts
    (d := { d with nextTxn := d.nextTxn + 1, txns := [ownTxn .instanceCreate c s d b] }) rfl rfl
  rw [heldTxns_one rfl, List.flatMap_nil, placeOne_instanceCreate, freeContext_of_contexts hview] at hobj
  exact hobj

theorem lt_of_find?_range {p : Nat → Bool} {m n : Nat} (h : (List.range m).find? p = some n) : n < m :=
  List.mem_range.mp (List.mem_of_find?_eq_some h)

theorem freeContext_lt {i : Issuer} {n : Nat} (h : freeContext d i = some n) : n < 512 := by
  unfold freeContext at h
  exact lt_of_find?_range h

/-- The context of an accepted INSTANCE_CREATE has a number of R485. -/
theorem instanceCreate_obj_lt (h : Lands .instanceCreate c s d b ch) {n : Nat}
    (hn : (if c.u16 24 = 0xFFFF then freeContext d c.issuer else some (c.u16 24)) = some n) : n < 512 := by
  split at hn
  · exact freeContext_lt hn
  next hnamed =>
    cases hn
    obtain ⟨x, rfl, hcheck⟩ := h.acc.fieldsCheck_eq_none
    have hfield := (fieldsCheck_eq_none_of_find
      (f := fIf 24 2 (fun v => decide (511 < v) && v != 0xFFFF) .outOfRange) (by decide) rfl hcheck).1
    have hnone : (if (decide (511 < x.c.u16 24) && x.c.u16 24 != 0xFFFF) = true then some Status.outOfRange else none) = none :=
      hfield
    split at hnone
    · cases hnone
    next hlow =>
      have hne : (x.c.u16 24 != 0xFFFF) = true := by simpa using hnamed
      rw [hne, Bool.and_true, decide_eq_true_eq] at hlow
      omega

/-- A context that begins (R498). -/
def newContext (weight : Nat) (now : U32) : Instance :=
  { Instance.zero with exists_ := true, state := .active, weight := weight, inForce := weight, stateT := now }

theorem land_instanceCreate {n k : Nat} (hobj : ch.obj = n) (hn : n < 512) (d : Dev) :
    (opSpec .instanceCreate).land k ch d = updInst n (fun _ => newContext (ch.cmd.u8 26) (now32 d)) d := by
  subst hobj
  exact if_neg (Nat.not_le.mpr hn)

/-! ## Windows (R490 to R492) -/

@[simp] theorem updInst_withTxns (n f) (t : List Txn) (d : Dev) : updInst n f (withTxns t d) = withTxns t (updInst n f d) := rfl

/-- A context whose window, DRAM's or pan memory's, has a run of entries set. -/
def windowSet (c : Cmd) (entry : Nat → Option (Nat × Bool)) (x : Instance) : Instance :=
  let put := fun (t : Tab (Option (Nat × Bool))) => (List.range (c.u32 32)).foldl (fun t k => tput none t (c.u32 28 + k) (entry k)) t
  if c.u8 26 = 1 then { x with pan := put x.pan } else { x with dram := put x.dram }

/-- Whether a layer's buffer lies in pages of its owner's window that change. -/
def windowHits (n : Nat) (pan : Bool) (first count : Nat) (l : Layer) : Bool :=
  match l.src with
  | some s => l.owner == .inst n && l.classW && s.mem == b2n pan &&
      (sourceExtents s).any fun x => decide (x.1 < (first + count) * (if pan then 4096 else 2097152)) &&
        decide (first * (if pan then 4096 else 2097152) < x.1 + x.2)
  | none => false

theorem windowLosesW_eq (n : Nat) (pan : Bool) (first count : Nat) (d : Dev) : windowLosesW n pan first count d =
    (layersAll d).foldl (fun d e => if windowHits n pan first count e.2 then loseW e.1 5 (nextFrame d e.2.output) d else d) d := rfl

@[simp] theorem windowLosesW_withTxns (n pan first count) (t : List Txn) (d : Dev) :
    windowLosesW n pan first count (withTxns t d) = withTxns t (windowLosesW n pan first count d) := by
  rw [windowLosesW_eq, windowLosesW_eq]
  refine foldl_withTxns _ (fun d e t => ?_) (layersAll d) d t
  rw [nextFrame, nextNumber_withTxns, loseW_withTxns, ite_withTxns]
  rfl

theorem loseW_cause (n reason frame) (d : Dev) : (loseW n reason frame d).cause = d.cause := by
  unfold loseW
  split
  · split <;> rfl
  · rfl

theorem windowLosesW_cause (n pan first count) (d : Dev) : (windowLosesW n pan first count d).cause = d.cause := by
  rw [windowLosesW_eq]
  refine foldl_keeps Dev.cause _ (fun d e => ?_) _ d
  split
  · exact loseW_cause ..
  · rfl

/-- The entry of a page that INSTANCE_WINDOW maps. -/
def mappedEntry (c : Cmd) (k : Nat) : Option (Nat × Bool) := some (c.u32 36 + k, c.u8 27 == 1)

/-- What INSTANCE_WINDOW makes of a context's window, before an unmap waits for its accesses. -/
def windowLanded (c : Cmd) (entry : Nat → Option (Nat × Bool)) (d : Dev) : Dev :=
  windowLosesW (c.u16 24) (c.u8 26 == 1) (c.u32 28) (c.u32 32) (updInst (c.u16 24) (windowSet c entry) d)

theorem windowLanded_withTxns (c entry) (t : List Txn) (d : Dev) :
    windowLanded c entry (withTxns t d) = withTxns t (windowLanded c entry d) := by
  unfold windowLanded
  rw [updInst_withTxns, windowLosesW_withTxns]

/-- The landing of INSTANCE_WINDOW for a context, by its entries. -/
theorem landWindow_own {n : Nat} (hown : ch.cmd.u16 24 ≠ 0xFFFF) (d : Dev) : landWindow n ch d =
    let e := windowLanded ch.cmd (fun k => if ch.cmd.u8 27 = 2 then none else mappedEntry ch.cmd k) d
    if ch.cmd.u8 27 = 2 then landingWaits n (updInst (ch.cmd.u16 24) (fun x => { x with
      draining := x.draining ++ (rangeFrom (ch.cmd.u32 28) (ch.cmd.u32 32)).map fun p => (ch.cmd.u8 26 == 1, p),
      unmapWaits := x.unmapWaits ++ [n] }) e) else e := by
  unfold landWindow
  dsimp only
  rw [if_neg hown]
  simp only [beq_iff_eq]
  rfl

theorem land_instanceWindow_maps {n : Nat} (hown : ch.cmd.u16 24 ≠ 0xFFFF) (hact : ch.cmd.u8 27 ≠ 2) (d : Dev) :
    (opSpec .instanceWindow).land n ch d = windowLanded ch.cmd (mappedEntry ch.cmd) d := by
  refine (landWindow_own hown d).trans ?_
  simp only [if_neg hact]

/-- The device's reserved pages as INSTANCE_WINDOW leaves them. -/
def reservedBy (c : Cmd) (l : List (Bool × Nat)) : List (Bool × Nat) :=
  let run := (rangeFrom (c.u32 36) (c.u32 32)).map fun p => (c.u8 26 == 1, p)
  if c.u8 27 = 2 then l.filter (!run.contains ·) else l ++ run

theorem land_instanceWindow_reserves {n : Nat} (hown : ch.cmd.u16 24 = 0xFFFF) (d : Dev) :
    (opSpec .instanceWindow).land n ch d = { d with reserved := reservedBy ch.cmd d.reserved } := if_pos hown

/-- A context whose unmapped pages still drain. -/
def Instance.drains (pages : List (Bool × Nat)) (txn : Nat) (x : Instance) : Instance :=
  { x with draining := x.draining ++ pages, unmapWaits := x.unmapWaits ++ [txn] }

theorem land_instanceWindow_unmaps {n : Nat} (hown : ch.cmd.u16 24 ≠ 0xFFFF) (hact : ch.cmd.u8 27 = 2) (d : Dev) :
    (opSpec .instanceWindow).land n ch d = landingWaits n (updInst (ch.cmd.u16 24)
      (Instance.drains ((rangeFrom (ch.cmd.u32 28) (ch.cmd.u32 32)).map fun p => (ch.cmd.u8 26 == 1, p)) n)
      (windowLanded ch.cmd (fun _ => none) d)) := by
  refine (landWindow_own hown d).trans ?_
  simp only [if_pos hact]
  rfl

/-! ## Viewports (R496) -/

@[simp] theorem setViewport_withTxns (n o slot r) (t : List Txn) (d : Dev) :
    setViewport n o slot r (withTxns t d) = withTxns t (setViewport n o slot r d) := by
  unfold setViewport
  dsimp only
  rw [updInst_withTxns, clipLayers_withTxns, clipMonitors_withTxns]

end Sys2Proof.Machine

end

section
/-! What the commands on contexts, windows and viewports do (R485 to R514). -/

namespace Sys2Proof.Machine

variable {c : Cmd} {s : State} {d : Dev} {b : List Byte} {ch : Change}

/-! ## The jobs (R500, R504, R507, R508) -/

theorem exec_instanceQuiesce {e : Dev} (h : Accepted .instanceQuiesce c s d b) (hlate : (opSpec .instanceQuiesce).step10 d c = none)
    (hstart : startInstanceQuiesce (ticketOf .instanceQuiesce c s) c d = e) :
    exec (.instanceQuiesce c) s = .next (s.after e) := by
  have hexec := exec_job .instanceQuiesce c s d b rfl h
  simp only [startJob, hlate, hstart] at hexec
  exact hexec

theorem step10_instanceQuiesce (h : c.u8 26 ≠ 2 ∨ idleQuiesced d (c.u16 24) = true) :
    (opSpec .instanceQuiesce).step10 d c = none := by
  change failIf (c.u8 26 == 2 && !idleQuiesced d (c.u16 24)) .instanceBusy 0 = none
  rcases h with h | h
  · rw [beq_eq_false_iff_ne.mpr h]
    rfl
  · rw [h, Bool.not_true, Bool.and_false]
    rfl

theorem exec_instanceReset (h : Accepted .instanceReset c s d b) (hidle : idleQuiesced d (c.u16 24) = true) :
    exec (.instanceReset c) s = .next (s.after (startReset (c.u16 24)
      (updInst (c.u16 24) (fun x => { x with resetBy := some (ticketOf .instanceReset c s, false) }) d))) := by
  have hlate : (opSpec .instanceReset).step10 d c = none := by
    change failIf (!idleQuiesced d (c.u16 24)) .instanceBusy 0 = none
    rw [hidle]
    rfl
  have hexec := exec_job .instanceReset c s d b rfl h
  simp only [startJob, hlate] at hexec
  exact hexec

theorem exec_instanceDestroy (h : Accepted .instanceDestroy c s d b) (hidle : idleQuiesced d (c.u16 24) = true) :
    exec (.instanceDestroy c) s = .next (s.after (unviewAll (c.u16 24) (unmapAll (c.u16 24) (releaseAll (c.u16 24)
      (updInst (c.u16 24) (fun x => { x with resetBy := some (ticketOf .instanceDestroy c s, true) }) d))))) := by
  have hlate : (opSpec .instanceDestroy).step10 d c = none := by
    change failIf (!idleQuiesced d (c.u16 24)) .instanceBusy 0 = none
    rw [hidle]
    rfl
  have hexec := exec_job .instanceDestroy c s d b rfl h
  simp only [startJob, hlate] at hexec
  exact hexec

/-! ## What landings reply -/

/-- A command of kind N replies with what its row reads of the device that its landing leaves. -/
theorem does_answers {op : Op} {L : Dev → Dev} {res : Dev → List Byte} (hk : opKind op = .d ∨ opKind op = .n)
    (h : Lands op c s d b ch) (hres : ∀ e, (opSpec op).results e ch = res e) (hrest : ∀ t e, res (withTxns t e) = res e)
    (hland : ∀ t, (opSpec op).land d.nextTxn ch (withTxns t d.opened) = L (withTxns t d.opened))
    (hL : ∀ t, L (withTxns t d.opened) = withTxns t (L d.opened)) :
    Does (instrOf op c) (ticketOf op c s) s (res (L d.opened)) (L d.opened) := by
  have hopened : (opSpec op).land d.nextTxn ch d.opened = L d.opened := hland d.opened.txns
  exact does_lands op c s d b ch _ _ hk h (fun t => by rw [hland, hL, hopened]) (fun t => by rw [hres, hres, hrest])
    (fun _ _ => hopened) (fun _ _ => hres _)

theorem land_instanceViewport (n : Nat) (d : Dev) : (opSpec .instanceViewport).land n ch d =
    setViewport (ch.cmd.u16 24) (ch.cmd.u8 26) (ch.cmd.u8 27)
      { x := ch.cmd.u16 28, y := ch.cmd.u16 30, w := ch.cmd.u16 32, h := ch.cmd.u16 34 } d := by
  simp only [opSpec, specInstanceViewport, vpRect]

/-- INSTANCE_WINDOW answers the entries left of its pool (R490). -/
def windowLeft (c : Cmd) (d : Dev) : List Byte := le32 (poolLeft d (c.u8 26 == 1))

theorem exec_instanceWindow_unmaps (h : Lands .instanceWindow c s d b ch) (hown : c.u16 24 ≠ 0xFFFF) (hact : c.u8 27 = 2) {e : Dev}
    (he : e = updInst (c.u16 24)
      (Instance.drains ((rangeFrom (c.u32 28) (c.u32 32)).map fun p => (c.u8 26 == 1, p)) d.nextTxn)
      (windowLanded c (fun _ => none) d.opened)) :
    exec (.instanceWindow c) s =
      .next (s.after (withTxns [waitingTxn .instanceWindow c s d b ch (windowLeft c e)] e)) := by
  have hcmd := h.cmd_eq
  subst hcmd he
  have hland := land_instanceWindow_unmaps (n := d.nextTxn) hown hact
    (withTxns [landingTxn .instanceWindow ch.cmd s d b ch] d.opened)
  rw [windowLanded_withTxns, updInst_withTxns] at hland
  exact exec_waits (op := .instanceWindow) rfl h rfl (hland.trans (landingWaits_landing _ rfl))
    (windowLosesW_cause ..)

/-- Settles O16: windows, contexts and viewports land as their rows say, and the lifecycle commands are jobs. INSTANCE_DESTROY
starting without RESETTING is log 94, the lowest free number of the delegate's range log 92, and the idle QUIESCED condition
log 93. -/
theorem instanceCommandsLand : Obligations.InstanceCommandsLand := by
  unfold Obligations.InstanceCommandsLand
  refine ⟨?create, ?share, ?quiesce, ?quiesced, ?resume, ?reset, ?destroy, ?map, ?reserve, ?unmap, ?viewport, ?range, ?device,
    ?status⟩
  case create =>
    intro c s d b ch n h hn
    have hobj := instanceCreate_obj h
    have hlt := instanceCreate_obj_lt h hn
    have hcmd := h.cmd_eq
    rw [hn, Option.getD_some] at hobj
    subst hcmd
    exact does_replies (op := .instanceCreate) (L := updInst n fun _ => newContext (ch.cmd.u8 26) (now32 d)) (Or.inr rfl) h
      (fun _ => congrArg le16 hobj) (fun t => land_instanceCreate hobj hlt _) (fun _ _ => rfl)
  case share =>
    intro c s d b ch h
    have hcmd := h.cmd_eq
    exact does_silent (op := .instanceShare) (Or.inr rfl) h rfl (fun _ _ _ => rfl) (by subst hcmd; rfl)
  case quiesce =>
    intro c s d b h hact hactive
    exact exec_instanceQuiesce h (step10_instanceQuiesce (Or.inl hact)) (by
      unfold startInstanceQuiesce
      dsimp only
      rw [if_neg hact, hactive])
  case quiesced =>
    intro c s d b h hact hquiesced
    have hhide : (c.u8 26 == 1) = false := by rw [hact]; rfl
    exact exec_instanceQuiesce h (step10_instanceQuiesce (Or.inl (by rw [hact]; decide))) (by
      unfold startInstanceQuiesce
      dsimp only
      rw [if_neg (by rw [hact]; decide), hquiesced, hhide]
      rfl)
  case resume =>
    intro c s d b h hact hidle
    exact exec_instanceQuiesce h (step10_instanceQuiesce (Or.inr hidle)) (if_pos hact)
  case reset => exact fun c s d b h hidle => exec_instanceReset h hidle
  case destroy => exact fun c s d b h hidle => exec_instanceDestroy h hidle
  case map =>
    rintro c s d b ch e h hown hact rfl
    have hcmd := h.cmd_eq
    subst hcmd
    exact does_answers (op := .instanceWindow) (L := windowLanded ch.cmd (mappedEntry ch.cmd)) (res := windowLeft ch.cmd) (Or.inr rfl)
      h (fun _ => rfl) (fun _ _ => rfl) (fun t => land_instanceWindow_maps hown hact _)
      (fun t => windowLanded_withTxns _ _ t _)
  case reserve =>
    rintro c s d b ch r h hown rfl
    have hcmd := h.cmd_eq
    subst hcmd
    exact does_answers (op := .instanceWindow) (L := fun e => { e with reserved := reservedBy ch.cmd e.reserved })
      (res := windowLeft ch.cmd) (Or.inr rfl) h (fun _ => rfl) (fun _ _ => rfl)
      (fun t => land_instanceWindow_reserves hown _) (fun _ => rfl)
  case unmap =>
    rintro c s d b ch e h hown hact rfl
    exact exec_instanceWindow_unmaps h hown hact rfl
  case viewport =>
    intro c s d b ch h
    have hcmd := h.cmd_eq
    exact does_silent (op := .instanceViewport) (Or.inl rfl) h rfl
      (fun n t e => by rw [land_instanceViewport, land_instanceViewport, setViewport_withTxns])
      (by subst hcmd; exact land_instanceViewport _ _)
  case range =>
    intro c s d b ch h
    have hcmd := h.cmd_eq
    exact does_silent (op := .delegateRange) (Or.inr rfl) h rfl (fun _ _ _ => rfl) (by subst hcmd; rfl)
  case device =>
    exact fun c s d b h => exec_job_starts (op := .deviceReset) rfl h rfl (by decide) rfl
  case status => exact fun c s d b h => exec_read_ok (op := .instanceStatus) rfl h rfl rfl

end Sys2Proof.Machine

end

section
/-! The power commands (R539 to R545, R564 to R571): what a switch-off loses leaves the transactions alone. -/

namespace Sys2Proof.Machine

variable {c : Cmd} {s : State} {d : Dev} {b : List Byte} {ch : Change} {t : List Txn}

/-! ## Losses that leave the transactions alone (R541, R542) -/

@[simp] theorem updPower_withTxns (f) : updPower f (withTxns t d) = withTxns t (updPower f d) := rfl
@[simp] theorem updAudio_withTxns (f) : updAudio f (withTxns t d) = withTxns t (updAudio f d) := rfl
@[simp] theorem updStream_withTxns (cap k f) : updStream cap k f (withTxns t d) = withTxns t (updStream cap k f d) := rfl
@[simp] theorem updHap_withTxns (k f) : updHap k f (withTxns t d) = withTxns t (updHap k f d) := rfl
@[simp] theorem updChan_withTxns (k f) : updChan k f (withTxns t d) = withTxns t (updChan k f d) := rfl
@[simp] theorem linkDownEvent_withTxns (p) : linkDownEvent p (withTxns t d) = withTxns t (linkDownEvent p d) := rfl
@[simp] theorem ringFail_withTxns (k q) : ringFail (withTxns t d) k q = ringFail d k q := rfl

@[simp] theorem beginOn_withTxns (island i) : beginOn island i (withTxns t d) = withTxns t (beginOn island i d) := by
  have hsame : targetOn (withTxns t d) island i = targetOn d island i := rfl
  simp only [beginOn, hsame, withTxns_power, updPower_withTxns, ite_withTxns]

theorem closeChannel_withTxns (k) : closeChannel k (withTxns t d) = withTxns t (closeChannel k d) := by
  refine foldl_withTxns _ (fun d k' t => ?_) _ d t
  rw [updBank_withTxns, ite_withTxns]

theorem enterSelfRefresh_withTxns (k) : enterSelfRefresh k (withTxns t d) = withTxns t (enterSelfRefresh k d) := by
  have hsame : chanOf (withTxns t d) k = chanOf d k := rfl
  simp only [enterSelfRefresh, hsame, updChan_withTxns, closeChannel_withTxns, ite_withTxns]

@[simp] theorem memSleep_withTxns : memSleep (withTxns t d) = withTxns t (memSleep d) :=
  foldl_withTxns (fun d k => enterSelfRefresh k d) (fun _ _ _ => enterSelfRefresh_withTxns _) _ d t

/-- A queue whose ring is lost stops. -/
def stopLost (k : Nat) (d : Dev) (q : Nat) : Dev :=
  match ringFail d k q with
  | some e => stopQueue k q e d
  | none => d

theorem stopLost_withTxns (k q) : stopLost k (withTxns t d) q = withTxns t (stopLost k d q) := by
  unfold stopLost
  rw [ringFail_withTxns]
  split
  · exact stopQueue_withTxns ..
  · rfl

theorem stopLostQueues_eq (d : Dev) : stopLostQueues d = (tkeys d.pages).foldl (fun d k => [2, 0, 1].foldl (stopLost k) d) d := rfl

@[simp] theorem stopLostQueues_withTxns : stopLostQueues (withTxns t d) = withTxns t (stopLostQueues d) := by
  rw [stopLostQueues_eq, stopLostQueues_eq]
  exact foldl_withTxns _ (fun d k t => foldl_withTxns (stopLost k) (fun _ _ _ => stopLost_withTxns ..) [2, 0, 1] d t) _ d t

@[simp] theorem memoryOff_withTxns : memoryOff (withTxns t d) = withTxns t (memoryOff d) := by
  rw [memoryOff, memSleep_withTxns, stopLostQueues_withTxns, memoryOff]

@[simp] theorem linkDownAll_withTxns : linkDownAll (withTxns t d) = withTxns t (linkDownAll d) := by
  refine foldl_withTxns _ (fun d p t => ?_) _ d t
  dsimp only
  rw [oxUp_withTxns, dropTx_withTxns, linkDownEvent_withTxns, ite_withTxns, leaveUp_withTxns]

@[simp] theorem cancelAll_withTxns (cause sel) : cancelAll cause sel (withTxns t d) = withTxns t (cancelAll cause sel d) :=
  foldl_withTxns (fun d p => cancelOn p cause sel d) (fun _ _ _ => cancelOn_withTxns ..) _ d t

@[simp] theorem stopTouch_withTxns : stopTouch (withTxns t d) = withTxns t (stopTouch d) := by
  unfold stopTouch
  rw [cancelAll_withTxns]
  generalize cancelAll 6 (fun _ => true) d = e
  rfl

theorem stoppedEvent_withTxns (cap k cause st) :
    stoppedEvent cap k cause st (withTxns t d) = withTxns t (stoppedEvent cap k cause st d) := by
  unfold stoppedEvent
  dsimp only [withTxns_audio]
  split <;> rfl

/-- A running stream of an island that goes off stops (R541). -/
def streamLost (cap : Bool) (d : Dev) (k : Nat) : Dev :=
  if (streamOf d.audio cap k).running then
    stoppedEvent cap k 3 0 (updStream cap k (fun s => { s with running := false, quiesce := none }) d) else d

theorem streamLost_withTxns (cap k) : streamLost cap (withTxns t d) k = withTxns t (streamLost cap d k) := by
  unfold streamLost
  rw [updStream_withTxns, stoppedEvent_withTxns, ite_withTxns]
  rfl

/-- The island's queues once its streams have stopped. -/
def Audio.closes (a : Audio) : Audio :=
  { a with closing := some 0, playback := a.playback.map fun s => { s with next := [], fadeIn := false } }

theorem stopAudio_eq (d : Dev) : stopAudio d =
    updAudio Audio.closes ((List.range 16).foldl (streamLost true) ((List.range 64).foldl (streamLost false) d)) := rfl

@[simp] theorem stopAudio_withTxns : stopAudio (withTxns t d) = withTxns t (stopAudio d) := by
  have hlost : ∀ (cap : Bool) (l : List Nat) (d : Dev),
      l.foldl (streamLost cap) (withTxns t d) = withTxns t (l.foldl (streamLost cap) d) :=
    fun cap l d => foldl_withTxns (streamLost cap) (fun _ _ _ => streamLost_withTxns ..) l d t
  rw [stopAudio_eq, stopAudio_eq, hlost, hlost, updAudio_withTxns]

/-! ## Haptic channels that nothing waits for -/

/-- No trigger and no command waits for a channel. -/
def Unasked (d : Dev) : Prop := ∀ k, (hapOf d k).waiting = none ∧ (hapOf d k).setup = none

theorem nthD_mem_or {α : Type} (z : α) (k : Nat) (l : List α) : nthD z k l ∈ l ∨ nthD z k l = z := by
  induction l generalizing k with
  | nil => exact Or.inr (by cases k <;> rfl)
  | cons x l ih =>
    cases k with
    | zero => exact Or.inl (List.mem_cons_self ..)
    | succ k => exact (ih k).imp_left (List.mem_cons_of_mem x)

theorem unasked_of_channels (h : ∀ x ∈ d.haptic.channels, x.waiting = none ∧ x.setup = none) : Unasked d := by
  intro k
  rcases nthD_mem_or Haptic.zero k d.haptic.channels with hmem | hzero
  · exact h _ hmem
  · rw [hapOf, hzero]
    exact ⟨rfl, rfl⟩

@[simp] theorem hapDone_withTxns (k n src cause x) :
    hapDone k n src cause x (withTxns t d) = withTxns t (hapDone k n src cause x d) := by
  unfold hapDone
  split
  · rw [raise_withTxns, ite_withTxns]
  · rfl

@[simp] theorem accountHalf_withTxns (k) : accountHalf k (withTxns t d) = withTxns t (accountHalf k d) := by
  have hsame : hapOf (withTxns t d) k = hapOf d k := rfl
  have hnow : nowNs (withTxns t d) = nowNs d := rfl
  unfold accountHalf
  dsimp only
  rw [hsame, hnow]
  split
  · rfl
  · rw [updHap_withTxns, ite_withTxns]

@[simp] theorem endEffect_withTxns (k cause) : endEffect k cause (withTxns t d) = withTxns t (endEffect k cause d) := by
  have hsame : hapOf (withTxns t d) k = hapOf d k := rfl
  unfold endEffect
  rw [hsame]
  split
  · rfl
  · rw [updHap_withTxns, hapDone_withTxns]

/-- The state a channel's bridge is released to (R379). -/
def bridgeNext (h : Haptic) : HapState := if h.state == .fault then .fault else if h.state == .rest then .rest else .idle

/-- A channel as its bridge is released. -/
def Haptic.freed (served : Bool) (now : Nat) (next : HapState) (h : Haptic) : Haptic :=
  { h with state := if h.enabled && served then next else .off, squares := trimSquares now h.squares }

/-- A channel as PD_FEED goes off. -/
def Haptic.unpowered (off : Bool) (h : Haptic) : Haptic := if off then { h with state := .off } else h

/-- What stopping a channel does that nothing waits for. -/
def hapHalts (off : Bool) (d : Dev) (k : Nat) : Dev :=
  let e := endEffect k 6 (accountHalf k d)
  updHap k (Haptic.unpowered off) (updHap k (Haptic.freed (domainOn e 10) (nowNs e) (bridgeNext (hapOf d k))) e)

theorem hapHalts_withTxns (off k) : hapHalts off (withTxns t d) k = withTxns t (hapHalts off d k) := by
  have hsame : hapOf (withTxns t d) k = hapOf d k := rfl
  have hnow : ∀ e, nowNs (withTxns t e) = nowNs e := fun _ => rfl
  unfold hapHalts
  dsimp only
  rw [accountHalf_withTxns, endEffect_withTxns, hsame, hnow, domainOn_withTxns, updHap_withTxns, updHap_withTxns]

theorem endEffect_asks (k cause j) (d : Dev) : ((hapOf (endEffect k cause d) j).waiting, (hapOf (endEffect k cause d) j).setup) =
    ((hapOf d j).waiting, (hapOf d j).setup) := by
  unfold endEffect
  split
  · rfl
  · rw [hapOf_eq_of_haptic (hapDone_haptic ..)]
    exact hapOf_updHap_keeps (fun h => (h.waiting, h.setup)) fun _ => rfl

theorem accountHalf_asks (k j) (d : Dev) : ((hapOf (accountHalf k d) j).waiting, (hapOf (accountHalf k d) j).setup) =
    ((hapOf d j).waiting, (hapOf d j).setup) := by
  have hkept := congrArg (fun h : Haptic => (h.waiting, h.setup)) (accountHalf_uncounted (c := k) (k := j) d)
  exact hkept

theorem Unasked.of_asks {e : Dev} (h : Unasked d) (heq : ∀ j, ((hapOf e j).waiting, (hapOf e j).setup) =
    ((hapOf d j).waiting, (hapOf d j).setup)) : Unasked e := fun j =>
  ⟨(congrArg Prod.fst (heq j)).trans (h j).1, (congrArg Prod.snd (heq j)).trans (h j).2⟩

theorem Unasked.updHap (h : Unasked d) {f : Haptic → Haptic} (hf : ∀ x, ((f x).waiting, (f x).setup) = (x.waiting, x.setup)) (k) :
    Unasked (updHap k f d) :=
  h.of_asks fun _ => hapOf_updHap_keeps (fun h => (h.waiting, h.setup)) hf

theorem Unasked.ended (h : Unasked d) (k) : Unasked (endEffect k 6 (accountHalf k d)) :=
  h.of_asks fun j => (endEffect_asks k 6 j _).trans (accountHalf_asks k j d)

theorem unpowered_asks (off) (x : Haptic) : ((x.unpowered off).waiting, (x.unpowered off).setup) = (x.waiting, x.setup) := by
  cases off <;> rfl

theorem freed_asks (served now next) (x : Haptic) :
    ((x.freed served now next).waiting, (x.freed served now next).setup) = (x.waiting, x.setup) := rfl

theorem Unasked.hapHalts (h : Unasked d) (off k) : Unasked (hapHalts off d k) :=
  ((h.ended k).updHap (freed_asks _ _ _) k).updHap (unpowered_asks off) k

theorem applySetup_unasked (h : Unasked d) (k) : applySetup k d = d := by
  rw [applySetup, (h k).2]

theorem dropWait_unasked (h : Unasked d) (k cause v) : dropWait k cause v d = d := by
  rw [dropWait, (h k).1]

/-- One channel of `stopHaptics`. -/
def hapStops (off : Bool) (d : Dev) (k : Nat) : Dev :=
  let d := dropWait k 6 (some (.notPermitted, 2)) d
  let d := releaseBridge k 6 (bridgeNext (hapOf d k)) d
  if off then updHap k (fun h => { h with state := .off }) d else d

theorem stopHaptics_eq (off : Bool) (d : Dev) : stopHaptics off d = (List.range 8).foldl (hapStops off) d := rfl

theorem hapStops_unasked (h : Unasked d) (off k) : hapStops off d k = hapHalts off d k := by
  have hfreed : ∀ next, releaseBridge k 6 next d = updHap k
      (Haptic.freed (domainOn (endEffect k 6 (accountHalf k d)) 10) (nowNs (endEffect k 6 (accountHalf k d))) next)
      (endEffect k 6 (accountHalf k d)) := fun next => by
    unfold releaseBridge
    exact applySetup_unasked ((h.ended k).updHap (freed_asks _ _ _) k) k
  unfold hapStops hapHalts
  dsimp only
  rw [dropWait_unasked h, hfreed]
  cases off with
  | true => rfl
  | false => exact (updHap_fixed (f := Haptic.unpowered false) rfl).symm

theorem foldl_hapStops_unasked (off : Bool) (l : List Nat) (h : Unasked d) :
    l.foldl (hapStops off) d = l.foldl (hapHalts off) d := by
  induction l generalizing d with
  | nil => rfl
  | cons k l ih =>
    rw [List.foldl_cons, List.foldl_cons, hapStops_unasked h]
    exact ih (h.hapHalts off k)

/-- Where nothing waits for a channel, stopping them all completes no transaction. -/
theorem stopHaptics_withTxns (h : Unasked d) (off) : stopHaptics off (withTxns t d) = withTxns t (stopHaptics off d) := by
  have h' : Unasked (withTxns t d) := h
  rw [stopHaptics_eq, stopHaptics_eq, foldl_hapStops_unasked off _ h, foldl_hapStops_unasked off _ h']
  exact foldl_withTxns (hapHalts off) (fun _ _ _ => hapHalts_withTxns ..) _ d t

/-! ## Switching off and on -/

@[simp] theorem markTarget_withTxns (island i on) :
    markTarget island i on (withTxns t d) = withTxns t (markTarget island i on d) := rfl

theorem markTarget_haptic (island i on) (d : Dev) : (markTarget island i on d).haptic = d.haptic := rfl

theorem stopAudio_haptic (d : Dev) : (stopAudio d).haptic = d.haptic := by
  have hlost : ∀ (cap : Bool) (e : Dev) k, (streamLost cap e k).haptic = e.haptic := fun cap e k => by
    unfold streamLost stoppedEvent
    dsimp only
    split
    · split <;> rfl
    · rfl
  rw [stopAudio_eq]
  generalize List.range 16 = m, List.range 64 = l
  exact (foldl_keeps Dev.haptic (streamLost true) (hlost true) m _).trans (foldl_keeps Dev.haptic (streamLost false) (hlost false) l d)

theorem Unasked.of_haptic {e : Dev} (h : Unasked d) (heq : e.haptic = d.haptic) : Unasked e := fun k => by
  rw [hapOf_eq_of_haptic heq]
  exact h k

theorem domainLoses_withTxns (h : Unasked d) (i) : domainLoses i (withTxns t d) = withTxns t (domainLoses i d) := by
  unfold domainLoses
  split
  · rfl
  · rfl
  · rfl
  · exact memoryOff_withTxns
  · rw [stopAudio_withTxns, stopHaptics_withTxns (h.of_haptic (stopAudio_haptic d)), stopTouch_withTxns]
  · exact linkDownAll_withTxns
  · rfl

theorem islandLoses_withTxns (h : Unasked d) (i) : islandLoses i (withTxns t d) = withTxns t (islandLoses i d) := by
  unfold islandLoses
  split
  · exact memoryOff_withTxns
  · exact linkDownAll_withTxns
  · exact stopAudio_withTxns
  · rw [stopHaptics_withTxns h, cancelAll_withTxns]
  · rfl

/-- Where nothing waits for a haptic channel, a switch-off completes no transaction. -/
theorem switchOff_withTxns (h : Unasked d) (island i) : switchOff island i (withTxns t d) = withTxns t (switchOff island i d) := by
  have hmarked : Unasked (markTarget island i false d) := h.of_haptic (markTarget_haptic ..)
  unfold switchOff
  dsimp only
  rw [markTarget_withTxns]
  cases island with
  | true => exact islandLoses_withTxns hmarked i
  | false => exact domainLoses_withTxns hmarked i

/-! ## Landings of POWER_DOMAIN and POWER_ISLAND -/

theorem landSwitch_on {n : Nat} {island : Bool} {e : Dev} (hact : ch.cmd.u8 25 = 1) (hq : e.sec.queued = []) :
    landSwitch island n ch e = beginOn island (ch.cmd.u8 24) e := by
  unfold landSwitch
  dsimp only
  rw [if_pos hact, hq]
  rfl

theorem landSwitch_off {n : Nat} {island : Bool} {e : Dev} (hact : ch.cmd.u8 25 = 0)
    (hon : targetOn e island (ch.cmd.u8 24) = true) (hheld : heldBy e island (ch.cmd.u8 24) = false) :
    landSwitch island n ch e = switchOff island (ch.cmd.u8 24) e := by
  unfold landSwitch
  dsimp only
  rw [if_neg (by rw [hact]; decide), hon, hheld]
  rfl

theorem targetOn_opened {island : Bool} {i : Nat} : targetOn (withTxns t d.opened) island i = targetOn d island i := rfl
theorem heldBy_opened {island : Bool} {i : Nat} : heldBy (withTxns t d.opened) island i = heldBy d island i := rfl

section Switches

variable {op : Op} {island : Bool} {res : Dev → List Byte} (hk : opKind op = .d ∨ opKind op = .n)
  (hland : (opSpec op).land = landSwitch island) (hres : (opSpec op).results = fun e _ => res e)
  (hrest : ∀ t e, res (withTxns t e) = res e) (h : Lands op c s d b ch)
include hk hland hres hrest h

/-- A command that switches a target on replies with what its row reads once the switch has begun. -/
theorem does_switchOn (hact : c.u8 25 = 1) (hq : d.sec.queued = []) : Does (instrOf op c) (ticketOf op c s) s
    (res (beginOn island (c.u8 24) d.opened)) (beginOn island (c.u8 24) d.opened) := by
  have hcmd := h.cmd_eq
  subst hcmd
  exact does_answers (L := beginOn island (ch.cmd.u8 24)) hk h (fun _ => by rw [hres]) hrest
    (fun _ => by rw [hland]; exact landSwitch_on hact hq) (fun _ => beginOn_withTxns ..)

/-- A command that switches off a target that is on and not held replies with what its row reads once it is off. -/
theorem does_switchOff (hact : c.u8 25 = 0) (hon : targetOn d island (c.u8 24) = true) (hheld : heldBy d island (c.u8 24) = false)
    (hchannels : ∀ x ∈ d.haptic.channels, x.waiting = none ∧ x.setup = none) : Does (instrOf op c) (ticketOf op c s) s
    (res (switchOff island (c.u8 24) d.opened)) (switchOff island (c.u8 24) d.opened) := by
  have hcmd := h.cmd_eq
  subst hcmd
  exact does_answers (L := switchOff island (ch.cmd.u8 24)) hk h (fun _ => by rw [hres]) hrest
    (fun _ => by rw [hland]; exact landSwitch_off hact (targetOn_opened.trans hon) (heldBy_opened.trans hheld))
    (fun _ => switchOff_withTxns (d := d.opened) (unasked_of_channels hchannels) ..)

end Switches

/-! ## POWER_STATE (R545, R570) -/

theorem sec_queued_nil (h : d.sec.queued = []) (keep : Queued → Bool) :
    updSec (fun s => { s with queued := s.queued.filter keep }) d = d := by
  have hsec : ({ d.sec with queued := d.sec.queued.filter keep } : Secure) = d.sec := by
    rw [h, List.filter_nil, ← h]
  exact congrArg (fun x => { d with sec := x }) hsec

/-- A POWER_STATE that replaces and cancels nothing, and meets no hold, runs. -/
theorem startPowerState_runs (k : Ticket) (hq : d.sec.queued = [])
    (hheld : decide (2 ≤ c.u8 24) && c.u8 24 != 0xFF → stateHeld d (stateOfCode (c.u8 24)) = []) :
    startPowerState k c d = runPowerState (some k) c d := by
  unfold startPowerState
  dsimp only
  rw [sec_queued_nil hq, ite_self, hq, List.find?_nil]
  dsimp only
  refine if_pos ?_
  split
  next hsleeps => rw [hheld hsleeps]; rfl
  · rfl

/-- A POWER_STATE that only sets leaves what is queued. -/
theorem startPowerState_sets (k : Ticket) (h : c.u8 24 = 0xFF) : startPowerState k c d = runPowerState (some k) c d := by
  unfold startPowerState
  dsimp only
  rw [h, if_pos rfl]
  cases d.sec.queued.find? fun q => q.op == .powerState <;> rfl

theorem powerSettings_state (c : Cmd) (d : Dev) : (powerSettings c d).power.state = d.power.state := by
  unfold powerSettings
  dsimp only
  split <;> rfl

theorem runPowerState_still (k : Ticket) (h : c.u8 24 = 1) : runPowerState (some k) c d =
    finish k .ok 0 (le8 (devCode d.power.state)) (updPower (fun p => { p with stillOk := true }) (powerSettings c d)) := by
  unfold runPowerState
  rw [h, ← powerSettings_state c d]
  rfl

theorem runPowerState_sets (k : Ticket) (h : c.u8 24 = 0xFF) : runPowerState (some k) c d =
    finish k .ok 0 (le8 (devCode d.power.state)) (powerSettings c d) := by
  unfold runPowerState
  rw [h, ← powerSettings_state c d]
  rfl

/-- The device as a POWER_STATE RUN leaves it. -/
def runState (c : Cmd) (d : Dev) : Dev := leaveDeviceStill (updPower (fun p => { p with stillOk := false }) (powerSettings c d))

theorem runPowerState_run (k : Ticket) (h : c.u8 24 = 0) : runPowerState (some k) c d =
    finish k .ok 0 (le8 (devCode (runState c d).power.state)) (runState c d) := by
  unfold runPowerState
  rw [h]
  rfl

theorem runPowerState_sleeps (k : Ticket) (hlow : 2 ≤ c.u8 24) (hhigh : c.u8 24 ≤ 4) : runPowerState (some k) c d =
    updPower (fun p => { p with entering := some { target := stateOfCode (c.u8 24), ticket := some k } })
      (leaveDeviceStill (powerSettings c d)) := by
  have hcode : c.u8 24 = 2 ∨ c.u8 24 = 3 ∨ c.u8 24 = 4 := by omega
  unfold runPowerState
  rcases hcode with h | h | h <;> rw [h] <;> rfl

theorem step10_powerState (h : c.u8 24 < 2 ∨ c.u8 24 = 0xFF ∨ sleepRefused d = false) :
    (opSpec .powerState).step10 d c = none := by
  change failIf (decide (2 ≤ c.u8 24) && c.u8 24 != 0xFF && sleepRefused d) .notPermitted 0 = none
  rcases h with h | h | h
  · rw [decide_eq_false (Nat.not_le.mpr h)]
    rfl
  · rw [h]
    rfl
  · rw [h, Bool.and_false]
    rfl

theorem exec_powerState {e : Dev} (h : Accepted .powerState c s d b)
    (hlate : c.u8 24 < 2 ∨ c.u8 24 = 0xFF ∨ sleepRefused d = false)
    (hstart : startPowerState (ticketOf .powerState c s) c d = e) : exec (.powerState c) s = .next (s.after e) :=
  exec_job_starts (op := .powerState) rfl h (step10_powerState hlate) (by decide) hstart

/-- Settles O15: a switch lands at once where nothing is queued or held, and POWER_STATE is a job that answers the current state or
waits for its switch. That RUN and STILL answer the current state is log 122. -/
theorem powerCommandsLand : Obligations.PowerCommandsLand := by
  unfold Obligations.PowerCommandsLand
  refine ⟨?domainOn, ?domainOff, ?islandOn, ?islandOff, ?still, ?sets, ?run, ?sleeps, ?status, ?pace, ?sentinel⟩
  case domainOn =>
    exact fun c s d b ch h hact hq => does_switchOn (op := .powerDomain) (res := fun e => le16 e.power.domains.toNat) (Or.inr rfl)
      rfl rfl (fun _ _ => rfl) h hact hq
  case domainOff =>
    exact fun c s d b ch h hact hon hheld _ hchannels => does_switchOff (op := .powerDomain) (island := false)
      (res := fun e => le16 e.power.domains.toNat) (Or.inr rfl) rfl rfl (fun _ _ => rfl) h hact hon hheld hchannels
  case islandOn =>
    exact fun c s d b ch h hact hq => does_switchOn (op := .powerIsland) (res := fun e => le16 (islandsRunning e)) (Or.inr rfl)
      rfl rfl (fun _ _ => rfl) h hact hq
  case islandOff =>
    exact fun c s d b ch h hact hon hheld _ hchannels => does_switchOff (op := .powerIsland) (island := true)
      (res := fun e => le16 (islandsRunning e)) (Or.inr rfl) rfl rfl (fun _ _ => rfl) h hact hon hheld hchannels
  case still =>
    intro c s d b h hcode hq
    exact exec_powerState h (Or.inl (by omega))
      ((startPowerState_runs _ hq (fun hsleeps => absurd hsleeps (by rw [hcode]; decide))).trans (runPowerState_still _ hcode))
  case sets =>
    intro c s d b h hcode
    exact exec_powerState h (Or.inr (Or.inl hcode)) ((startPowerState_sets _ hcode).trans (runPowerState_sets _ hcode))
  case run =>
    intro c s d b h hcode hq
    exact exec_powerState h (Or.inl (by omega))
      ((startPowerState_runs _ hq (fun hsleeps => absurd hsleeps (by rw [hcode]; decide))).trans (runPowerState_run _ hcode))
  case sleeps =>
    intro c s d b h hlow hhigh hq hrefused hheld
    exact exec_powerState h (Or.inr (Or.inr hrefused))
      ((startPowerState_runs _ hq fun _ => hheld).trans (runPowerState_sleeps _ hlow hhigh))
  case status => exact fun c s d b h => exec_read_ok (op := .powerStatus) rfl h rfl rfl
  case pace => exact fun c s d b h => exec_read_ok (op := .paceRead) rfl h rfl rfl
  case sentinel =>
    intro c s d b ch h
    have hcmd := h.cmd_eq
    exact does_silent (op := .sentinelSet) (Or.inr rfl) h rfl (fun _ _ _ => rfl) (by subst hcmd; rfl)

end Sys2Proof.Machine

end
